-- ==== Sys2Proof/Word.lean ====
section
/-! DEFINITION. The words of the controller and the status codes of Table 0.9. -/

namespace Sys2Proof

/-- One byte. -/
abbrev Byte := BitVec 8

/-- One register of control space, and one register of a chain sequencer (R10, R67). -/
abbrev W64 := BitVec 64

/-- The native word: a Kexiut link or a setting word (R64). -/
abbrev W40 := BitVec 40

/-- The status codes of Table 0.9 (R24). No other code is ever returned (R25). -/
inductive Status where
  | ok | busy | alreadyDone | aborted | deferred
  | windowRevoked | windowBounds | windowRights
  | poisonRetained | uncorrectable | lineHealed
  | tagFail | keyErased | keySpent | lengthLimit | stagePending
  | deadlineMiss | tierFull
  | qpFlushed | creditTimeout
  | timeUnsure | degradedSingle
  | illegalLink | privilege | internal
  deriving DecidableEq, Repr

/-- The outcome column of Table 0.9. -/
inductive OutcomeKind where
  | success | note | pending | failure
  deriving DecidableEq, Repr

end Sys2Proof
end

