-- ==== Sys2Proof/Syntax.lean ====
section
/-! DEFINITION. The commands of the block: one constructor per row of spec/opcode_table.json, with the operands the
spec gives the row. A fact of the outside world that decides what a command does (does a tag verify, which bits of a
DRAM burst came back wrong, what a sensor reads) is an operand too (log entry 4). -/

namespace Sys2Proof

/-- The access paths into control space (R50 to R56): the management port, firmware on the management core, a
privileged fabric window (with the plane on which the access arrived), a chain. -/
inductive Path where
  | mgmt | firmware | fabric (plane : Nat) | chain
  deriving DecidableEq, Repr

/-- The operand fields of a Kexiut link (Table 3.2); `ext` holds bits [38:0] of each setting word that follows it
(R65), in order. The opcode is the command itself. -/
structure Link where
  d : BitVec 5
  a : BitVec 5
  b : BitVec 5
  imm : BitVec 17
  ext : List (BitVec 39)
  deriving DecidableEq, Repr

/-- An error of one DRAM device in one burst: the device (0 to 9) and the bits of its symbol that came back inverted
(R202, R203). -/
abbrev DevErr := Nat × BitVec 64

/-- A control datagram on the management port (R52): its header, its data words, whether it came sealed, and
whether its seal verifies (R53). -/
structure Mgmt where
  tag : Nat
  count : Nat
  addr : Nat
  data : List W64
  sealing : Bool
  tagOk : Bool
  deriving DecidableEq, Repr

/-- The request extension of an NRT packet (Table 5.2). -/
structure ReqX where
  wkey : Nat
  length : Nat
  offset : Nat
  moff : Nat
  level : Nat
  atop : Nat
  epoch : Nat
  deriving DecidableEq, Repr

/-- The acknowledgement extension of an NRT packet (Table 5.3); `sack` is the bitmap as a number, bit 8j + i of it
being bit i of byte j. -/
structure AckX where
  ackPsn : Nat
  creditLimit : Nat
  cmplMsg : Nat
  sackLen : Nat
  hold : Bool
  ceSeen : Bool
  sack : Nat
  deriving DecidableEq, Repr

/-- A frame of a fabric port without its payload (R106, Table 4.6): the port; its size with header and FCS, and whether the FCS
holds; destination MAC; the 16-bit tag control fields of its VLAN tags, outermost first; EtherType after the tags; for IP the
source and destination address (bytes as in PLANE_IP6 and PLANE_IP4), whether it is free of options, extension headers and
fragments, whether the IPv4 header checksum holds, hop limit or TTL, DSCP, ECN, protocol; for UDP both ports and whether the
checksum holds (none: it is zero). -/
structure Frame where
  port : Nat
  size : Nat
  fcsOk : Bool
  dmac : Nat
  tags : List Nat
  etype : Nat
  src : Nat
  dst : Nat
  plain : Bool
  hdrSum : Bool
  hop : Nat
  dscp : Nat
  ecn : Nat
  proto : Nat
  sport : Nat
  dport : Nat
  sum : Option Bool
  deriving DecidableEq, Repr

/-- An NRT packet (Tables 5.1 to 5.4): the frame that carries it, base header, extensions, payload, and one fact of its arrival:
whether its GCM tag verifies under the version it names. -/
structure Pkt where
  frame : Frame
  ver : Nat
  typ : Nat
  first : Bool
  last : Bool
  signal : Bool
  retx : Bool
  status : Nat
  dqp : Nat
  sqp : Nat
  psn : Nat
  msg : Nat
  keySlot : Nat
  keyVer : Nat
  sealedEpoch : Nat
  unsure : Bool
  single : Bool
  plen : Nat
  roff : Nat
  nonce : Nat
  reqx : Option ReqX
  ackx : Option AckX
  data : List Byte
  tagOk : Bool
  deriving DecidableEq, Repr

/-- A RoCEv2 packet (R137, Table 5.8): the frame that carries it, the BTH, RETH, AtomicETH and ImmDt fields it carries. -/
structure Roce where
  frame : Frame
  qp : Nat
  psn : Nat
  opcode : Nat
  pkey : Nat
  rkey : Nat
  va : Nat
  dmaLen : Nat
  swap : Nat
  cmp : Nat
  immDt : Nat
  ackReq : Bool
  icrcOk : Bool
  data : List Byte
  deriving DecidableEq, Repr

/-- A sideband register access (R201): target, register, write or read, value, and whether a write goes to a PMIC
output outside its SPD limits. -/
structure Sideband where
  target : Nat
  reg : Nat
  isWrite : Bool
  value : Nat
  outOfLimits : Bool
  deriving DecidableEq, Repr

/-- A PTP message (R259): the port it came on (0 management port, 1 and 2 the fabric ports of MER_PTP), the source,
the domain, whether a Sync is two-step, the Announce dataset as an ordered number (lower is better), the offset
in ps that a Delay_Resp completes, taken for equal delays both ways, and whether it runs the high accuracy profile. -/
structure Ptp where
  port : Nat
  src : Nat
  domain : Nat
  sequence : Nat
  twoStep : Bool
  dataset : Nat
  offset : Int
  highAcc : Bool
  deriving DecidableEq, Repr

/-- A fault raise (R399): the unit, the native class, the event code and payload of Table 16.6. -/
structure Raise where
  cls : Nat
  u : Nat
  native : Nat
  code : Nat
  ident : Nat
  detail : Nat
  deriving DecidableEq, Repr

/-- What the slices of a quad see at a calibration boundary (R100 to R105): over the 2^20 bits before it the SNR of the slice that
carries the lane and of the one that is to receive it, and in how many bit positions the two disagree; and the quality of each
lane of the quad: SNR, eye width, eye height, BER exponent. -/
structure Cal where
  carry : Nat
  recv : Nat
  disagree : Nat
  qual : List (Nat × Nat × Nat × Nat)
  deriving DecidableEq, Repr

/-- What the SPD of a DIMM says (R185 to R187, R191): whether it can be read, the type (1 RDIMM, 2 MRDIMM, another number any
other), whether it is built of x4 devices in the EC8 organisation and not 3DS, its capacity in GiB, its ranks, its speed rating in
MT/s, and the widths of the column, bank group and bank fields. -/
structure Dimm where
  readable : Bool
  kind : Nat
  x4ec8 : Bool
  gib : Nat
  ranks : Nat
  mts : Nat
  colb : Nat
  bgb : Nat
  bkb : Nat
  deriving DecidableEq, Repr

/-- What boot meets outside the state (R411): the known-answer test that failed, whether each firmware slot and the
selected Burold slot pass R350, the version and mirror level of the running firmware, the DIMMs of each channel, the vault drives that come up with the bytes of their namespaces, the key slots whose envelopes fail
their tag. -/
structure BootFacts where
  katFail : Option Nat
  fwOk : List Bool
  cfgOk : Bool
  version : Nat
  level : Nat
  dimms : List (List Dimm)
  drives : List (Nat × Nat)
  badTags : List Nat
  deriving DecidableEq, Repr

/-- The commands. -/
inductive Instr where
  /-- ADD (R70): Link add: d = a + b modulo 2^64; the all-zero link is a no-operation. -/
  | add (q : Nat) (l : Link)
  /-- SUB (R70): Link sub: d = a - b modulo 2^64. -/
  | sub (q : Nat) (l : Link)
  /-- AND (R70): Link and: bitwise AND of a and b into d. -/
  | and (q : Nat) (l : Link)
  /-- OR (R70): Link or: bitwise OR of a and b into d. -/
  | or (q : Nat) (l : Link)
  /-- XOR (R70): Link xor: bitwise XOR of a and b into d. -/
  | xor (q : Nat) (l : Link)
  /-- SHL (R70): Link shl: d = a shifted left by b[5:0]. -/
  | shl (q : Nat) (l : Link)
  /-- SHR (R70): Link shr: logical shift right of a by b[5:0]. -/
  | shr (q : Nat) (l : Link)
  /-- SAR (R70): Link sar: arithmetic shift right of a by b[5:0]. -/
  | sar (q : Nat) (l : Link)
  /-- MUL (R70): Link mul: low 64 bits of a times b. -/
  | mul (q : Nat) (l : Link)
  /-- MULHU (R70): Link mulhu: high 64 bits of the unsigned product of a and b. -/
  | mulhu (q : Nat) (l : Link)
  /-- SLT (R70): Link slt: d = 1 if a < b signed, else 0. -/
  | slt (q : Nat) (l : Link)
  /-- SLTU (R70): Link sltu: d = 1 if a < b unsigned, else 0. -/
  | sltu (q : Nat) (l : Link)
  /-- MINU (R70): Link minu: unsigned minimum of a and b. -/
  | minu (q : Nat) (l : Link)
  /-- MAXU (R70): Link maxu: unsigned maximum of a and b. -/
  | maxu (q : Nat) (l : Link)
  /-- ADDI (R70): Link addi: d = a + sign-extended imm17. -/
  | addi (q : Nat) (l : Link)
  /-- ANDI (R70): Link andi: d = a AND zero-extended imm17. -/
  | andi (q : Nat) (l : Link)
  /-- ORI (R70): Link ori: d = a OR zero-extended imm17. -/
  | ori (q : Nat) (l : Link)
  /-- XORI (R70): Link xori: d = a XOR zero-extended imm17. -/
  | xori (q : Nat) (l : Link)
  /-- SHLI (R70): Link shli: d = a shifted left by imm[5:0]. -/
  | shli (q : Nat) (l : Link)
  /-- SHRI (R70): Link shri: logical shift right of a by imm[5:0]. -/
  | shri (q : Nat) (l : Link)
  /-- SARI (R70): Link sari: arithmetic shift right of a by imm[5:0]. -/
  | sari (q : Nat) (l : Link)
  /-- LDK (R70): Link ldk: loads a constant from imm17 or from up to two raw setting words into d. -/
  | ldk (q : Nat) (l : Link)
  /-- RDSP (R68): Link rdsp: reads Meridian seconds (latching the fraction), the fraction, the current epoch or the sequencer number. -/
  | rdsp (q : Nat) (l : Link)
  /-- BEQ (R66): Link beq: branches by sext(imm17) words if a equals b. -/
  | beq (q : Nat) (l : Link)
  /-- BNE (R66): Link bne: branches if a differs from b. -/
  | bne (q : Nat) (l : Link)
  /-- BLT (R66): Link blt: branches if a < b signed. -/
  | blt (q : Nat) (l : Link)
  /-- BGE (R66): Link bge: branches if a >= b signed. -/
  | bge (q : Nat) (l : Link)
  /-- BLTU (R66): Link bltu: branches if a < b unsigned. -/
  | bltu (q : Nat) (l : Link)
  /-- BGEU (R66): Link bgeu: branches if a >= b unsigned. -/
  | bgeu (q : Nat) (l : Link)
  /-- JMP (R66): Link jmp: branches unconditionally to a marked link start. -/
  | jmp (q : Nat) (l : Link)
  /-- CALL (R66): Link call: writes the index of the next link to d and branches. -/
  | call (q : Nat) (l : Link)
  /-- JR (R66): Link jr: jumps to the word index held in a. -/
  | jr (q : Nat) (l : Link)
  /-- LD (R70): Link ld: 64-bit aligned load from the local store. -/
  | ld (q : Nat) (l : Link)
  /-- ST (R70): Link st: 64-bit aligned store of b to the local store. -/
  | st (q : Nat) (l : Link)
  /-- LDW (R70): Link ldw: 32-bit zero-extended aligned load from the local store. -/
  | ldw (q : Nat) (l : Link)
  /-- STW (R70): Link stw: stores b[31:0] to the local store. -/
  | stw (q : Nat) (l : Link)
  /-- LDB (R70): Link ldb: 8-bit zero-extended load from the local store. -/
  | ldb (q : Nat) (l : Link)
  /-- STB (R70): Link stb: stores b[7:0] to the local store. -/
  | stb (q : Nat) (l : Link)
  /-- PUT (R74): Link put: writes bytes from the local store to a window pair, a control address (CTRL) or a remote controller, optionally sealed. -/
  | put (q : Nat) (l : Link)
  /-- GET (R74): Link get: reads bytes from a window pair, control address or remote controller into the local store, optionally opening a sealed blob. -/
  | get (q : Nat) (l : Link)
  /-- COPY (R78): Link copy: copies lines from one window pair to another, optionally sealing or opening a blob. -/
  | copy (q : Nat) (l : Link)
  /-- FILL (R70): Link fill: writes lines at a window pair with a repeated 64-bit value. -/
  | fill (q : Nat) (l : Link)
  /-- ATOM (R177): Link atom: 8-byte atomic operation at a window pair, returning the old value. -/
  | atom (q : Nat) (l : Link)
  /-- PERSIST (R75): Link persist: waits until every write of the chain to a window, or to all windows, reaches a level. -/
  | persist (q : Nat) (l : Link)
  /-- SYNC (R75): Link sync: waits for every asynchronous operation of the chain and reports the first Failure, note or OK. -/
  | sync (q : Nat) (l : Link)
  /-- WOPEN (R153): Link wopen: opens a window from a descriptor in the local store and returns its key. -/
  | wopen (q : Nat) (l : Link)
  /-- WREVOKE (R155): Link wrevoke: revokes a window key, making a cut and waiting for writes checked before it. -/
  | wrevoke (q : Nat) (l : Link)
  /-- WQUERY (R153): Link wquery: writes the descriptor of a key's index to the local store. -/
  | wquery (q : Nat) (l : Link)
  /-- TSTAT (R302): Link tstat: returns the twin state word TWIN_STAT. -/
  | tstat (q : Nat) (l : Link)
  /-- TRESYNC (R283): Link tresync: starts resync with the twin, or returns ALREADY_DONE or PRIVILEGE. -/
  | tresync (q : Nat) (l : Link)
  /-- AWAIT (R79): Link await: waits until local Meridian time reaches an instant. -/
  | await (q : Nat) (l : Link)
  /-- ATMT (R75): Link atmt: arms the next link to issue at a Meridian instant, and the chain continues. -/
  | atmt (q : Nat) (l : Link)
  /-- SEAL (R79): Link seal: waits until the sealed epoch is at least a, or returns TIME_UNSURE. -/
  | seal (q : Nat) (l : Link)
  /-- CUT (R275): Link cut: returns the global cut known to this controller and the time-unsure bit. -/
  | cut (q : Nat) (l : Link)
  /-- TLOAD (R307): Link tload: registers a tensor descriptor and returns a handle. -/
  | tload (q : Nat) (l : Link)
  /-- TPROMOTE (R314): Link tpromote: promotes a handle to the crown or the girdle, optionally with a deadline. -/
  | tpromote (q : Nat) (l : Link)
  /-- TEVICT (R315): Link tevict: drops every copy of a handle at once or marks it evicting and returns DEFERRED. -/
  | tevict (q : Nat) (l : Link)
  /-- FX (R319): Link fx: dispatches a Facet operation and returns a ticket once accepted. -/
  | fx (q : Nat) (l : Link)
  /-- FWAIT (R322): Link fwait: waits for a Facet ticket and returns its final status. -/
  | fwait (q : Nat) (l : Link)
  /-- KLOAD (R341): Link kload: writes the staged copy of a key slot from an envelope. -/
  | kload (q : Nat) (l : Link)
  /-- KSWAP (R342): Link kswap: makes the staged key version active at once or at a TIME instant. -/
  | kswap (q : Nat) (l : Link)
  /-- KERASE (R345): Link kerase: zeroizes every copy of a key slot. -/
  | kerase (q : Nat) (l : Link)
  /-- RETIRE (R219): Link retire: retires the page or bank holding an offset. -/
  | retire (q : Nat) (l : Link)
  /-- EVREAD (R390): Link evread: copies event records from a cursor into the local store and advances the cursor. -/
  | evread (q : Nat) (l : Link)
  /-- SNAP (R397): Link snap: arms or takes a Loupe snapshot and returns when it is taken. -/
  | snap (q : Nat) (l : Link)
  /-- FACK (R400): Link fack: acknowledges the faults of a named unit. -/
  | fack (q : Nat) (l : Link)
  /-- HALT (R76): Link halt: waits as sync does, then ends the chain with status a[7:0] and result w1. -/
  | halt (q : Nat) (l : Link)
  /-- UNDEFINED_OPCODE (R90): A link with an undefined opcode ends the chain with ILLEGAL_LINK. -/
  | undefinedOpcode (q : Nat) (w : W40)
  /-- LINK_RETURN (R74): A blocking service link returns when its operation reaches its level or its data is in the local store. -/
  | linkReturn (q : Nat)
  /-- LINK_BUDGET_EXHAUSTED (R87): A chain that executes 2^LIMIT links ends with ABORTED and a Notice. -/
  | linkBudgetExhausted (q : Nat)
  /-- SEQ_INSTALL (R63): A write of SEQ_INSTALL with GO starts the check of a library slot image. -/
  | seqInstall (p : Path) (slot : Nat)
  /-- INSTALL_CHECK_DONE (R63): The install check ends with OK or ILLEGAL_LINK, building the link-start map and privilege summary. -/
  | installCheckDone
  /-- RING_SQ_TAIL_WRITE (R81): A write of RING_SQ_TAIL submits entries to a command ring, or is ignored with PRIVILEGE when out of range. -/
  | ringSqTailWrite (p : Path) (ring idx : Nat)
  /-- RING_CQ_HEAD_WRITE (R81): A write of RING_CQ_HEAD consumes completion entries, ignored with PRIVILEGE past CQ_TAIL or out of range. -/
  | ringCqHeadWrite (p : Path) (ring idx : Nat)
  /-- RING_ABORT (R88): A write of RING_ABORT with GO aborts the oldest entry carrying TAG that has no completion posted. -/
  | ringAbort (p : Path) (ring tag : Nat)
  /-- CHAIN_DISPATCH (R84): The dispatcher dispatches a pending entry once a sequencer and a completion slot are free, checking slot install and ring privilege. -/
  | chainDispatch (ring q : Nat)
  /-- CHAIN_ABORT_AT_BOUNDARY (R89): A running aborted chain ends with ABORTED at its next link boundary. -/
  | chainAbortAtBoundary (q : Nat)
  /-- ARMED_LINK_ISSUE (R75): A link armed by atmt issues at the first pipeline clock edge at or after its instant. -/
  | armedLinkIssue (q : Nat)
  /-- AWAIT_INSTANT (R40): The instant of an await is reached and the link returns OK or TIME_UNSURE. -/
  | awaitInstant (q : Nat)
  /-- MGMT_READ (R52): A control datagram with OP 0x01 reads COUNT registers and returns them. -/
  | mgmtRead (m : Mgmt)
  /-- MGMT_WRITE (R52): A control datagram with OP 0x02 writes COUNT registers, stopping at the first failure. -/
  | mgmtWrite (m : Mgmt)
  /-- MGMT_DATAGRAM_MALFORMED (R52): A control datagram with another OP, a bad COUNT or a misaligned address completes with ILLEGAL_LINK. -/
  | mgmtDatagramMalformed (op : Nat) (m : Mgmt)
  /-- REG_WRITE (R50): A write to a register without behaviour of its own sets its writable fields under R10, R13 and locks. -/
  | regWrite (p : Path) (addr : Nat) (v : W64)
  /-- BLK_XACC_WRITE (R58): A write of BLK_XACC opens or closes a unit's expert registers and may set LOCK. -/
  | blkXaccWrite (p : Path) (cls u : Nat) (v : W64)
  /-- EXPERT_IDLE_CLOSE (R59): Expert registers close after 10 s without an expert access to the unit. -/
  | expertIdleClose (cls u : Nat)
  /-- NRT_WRITE (R115): A WRITE packet of an NRT message is received, verified, window-checked and placed on its own. -/
  | nrtWrite (k : Pkt)
  /-- NRT_READ_REQ (R128): A READ_REQ is received and, once lower PSNs are delivered, read and answered with READ_RESP packets. -/
  | nrtReadReq (k : Pkt)
  /-- NRT_ATOMIC (R177): An ATOMIC request is received and executed in PSN order, answered by ATOMIC_RESP. -/
  | nrtAtomic (k : Pkt)
  /-- NRT_PERSIST (R114): A PERSIST request is received and waits until earlier write messages of the QP reach its level. -/
  | nrtPersist (k : Pkt)
  /-- NRT_READ_RESP (R115): A READ_RESP is received on an outbound QP and delivered at its ROFF. -/
  | nrtReadResp (k : Pkt)
  /-- NRT_ATOMIC_RESP (R113): An ATOMIC_RESP is received on an outbound QP carrying the old value. -/
  | nrtAtomicResp (k : Pkt)
  /-- NRT_COMPLETION (R133): A COMPLETION is received on an outbound QP, ending a message with its status, level and epoch. -/
  | nrtCompletion (k : Pkt)
  /-- NRT_ACK (R129): An ACK or piggybacked acknowledgement extension is received, updating ACK_PSN, SACK, credit, CMPL_MSG and HOLD. -/
  | nrtAck (k : Pkt)
  /-- NRT_ERROR (R120): An ERROR packet is received and, if verified and newer than RX_CTR, moves a READY QP to ERROR. -/
  | nrtError (k : Pkt)
  /-- RTO_EXPIRY (R130): RTO times 2^min(BACKOFF,6) passes without progress; SND_UNA is retransmitted or the QP enters ERROR on the retry limit. -/
  | rtoExpiry (qp : Nat)
  /-- ACK_DELAY_EXPIRY (R129): TR_ACK.DELAY passes after the first unacknowledged packet and an acknowledgement is sent. -/
  | ackDelayExpiry (qp : Nat)
  /-- ACK_COALESCE_COUNT (R129): TR_ACK.COALESCE in-order packets have arrived and an acknowledgement is sent. -/
  | ackCoalesceCount (qp : Nat)
  /-- CREDIT_WINDOW_GROW (R124): Each TR_ACK.DELAY without a CE mark grows a QP's grant window W by 32 units up to CRED_MAX. -/
  | creditWindowGrow (qp : Nat)
  /-- HOLD_ACK_TIMER (R125): Every TR_TIMER.HOLD while credit is withheld, an ACK with HOLD = 1 is sent. -/
  | holdAckTimer (qp : Nat)
  /-- CREDIT_TIMEOUT (R125): A packet waits for credit for TR_TIMER.CREDIT with no HOLD; the message ends with CREDIT_TIMEOUT and the QP enters ERROR. -/
  | creditTimeout (qp : Nat)
  /-- CONTEXT_ARRIVED (R132): A context fetch completes and parked packets of the QP are processed in arrival order. -/
  | contextArrived (qp : Nat)
  /-- ORDER_QUEUE_RELEASE (R128): A held READ_REQ, ATOMIC or PERSIST is delivered once every lower PSN of its QP has been delivered. -/
  | orderQueueRelease (qp : Nat)
  /-- WRITE_MESSAGE_END (R133): A WRITE message ends at its level or on failure, sending a COMPLETION when signalled or failing and advancing CMPL_MSG. -/
  | writeMessageEnd (qp msg : Nat)
  /-- QP_CREATE (R144): TR_QP_CMD CREATE loads a creation descriptor and moves a QP from RESET to INIT, or fails with PRIVILEGE. -/
  | qpCreate (p : Path) (qp : Nat)
  /-- QP_READY (R144): TR_QP_CMD READY moves a QP from INIT to READY. -/
  | qpReady (p : Path) (qp : Nat)
  /-- QP_ERROR (R120): TR_QP_CMD ERROR moves a READY QP to ERROR with ERR_WHY 0. -/
  | qpError (p : Path) (qp : Nat)
  /-- QP_RESET (R120): TR_QP_CMD RESET moves a QP to RESET after its packets leave the pipeline. -/
  | qpReset (p : Path) (qp : Nat)
  /-- QP_RESET_FLUSH_DONE (R120): Every packet of a QP being reset has left the pipeline and TR_QP_RES leaves BUSY. -/
  | qpResetFlushDone (qp : Nat)
  /-- QP_QUERY (R144): TR_QP_CMD QUERY copies one 64-byte quarter of a context to TR_QP_DATA. -/
  | qpQuery (p : Path) (qp quarter : Nat)
  /-- QP_MODIFY (R145): TR_QP_CMD MODIFY changes peer addresses, RTO, CRED_MAX and LEVEL of a READY QP. -/
  | qpModify (p : Path) (qp : Nat)
  /-- ROCE_RDMA_WRITE (R139): An RDMA WRITE First, Middle, Last or Only is received and acknowledged when it reaches the context LEVEL. -/
  | roceRdmaWrite (k : Roce)
  /-- ROCE_WRITE_WITH_IMMEDIATE (R140): An RDMA WRITE with Immediate is placed and its immediate submitted to IMM_RING, or RNR NAK when the ring is full. -/
  | roceWriteWithImmediate (k : Roce)
  /-- ROCE_READ_REQUEST (R138): An RDMA READ Request is received and answered with READ Response packets. -/
  | roceReadRequest (k : Roce)
  /-- ROCE_CMP_SWAP (R141): A CmpSwap is executed, or a duplicate answered from the replay store. -/
  | roceCmpSwap (k : Roce)
  /-- ROCE_FETCH_ADD (R141): A FetchAdd is executed, or a duplicate answered from the replay store. -/
  | roceFetchAdd (k : Roce)
  /-- ROCE_CNP_RECEIVED (R143): A congestion notification packet halves the READ response rate of the QP. -/
  | roceCnpReceived (qp : Nat)
  /-- ROCE_RATE_RESTORE (R143): Every 50 us without notification the READ response rate of a QP doubles back toward full. -/
  | roceRateRestore (qp : Nat)
  /-- WINDOW_FETCH_DONE (R151): A descriptor fetch for a window cache miss completes and the waiting request is checked. -/
  | windowFetchDone (idx : Nat) (es : List DevErr)
  /-- WIN_OPEN (R153): WIN_CMD OPEN opens a window from WIN_DATA, including lend windows, and returns the key. -/
  | winOpen (p : Path)
  /-- WIN_REVOKE (R155): WIN_CMD REVOKE revokes a window key and makes a cut. -/
  | winRevoke (p : Path) (key : Nat)
  /-- WIN_QUERY (R153): WIN_CMD QUERY returns the descriptor of a key's index in WIN_DATA. -/
  | winQuery (p : Path) (key : Nat)
  /-- WIN_RECYCLE (R444): WIN_CMD RECYCLE makes a spent or poisoned index free with generation 1. -/
  | winRecycle (p : Path) (idx : Nat)
  /-- REVOKE_CUT (R155): The Window Unit first checks the index against the new generation, within 2 us of issue. -/
  | revokeCut (idx : Nat)
  /-- REVOKE_COMPLETE (R155): A revoke completes once writes checked before the cut and the descriptor update are Placed and, in sync, Twinned. -/
  | revokeComplete (idx : Nat)
  /-- HELD_WRITE_RELEASE (R230): Held writes are released in line order as vaulting or twin acknowledgements shrink the drain set. -/
  | heldWriteRelease (line : Nat)
  /-- SB_WINDOW_EXPIRY (R167): SB_CFG.WINDOW ns pass since a setting-buffer entry opened and the entry closes. -/
  | sbWindowExpiry (line : Nat) (dbe : Bool)
  /-- RMW_READ_DONE (R168): The read of a partial-mask entry returns; the line is merged and written back, healed, or the writes end with POISON_RETAINED. -/
  | rmwReadDone (line : Nat) (es : List DevErr)
  /-- LINE_PLACED (R179): A channel write queue accepts a line and every write merged into it becomes Placed and counts against the budget. -/
  | linePlaced (line : Nat) (dbe : Bool)
  /-- LOCKET_FILL_DONE (R171): A locket fill read returns and waiting atomics run on the resident line. -/
  | locketFillDone (line : Nat) (es : List DevErr)
  /-- LOCKET_WRITE_THROUGH (R173): LK_CFG.COALESCE ns after a line became dirty, it is written through to the channel. -/
  | locketWriteThrough (line : Nat)
  /-- LOCKET_DISABLE (R175): A write of LK_CTL.EN = 0 starts a flush of the locket cache. -/
  | locketDisable (p : Path)
  /-- LOCKET_ENABLE (R175): A write of LK_CTL.EN = 1 enables the cache, or is kept until a running flush ends. -/
  | locketEnable (p : Path)
  /-- LOCKET_FLUSH_DONE (R175): The locket flush has written through every dirty line and victim and invalidated every entry. -/
  | locketFlushDone
  /-- EPOCH_BOUNDARY (R28): Local Meridian time reaches an epoch boundary and later writes carry the next epoch. -/
  | epochBoundary
  /-- SEAL_TIME_CONDITION (R270): Local time reaches the boundary of an epoch plus the guard band while sure. -/
  | sealTimeCondition (e : Nat)
  /-- EPOCH_SEAL (R181): PIPE_SEAL.SEALED advances within 20 ns of the later of the time condition and the Twinning of the epoch's last write. -/
  | epochSeal
  /-- LINE_READ_DONE (R204): A DRAM line read returns and is decoded as clean, correctable, poisoned or uncorrectable. -/
  | lineReadDone (rid : Nat) (es : List DevErr)
  /-- HEAL_TIMEOUT (R211): No HEAL_RESP arrives within 100 us, so there is no heal and the line is poisoned. -/
  | healTimeout (tag : Nat)
  /-- DIMM_TEMP_POLL (R190): At most every 32 ms each DIMM sensor is polled and refresh doubling, throttling and THERM_N follow MC_TEMP.HOT. -/
  | dimmTempPoll (ch : Nat) (temps : List (Option Int))
  /-- SIDEBAND_IBI (R189): An in-band interrupt from an SPD hub is accepted on a sideband bus. -/
  | sidebandIbi (bus dimm : Nat)
  /-- SIDEBAND_CMD (R201): A write of MCX_SB.CMD carries one register read or write to a DIMM target, refusing PMIC outputs outside SPD limits. -/
  | sidebandCmd (p : Path) (ch : Nat) (k : Sideband)
  /-- REFRESH_DUE (R196): tREFI passes for a bank, and refresh is issued or postponed within MCX_REF.POSTPONE. -/
  | refreshDue (ch sub bank : Nat)
  /-- PAGE_IDLE_CLOSE (R194): MCX_PCP.IDLE ns pass without access to an open row below the keep-open threshold and the bank is precharged. -/
  | pageIdleClose (ch sub bank : Nat)
  /-- RETRAIN_BOUNDARY (R197): At a retraining boundary each subchannel runs ZQ calibration and a DQS oscillator read in turn. -/
  | retrainBoundary (sub drift : Nat)
  /-- SELF_REFRESH_HOLD_DONE (R198): Every subchannel is in self-refresh with the island holding CS and CA, and RETAINED is set. -/
  | selfRefreshHoldDone
  /-- CHANNEL_TRAINING_DONE (R199): A channel finishes full training, or fails with a Critical fault and RETAINED cleared. -/
  | channelTrainingDone (ch : Nat) (good : Bool)
  /-- MARK_SET (R209): A write of BZ_MARK with VALID = 1 sets a device mark on a subchannel-rank and raises a Major fault. -/
  | markSet (p : Path) (idx dev : Nat)
  /-- MARK_CLEAR (R209): A write of BZ_MARK with VALID = 0 clears the mark and raises a Notice. -/
  | markClear (p : Path) (idx : Nat)
  /-- MARK_AUTO_SET (R209): One device is corrected on BZX_MARK.LINES distinct lines within the window and the controller marks it. -/
  | markAutoSet (idx dev : Nat)
  /-- BZ_RETIRE_PAGE (R219): BZ_RETIRE with OP 0 retires the page holding an offset. -/
  | bzRetirePage (p : Path) (off : Nat)
  /-- BZ_RETIRE_BANK (R219): BZ_RETIRE with OP 1 retires the bank holding an offset. -/
  | bzRetireBank (p : Path) (off : Nat)
  /-- RETIREMENT_DONE (R219): Every line of a retirement has moved and BZ_RETIRE_RES reports OK. -/
  | retirementDone
  /-- SCRUB_WINDOW_OPEN (R215): A scrub window opens at its Meridian instant. -/
  | scrubWindowOpen
  /-- SCRUB_WINDOW_CLOSE (R215): A scrub window closes after WIN_DUTY sixteenths of its period. -/
  | scrubWindowClose
  /-- SCRUB_LAP_END (R216): The scrubber reaches the last line, writes BZ_LAP.LAST and starts the next lap. -/
  | scrubLapEnd (secs : Nat)
  /-- SCRUB_LAP_LATE (R216): A lap lasts longer than BZ_SCRUB.LAP_MAX hours; LATE is set and a Minor fault raised. -/
  | scrubLapLate
  /-- INJECT_NOW (R220): A write of BZX_INJ.NOW rewrites the target line at once with the armed check change. -/
  | injectNow (p : Path)
  /-- GRANULE_VAULT (R227): Background vaulting reads a dirty granule in line order into a plate of the open strand. -/
  | granuleVault (took : Nat) (es : List (Nat × List DevErr))
  /-- STRAND_CLOSE_TIMEOUT (R237): A strand open for VLTX_STRAND.CLOSE us closes, unused plates written with KIND 0. -/
  | strandCloseTimeout
  /-- STRAND_CLOSED (R237): Every plate, parity and summary of a strand have completed; its granules become clean where unchanged. -/
  | strandClosed
  /-- PLATE_WRITE_ERROR (R242): A write error on one plate rewrites it in the open strand. -/
  | plateWriteError (pos : Nat)
  /-- DRIVE_LOST (R242): A vault drive is lost; DEGRADED sets, or a second loss raises a Fatal fault, and R_m is measured again. -/
  | driveLost (d : Nat)
  /-- DRIVE_REPLACED (R242): A replacement drive is rebuilt by cleaning strands that lack its chunk. -/
  | driveReplaced (d : Nat)
  /-- CLEANING_START (R239): Cleaning copies the live plates of a sparse strand and deallocates its slot. -/
  | cleaningStart (sq : Nat)
  /-- RATE_MEASUREMENT (R234): The controller measures R_m on every drive before service and after a vault link change. -/
  | rateMeasurement
  /-- MEASUREMENT_DONE (R235): A measurement ends; RATE, COVER and B_eff are recomputed and refusal or faults follow. -/
  | measurementDone (mbs : Nat)
  /-- HOLDUP_OK_FALL (R234): HOLDUP_OK falls during service; B_eff becomes 0 and a Critical fault is raised. -/
  | holdupOkFall
  /-- BUDGET_LIMIT_WRITE (R231): A write of VLT_BUDGET.LIMIT sets the limit or is refused with PRIVILEGE above SIGNED_MAX or COVER. -/
  | budgetLimitWrite (p : Path) (gib : Nat)
  /-- DRAIN_START (R245): After the flush at T_W + 10 us the drain set is fixed and the Vault Engine starts draining. -/
  | drainStart
  /-- DRAIN_END (R245): The drain writes cut plates, closes strands, writes superblocks with STATE 2 and shuts the drives. -/
  | drainEnd
  /-- RESTORE_GO (R249): A write of VLT_RESTORE.GO applies the restore target or fails with WINDOW_BOUNDS or PRIVILEGE. -/
  | restoreGo (p : Path) (kind e : Nat)
  /-- ON_DEMAND_FILL (R248): An access to an unfilled granule reads its plate, applies the restore target and then proceeds. -/
  | onDemandFill (g : Nat) (readable : Bool)
  /-- BACKGROUND_FILL (R248): Background fill takes the next unfilled granule in ascending offset order. -/
  | backgroundFill (readable : Bool)
  /-- PPS_EDGE (R257): An edge on MER_PPSA or MER_PPSB is accepted or rejected against the DPLL prediction and steers time. -/
  | ppsEdge (input : Nat) (edge : Int)
  /-- LOOP_TX_EDGE (R258): At each Meridian half second the controller drives an edge on MER_LOOP_TX. -/
  | loopTxEdge
  /-- LOOP_RX_EDGE (R258): The returned loop edge gives an RTT measurement that is accepted or discarded, possibly failing the loop. -/
  | loopRxEdge (rtt : Nat)
  /-- PTP_SYNC (R259): A PTP Sync message is received with its hardware timestamp. -/
  | ptpSync (k : Ptp)
  /-- PTP_FOLLOW_UP (R259): A PTP Follow_Up message completes a two-step Sync. -/
  | ptpFollowUp (k : Ptp)
  /-- PTP_DELAY_RESP (R259): A PTP Delay_Resp completes a Sync and Delay_Req exchange and gives an offset measurement. -/
  | ptpDelayResp (k : Ptp)
  /-- PTP_ANNOUNCE (R259): A PTP Announce is processed for time-transmitter selection. -/
  | ptpAnnounce (k : Ptp)
  /-- PTP_DELAY_REQ (R259): The controller sends a Delay_Req to its selected time transmitter. -/
  | ptpDelayReq (port : Nat)
  /-- PTP_SOURCE_TIMEOUT (R257): A PTP source without a completed exchange for 2 s stops being usable. -/
  | ptpSourceTimeout (code : Nat)
  /-- EST_UPDATE (R262): The residual estimate is updated at each measurement and at least every 1 ms while AGE grows. -/
  | estUpdate (ms : Nat)
  /-- SURE_HOLD_EXPIRY (R264): No unsure condition has held for SURE_HOLD seconds and the controller becomes sure again. -/
  | sureHoldExpiry
  /-- FIRST_LOCK (R266): After the first source is usable for 2 s the counter is stepped to source time and the unit enters LOCKED. -/
  | firstLock (t : Nat)
  /-- REF10M_LOST (R436): MER_REF10M shows no edge for 1 us; the DPLL runs from the internal oscillator and the controller becomes unsure. -/
  | ref10mLost
  /-- REF10M_RESTORED (R447): Edges have been present on MER_REF10M for 1 s and STATE returns to locked or holdover. -/
  | ref10mRestored
  /-- EPOCH_CHECK_HOLD_TIMEOUT (R267): The start epoch check holds service for more than 10 s and a Critical fault is raised. -/
  | epochCheckHoldTimeout
  /-- MER_TIME_S_READ (R255): A read of MER_TIME_S returns seconds and latches the fraction for that path. -/
  | merTimeSRead (p : Path)
  /-- GCUT_WRITE (R275): A write of MER_GCUT raises CUT to the later of CUT and the earlier of the value and the sealed epoch. -/
  | gcutWrite (p : Path) (v : Nat)
  /-- SUSPECT_CLEAR (R273): A write of MER_SUSPECT_HI.CLEAR = 1 clears the suspect epoch record. -/
  | suspectClear (p : Path)
  /-- PPSO_RISE (R277): MER_PPSO rises ADVANCE ps before each whole Meridian second while enabled, locked and sure. -/
  | ppsoRise
  /-- PPSO_FALL (R277): MER_PPSO falls WIDTH us after it rose. -/
  | ppsoFall
  /-- LINE_FULL (R286): A LINE_FULL record is checked and applied on the receiver as a full-line write stamped EPOCH. -/
  | lineFull (r : Nat)
  /-- LINE_PART (R286): A LINE_PART record is checked and applied as a partial write of the masked bytes. -/
  | linePart (r : Nat)
  /-- POISON_LINE (R286): A POISON_LINE record stores the line with the poison syndrome. -/
  | poisonLine (r : Nat)
  /-- FENCE (R286): A FENCE record records its fence point on a slice QP. -/
  | fence (r : Nat)
  /-- DESC (R157): A DESC record applies a window descriptor update after the matching FENCE on all eight slice QPs. -/
  | desc (r : Nat)
  /-- SEAL_MARK (R287): A SEAL_MARK record updates the follower's sealed epoch as the lowest over slice QPs. -/
  | sealMark (r : Nat)
  /-- HEAL_REQ (R298): A HEAL_REQ record is answered with HEAL_RESP after earlier forwards of the line are applied. -/
  | healReq (r : Nat) (es : List DevErr)
  /-- HEAL_RESP (R211): A HEAL_RESP completes a heal, writing the line as a repair or ending with no heal. -/
  | healResp (r : Nat)
  /-- RESYNC_LINE (R297): A RESYNC_LINE record is applied as a full-line write. -/
  | resyncLine (r : Nat)
  /-- TERM_END (R294): A TERM_END record is applied, marking the end of the leader's term on that QP. -/
  | termEnd (r : Nat)
  /-- HELLO (R281): A HELLO record is checked for digest and level and pairing or refusal follows. -/
  | hello (r : Nat)
  /-- HANDOVER_REQ (R295): A HANDOVER_REQ makes the leader release the clasp as a planned handover. -/
  | handoverReq (r : Nat)
  /-- PAIR_STATE (R282): A PAIR_STATE record sets the follower's STATE and CAUSE to the leader's. -/
  | pairState (r : Nat)
  /-- RESERVED_RECORD_TYPE (R286): A forward packet holding a reserved record TYPE ends the pair's sync with CAUSE 6. -/
  | reservedRecordType (r : Nat)
  /-- FORWARD_ACK_TIMEOUT (R299): A forward unacknowledged for TWIN_CFG.ACK_TO moves the leader to SINGLE with CAUSE 2. -/
  | forwardAckTimeout (r : Nat)
  /-- HELLO_RETRY (R281): A member in REFUSED sends HELLO again every 1 s. -/
  | helloRetry
  /-- PAIR_STATE_TIMER (R282): The leader sends PAIR_STATE at least every 1 s. -/
  | pairStateTimer
  /-- SENSE_RELEASED (R294): CLASP_SENSE reads released; a follower in RESYNC or IN_SYNC prepares to take over. -/
  | senseReleased
  /-- SENSE_HELD (R289): CLASP_SENSE reads held and the member never leads. -/
  | senseHeld
  /-- SENSE_LOST (R291): CLASP_SENSE reads lost; leadership does not change and both members raise a Critical fault. -/
  | senseLost
  /-- TAKEOVER (R294): A follower takes the clasp after TERM_END on every slice QP or 50 us after release. -/
  | takeover
  /-- TERM_WAIT_EXPIRY (R294): 50 us pass after the sense turned released without every TERM_END applied. -/
  | termWaitExpiry
  /-- CLASP_TAKE (R290): A member increments TERM, starts programming it and asserts CLASP_LINE. -/
  | claspTake
  /-- CLASP_SETTLE_EXPIRY (R290): 10 us after asserting CLASP_LINE, a member whose sense still reads released leads. -/
  | claspSettleExpiry
  /-- CLASP_CONTENTION (R290): Both members hold the clasp for 10 us and the lower TERM, or non-preferred, releases. -/
  | claspContention
  /-- START_CLASP_TIMER (R292): A member with OUTCOME 0 and no HELLO takes the clasp after its sense reads released for 2 s. -/
  | startClaspTimer
  /-- SELF_DIAG_FAIL (R293): The leader's self-diagnosis fails; it stops admission, places and forwards writes, sends TERM_END and releases the clasp. -/
  | selfDiagFail
  /-- FAILBACK_TIMER (R295): A preferred follower IN_SYNC and healthy for FAILBACK seconds sends HANDOVER_REQ. -/
  | failbackTimer
  /-- TWIN_RESYNC (R283): TWIN_CMD RESYNC sends HELLO to start resync from SINGLE, or returns ALREADY_DONE or PRIVILEGE. -/
  | twinResync (p : Path)
  /-- TWIN_HANDOVER (R295): TWIN_CMD HANDOVER starts a planned release at the leader. -/
  | twinHandover (p : Path)
  /-- TWIN_ASSUME (R291): TWIN_CMD ASSUME makes a member take leadership while its sense reads released or lost. -/
  | twinAssume (p : Path)
  /-- RESYNC_REGION_COPY (R297): The leader copies the next marked region as RESYNC_LINE and POISON_LINE records at the resync rate. -/
  | resyncRegionCopy (es : List (Nat × List DevErr))
  /-- SET_PREFIX (R300): CLM_CMD SET_PREFIX sets an entry's prefix and length and zeroes its claims. -/
  | setPrefix (p : Path) (entry len : Nat)
  /-- SET_CLAIM (R300): CLM_CMD SET_CLAIM sets one plane's claim of an entry, restricted to the arrival plane from fabric windows. -/
  | setClaim (p : Path) (entry plane claim : Nat)
  /-- CLM_QUERY (R302): CLM_CMD QUERY returns an entry's prefix, length and claims. -/
  | clmQuery (p : Path) (entry : Nat)
  /-- CLM_CLEAR (R300): CLM_CMD CLEAR clears an entry and zeroes its claims. -/
  | clmClear (p : Path) (entry : Nat)
  /-- CLAIM_TTL_EXPIRY (R300): A claim not set again for CLM_CFG.TTL seconds counts as 0. -/
  | claimTtlExpiry (entry plane : Nat)
  /-- RETURN_HOLD_EXPIRY (R301): CLM_CFG.RETURN_HOLD ms after a plane comes up, its effective claim returns to its claim. -/
  | returnHoldExpiry (plane : Nat)
  /-- PROMOTION_DONE (R314): A tier promotion completes its copy, returning waiting tpromote links. -/
  | promotionDone (h tier : Nat)
  /-- TPROMOTE_DEADLINE (R314): A tpromote TIME instant passes before the copy completes; it returns DEADLINE_MISS and the promotion continues. -/
  | tpromoteDeadline (q : Nat)
  /-- EVICTION_EFFECT (R315): A deferred eviction takes effect once promotions complete and REFS reaches 0. -/
  | evictionEffect (h : Nat)
  /-- FACET_OP_START (R320): A queued Facet operation starts when its engines are free and its inputs ready or its deadline passed. -/
  | facetOpStart (tk : Nat)
  /-- FX_DEADLINE (R320): An fx TIME instant passes and the operation starts on the cheaper path for inputs not ready. -/
  | fxDeadline (tk : Nat)
  /-- FACET_OP_END (R321): A Facet operation finishes computing and its output lines go through the window check. -/
  | facetOpEnd (tk : Nat) (parity : Option (Nat × Nat))
  /-- ENGINE_WITHDRAW (R324): A Facet Engine raising a Critical fault withdraws and its operation restarts once. -/
  | engineWithdraw (e : Nat)
  /-- NEIGHBOUR_READ_TIMEOUT (R327): A neighbour read without response within 4 x RTO marks the neighbour lost and drops its copies. -/
  | neighbourReadTimeout (n : Nat)
  /-- TM_QUERY (R328): TM_CMD QUERY copies a handle's descriptor and state to TM_DATA and TM_HSTAT. -/
  | tmQuery (p : Path) (h : Nat)
  /-- DROP_ALL (R308): TM_CMD DROP_ALL releases every handle. -/
  | dropAll (p : Path)
  /-- RECLAIM (R325): TM_CMD RECLAIM revokes every lend window at one cut. -/
  | reclaim (p : Path)
  /-- TM_NEIGH_WRITE (R327): A write of TM_NEIGH sets a neighbour entry, refused when VALID is set without NEIGH_EN. -/
  | tmNeighWrite (p : Path) (v : W64)
  /-- FE_DISABLE (R329): A write of FE_CTL.EN = 0 takes the engine out of service when its current operation ends. -/
  | feDisable (p : Path) (e : Nat)
  /-- KS_LOAD (R341): KS_CMD LOAD checks an envelope and writes the staged copy of a slot. -/
  | ksLoad (p : Path) (slot : Nat) (tagOk : Bool)
  /-- KS_SWAP (R342): KS_CMD SWAP makes the loaded version active and the former active retiring. -/
  | ksSwap (p : Path) (slot : Nat)
  /-- KS_ERASE (R345): KS_CMD ERASE zeroizes every copy of a slot. -/
  | ksErase (p : Path) (slot : Nat)
  /-- KS_QUERY (R355): KS_CMD QUERY reports a slot's mode, copies, versions and usage. -/
  | ksQuery (p : Path) (slot : Nat)
  /-- KS_RELOAD (R338): KS_CMD RELOAD reloads slots from keepsake envelopes with USES from their reservations. -/
  | ksReload (p : Path)
  /-- KS_PURGE (R345): KS_CMD PURGE erases a slot and deletes its envelope. -/
  | ksPurge (p : Path) (slot : Nat)
  /-- TIMED_KSWAP (R342): A swap armed with a TIME instant takes effect at the first packet or block boundary at or after it. -/
  | timedKswap (slot : Nat)
  /-- GRACE_ZEROIZE (R342): The retiring copy is zeroized after KS_CFG.GRACE and the end of operations that captured it. -/
  | graceZeroize (slot : Nat)
  /-- KEY_NEAR_LIMIT (R334): USES reaches 7/8 of LIMIT; NEAR sets and a Notice, or Major for the vault slot, is raised. -/
  | keyNearLimit (slot : Nat)
  /-- SLOT_SPENT (R334): USES reaches LIMIT and the slot's new sealing invocations are refused. -/
  | slotSpent (slot : Nat)
  /-- USES_RESERVATION_PROGRAMMED (R443): The island finishes programming a USES reservation and waiting sealing invocations proceed. -/
  | usesReservationProgrammed (slot : Nat)
  /-- SECURITY_ALARM (R39): A security alarm zeroizes every slot, drops debug to D0, moves P0 to P1 and holds the controller. -/
  | securityAlarm (bit : Nat)
  /-- ALARM_AUTO_RELOAD (R348): 1 s after every latched condition is absent, slot 0 and the vault slot reload by themselves. -/
  | alarmAutoReload
  /-- LC_ALARM_CLEAR (R348): A W1C write of LC_ALARM clears latched bits whose conditions are gone, possibly clearing HELD. -/
  | lcAlarmClear (p : Path) (mask : Nat)
  /-- LC_PROVISION (R349): LC_CMD PROVISION fuses owner key hashes, rail limits and SVN floors and enters PROVISIONED. -/
  | lcProvision (p : Path)
  /-- LC_DEPLOY (R349): LC_CMD DEPLOY enters DEPLOYED. -/
  | lcDeploy (p : Path)
  /-- LC_RETURN (R349): LC_CMD RETURN zeroizes slots, deletes OWK and envelopes and enters RETURNED. -/
  | lcReturn (p : Path) (sigOk : Bool)
  /-- LC_SCRAP (R349): LC_CMD SCRAP zeroizes slots, blows device-unique key fuses and enters SCRAPPED. -/
  | lcScrap (p : Path) (sigOk : Bool)
  /-- LC_SVN_BUMP (R349): LC_CMD SVN_BUMP raises the fused SVN floor of one image kind. -/
  | lcSvnBump (p : Path) (sigOk : Bool)
  /-- LC_DEBUG (R352): LC_CMD DEBUG raises or lowers the debug level under token and ceiling rules. -/
  | lcDebug (p : Path) (level : Nat) (sigOk : Bool)
  /-- DEBUG_HALT (R353): At D2 a sequencer or the management core is halted, failing self-diagnosis while it lasts. -/
  | debugHalt (core : Nat)
  /-- PWR_REQ_RISE (R357): PWR_REQ rises, requesting power-up or latching an on request during a sequence. -/
  | pwrReqRise
  /-- PWR_REQ_FALL (R362): PWR_REQ falls, latching the warning in P0 to P2 or starting power-down in P3. -/
  | pwrReqFall
  /-- PF_WARN_FALL (R362): PF_WARN_N is low for 200 ns and the early warning is latched. -/
  | pfWarnFall
  /-- PF_WARN_RISE (R363): PF_WARN_N rises; nothing is withdrawn, and a return during a drain is recorded as a brownout. -/
  | pfWarnRise
  /-- POWER_UP_START (R357): Power-up starts once VAON is in window 10 ms, PWR_REQ and PF_WARN_N are high and the off time has passed. -/
  | powerUpStart
  /-- RAIL_STABLE (R358): A rail has REG_PG high and stayed in window for 100 us and the next rail is enabled. -/
  | railStable (n mv : Nat)
  /-- RAIL_RISE_TIMEOUT (R359): A rail misses RISE_TO; power-up ends with a KIND 6 record and one retry. -/
  | railRiseTimeout (n : Nat)
  /-- RAIL_FALLEN (R360): A rail falls below its off threshold and the next rail is disabled. -/
  | railFallen (n mv : Nat)
  /-- RAIL_FALL_TIMEOUT (R360): A rail stays above its threshold for FALL_TO ms; a KIND 7 record is written and power-down continues. -/
  | railFallTimeout (n : Nat)
  /-- MIN_OFF_END (R361): The 500 ms minimum off time ends. -/
  | minOffEnd
  /-- RAIL_WINDOW_EXIT (R364): A running rail leaves its window; the warning is latched and the GRACE timer starts. -/
  | railWindowExit (n mv : Nat) (high : Bool)
  /-- RAIL_HARD_LIMIT (R365): A rail crosses a hard limit and power-down starts at once without a drain. -/
  | railHardLimit (n mv : Nat) (high : Bool)
  /-- VAON_LOST (R365): VAON leaves its window and power-down starts at once, recorded as KIND 8. -/
  | vaonLost (mv : Nat) (high : Bool)
  /-- GRACE_EXPIRY (R364): The PS_TIMING.GRACE timer expires and power-down begins, cutting any drain short. -/
  | graceExpiry
  /-- PMBUS_POLL (R356): Every 1 ms the supervisor polls regulator current, temperature and STATUS_WORD. -/
  | pmbusPoll (n amps temp sw : Nat)
  /-- PS_STANDBY (R370): PS_CMD STANDBY moves P0 to P1 through self-refresh entry and rail switch-off. -/
  | psStandby (p : Path)
  /-- PS_DORMANT (R250): PS_CMD DORMANT vaults the whole dirty set and moves to P3. -/
  | psDormant (p : Path)
  /-- PS_WAKE (R370): PS_CMD WAKE returns P1 or P3 to P0 when not held. -/
  | psWake (p : Path)
  /-- RAIL_SET_WRITE (R371): A write of PS_RAIL.SET_MV sets VDD_CORE within the fused limits or completes with PRIVILEGE. -/
  | railSetWrite (p : Path) (mv : Nat)
  /-- KF_UNLOCK (R378): A write of KF_UNLOCK advances the two-word unlock and claims the sequence for the path. -/
  | kfUnlock (p : Path) (key : Nat)
  /-- KF_PROGRAM (R378): A PROGRAM sequence, started by the KF_DATA31 write, programs one 256-byte page. -/
  | kfProgram (p : Path) (v : W64)
  /-- KF_ERASE (R378): An ERASE sequence, started by the KF_ADDR write, erases one block after an erase-start journal entry. -/
  | kfErase (p : Path) (addr : Nat)
  /-- KF_VERIFY (R384): VERIFY checks the image in a slot under R350. -/
  | kfVerify (p : Path) (slot : Nat) (sigOk : Bool)
  /-- KF_SELECT (R384): SELECT appends a selector record naming a verified slot. -/
  | kfSelect (p : Path) (slot : Nat)
  /-- KF_CONFIRM (R384): CONFIRM appends a selector record with TRY = 0. -/
  | kfConfirm (p : Path) (addr : Nat)
  /-- KF_SEQUENCE_TIMEOUT (R379): A command step later than 100 us abandons the sequence with PRIVILEGE. -/
  | kfSequenceTimeout
  /-- FLASH_PROGRAM_DONE (R373): A keepsake program completes and its bank becomes idle. -/
  | flashProgramDone (bank : Nat)
  /-- FLASH_ERASE_DONE (R380): A keepsake erase completes and the island programs the block's erase marker. -/
  | flashEraseDone (bank : Nat)
  /-- EVENT_RECORD_TIMEOUT (R387): The open event record closes 60 s after it opened and is programmed. -/
  | eventRecordTimeout
  /-- EV_CURSOR_WRITE (R389): A write of EV_CURSOR moves the path's cursor in the event ring. -/
  | evCursorWrite (p : Path) (sq : Nat)
  /-- FAULT_RAISE (R399): A unit raises a fault of a native class, escalating if unacknowledged, and writes an event record. -/
  | faultRaise (k : Raise)
  /-- FAULT_ACK (R400): A write of BLK_FCTL.ACK clears every UNACK bit of the unit. -/
  | faultAck (p : Path) (cls u : Nat)
  /-- QUIET_PERIOD_END (R401): The quiet period ends and faults of classes 0 to 3 clear, incrementing RECOVERIES. -/
  | quietPeriodEnd (cls u : Nat)
  /-- LP_SNAP_ARM (R397): A write of LP_SNAP.ARM arms a snapshot at an instant, replacing any armed one. -/
  | lpSnapArm (p : Path)
  /-- LP_SNAP_NOW (R395): A write of LP_SNAP.NOW takes a snapshot at once. -/
  | lpSnapNow (p : Path)
  /-- SNAPSHOT_INSTANT (R395): An armed snapshot instant is reached and every bank copies its counters. -/
  | snapshotInstant
  /-- LP_FREEZE_ARM (R396): A write of LP_FREEZE.ARM arms a freeze at an instant. -/
  | lpFreezeArm (p : Path)
  /-- LP_FREEZE_NOW (R396): A write of LP_FREEZE.NOW freezes every counter at once. -/
  | lpFreezeNow (p : Path)
  /-- LP_THAW (R396): A write of LP_FREEZE.THAW thaws the counters or drops an armed freeze. -/
  | lpThaw (p : Path)
  /-- FREEZE_INSTANT (R396): An armed freeze instant is reached and every counter stops. -/
  | freezeInstant
  /-- LP_CLEAR (R406): A write of LP_CLEAR.GO zeroes every counter of a bank. -/
  | lpClear (p : Path) (bank : Nat)
  /-- LP_EVSEL_WRITE (R394): A write of LP_EVSEL selects a counter's event and zeroes the counter. -/
  | lpEvselWrite (p : Path) (i v : Nat)
  /-- CAL_BOUNDARY (R101): At a calibration boundary the chord slice takes over or returns a lane if its checks pass, and LANE_QUAL refreshes. -/
  | calBoundary (quad : Nat) (k : Cal)
  /-- CHORD_HOLD_LIMIT (R102): A chord-slice hold reaches MAX_HOLD intervals; a Minor fault is raised and the own slice recalibrates fully. -/
  | chordHoldLimit (quad : Nat)
  /-- PORT_ENABLE (R98): A write of PORT_CFG.EN = 1 starts bring-up of the port. -/
  | portEnable (p : Path) (port : Nat)
  /-- PORT_DISABLE (R112): A write of PORT_CFG.EN = 0 takes the port dark within 1 us with cause 6. -/
  | portDisable (p : Path) (port : Nat)
  /-- PORT_UP (R98): Bring-up finishes and the port joins its plane's egress set. -/
  | portUp (port : Nat)
  /-- PORT_BRINGUP_TIMEOUT (R98): A bring-up step does not finish within 5 s; the port goes dark for 1 s and a Notice is raised. -/
  | portBringupTimeout (port cause : Nat)
  /-- PORT_RETRY_WAIT_END (R98): The 1 s dark wait between bring-up attempts ends and bring-up starts again. -/
  | portRetryWaitEnd (port : Nat)
  /-- PORT_DOWN (R99): A port loses alignment, FEC lock or a lane, leaves the egress set within 1 us and restarts bring-up. -/
  | portDown (port cause : Nat)
  /-- ARP_REQUEST (R106): An ARP request for the plane address is answered. -/
  | arpRequest (f : Frame) (ip : Nat)
  /-- NEIGHBOUR_SOLICITATION (R106): An IPv6 neighbour solicitation for the plane address is answered. -/
  | neighbourSolicitation (f : Frame) (ipHi ipLo : Nat)
  /-- ECHO_REQUEST (R106): An ICMP echo request to the plane address is answered, at most 1,000 per second per plane. -/
  | echoRequest (f : Frame) (ident : Nat) (data : List Byte)
  /-- FRAME_DISCARD (R106): A frame that breaks the MAC, IP or UDP rules, or PAUSE, PFC, LLDP, MACsec or slow protocol, is discarded and counted. -/
  | frameDiscard (f : Frame) (kind : Nat)
  /-- PIN_RESET (R407): RESET_N sampled low for 1 us starts a warm reset in P0, or restarts the management core in P1 and P3. -/
  | pinReset
  /-- WATCHDOG_EXPIRY (R407): BT_WDT expires and a warm reset starts. -/
  | watchdogExpiry
  /-- COMMAND_RESET (R408): A write of RST_CMD with its key starts a warm reset after the steps of R293. -/
  | commandReset (p : Path) (key : Nat)
  /-- WDT_KICK (R422): A write of WDT_KICK with its key restarts the watchdog. -/
  | wdtKick (p : Path) (key : Nat)
  /-- RESET_RELEASE (R409): The hold is complete, every keepsake bank is idle and RESET_N is high, and boot starts. -/
  | resetRelease
  /-- BOOT (R411): Boot runs fuses, known-answer tests, firmware choice, image validation, training, mount and bring-up in order. -/
  | boot (k : BootFacts)
  /-- BOOT_RESUME (R416): In AWAITING_CONFIG a newly selected Burold image makes boot resume at step 4 without a reset. -/
  | bootResume (k : BootFacts)
  /-- SERVICE_START (R412): Service starts once time, epoch check, vault, hold and plane conditions all hold. -/
  | serviceStart
  /-- DIE_THERMAL_THROTTLE (R438): A die sensor reads 110 degrees C or more; the controller asserts THERM_N and runs the Facet Engines at half clock. -/
  | dieThermalThrottle
  /-- DIE_THERMAL_RECOVERY (R438): Every die sensor reads below 105 degrees C; THERM_N is released and the Facet Engines return to full clock. -/
  | dieThermalRecovery
  /-- HOLDUP_OK_RISE (R234): The HOLDUP_OK input rises after the 100 us filter; PS_STAT.HOLDUP_OK and VLT_HOLDUP.HOLDUP_OK follow, and the hold-up condition of service start is met. -/
  | holdupOkRise
  deriving DecidableEq, Repr

end Sys2Proof
end

