-- ==== Sys2Proof/Decode.lean ====
section
/-! DEFINITION. Kexiut links as 40-bit words (R64, R65, Tables 3.2 and 3.5): encoder, decoder, and what the bits of the
opcode table spell (its rows give none). -/

namespace Sys2Proof

/-- The first word of a link (Table 3.2): X, OP, d, a, b, imm17. -/
def Link.first (l : Link) (op : BitVec 7) : W40 :=
  ((if l.ext.isEmpty then 0#1 else 1#1) ++ (op ++ (l.d ++ (l.a ++ (l.b ++ l.imm)))) : BitVec 40)

/-- The setting words of a link: bit 39 set when another follows (R65). -/
def settingWords : List (BitVec 39) → List W40
  | [] => []
  | [e] => [(0#1 ++ e : BitVec 40)]
  | e :: rest => (1#1 ++ e : BitVec 40) :: settingWords rest

/-- The words of a link (R64, R65). -/
def encodeLink (op : BitVec 7) (l : Link) : List W40 := l.first op :: settingWords l.ext

/-- Bit 39 of a word. -/
def moreWords (w : W40) : Bool := w.getLsbD 39

/-- The setting words that follow while bit 39 says so; none when the image ends too soon. -/
def takeSettings : Bool → List W40 → Option (List (BitVec 39) × List W40)
  | false, ws => some ([], ws)
  | true, [] => none
  | true, w :: ws =>
    match takeSettings (moreWords w) ws with
    | some (es, rest) => some (w.extractLsb' 0 39 :: es, rest)
    | none => none

/-- The link that a list of words begins with: opcode, operands, the words after it. -/
def decodeLink : List W40 → Option (BitVec 7 × Link × List W40)
  | [] => none
  | w :: ws =>
    match takeSettings (moreWords w) ws with
    | some (es, rest) =>
      some (w.extractLsb' 32 7,
        ⟨w.extractLsb' 27 5, w.extractLsb' 22 5, w.extractLsb' 17 5, w.extractLsb' 0 17, es⟩, rest)
    | none => none

/-- The command that a link of sequencer q is, by opcode (Table 3.5); none for an undefined opcode (R70). -/
def linkInstr (q : Nat) (op : BitVec 7) (l : Link) : Option Instr :=
  match op.toNat with
  | 0x00 => some (.add q l)
  | 0x01 => some (.sub q l)
  | 0x02 => some (.and q l)
  | 0x03 => some (.or q l)
  | 0x04 => some (.xor q l)
  | 0x05 => some (.shl q l)
  | 0x06 => some (.shr q l)
  | 0x07 => some (.sar q l)
  | 0x08 => some (.mul q l)
  | 0x09 => some (.mulhu q l)
  | 0x0A => some (.slt q l)
  | 0x0B => some (.sltu q l)
  | 0x0C => some (.minu q l)
  | 0x0D => some (.maxu q l)
  | 0x10 => some (.addi q l)
  | 0x11 => some (.andi q l)
  | 0x12 => some (.ori q l)
  | 0x13 => some (.xori q l)
  | 0x14 => some (.shli q l)
  | 0x15 => some (.shri q l)
  | 0x16 => some (.sari q l)
  | 0x17 => some (.ldk q l)
  | 0x18 => some (.rdsp q l)
  | 0x20 => some (.beq q l)
  | 0x21 => some (.bne q l)
  | 0x22 => some (.blt q l)
  | 0x23 => some (.bge q l)
  | 0x24 => some (.bltu q l)
  | 0x25 => some (.bgeu q l)
  | 0x26 => some (.jmp q l)
  | 0x27 => some (.call q l)
  | 0x28 => some (.jr q l)
  | 0x30 => some (.ld q l)
  | 0x31 => some (.st q l)
  | 0x32 => some (.ldw q l)
  | 0x33 => some (.stw q l)
  | 0x34 => some (.ldb q l)
  | 0x35 => some (.stb q l)
  | 0x40 => some (.put q l)
  | 0x41 => some (.get q l)
  | 0x42 => some (.copy q l)
  | 0x43 => some (.fill q l)
  | 0x44 => some (.atom q l)
  | 0x45 => some (.persist q l)
  | 0x46 => some (.sync q l)
  | 0x50 => some (.wopen q l)
  | 0x51 => some (.wrevoke q l)
  | 0x52 => some (.wquery q l)
  | 0x58 => some (.tstat q l)
  | 0x59 => some (.tresync q l)
  | 0x60 => some (.await q l)
  | 0x61 => some (.atmt q l)
  | 0x62 => some (.seal q l)
  | 0x63 => some (.cut q l)
  | 0x68 => some (.tload q l)
  | 0x69 => some (.tpromote q l)
  | 0x6A => some (.tevict q l)
  | 0x6B => some (.fx q l)
  | 0x6C => some (.fwait q l)
  | 0x70 => some (.kload q l)
  | 0x71 => some (.kswap q l)
  | 0x72 => some (.kerase q l)
  | 0x78 => some (.retire q l)
  | 0x79 => some (.evread q l)
  | 0x7A => some (.snap q l)
  | 0x7B => some (.fack q l)
  | 0x7C => some (.halt q l)
  | _ => none

/-- The sequencer, opcode and operands of a command that is a link (Table 3.5). -/
def linkParts : Instr → Option (Nat × BitVec 7 × Link)
  | .add q l => some (q, 0x00#7, l)
  | .sub q l => some (q, 0x01#7, l)
  | .and q l => some (q, 0x02#7, l)
  | .or q l => some (q, 0x03#7, l)
  | .xor q l => some (q, 0x04#7, l)
  | .shl q l => some (q, 0x05#7, l)
  | .shr q l => some (q, 0x06#7, l)
  | .sar q l => some (q, 0x07#7, l)
  | .mul q l => some (q, 0x08#7, l)
  | .mulhu q l => some (q, 0x09#7, l)
  | .slt q l => some (q, 0x0A#7, l)
  | .sltu q l => some (q, 0x0B#7, l)
  | .minu q l => some (q, 0x0C#7, l)
  | .maxu q l => some (q, 0x0D#7, l)
  | .addi q l => some (q, 0x10#7, l)
  | .andi q l => some (q, 0x11#7, l)
  | .ori q l => some (q, 0x12#7, l)
  | .xori q l => some (q, 0x13#7, l)
  | .shli q l => some (q, 0x14#7, l)
  | .shri q l => some (q, 0x15#7, l)
  | .sari q l => some (q, 0x16#7, l)
  | .ldk q l => some (q, 0x17#7, l)
  | .rdsp q l => some (q, 0x18#7, l)
  | .beq q l => some (q, 0x20#7, l)
  | .bne q l => some (q, 0x21#7, l)
  | .blt q l => some (q, 0x22#7, l)
  | .bge q l => some (q, 0x23#7, l)
  | .bltu q l => some (q, 0x24#7, l)
  | .bgeu q l => some (q, 0x25#7, l)
  | .jmp q l => some (q, 0x26#7, l)
  | .call q l => some (q, 0x27#7, l)
  | .jr q l => some (q, 0x28#7, l)
  | .ld q l => some (q, 0x30#7, l)
  | .st q l => some (q, 0x31#7, l)
  | .ldw q l => some (q, 0x32#7, l)
  | .stw q l => some (q, 0x33#7, l)
  | .ldb q l => some (q, 0x34#7, l)
  | .stb q l => some (q, 0x35#7, l)
  | .put q l => some (q, 0x40#7, l)
  | .get q l => some (q, 0x41#7, l)
  | .copy q l => some (q, 0x42#7, l)
  | .fill q l => some (q, 0x43#7, l)
  | .atom q l => some (q, 0x44#7, l)
  | .persist q l => some (q, 0x45#7, l)
  | .sync q l => some (q, 0x46#7, l)
  | .wopen q l => some (q, 0x50#7, l)
  | .wrevoke q l => some (q, 0x51#7, l)
  | .wquery q l => some (q, 0x52#7, l)
  | .tstat q l => some (q, 0x58#7, l)
  | .tresync q l => some (q, 0x59#7, l)
  | .await q l => some (q, 0x60#7, l)
  | .atmt q l => some (q, 0x61#7, l)
  | .seal q l => some (q, 0x62#7, l)
  | .cut q l => some (q, 0x63#7, l)
  | .tload q l => some (q, 0x68#7, l)
  | .tpromote q l => some (q, 0x69#7, l)
  | .tevict q l => some (q, 0x6A#7, l)
  | .fx q l => some (q, 0x6B#7, l)
  | .fwait q l => some (q, 0x6C#7, l)
  | .kload q l => some (q, 0x70#7, l)
  | .kswap q l => some (q, 0x71#7, l)
  | .kerase q l => some (q, 0x72#7, l)
  | .retire q l => some (q, 0x78#7, l)
  | .evread q l => some (q, 0x79#7, l)
  | .snap q l => some (q, 0x7A#7, l)
  | .fack q l => some (q, 0x7B#7, l)
  | .halt q l => some (q, 0x7C#7, l)
  | _ => none

/-- The words of a command that is a link of a sequencer. -/
def encodeInstr (i : Instr) : Option (List W40) :=
  match linkParts i with
  | some (_, op, l) => some (encodeLink op l)
  | none => none

/-- The command that sequencer q meets in its image (R70): a link, or one with an undefined opcode. -/
def decodeInstr (q : Nat) (ws : List W40) : Option Instr :=
  match ws, decodeLink ws with
  | w :: _, some (op, l, _) => some ((linkInstr q op l).getD (.undefinedOpcode q w))
  | _, _ => none

/-- What the host asks: the command that a word spells by the bits of spec/opcode_table.json. No row of the table gives
bits (a command comes from outside as a register access, a packet or an event), so no word spells one. -/
def decodeTableWord (_nbits _w : Nat) : Option Instr := none

end Sys2Proof
end

