-- ==== Sys2Proof/Machine/SMap.lean ====
section
/-! DEFINITION. The one container of the model's state: a sparse map from a number to a value, as a list of pairs
in ONE canonical form (keys strictly rising; no entry equal to what an unlisted key reads as), so that equal
contents are equal data. -/

namespace Sys2Proof.Machine

/-- A sparse map. -/
abbrev SMap (α : Type) := List (Nat × α)

namespace SMap

/-- The entry of key k, if one is listed. -/
def look {α : Type} : SMap α → Nat → Option α
  | [], _ => none
  | (j, v) :: m, k => if j = k then some v else look m k

/-- What key k reads as, d being what an unlisted key reads as. -/
def get {α : Type} (d : α) (m : SMap α) (k : Nat) : α := (look m k).getD d

/-- List v at key k. -/
def ins {α : Type} : SMap α → Nat → α → SMap α
  | [], k, v => [(k, v)]
  | (j, w) :: m, k, v =>
    if k < j then (k, v) :: (j, w) :: m
    else if k = j then (k, v) :: m
    else (j, w) :: ins m k v

/-- Take key k out of the list. -/
def del {α : Type} : SMap α → Nat → SMap α
  | [], _ => []
  | (j, w) :: m, k => if j = k then m else (j, w) :: del m k

/-- Write v at key k, keeping the canonical form. -/
def put {α : Type} [DecidableEq α] (d : α) (m : SMap α) (k : Nat) (v : α) : SMap α :=
  if v = d then del m k else ins m k v

/-- Keys strictly rise, each above lo. -/
def risesFrom {α : Type} : Nat → SMap α → Bool
  | _, [] => true
  | lo, (j, _) :: m => decide (lo ≤ j) && risesFrom (j + 1) m

/-- The canonical form. -/
def wf {α : Type} [DecidableEq α] (d : α) (m : SMap α) : Bool :=
  risesFrom 0 m && m.all (fun p => decide (p.2 ≠ d))

end SMap

end Sys2Proof.Machine
end

