-- ==== Sys2Proof/Machine/Bits.lean ====
section
/-! DEFINITION. Status codes as numbers, bit fields, little-endian bytes (R6), CRC-32 (R44, R108), the field
GF(2^64) of the Bezel code (R203), and serial comparison (R123, R254). -/

namespace Sys2Proof

/-- The code column of Table 0.9. -/
def Status.code : Status → Nat
  | .ok => 0x00 | .busy => 0x01 | .alreadyDone => 0x02 | .aborted => 0x03 | .deferred => 0x04
  | .windowRevoked => 0x10 | .windowBounds => 0x11 | .windowRights => 0x12
  | .poisonRetained => 0x20 | .uncorrectable => 0x21 | .lineHealed => 0x22
  | .tagFail => 0x30 | .keyErased => 0x31 | .keySpent => 0x32 | .lengthLimit => 0x33 | .stagePending => 0x34
  | .deadlineMiss => 0x40 | .tierFull => 0x41
  | .qpFlushed => 0x50 | .creditTimeout => 0x51
  | .timeUnsure => 0x60 | .degradedSingle => 0x61
  | .illegalLink => 0x70 | .privilege => 0x71 | .internal => 0x7F

/-- The status of a code; none for a reserved one (R25). -/
def Status.ofCode (c : Nat) : Option Status :=
  [Status.ok, .busy, .alreadyDone, .aborted, .deferred, .windowRevoked, .windowBounds, .windowRights,
    .poisonRetained, .uncorrectable, .lineHealed, .tagFail, .keyErased, .keySpent, .lengthLimit, .stagePending,
    .deadlineMiss, .tierFull, .qpFlushed, .creditTimeout, .timeUnsure, .degradedSingle, .illegalLink,
    .privilege, .internal].find? (fun s => s.code == c)

/-- The outcome column of Table 0.9. -/
def Status.kind : Status → OutcomeKind
  | .ok => .success
  | .busy | .deferred => .pending
  | .alreadyDone | .lineHealed | .deadlineMiss | .degradedSingle => .note
  | _ => .failure

def Status.isFailure (s : Status) : Bool := decide (s.kind = .failure)

def Status.isNote (s : Status) : Bool := decide (s.kind = .note)

/-- Rank in which an operation's final status is chosen (R445): a Failure first, then DEADLINE_MISS,
DEGRADED_SINGLE, LINE_HEALED, then OK. -/
def Status.rank (s : Status) : Nat :=
  if s.isFailure then 4
  else match s with
    | .deadlineMiss => 3
    | .degradedSingle => 2
    | .lineHealed => 1
    | _ => 0

/-- The status of an operation that has met `old` and now meets `new` (R445): the first Failure stays, a Failure
beats every note, and of two notes the one of higher rank stays. -/
def Status.meet (old new : Status) : Status := if old.rank < new.rank then new else old

namespace Machine

/-- Bits [hi:lo] of a number (R6). -/
def bits (v lo width : Nat) : Nat := (v >>> lo) % 2 ^ width

/-- Bit i of a number. -/
def bitAt (v i : Nat) : Bool := Nat.testBit v i

def boolNat (b : Bool) : Nat := if b then 1 else 0

/-- The little-endian bytes of a number (R6). -/
def leBytes : Nat → Nat → List Byte
  | 0, _ => []
  | n + 1, v => BitVec.ofNat 8 v :: leBytes n (v >>> 8)

/-- The number that little-endian bytes hold (R6). -/
def leNat : List Byte → Nat
  | [] => 0
  | b :: bs => b.toNat + 256 * leNat bs

/-- n bytes of a map from address a. -/
def bytesAt (m : SMap Byte) (d : Byte) : Nat → Nat → List Byte
  | _, 0 => []
  | a, n + 1 => SMap.get d m a :: bytesAt m d (a + 1) n

/-- Write bytes from address a. -/
def putBytes (d : Byte) : SMap Byte → Nat → List Byte → SMap Byte
  | m, _, [] => m
  | m, a, b :: bs => putBytes d (SMap.put d m a b) (a + 1) bs

/-- One step of CRC-32 with the IEEE 802.3 polynomial, least significant bit first. -/
def crcBit (c : BitVec 32) : BitVec 32 :=
  if c.getLsbD 0 then (c >>> 1) ^^^ 0xEDB88320#32 else c >>> 1

def crcByte (c : BitVec 32) (b : Byte) : BitVec 32 :=
  let x := c ^^^ b.setWidth 32
  crcBit (crcBit (crcBit (crcBit (crcBit (crcBit (crcBit (crcBit x)))))))

/-- CRC-32 (IEEE 802.3) of a list of bytes (R44, R108). -/
def crc32 (bs : List Byte) : Nat := (~~~(bs.foldl crcByte 0xFFFFFFFF#32)).toNat

/-- One step of CRC-32C (polynomial 0x1EDC6F41), least significant bit first. -/
def crcBitC (c : BitVec 32) : BitVec 32 :=
  if c.getLsbD 0 then (c >>> 1) ^^^ 0x82F63B78#32 else c >>> 1

def crcByteC (c : BitVec 32) (b : Byte) : BitVec 32 :=
  let x := c ^^^ b.setWidth 32
  crcBitC (crcBitC (crcBitC (crcBitC (crcBitC (crcBitC (crcBitC (crcBitC x)))))))

/-- CRC-32C of a list of bytes (Tables 15.3, 16.3a, 16.4). -/
def crc32c (bs : List Byte) : Nat := (~~~(bs.foldl crcByteC 0xFFFFFFFF#32)).toNat

/-- Multiplication by α = x in GF(2^64) on x^64 + x^4 + x^3 + x + 1 (R203). -/
def gfAlpha (v : BitVec 64) : BitVec 64 :=
  if v.getLsbD 63 then (v <<< 1) ^^^ 0x1B#64 else v <<< 1

/-- Multiplication by α^n. -/
def gfAlphaPow : Nat → BitVec 64 → BitVec 64
  | 0, v => v
  | n + 1, v => gfAlphaPow n (gfAlpha v)

/-- Division by α. -/
def gfInvAlpha (v : BitVec 64) : BitVec 64 :=
  if v.getLsbD 0 then ((v ^^^ 0x1B#64) >>> 1) ||| (1#64 <<< 63) else v >>> 1

/-- Multiplication in GF(2^64): n bits of b from the top. -/
def gfMulStep : Nat → BitVec 64 → BitVec 64 → BitVec 64 → BitVec 64
  | 0, _, _, acc => acc
  | n + 1, a, b, acc =>
    gfMulStep n a b ((if b.getLsbD n then gfAlpha acc ^^^ a else gfAlpha acc))

def gfMul (a b : BitVec 64) : BitVec 64 := gfMulStep 64 a b 0

/-- Division by 1 + α: multiplication by its inverse. -/
def gfDivOnePlusAlpha (v : BitVec 64) : BitVec 64 := gfMul 0xFFFFFFFFFFFFFFF6#64 v

/-- Serial comparison: a is later than b modulo 2^w (R254, R123). -/
def serialLater (w a b : Nat) : Bool :=
  let d := (a + 2 ^ w - b % 2 ^ w) % 2 ^ w
  decide (1 ≤ d ∧ d < 2 ^ (w - 1))

/-- Serial a ≤ b. -/
def serialLe (w a b : Nat) : Bool := !serialLater w a b

/-- The later of two epoch numbers (R254). -/
def epochMax (a b : Nat) : Nat := if serialLater 40 b a then b else a

/-- The earlier of two epoch numbers (R254). -/
def epochMin (a b : Nat) : Nat := if serialLater 40 b a then a else b

/-- An n-bit two's complement number as an integer. -/
def signed (n v : Nat) : Int := if v % 2 ^ n < 2 ^ (n - 1) then (v % 2 ^ n : Nat) else ((v % 2 ^ n : Nat) : Int) - 2 ^ n

/-- An integer as an n-bit two's complement number. -/
def unsigned (n : Nat) (v : Int) : Nat := (v % (2 ^ n : Int)).toNat

/-- Ceiling of a division. -/
def ceilDiv (a b : Nat) : Nat := (a + b - 1) / b

/-- Append to a list unless it is there. -/
def addNew (l : List Nat) (x : Nat) : List Nat := if x ∈ l then l else l ++ [x]

end Machine

end Sys2Proof
end

