-- ==== Sys2Proof/Config.lean ====
section
/-! DEFINITION. What the spec leaves to the implementation or open: opaque constants with no body, so that no proof can
see their value (log entry 7). -/

namespace Sys2Proof

/-- Time that passes in the idle step of number n beyond the one unit that it always passes (log entry 2). -/
opaque Config.elapsed : Nat → Nat

/-- The largest drift in ps that a write-timing update can correct (Table 8.2 names the range and gives no number). -/
opaque Config.driftRange : Nat

/-- The n-th 128-bit value that the management core draws at random: a lifecycle nonce (R349). -/
opaque Config.nonce : Nat → Nat

/-- The known-answer test that fails when CEX.KAT_RUN repeats the tests, if one does (R332, R355). -/
opaque Config.katFail : Nat → Option Nat

/-- Does a read of the girdle that no command stands for meet a parity error (R213, R325)? -/
opaque Config.girdleParity : Nat → Bool

/-- Does the n-th blob or envelope that reaches a link or a command carry a tag that verifies? A fact of the bytes and of
keys that the model does not hold (R335, log entry 5). -/
opaque Config.tagOk : List (BitVec 8) → Bool

/-- Byte i of the plaintext or ciphertext that AES-256-GCM or AES-256-XTS gives for these bytes under a key that the model
does not hold (R335, R336, log entry 5). -/
opaque Config.cipherByte : List (BitVec 8) → Nat → BitVec 8

/-- The tag of a sealed blob: byte i (R335, log entry 5). -/
opaque Config.tagByte : List (BitVec 8) → Nat → BitVec 8

/-- A result of a Facet operation for which the spec fixes no bits: softmax, GELU and SiLU name no rounding of their inner
steps (R306), and operands outside what R304 and R305 say. Arguments: the operation, the inputs, the element. -/
opaque Config.facetValue : Nat → List Int → Nat → BitVec 32

/-- Sign and payload of a NaN result, which the spec does not fix (R305): by format. -/
opaque Config.nanBits : Nat → Nat

/-- A value of a field that the spec leaves open after a command: the n-th one drawn (State.free). -/
opaque Config.freeWord : Nat → BitVec 64

/-- The outbound QP that serves a device number in a REMOTE setting word (Table 3.3): the spec does not say how the
controller finds it. -/
opaque Config.remoteQp : Nat → Nat

/-- Speed, width and NVMe queue status of PCIe root port n as its registers show them (R253 names them and gives no
values): bits 0 to 3, 4 to 8 and 9 to 13. -/
opaque Config.pcieLink : Nat → Nat

/-- Does a sideband write of a value to a register of a target set a PMIC output outside its SPD limits (R201)? A fact of
the DIMM. -/
opaque Config.pmicOutside : Nat → Nat → Nat → Bool

/-- The rail and the output voltage in mV that a PMBus write of data with a command to an address sets, if it sets one
(R371): a fact of the regulators. -/
opaque Config.pmbSets : Nat → Nat → Nat → Option (Nat × Nat)

/-- What a reader inside the controller finds in byte n of persistent memory when its line is poisoned (R206 returns it to
no operation). -/
opaque Config.poisonByte : Nat → BitVec 8

/-- Entries of the buffer of a real-time port (0 FAB, 1 TWIN, 2 VAULT, 3 FACET), by whose fill it sets its panic level (R195
names the buffers and gives no size). -/
opaque Config.portBuffer : Nat → Nat

/-- Does the SPD of the DIMMs ask for refresh management of a bank after so many activates since its last refresh (R196)? The
spec gives no number. -/
opaque Config.refreshManagement : Nat → Bool

/-- Byte i of the ICRC of a RoCEv2 packet, over its IP and UDP headers and the bytes of its UDP payload (R137): the standard's. -/
opaque Config.icrc : List Nat → List (BitVec 8) → Nat → BitVec 8

/-- How long the rewrite of the Hallmark Table takes, at most 50 us (R45), in units of 2^-40 s. -/
opaque Config.rewriteTime : Nat

/-- Does a Burold image switch a block class off (CFG_OFF of Table 2.3)? The spec names no field of the image that does. -/
opaque Config.cfgOff : List (BitVec 8) → Nat → Bool

/-- Is a copy of the state journal full after so many entries (R377)? The spec gives an entry no size; one program writes at most
one page (R373), so 2,048 entries always fit. -/
opaque Config.journalFull : Nat → Nat → Bool

/-- What a flash byte of the journal copies reads as, by journal sequence and address: the spec gives no layout (Table 16.1). -/
opaque Config.journalByte : Nat → Nat → BitVec 8

/-- What a byte of a torn block or of a half-programmed page holds, by erase count and address (R380, R382). -/
opaque Config.tornByte : Nat → Nat → BitVec 8

/-- Byte i of the n-th retirement record, of 32 bytes (R219, Table 16.1), whose format the spec does not give. -/
opaque Config.retireByte : Nat → Nat → BitVec 8

/-- The 4 KiB unit of the spare pool at which the n-th retired bank (true) or page begins (R217 names no place). -/
opaque Config.spareUnit : Bool → Nat → Nat

end Sys2Proof
end

