-- ==== Sys2Proof/Machine/Float.lean ====
section
/-! DEFINITION. The element formats of Table 13.1 and the arithmetic of R304 and R305: exact values, rounding to nearest
even, conversion to an output format. -/

namespace Sys2Proof.Machine

/-- The value of a float: not a number, an infinity, or (-1)^neg * m * 2^e. -/
inductive FVal where
  | nan
  | inf (neg : Bool)
  | fin (neg : Bool) (m : Nat) (e : Int)
  deriving DecidableEq, Repr

/-- Where the bits of a binary format lie: mantissa bits, exponent bits, bias; whether the all-ones exponent holds
infinities and NaNs as in IEEE 754 (FP8E4 holds one NaN instead). -/
structure FFmt where
  mant : Nat
  expo : Nat
  bias : Nat
  ieee : Bool
  deriving DecidableEq, Repr

def fp8e4 : FFmt := ⟨3, 4, 7, false⟩
def fp8e5 : FFmt := ⟨2, 5, 15, true⟩
def bf16 : FFmt := ⟨7, 8, 127, true⟩
def fp32 : FFmt := ⟨23, 8, 127, true⟩

/-- Read the bits of a format. -/
def FFmt.decode (f : FFmt) (b : Nat) : FVal :=
  let m := b % 2 ^ f.mant
  let x := bits b f.mant f.expo
  let neg := bitAt b (f.mant + f.expo)
  let top := 2 ^ f.expo - 1
  if x = top ∧ f.ieee then (if m = 0 then .inf neg else .nan)
  else if x = top ∧ m = 2 ^ f.mant - 1 then .nan
  else if x = 0 then .fin neg m (1 - (f.bias : Int) - f.mant)
  else .fin neg (2 ^ f.mant + m) ((x : Int) - f.bias - f.mant)

/-- m * 2^e to the nearest multiple of 2^q, ties to even; the result in units of 2^q. -/
def roundAt (m : Nat) (e q : Int) : Nat :=
  if q ≤ e then m * 2 ^ (e - q).toNat
  else
    let s := (q - e).toNat
    let k := m / 2 ^ s
    let r := m % 2 ^ s
    let half := 2 ^ (s - 1)
    if half < r ∨ (r = half ∧ k % 2 = 1) then k + 1 else k

/-- The largest exponent of a finite value. -/
def FFmt.emax (f : FFmt) : Int := (2 ^ f.expo - 1 : Nat) - (f.bias : Int) - (if f.ieee then 1 else 0)

/-- The largest finite value: its integer mantissa. -/
def FFmt.maxMant (f : FFmt) : Nat := if f.ieee then 2 ^ (f.mant + 1) - 1 else 2 ^ (f.mant + 1) - 2

/-- Round a value to a format (R304, R305): nearest even, subnormals kept; beyond the largest finite value an infinity,
or that value where `sat`. -/
def FFmt.round (f : FFmt) (sat : Bool) (v : FVal) : FVal :=
  match v with
  | .fin neg m e =>
    if m = 0 then .fin neg 0 0
    else
      let len : Int := Nat.log2 m + 1
      let q := max (e + len - (f.mant + 1)) (1 - (f.bias : Int) - f.mant)
      let k := roundAt m e q
      let big := f.emax - f.mant
      -- the value k * 2^q against the largest finite one, maxMant * 2^big
      if (f.maxMant * 2 ^ (big - q).toNat : Nat) < (if big < q then k * 2 ^ (q - big).toNat else k) then
        (if sat then .fin neg f.maxMant big else .inf neg)
      else .fin neg k q
  | x => x

/-- The bits of a value that the format holds. -/
def FFmt.encode (f : FFmt) (code : Nat) (v : FVal) : Nat :=
  let sign (n : Bool) : Nat := boolNat n * 2 ^ (f.mant + f.expo)
  let top := (2 ^ f.expo - 1) * 2 ^ f.mant
  match v with
  | .nan =>
    let free := Config.nanBits code
    if f.ieee then sign (bitAt free 31) + top + 2 ^ (f.mant - 1) + free % 2 ^ (f.mant - 1)
    else sign (bitAt free 31) + top + (2 ^ f.mant - 1)
  | .inf n =>
    if f.ieee then sign n + top else sign n + top + (2 ^ f.mant - 1)
  | .fin n m e =>
    if m = 0 then sign n
    else
      let sub : Int := 1 - (f.bias : Int) - f.mant
      let k := if sub ≤ e then m * 2 ^ (e - sub).toNat else m / 2 ^ (sub - e).toNat
      -- k is the value in units of the least subnormal
      let len := Nat.log2 k
      if len < f.mant then sign n + k
      else sign n + (len - f.mant + 1) * 2 ^ f.mant + (k / 2 ^ (len - f.mant)) % 2 ^ f.mant

/-! ## binary32 arithmetic -/

def FVal.neg? : FVal → Bool
  | .fin n _ _ => n
  | .inf n => n
  | .nan => false

/-- The exact product; zero times infinity is no number. -/
def FVal.mul (a b : FVal) : FVal :=
  match a, b with
  | .nan, _ | _, .nan => .nan
  | .inf x, .inf y => .inf (x != y)
  | .inf x, .fin y m _ => if m = 0 then .nan else .inf (x != y)
  | .fin x m _, .inf y => if m = 0 then .nan else .inf (x != y)
  | .fin x m e, .fin y n f => .fin (x != y) (m * n) (e + f)

/-- The exact sum; opposite infinities give no number; a sum of opposite values is +0 and of two -0 is -0. -/
def FVal.add (a b : FVal) : FVal :=
  match a, b with
  | .nan, _ | _, .nan => .nan
  | .inf x, .inf y => if x = y then .inf x else .nan
  | .inf x, _ => .inf x
  | _, .inf y => .inf y
  | .fin x m e, .fin y n f =>
    let g := min e f
    let i : Int := (if x then -1 else 1) * (m * 2 ^ (e - g).toNat : Nat)
    let j : Int := (if y then -1 else 1) * (n * 2 ^ (f - g).toNat : Nat)
    let k := i + j
    if k = 0 then .fin (x && y) 0 0 else .fin (decide (k < 0)) k.natAbs g

/-- a < b on numbers. -/
def FVal.lt (a b : FVal) : Bool :=
  match a, b with
  | .nan, _ | _, .nan => false
  | .inf x, .inf y => x && !y
  | .inf x, .fin _ _ _ => x
  | .fin _ _ _, .inf y => !y
  | .fin x m e, .fin y n f =>
    let g := min e f
    let i : Int := (if x then -1 else 1) * (m * 2 ^ (e - g).toNat : Nat)
    let j : Int := (if y then -1 else 1) * (n * 2 ^ (f - g).toNat : Nat)
    decide (i < j)

def FVal.isNan (a : FVal) : Bool := a == .nan

/-- Maximum and minimum; no number where one operand is none; of equal values the first. -/
def FVal.max (a b : FVal) : FVal := if a.isNan || b.isNan then .nan else if a.lt b then b else a
def FVal.min (a b : FVal) : FVal := if a.isNan || b.isNan then .nan else if b.lt a then b else a

/-- A sum or product rounded to binary32. -/
def add32 (a b : FVal) : FVal := fp32.round false (a.add b)
def mul32 (a b : FVal) : FVal := fp32.round false (a.mul b)

/-- An integer in binary32. -/
def ofInt32 (i : Int) : FVal := fp32.round false (.fin (decide (i < 0)) i.natAbs 0)

/-- Blocks of 64 elements, each summed in order, the blocks added in ascending order (R304); each element is added exactly
and the sum rounded once. -/
def sumBlocks : Nat → List FVal → FVal → FVal
  | 0, _, acc => acc
  | n + 1, xs, acc =>
    if xs.isEmpty then acc
    else
      let zero : FVal := .fin false 0 0
      sumBlocks n (xs.drop 64) (add32 acc ((xs.take 64).foldl (fun a x => add32 a x) zero))

def sum32 (xs : List FVal) : FVal := sumBlocks (xs.length / 64 + 1) xs (.fin false 0 0)

/-! ## Elements -/

/-- Bytes of an element (Table 13.1). -/
def fmtBytes (fmt : Nat) : Nat :=
  match fmt with
  | 0 | 1 | 2 | 3 => 1
  | 4 => 2
  | 5 | 6 => 4
  | _ => 8

def isInt (fmt : Nat) : Bool := fmt == 0 || fmt == 1 || fmt == 6 || fmt == 7
def isFp8 (fmt : Nat) : Bool := fmt == 2 || fmt == 3

/-- The float format of a code. -/
def ffmt (fmt : Nat) : FFmt := match fmt with | 2 => fp8e4 | 3 => fp8e5 | 4 => bf16 | _ => fp32

/-- The ends of the 40-bit accumulator (R304). -/
def clamp40 (i : Int) : Int := max (-(2 ^ 39 : Int)) (min (2 ^ 39 - 1) i)

/-- An element as an integer. -/
def elemInt (fmt v : Nat) : Int :=
  match fmt with
  | 0 => signed 8 v
  | 6 => signed 32 v
  | 7 => clamp40 (signed 64 v)
  | _ => (v : Int)

/-- An element as a binary32 value (R306). -/
def elemFloat (fmt v : Nat) : FVal := if isInt fmt then ofInt32 (elemInt fmt v) else (ffmt fmt).decode v

/-- A value to the nearest integer, ties to even, saturated to a range. -/
def toIntSat (lo hi : Int) (v : FVal) : Option Int :=
  match v with
  | .nan => none
  | .inf n => some (if n then lo else hi)
  | .fin n m e =>
    let k : Int := roundAt m e 0
    some (max lo (min hi (if n then -k else k)))

/-- The range of an integer format. -/
def intRange (fmt : Nat) : Int × Int :=
  match fmt with
  | 0 => (-128, 127)
  | 1 => (0, 255)
  | 6 => (-(2 ^ 31 : Int), 2 ^ 31 - 1)
  | _ => (-(2 ^ 39 : Int), 2 ^ 39 - 1)

/-- A binary32 result as the bits of an output format (R305): FP8 saturates. What an integer format takes from no number,
and FP8E4 from an infinity, the spec does not say: a free value. -/
def floatOut (fmt : Nat) (v : FVal) : Nat :=
  if isInt fmt then
    let r := intRange fmt
    match toIntSat r.1 r.2 v with
    | some i => unsigned (8 * fmtBytes fmt) i
    | none => Config.nanBits fmt % 2 ^ (8 * fmtBytes fmt)
  else
    let f := ffmt fmt
    match fmt, v with
    | 2, .inf _ => Config.nanBits 258 % 256
    | _, _ => f.encode fmt (f.round (isFp8 fmt) v)

/-- An accumulator as the bits of an output format (R305): unscaled for ACC64, else times SCALE in binary32. -/
def intOut (fmt : Nat) (scale : FVal) (acc : Int) : Nat :=
  if fmt = 7 then unsigned 64 (clamp40 acc) else floatOut fmt (mul32 (ofInt32 (clamp40 acc)) scale)

end Sys2Proof.Machine
end

