-- ==== Sys2Proof/Machine/Fields.lean ====
section
/-! DEFINITION. The register maps of the spec, field by field: one `Fld` per row of the register tables
(Tables 2.1, 2.6, 2.7, 3.1, 3.8, 4.7 to 4.9, 5.10, 6.7, 7.6, 8.4, 8.5, 9.6, 9.7, 10.10, 10.11, 11.6, 12.10,
13.9, 13.10, 14.11 to 14.13, 15.6, 16.3, 16.5, 17.3 to 17.5 and 18.8), with its access code (Table 0.2), its
reset value (R12) and the range a write must lie in (R13). The fields after those of Table 18.8 are the expert
registers that the text names without an offset or a width: their places are the model's (log entry 3). -/

namespace Sys2Proof.Machine

/-- Access codes of Table 0.2 (R11). -/
inductive Acc where
  | ro | rw | wo | w1c | rwl
  deriving DecidableEq, Repr

/-- Where a field's reset value comes from (R12). -/
inductive Rst where
  | num | fuse | cfg | flash
  deriving DecidableEq, Repr

/-- The lock that covers a field (R441): none, the image lock, RING_CFG.LOCK, the field itself, BT_WDT.LOCK. -/
inductive Lck where
  | none | image | ring | own | wdt
  deriving DecidableEq, Repr

/-- Which units of the class hold the field: all of them, unit 0 (Tables 3.1, 7.6), the first lane of a quad
(R109), units 0 and 32 (R112). -/
inductive Scope where
  | all | unit0 | quad | plane
  deriving DecidableEq, Repr

/-- One field of a register map: class, offset of its (first) register, how many consecutive registers carry it,
lowest bit, width, access, reset value and its source, legal range, lock, scope. Class 0 stands for the registers
common to every unit (Table 2.5). -/
structure Fld where
  cls : Nat
  off : Nat
  n : Nat
  lo : Nat
  width : Nat
  acc : Acc
  reset : Nat
  kind : Rst
  min : Nat
  max : Nat
  lock : Lck
  scope : Scope
  deriving DecidableEq, Repr

namespace F


-- Table 2.1
def HT_SIGNATURE : Fld := ⟨0x1, 0x0, 1, 0, 32, .ro, 1213025073, .num, 0, 4294967295, .none, .all⟩
def HT_VER_MINOR : Fld := ⟨0x1, 0x0, 1, 32, 8, .ro, 0, .num, 0, 255, .none, .all⟩
def HT_VER_MAJOR : Fld := ⟨0x1, 0x0, 1, 40, 8, .ro, 1, .num, 0, 255, .none, .all⟩
def HT_ENTRY_COUNT : Fld := ⟨0x1, 0x0, 1, 48, 16, .ro, 27, .num, 0, 65535, .none, .all⟩
def HT_ENTRY_SIZE : Fld := ⟨0x1, 0x8, 1, 0, 8, .ro, 32, .num, 0, 255, .none, .all⟩
def HT_STEPPING : Fld := ⟨0x1, 0x8, 1, 8, 8, .ro, 176, .num, 0, 255, .none, .all⟩
def HT_PART : Fld := ⟨0x1, 0x8, 1, 16, 16, .ro, 25664, .num, 0, 65535, .none, .all⟩
def HT_TABLE_BYTES : Fld := ⟨0x1, 0x8, 1, 32, 32, .ro, 896, .num, 0, 4294967295, .none, .all⟩
def HT_DEVICE_NUMBER : Fld := ⟨0x1, 0x10, 1, 0, 14, .ro, 0, .cfg, 0, 16383, .none, .all⟩
def HT_CFG_VALID : Fld := ⟨0x1, 0x10, 1, 14, 1, .ro, 0, .num, 0, 1, .none, .all⟩
def HT_GENERATION : Fld := ⟨0x1, 0x10, 1, 32, 32, .ro, 1, .num, 0, 4294967295, .none, .all⟩
def HT_CRC : Fld := ⟨0x1, 0x18, 1, 0, 32, .ro, 0, .num, 0, 4294967295, .none, .all⟩

-- Table 2.6
def BLK_ID_CLASS : Fld := ⟨0x0, 0x0, 1, 0, 16, .ro, 0, .fuse, 0, 65535, .none, .all⟩
def BLK_ID_UNIT : Fld := ⟨0x0, 0x0, 1, 16, 16, .ro, 0, .fuse, 0, 65535, .none, .all⟩
def BLK_ID_VER_MINOR : Fld := ⟨0x0, 0x0, 1, 32, 8, .ro, 0, .fuse, 0, 255, .none, .all⟩
def BLK_ID_VER_MAJOR : Fld := ⟨0x0, 0x0, 1, 40, 8, .ro, 0, .fuse, 0, 255, .none, .all⟩

-- Table 2.7
def BLK_XACC_OPEN : Fld := ⟨0x0, 0x8, 1, 0, 1, .rw, 0, .num, 0, 1, .none, .all⟩
def BLK_XACC_LOCK : Fld := ⟨0x0, 0x8, 1, 1, 1, .rwl, 0, .cfg, 0, 1, .own, .all⟩
def BLK_XACC_HOLDER : Fld := ⟨0x0, 0x8, 1, 2, 3, .ro, 0, .num, 0, 7, .none, .all⟩
def BLK_XACC_KEY : Fld := ⟨0x0, 0x8, 1, 8, 32, .wo, 0, .num, 0, 4294967295, .none, .all⟩

-- Table 3.1
def SEQ_STATE_STATE : Fld := ⟨0x70, 0x20, 1, 0, 3, .ro, 0, .num, 0, 7, .none, .all⟩
def SEQ_STATE_RING : Fld := ⟨0x70, 0x20, 1, 16, 12, .ro, 0, .num, 0, 4095, .none, .all⟩
def SEQ_STATE_TAG : Fld := ⟨0x70, 0x20, 1, 32, 16, .ro, 0, .num, 0, 65535, .none, .all⟩
def SEQ_STATE_LINK : Fld := ⟨0x70, 0x20, 1, 48, 16, .ro, 0, .num, 0, 65535, .none, .all⟩
def SEQ_LIB_BASE_ADDR : Fld := ⟨0x70, 0x30, 1, 6, 44, .rwl, 0, .cfg, 0, 17592186044415, .image, .unit0⟩
def SEQ_INSTALL_SLOT : Fld := ⟨0x70, 0x38, 1, 0, 12, .wo, 0, .num, 0, 4095, .none, .unit0⟩
def SEQ_INSTALL_GO : Fld := ⟨0x70, 0x38, 1, 12, 1, .wo, 0, .num, 0, 1, .none, .unit0⟩
def SEQ_INSTALL_STATUS : Fld := ⟨0x70, 0x38, 1, 32, 8, .ro, 0, .num, 0, 255, .none, .unit0⟩
def SEQ_INSTALL_BAD_LINK : Fld := ⟨0x70, 0x38, 1, 40, 16, .ro, 0, .num, 0, 65535, .none, .unit0⟩

-- Table 3.8
def RING_SQ_BASE_ADDR : Fld := ⟨0x71, 0x20, 1, 12, 38, .rwl, 0, .num, 0, 274877906943, .ring, .all⟩
def RING_CFG_EN : Fld := ⟨0x71, 0x28, 1, 0, 1, .rw, 0, .num, 0, 1, .none, .all⟩
def RING_CFG_LOG2 : Fld := ⟨0x71, 0x28, 1, 1, 4, .rwl, 4, .num, 4, 14, .ring, .all⟩
def RING_CFG_PRIO : Fld := ⟨0x71, 0x28, 1, 5, 2, .rw, 0, .num, 0, 3, .none, .all⟩
def RING_CFG_SERIAL : Fld := ⟨0x71, 0x28, 1, 7, 1, .rw, 0, .num, 0, 1, .none, .all⟩
def RING_CFG_PRIV : Fld := ⟨0x71, 0x28, 1, 8, 7, .rwl, 0, .num, 0, 127, .ring, .all⟩
def RING_CFG_LOCK : Fld := ⟨0x71, 0x28, 1, 16, 1, .rwl, 0, .num, 0, 1, .own, .all⟩
def RING_SQ_TAIL_IDX : Fld := ⟨0x71, 0x30, 1, 0, 16, .rw, 0, .num, 0, 65535, .none, .all⟩
def RING_SQ_HEAD_IDX : Fld := ⟨0x71, 0x38, 1, 0, 16, .ro, 0, .num, 0, 65535, .none, .all⟩
def RING_CQ_BASE_ADDR : Fld := ⟨0x71, 0x40, 1, 12, 38, .rwl, 0, .num, 0, 274877906943, .ring, .all⟩
def RING_CQ_HEAD_IDX : Fld := ⟨0x71, 0x48, 1, 0, 16, .rw, 0, .num, 0, 65535, .none, .all⟩
def RING_CQ_TAIL_IDX : Fld := ⟨0x71, 0x50, 1, 0, 16, .ro, 0, .num, 0, 65535, .none, .all⟩
def RING_CQ_TAIL_PHASE : Fld := ⟨0x71, 0x50, 1, 16, 1, .ro, 1, .num, 0, 1, .none, .all⟩
def RING_PROFILE_LEVEL : Fld := ⟨0x71, 0x58, 1, 0, 2, .rw, 2, .num, 1, 3, .none, .all⟩
def RING_PROFILE_ASYNC : Fld := ⟨0x71, 0x58, 1, 2, 1, .rw, 0, .num, 0, 1, .none, .all⟩
def RING_PROFILE_FALLBACK : Fld := ⟨0x71, 0x58, 1, 3, 2, .rw, 1, .num, 1, 2, .none, .all⟩
def RING_PROFILE_LIMIT : Fld := ⟨0x71, 0x58, 1, 5, 6, .rw, 24, .num, 10, 40, .none, .all⟩
def RING_ABORT_TAG : Fld := ⟨0x71, 0x60, 1, 0, 16, .wo, 0, .num, 0, 65535, .none, .all⟩
def RING_ABORT_GO : Fld := ⟨0x71, 0x60, 1, 16, 1, .wo, 0, .num, 0, 1, .none, .all⟩
def RING_ABORT_RES_STATUS : Fld := ⟨0x71, 0x68, 1, 0, 8, .ro, 0, .num, 0, 255, .none, .all⟩
def RING_ABORT_RES_TAG : Fld := ⟨0x71, 0x68, 1, 8, 16, .ro, 0, .num, 0, 65535, .none, .all⟩
def RING_STAT_RUNNING : Fld := ⟨0x71, 0x70, 1, 0, 16, .ro, 0, .num, 0, 65535, .none, .all⟩
def RING_STAT_QUEUED : Fld := ⟨0x71, 0x70, 1, 16, 16, .ro, 0, .num, 0, 65535, .none, .all⟩
def RING_STAT_CQ_WAIT : Fld := ⟨0x71, 0x70, 1, 32, 1, .ro, 0, .num, 0, 1, .none, .all⟩

-- Table 4.7
def LANE_CTL_EN : Fld := ⟨0x10, 0x20, 1, 0, 1, .rw, 0, .cfg, 0, 1, .none, .all⟩
def LANE_CTL_PRBS : Fld := ⟨0x10, 0x20, 1, 1, 2, .rw, 0, .num, 0, 3, .none, .all⟩
def LANE_CTL_TX_POL : Fld := ⟨0x10, 0x20, 1, 3, 1, .rw, 0, .cfg, 0, 1, .none, .all⟩
def LANE_CTL_RX_POL : Fld := ⟨0x10, 0x20, 1, 4, 1, .rw, 0, .cfg, 0, 1, .none, .all⟩
def LANE_STAT_STATE : Fld := ⟨0x10, 0x28, 1, 0, 3, .ro, 0, .num, 0, 7, .none, .all⟩
def LANE_STAT_SIGNAL : Fld := ⟨0x10, 0x28, 1, 3, 1, .ro, 0, .num, 0, 1, .none, .all⟩
def LANE_STAT_LOCK : Fld := ⟨0x10, 0x28, 1, 4, 1, .ro, 0, .num, 0, 1, .none, .all⟩
def LANE_STAT_DEGRADED : Fld := ⟨0x10, 0x28, 1, 5, 1, .ro, 0, .num, 0, 1, .none, .all⟩
def LANE_QUAL_SNR : Fld := ⟨0x10, 0x30, 1, 0, 10, .ro, 0, .num, 0, 1023, .none, .all⟩
def LANE_QUAL_EYE_W : Fld := ⟨0x10, 0x30, 1, 10, 6, .ro, 0, .num, 0, 63, .none, .all⟩
def LANE_QUAL_EYE_H : Fld := ⟨0x10, 0x30, 1, 16, 8, .ro, 0, .num, 0, 255, .none, .all⟩
def LANE_QUAL_BER_E : Fld := ⟨0x10, 0x30, 1, 24, 8, .ro, 0, .num, 0, 255, .none, .all⟩
def LANE_QUAL_SRC : Fld := ⟨0x10, 0x30, 1, 32, 1, .ro, 0, .num, 0, 1, .none, .all⟩
def LANE_QUAL_SAMPLE : Fld := ⟨0x10, 0x30, 1, 40, 24, .ro, 0, .num, 0, 16777215, .none, .all⟩
def LANE_CALSTAT_VISITS : Fld := ⟨0x10, 0x38, 1, 0, 16, .ro, 0, .num, 0, 65535, .none, .all⟩
def LANE_CALSTAT_SKIPS : Fld := ⟨0x10, 0x38, 1, 16, 16, .ro, 0, .num, 0, 65535, .none, .all⟩
def LANE_CALSTAT_HOLDS : Fld := ⟨0x10, 0x38, 1, 32, 16, .ro, 0, .num, 0, 65535, .none, .all⟩
def LANE_THR_WARN : Fld := ⟨0x10, 0x40, 1, 0, 10, .rw, 190, .cfg, 0, 1023, .none, .all⟩
def LANE_THR_FAIL : Fld := ⟨0x10, 0x40, 1, 10, 10, .rw, 165, .cfg, 0, 1023, .none, .all⟩

-- Table 4.8
def LCAL_CTL_AUTO : Fld := ⟨0x10, 0x800, 1, 0, 1, .rw, 1, .num, 0, 1, .none, .quad⟩
def LCAL_CTL_INTERVAL : Fld := ⟨0x10, 0x800, 1, 1, 3, .rw, 0, .num, 0, 6, .none, .quad⟩
def LCAL_CTL_ORDER : Fld := ⟨0x10, 0x800, 1, 4, 1, .rw, 0, .num, 0, 1, .none, .quad⟩
def LCAL_SHADOW_CONV_MAX : Fld := ⟨0x10, 0x808, 1, 0, 9, .rw, 300, .num, 100, 400, .none, .quad⟩
def LCAL_SHADOW_MATCH : Fld := ⟨0x10, 0x808, 1, 16, 8, .rw, 5, .num, 0, 255, .none, .quad⟩
def LCAL_SHADOW_DISAGREE : Fld := ⟨0x10, 0x808, 1, 24, 8, .rw, 16, .num, 0, 255, .none, .quad⟩
def LCAL_SHADOW_MAX_HOLD : Fld := ⟨0x10, 0x808, 1, 32, 8, .rw, 8, .num, 2, 255, .none, .quad⟩
def LCAL_STEPS_OFFSET : Fld := ⟨0x10, 0x810, 1, 0, 1, .rw, 1, .num, 0, 1, .none, .quad⟩
def LCAL_STEPS_GAIN : Fld := ⟨0x10, 0x810, 1, 1, 1, .rw, 1, .num, 0, 1, .none, .quad⟩
def LCAL_STEPS_SKEW : Fld := ⟨0x10, 0x810, 1, 2, 1, .rw, 1, .num, 0, 1, .none, .quad⟩
def LCAL_STEPS_CTLE : Fld := ⟨0x10, 0x810, 1, 3, 1, .rw, 1, .num, 0, 1, .none, .quad⟩
def LCAL_STEPS_FFE : Fld := ⟨0x10, 0x810, 1, 4, 1, .rw, 1, .num, 0, 1, .none, .quad⟩
def LCAL_STEPS_DFE : Fld := ⟨0x10, 0x810, 1, 5, 1, .rw, 1, .num, 0, 1, .none, .quad⟩
def LCAL_STEPS_BUDGET : Fld := ⟨0x10, 0x810, 1, 8, 9, .rw, 400, .num, 100, 500, .none, .quad⟩
def LCAL_STAT_LANE : Fld := ⟨0x10, 0x818, 1, 0, 2, .ro, 0, .num, 0, 3, .none, .quad⟩
def LCAL_STAT_SHADOWING : Fld := ⟨0x10, 0x818, 1, 2, 1, .ro, 0, .num, 0, 1, .none, .quad⟩
def LCAL_STAT_ACTIVE : Fld := ⟨0x10, 0x818, 1, 3, 1, .ro, 0, .num, 0, 1, .none, .quad⟩
def LCAL_STAT_BOUNDARY : Fld := ⟨0x10, 0x818, 1, 24, 40, .ro, 0, .num, 0, 1099511627775, .none, .quad⟩

-- Table 4.9
def PORT_CFG_MODE : Fld := ⟨0x11, 0x20, 1, 0, 2, .ro, 0, .cfg, 0, 3, .none, .all⟩
def PORT_CFG_EN : Fld := ⟨0x11, 0x20, 1, 2, 1, .rw, 0, .cfg, 0, 1, .none, .all⟩
def PORT_CFG_AN : Fld := ⟨0x11, 0x20, 1, 3, 1, .rw, 0, .cfg, 0, 1, .none, .all⟩
def PORT_CFG_VLAN_EN : Fld := ⟨0x11, 0x20, 1, 4, 1, .rw, 0, .cfg, 0, 1, .none, .all⟩
def PORT_CFG_VLAN_ID : Fld := ⟨0x11, 0x20, 1, 16, 12, .rw, 1, .cfg, 1, 4094, .none, .all⟩
def PORT_CFG_VLAN_PCP : Fld := ⟨0x11, 0x20, 1, 28, 3, .rw, 0, .cfg, 0, 7, .none, .all⟩
def PORT_CFG_MTU : Fld := ⟨0x11, 0x20, 1, 32, 14, .rw, 1518, .cfg, 1518, 9216, .none, .all⟩
def PORT_STAT_STATE : Fld := ⟨0x11, 0x28, 1, 0, 2, .ro, 0, .num, 0, 3, .none, .all⟩
def PORT_STAT_PLANE : Fld := ⟨0x11, 0x28, 1, 2, 1, .ro, 0, .fuse, 0, 1, .none, .all⟩
def PORT_STAT_IN_SET : Fld := ⟨0x11, 0x28, 1, 3, 1, .ro, 0, .num, 0, 1, .none, .all⟩
def PORT_STAT_LAST_CAUSE : Fld := ⟨0x11, 0x28, 1, 8, 8, .ro, 0, .num, 0, 255, .none, .all⟩
def PORT_STAT_UP_SINCE : Fld := ⟨0x11, 0x28, 1, 24, 40, .ro, 0, .num, 0, 1099511627775, .none, .all⟩
def PORT_MAC_ADDR : Fld := ⟨0x11, 0x30, 1, 0, 48, .rwl, 0, .cfg, 0, 281474976710655, .image, .all⟩
def PORT_NH_ADDR : Fld := ⟨0x11, 0x38, 1, 0, 48, .rwl, 0, .cfg, 0, 281474976710655, .image, .all⟩
def PORT_DSCP_HOST : Fld := ⟨0x11, 0x40, 1, 0, 6, .rw, 0, .cfg, 0, 63, .none, .all⟩
def PORT_DSCP_TWIN : Fld := ⟨0x11, 0x40, 1, 8, 6, .rw, 0, .cfg, 0, 63, .none, .all⟩
def PORT_DSCP_CTRL : Fld := ⟨0x11, 0x40, 1, 16, 6, .rw, 0, .cfg, 0, 63, .none, .all⟩
def PORT_DSCP_ECT : Fld := ⟨0x11, 0x40, 1, 24, 1, .rw, 0, .cfg, 0, 1, .none, .all⟩
def PLANE_IP6_HI : Fld := ⟨0x11, 0x48, 1, 0, 64, .rwl, 0, .cfg, 0, 18446744073709551615, .image, .plane⟩
def PLANE_IP6_LO : Fld := ⟨0x11, 0x50, 1, 0, 64, .rwl, 0, .cfg, 0, 18446744073709551615, .image, .plane⟩
def PLANE_IP4_ADDR : Fld := ⟨0x11, 0x58, 1, 0, 32, .rwl, 0, .cfg, 0, 4294967295, .image, .plane⟩
def PLANE_IP4_HOP : Fld := ⟨0x11, 0x58, 1, 32, 8, .rw, 0, .cfg, 0, 255, .none, .plane⟩

-- Table 5.10
def TR_CFG_UDP_PORT : Fld := ⟨0x20, 0x20, 1, 0, 16, .rwl, 19785, .cfg, 0, 65535, .image, .all⟩
def TR_CFG_EN : Fld := ⟨0x20, 0x20, 1, 16, 1, .rw, 0, .cfg, 0, 1, .none, .all⟩
def TR_CTX_BASE_ADDR : Fld := ⟨0x20, 0x28, 1, 28, 22, .rwl, 0, .cfg, 0, 4194303, .image, .all⟩
def TR_ACK_COALESCE : Fld := ⟨0x20, 0x30, 1, 0, 7, .rw, 16, .num, 1, 64, .none, .all⟩
def TR_ACK_DELAY : Fld := ⟨0x20, 0x30, 1, 16, 8, .rw, 20, .num, 1, 200, .none, .all⟩
def TR_TIMER_CREDIT : Fld := ⟨0x20, 0x38, 1, 0, 10, .rw, 10, .num, 1, 1000, .none, .all⟩
def TR_TIMER_HOLD : Fld := ⟨0x20, 0x38, 1, 16, 10, .rw, 1000, .num, 100, 1000, .none, .all⟩
def TR_QP_CMD_OP : Fld := ⟨0x20, 0x40, 1, 0, 3, .wo, 0, .num, 0, 7, .none, .all⟩
def TR_QP_CMD_GO : Fld := ⟨0x20, 0x40, 1, 3, 1, .wo, 0, .num, 0, 1, .none, .all⟩
def TR_QP_CMD_QPN : Fld := ⟨0x20, 0x40, 1, 4, 20, .wo, 0, .num, 0, 1048575, .none, .all⟩
def TR_QP_CMD_QUARTER : Fld := ⟨0x20, 0x40, 1, 24, 2, .wo, 0, .num, 0, 3, .none, .all⟩
def TR_QP_RES_STATUS : Fld := ⟨0x20, 0x48, 1, 0, 8, .ro, 0, .num, 0, 255, .none, .all⟩
def TR_QP_RES_QPN : Fld := ⟨0x20, 0x48, 1, 8, 20, .ro, 0, .num, 0, 1048575, .none, .all⟩
def TR_QP_DATA : Fld := ⟨0x20, 0x50, 8, 0, 64, .rw, 0, .num, 0, 18446744073709551615, .none, .all⟩
def TR_PARK_PKTS : Fld := ⟨0x20, 0x90, 1, 0, 10, .ro, 0, .num, 0, 1023, .none, .all⟩
def TR_PARK_KIB : Fld := ⟨0x20, 0x90, 1, 16, 12, .ro, 0, .num, 0, 4095, .none, .all⟩
def TR_PARK_DROPS : Fld := ⟨0x20, 0x90, 1, 32, 32, .ro, 0, .num, 0, 4294967295, .none, .all⟩
def TR_CACHE_CACHED : Fld := ⟨0x20, 0x98, 1, 0, 15, .ro, 0, .num, 0, 32767, .none, .all⟩
def TR_CACHE_PINNED : Fld := ⟨0x20, 0x98, 1, 16, 11, .ro, 0, .num, 0, 2047, .none, .all⟩
def TR_CACHE_MISSES : Fld := ⟨0x20, 0x98, 1, 32, 32, .ro, 0, .num, 0, 4294967295, .none, .all⟩

-- Table 6.7
def WIN_TABLE_BASE_ADDR : Fld := ⟨0x30, 0x20, 1, 26, 24, .rwl, 0, .cfg, 0, 16777215, .image, .all⟩
def WIN_CMD_OP : Fld := ⟨0x30, 0x28, 1, 0, 3, .wo, 0, .num, 0, 7, .none, .all⟩
def WIN_CMD_GO : Fld := ⟨0x30, 0x28, 1, 3, 1, .wo, 0, .num, 0, 1, .none, .all⟩
def WIN_CMD_KEY : Fld := ⟨0x30, 0x28, 1, 32, 32, .wo, 0, .num, 0, 4294967295, .none, .all⟩
def WIN_RES_STATUS : Fld := ⟨0x30, 0x30, 1, 0, 8, .ro, 0, .num, 0, 255, .none, .all⟩
def WIN_RES_KEY : Fld := ⟨0x30, 0x30, 1, 32, 32, .ro, 0, .num, 0, 4294967295, .none, .all⟩
def WIN_DATA : Fld := ⟨0x30, 0x38, 8, 0, 64, .rw, 0, .num, 0, 18446744073709551615, .none, .all⟩
def WIN_STAT_OPEN : Fld := ⟨0x30, 0x78, 1, 0, 21, .ro, 0, .num, 0, 2097151, .none, .all⟩
def WIN_STAT_CACHED : Fld := ⟨0x30, 0x78, 1, 32, 17, .ro, 0, .num, 0, 131071, .none, .all⟩

-- Table 7.6
def PIPE_STAT_HELD : Fld := ⟨0x40, 0x20, 1, 0, 16, .ro, 0, .num, 0, 65535, .none, .all⟩
def PIPE_STAT_SB_OPEN : Fld := ⟨0x40, 0x20, 1, 16, 9, .ro, 0, .num, 0, 511, .none, .all⟩
def PIPE_STAMP_EPOCH : Fld := ⟨0x40, 0x28, 1, 0, 40, .ro, 0, .num, 0, 1099511627775, .none, .all⟩
def PIPE_SEAL_SEALED : Fld := ⟨0x40, 0x30, 1, 0, 40, .ro, 0, .num, 0, 1099511627775, .none, .unit0⟩
def PIPE_SEAL_UNSURE : Fld := ⟨0x40, 0x30, 1, 40, 1, .ro, 0, .num, 0, 1, .none, .unit0⟩
def PIPE_SEAL_SINGLE : Fld := ⟨0x40, 0x30, 1, 41, 1, .ro, 0, .num, 0, 1, .none, .unit0⟩
def PIPE_OPEN_OLDEST : Fld := ⟨0x40, 0x38, 1, 0, 40, .ro, 0, .num, 0, 1099511627775, .none, .unit0⟩
def PIPE_OPEN_EMPTY : Fld := ⟨0x40, 0x38, 1, 40, 1, .ro, 1, .num, 0, 1, .none, .unit0⟩
def PIPE_PEND_WRITES : Fld := ⟨0x40, 0x40, 1, 0, 32, .ro, 0, .num, 0, 4294967295, .none, .unit0⟩
def SB_CFG_WINDOW : Fld := ⟨0x41, 0x20, 1, 0, 8, .rw, 64, .cfg, 0, 150, .none, .all⟩
def SB_STAT_OPEN : Fld := ⟨0x41, 0x28, 1, 0, 12, .ro, 0, .num, 0, 4095, .none, .all⟩
def SB_STAT_CLOSING : Fld := ⟨0x41, 0x28, 1, 12, 12, .ro, 0, .num, 0, 4095, .none, .all⟩
def LK_CTL_EN : Fld := ⟨0x42, 0x20, 1, 0, 1, .rw, 0, .cfg, 0, 1, .none, .all⟩
def LK_CFG_COALESCE : Fld := ⟨0x42, 0x28, 1, 0, 7, .rw, 50, .cfg, 0, 100, .none, .all⟩
def LK_CFG_STREAM : Fld := ⟨0x42, 0x28, 1, 8, 1, .rw, 1, .cfg, 0, 1, .none, .all⟩
def LK_STAT_STATE : Fld := ⟨0x42, 0x30, 1, 0, 2, .ro, 0, .num, 0, 3, .none, .all⟩
def LK_STAT_DIRTY : Fld := ⟨0x42, 0x30, 1, 8, 6, .ro, 0, .num, 0, 63, .none, .all⟩
def LK_STAT_VICTIMS : Fld := ⟨0x42, 0x30, 1, 16, 4, .ro, 0, .num, 0, 15, .none, .all⟩

-- Table 8.4
def MC_STAT_STATE : Fld := ⟨0x50, 0x20, 1, 0, 3, .ro, 0, .num, 0, 7, .none, .all⟩
def MC_STAT_RETAINED : Fld := ⟨0x50, 0x20, 1, 3, 1, .ro, 0, .num, 0, 1, .none, .all⟩
def MC_STAT_POP_ERR : Fld := ⟨0x50, 0x20, 1, 4, 4, .ro, 0, .num, 0, 15, .none, .all⟩
def MC_STAT_TYPE : Fld := ⟨0x50, 0x20, 1, 8, 2, .ro, 0, .num, 0, 3, .none, .all⟩
def MC_STAT_DPC : Fld := ⟨0x50, 0x20, 1, 10, 2, .ro, 0, .num, 0, 3, .none, .all⟩
def MC_STAT_RANKS : Fld := ⟨0x50, 0x20, 1, 12, 2, .ro, 0, .num, 0, 3, .none, .all⟩
def MC_STAT_MTS : Fld := ⟨0x50, 0x20, 1, 16, 16, .ro, 0, .num, 0, 65535, .none, .all⟩
def MC_STAT_GIB : Fld := ⟨0x50, 0x20, 1, 32, 10, .ro, 0, .num, 0, 1023, .none, .all⟩
def MC_LIMIT_MTS : Fld := ⟨0x50, 0x28, 1, 0, 16, .rwl, 0, .cfg, 0, 65535, .image, .all⟩
def MC_TEMP_HOT : Fld := ⟨0x50, 0x30, 1, 0, 8, .ro, 0, .num, 0, 255, .none, .all⟩
def MC_TEMP_THROTTLE : Fld := ⟨0x50, 0x30, 1, 8, 8, .rw, 90, .cfg, 0, 255, .none, .all⟩
def MC_TEMP_CRIT : Fld := ⟨0x50, 0x30, 1, 16, 8, .rw, 95, .cfg, 0, 255, .none, .all⟩
def MC_TEMP_DOUBLE : Fld := ⟨0x50, 0x30, 1, 24, 1, .ro, 0, .num, 0, 1, .none, .all⟩
def MC_TEMP_THROTTLING : Fld := ⟨0x50, 0x30, 1, 25, 1, .ro, 0, .num, 0, 1, .none, .all⟩
def MC_RETRAIN_INTERVAL : Fld := ⟨0x50, 0x38, 1, 0, 3, .rw, 1, .cfg, 0, 4, .none, .all⟩
def MC_RETRAIN_NEXT : Fld := ⟨0x50, 0x38, 1, 24, 40, .ro, 0, .num, 0, 1099511627775, .none, .all⟩
def MC_PANIC_FAB : Fld := ⟨0x50, 0x40, 1, 0, 2, .ro, 0, .num, 0, 3, .none, .all⟩
def MC_PANIC_TWIN : Fld := ⟨0x50, 0x40, 1, 2, 2, .ro, 0, .num, 0, 3, .none, .all⟩
def MC_PANIC_VAULT : Fld := ⟨0x50, 0x40, 1, 4, 2, .ro, 0, .num, 0, 3, .none, .all⟩
def MC_PANIC_FACET : Fld := ⟨0x50, 0x40, 1, 6, 2, .ro, 0, .num, 0, 3, .none, .all⟩
def MC_QUEUE_READS : Fld := ⟨0x50, 0x48, 1, 0, 8, .ro, 0, .num, 0, 255, .none, .all⟩
def MC_QUEUE_WRITES : Fld := ⟨0x50, 0x48, 1, 8, 8, .ro, 0, .num, 0, 255, .none, .all⟩
def MC_MAP_LAYOUT : Fld := ⟨0x50, 0x50, 1, 0, 64, .ro, 0, .num, 0, 18446744073709551615, .none, .all⟩

-- Table 8.5
def MCX_SCHED_ROTATE : Fld := ⟨0x50, 0x8020, 1, 0, 1, .rw, 1, .num, 0, 1, .none, .all⟩
def MCX_SCHED_HIT_CAP : Fld := ⟨0x50, 0x8020, 1, 1, 5, .rw, 8, .num, 1, 31, .none, .all⟩
def MCX_SCHED_WQ_HI : Fld := ⟨0x50, 0x8020, 1, 8, 6, .rw, 48, .num, 2, 63, .none, .all⟩
def MCX_SCHED_WQ_LO : Fld := ⟨0x50, 0x8020, 1, 16, 6, .rw, 16, .num, 0, 61, .none, .all⟩
def MCX_SCHED_AGE_MAX : Fld := ⟨0x50, 0x8020, 1, 24, 8, .rw, 50, .num, 10, 255, .none, .all⟩
def MCX_PCP_THRESH : Fld := ⟨0x50, 0x8028, 1, 0, 2, .rw, 2, .num, 1, 3, .none, .all⟩
def MCX_PCP_IDLE : Fld := ⟨0x50, 0x8028, 1, 8, 8, .rw, 40, .num, 8, 255, .none, .all⟩
def MCX_PCP_FORCE_OPEN : Fld := ⟨0x50, 0x8028, 1, 16, 1, .rw, 0, .num, 0, 1, .none, .all⟩
def MCX_PCP_FORCE_CLOSE : Fld := ⟨0x50, 0x8028, 1, 17, 1, .rw, 0, .num, 0, 1, .none, .all⟩
def MCX_PANIC_L1_FAB : Fld := ⟨0x50, 0x8030, 1, 0, 4, .rw, 8, .num, 0, 15, .none, .all⟩
def MCX_PANIC_L1_TWIN : Fld := ⟨0x50, 0x8030, 1, 16, 4, .rw, 8, .num, 0, 15, .none, .all⟩
def MCX_PANIC_L1_VAULT : Fld := ⟨0x50, 0x8030, 1, 32, 4, .rw, 8, .num, 0, 15, .none, .all⟩
def MCX_PANIC_L1_FACET : Fld := ⟨0x50, 0x8030, 1, 48, 4, .rw, 8, .num, 0, 15, .none, .all⟩
def MCX_PANIC_L2_FAB : Fld := ⟨0x50, 0x8030, 1, 4, 4, .rw, 11, .num, 0, 15, .none, .all⟩
def MCX_PANIC_L2_TWIN : Fld := ⟨0x50, 0x8030, 1, 20, 4, .rw, 11, .num, 0, 15, .none, .all⟩
def MCX_PANIC_L2_VAULT : Fld := ⟨0x50, 0x8030, 1, 36, 4, .rw, 11, .num, 0, 15, .none, .all⟩
def MCX_PANIC_L2_FACET : Fld := ⟨0x50, 0x8030, 1, 52, 4, .rw, 11, .num, 0, 15, .none, .all⟩
def MCX_PANIC_L3_FAB : Fld := ⟨0x50, 0x8030, 1, 8, 4, .rw, 14, .num, 0, 15, .none, .all⟩
def MCX_PANIC_L3_TWIN : Fld := ⟨0x50, 0x8030, 1, 24, 4, .rw, 14, .num, 0, 15, .none, .all⟩
def MCX_PANIC_L3_VAULT : Fld := ⟨0x50, 0x8030, 1, 40, 4, .rw, 14, .num, 0, 15, .none, .all⟩
def MCX_PANIC_L3_FACET : Fld := ⟨0x50, 0x8030, 1, 56, 4, .rw, 14, .num, 0, 15, .none, .all⟩
def MCX_REF_MODE : Fld := ⟨0x50, 0x8038, 1, 0, 1, .rw, 0, .num, 0, 1, .none, .all⟩
def MCX_REF_POSTPONE : Fld := ⟨0x50, 0x8038, 1, 1, 3, .rw, 4, .num, 0, 4, .none, .all⟩
def MCX_RETRAIN_DRIFT : Fld := ⟨0x50, 0x8040, 1, 0, 8, .rw, 8, .num, 0, 255, .none, .all⟩

-- Table 9.6
def BZ_SCRUB_EN : Fld := ⟨0x51, 0x20, 1, 0, 1, .rw, 0, .cfg, 0, 1, .none, .all⟩
def BZ_SCRUB_WIN_K : Fld := ⟨0x51, 0x20, 1, 1, 3, .rw, 0, .cfg, 0, 7, .none, .all⟩
def BZ_SCRUB_WIN_DUTY : Fld := ⟨0x51, 0x20, 1, 4, 5, .rw, 16, .cfg, 1, 16, .none, .all⟩
def BZ_SCRUB_LAP_MAX : Fld := ⟨0x51, 0x20, 1, 16, 8, .rw, 24, .cfg, 1, 255, .none, .all⟩
def BZ_SCRUB_LATE : Fld := ⟨0x51, 0x20, 1, 24, 1, .ro, 0, .num, 0, 1, .none, .all⟩
def BZ_SCRUB_RUNNING : Fld := ⟨0x51, 0x20, 1, 25, 1, .ro, 0, .num, 0, 1, .none, .all⟩
def BZ_LAP_LAST : Fld := ⟨0x51, 0x28, 1, 0, 24, .ro, 0, .num, 0, 16777215, .none, .all⟩
def BZ_LAP_CUR : Fld := ⟨0x51, 0x28, 1, 24, 40, .ro, 0, .num, 0, 1099511627775, .none, .all⟩
def BZ_SPARE_FREE : Fld := ⟨0x51, 0x30, 1, 0, 24, .ro, 0, .num, 0, 16777215, .none, .all⟩
def BZ_SPARE_PAGES : Fld := ⟨0x51, 0x30, 1, 24, 15, .ro, 0, .num, 0, 32767, .none, .all⟩
def BZ_SPARE_BANKS : Fld := ⟨0x51, 0x30, 1, 39, 5, .ro, 0, .num, 0, 31, .none, .all⟩
def BZ_RETIRE_OP : Fld := ⟨0x51, 0x38, 1, 0, 2, .wo, 0, .num, 0, 3, .none, .all⟩
def BZ_RETIRE_GO : Fld := ⟨0x51, 0x38, 1, 2, 1, .wo, 0, .num, 0, 1, .none, .all⟩
def BZ_RETIRE_OFFSET : Fld := ⟨0x51, 0x38, 1, 6, 44, .wo, 0, .num, 0, 17592186044415, .none, .all⟩
def BZ_RETIRE_RES_STATUS : Fld := ⟨0x51, 0x40, 1, 0, 8, .ro, 0, .num, 0, 255, .none, .all⟩
def BZ_RETIRE_RES_MOVED : Fld := ⟨0x51, 0x40, 1, 8, 40, .ro, 0, .num, 0, 1099511627775, .none, .all⟩
def BZ_MARK_SEL_INDEX : Fld := ⟨0x51, 0x48, 1, 0, 7, .rw, 0, .num, 0, 127, .none, .all⟩
def BZ_MARK_DEVICE : Fld := ⟨0x51, 0x50, 1, 0, 4, .rw, 0, .num, 0, 9, .none, .all⟩
def BZ_MARK_VALID : Fld := ⟨0x51, 0x50, 1, 4, 1, .rw, 0, .num, 0, 1, .none, .all⟩
def BZ_MARK_LINES : Fld := ⟨0x51, 0x50, 1, 16, 16, .ro, 0, .num, 0, 65535, .none, .all⟩
def BZ_LAST_KIND : Fld := ⟨0x51, 0x58, 1, 0, 3, .ro, 0, .num, 0, 7, .none, .all⟩
def BZ_LAST_OFFSET : Fld := ⟨0x51, 0x58, 1, 6, 44, .ro, 0, .num, 0, 17592186044415, .none, .all⟩
def BZ_LAST_DEVICE : Fld := ⟨0x51, 0x58, 1, 50, 4, .ro, 0, .num, 0, 15, .none, .all⟩
def BZ_STAT_POISONED : Fld := ⟨0x51, 0x60, 1, 0, 40, .ro, 0, .num, 0, 1099511627775, .none, .all⟩

-- Table 9.7
def BZX_MARK_AUTO : Fld := ⟨0x51, 0x8020, 1, 0, 1, .rw, 1, .num, 0, 1, .none, .all⟩
def BZX_MARK_LINES : Fld := ⟨0x51, 0x8020, 1, 8, 8, .rw, 16, .num, 2, 255, .none, .all⟩
def BZX_MARK_WINDOW : Fld := ⟨0x51, 0x8020, 1, 32, 16, .rw, 3600, .num, 1, 65535, .none, .all⟩
def BZX_INJ_MODE : Fld := ⟨0x51, 0x8028, 1, 0, 2, .rw, 0, .num, 0, 3, .none, .all⟩
def BZX_INJ_DEVICE : Fld := ⟨0x51, 0x8028, 1, 2, 4, .rw, 0, .num, 0, 9, .none, .all⟩
def BZX_INJ_OFFSET : Fld := ⟨0x51, 0x8028, 1, 6, 44, .rw, 0, .num, 0, 17592186044415, .none, .all⟩
def BZX_INJ_DEVICE2 : Fld := ⟨0x51, 0x8028, 1, 50, 4, .rw, 0, .num, 0, 9, .none, .all⟩
def BZX_INJ_ARM : Fld := ⟨0x51, 0x8028, 1, 56, 1, .rw, 0, .num, 0, 1, .none, .all⟩
def BZX_INJ_NOW : Fld := ⟨0x51, 0x8028, 1, 57, 1, .wo, 0, .num, 0, 1, .none, .all⟩
def BZX_INJ_X8 : Fld := ⟨0x51, 0x8030, 1, 0, 64, .rw, 0, .num, 0, 18446744073709551615, .none, .all⟩
def BZX_INJ_X9 : Fld := ⟨0x51, 0x8038, 1, 0, 64, .rw, 0, .num, 0, 18446744073709551615, .none, .all⟩
def BZX_TEST_BASE : Fld := ⟨0x51, 0x8040, 1, 12, 38, .rwl, 0, .cfg, 0, 274877906943, .image, .all⟩
def BZX_TEST_SIZE : Fld := ⟨0x51, 0x8048, 1, 12, 38, .rwl, 0, .cfg, 0, 274877906943, .image, .all⟩

-- Table 10.10
def VLT_CFG_EN : Fld := ⟨0x60, 0x20, 1, 0, 1, .rw, 0, .cfg, 0, 1, .none, .all⟩
def VLT_CFG_MODE : Fld := ⟨0x60, 0x20, 1, 1, 1, .ro, 0, .cfg, 0, 1, .none, .all⟩
def VLT_CFG_CUT_EN : Fld := ⟨0x60, 0x20, 1, 2, 1, .rwl, 0, .cfg, 0, 1, .image, .all⟩
def VLT_CFG_AWAIT : Fld := ⟨0x60, 0x20, 1, 3, 1, .rwl, 0, .cfg, 0, 1, .image, .all⟩
def VLT_CFG_RETAIN : Fld := ⟨0x60, 0x20, 1, 16, 13, .rwl, 16, .cfg, 16, 4096, .image, .all⟩
def VLT_BUDGET_LIMIT : Fld := ⟨0x60, 0x28, 1, 0, 7, .rw, 1, .cfg, 1, 127, .none, .all⟩
def VLT_BUDGET_EFFECTIVE : Fld := ⟨0x60, 0x28, 1, 8, 7, .ro, 0, .num, 0, 127, .none, .all⟩
def VLT_BUDGET_SIGNED_MAX : Fld := ⟨0x60, 0x28, 1, 16, 7, .ro, 1, .cfg, 1, 64, .none, .all⟩
def VLT_BUDGET_STATUS : Fld := ⟨0x60, 0x28, 1, 24, 8, .ro, 0, .num, 0, 255, .none, .all⟩
def VLT_DIRTY_GRANULES : Fld := ⟨0x60, 0x30, 1, 0, 32, .ro, 0, .num, 0, 4294967295, .none, .all⟩
def VLT_DIRTY_DRAIN_SET : Fld := ⟨0x60, 0x30, 1, 32, 32, .ro, 0, .num, 0, 4294967295, .none, .all⟩
def VLT_HOLDUP_E_HOLD : Fld := ⟨0x60, 0x38, 1, 0, 16, .ro, 0, .cfg, 0, 65535, .none, .all⟩
def VLT_HOLDUP_P_DRAIN : Fld := ⟨0x60, 0x38, 1, 16, 16, .ro, 0, .cfg, 0, 65535, .none, .all⟩
def VLT_HOLDUP_RATE : Fld := ⟨0x60, 0x38, 1, 32, 16, .ro, 0, .num, 0, 65535, .none, .all⟩
def VLT_HOLDUP_COVER : Fld := ⟨0x60, 0x38, 1, 48, 7, .ro, 0, .num, 0, 127, .none, .all⟩
def VLT_HOLDUP_HOLDUP_OK : Fld := ⟨0x60, 0x38, 1, 55, 1, .ro, 0, .num, 0, 1, .none, .all⟩
def VLT_STAT_STATE : Fld := ⟨0x60, 0x40, 1, 0, 4, .ro, 0, .num, 0, 15, .none, .all⟩
def VLT_STAT_THROTTLING : Fld := ⟨0x60, 0x40, 1, 4, 1, .ro, 0, .num, 0, 1, .none, .all⟩
def VLT_STAT_REVERTING : Fld := ⟨0x60, 0x40, 1, 5, 1, .ro, 0, .num, 0, 1, .none, .all⟩
def VLT_STAT_DEGRADED : Fld := ⟨0x60, 0x40, 1, 6, 1, .ro, 0, .num, 0, 1, .none, .all⟩
def VLT_STAT_LOSS : Fld := ⟨0x60, 0x40, 1, 7, 1, .ro, 0, .num, 0, 1, .none, .all⟩
def VLT_STAT_DRIVES : Fld := ⟨0x60, 0x40, 1, 8, 8, .ro, 0, .num, 0, 255, .none, .all⟩
def VLT_VAULTED_EPOCH : Fld := ⟨0x60, 0x48, 1, 0, 40, .ro, 0, .num, 0, 1099511627775, .none, .all⟩
def VLT_RESTORE_TARGET_KIND : Fld := ⟨0x60, 0x50, 1, 0, 2, .rw, 0, .cfg, 0, 2, .none, .all⟩
def VLT_RESTORE_GO : Fld := ⟨0x60, 0x50, 1, 2, 1, .wo, 0, .num, 0, 1, .none, .all⟩
def VLT_RESTORE_EPOCH : Fld := ⟨0x60, 0x50, 1, 24, 40, .rw, 0, .num, 0, 1099511627775, .none, .all⟩
def VLT_RESTORE_RES_STATUS : Fld := ⟨0x60, 0x58, 1, 0, 8, .ro, 0, .num, 0, 255, .none, .all⟩
def VLT_CUTINFO_FLOOR : Fld := ⟨0x60, 0x60, 1, 0, 40, .ro, 0, .num, 0, 1099511627775, .none, .all⟩
def VLT_CUTINFO_LAST : Fld := ⟨0x60, 0x68, 1, 0, 40, .ro, 0, .num, 0, 1099511627775, .none, .all⟩
def VLT_CUTINFO_SEALED : Fld := ⟨0x60, 0x70, 1, 0, 40, .ro, 0, .num, 0, 1099511627775, .none, .all⟩
def VLT_FILL_FILLED : Fld := ⟨0x60, 0x78, 1, 0, 32, .ro, 0, .num, 0, 4294967295, .none, .all⟩
def VLT_FILL_TOTAL : Fld := ⟨0x60, 0x78, 1, 32, 32, .ro, 0, .num, 0, 4294967295, .none, .all⟩
def VLT_SPACE_FREE : Fld := ⟨0x60, 0x80, 1, 0, 32, .ro, 0, .num, 0, 4294967295, .none, .all⟩
def VLT_SPACE_SLOTS : Fld := ⟨0x60, 0x80, 1, 32, 32, .ro, 0, .num, 0, 4294967295, .none, .all⟩
def VLT_JRNL_SIZE : Fld := ⟨0x60, 0x88, 1, 0, 4, .ro, 0, .cfg, 0, 15, .none, .all⟩

-- Table 10.11
def VLTX_BUDGET_HI : Fld := ⟨0x60, 0x80020, 1, 0, 4, .rw, 12, .num, 8, 15, .none, .all⟩
def VLTX_BUDGET_BG_RATE : Fld := ⟨0x60, 0x80020, 1, 8, 8, .rw, 24, .num, 1, 255, .none, .all⟩
def VLTX_BUDGET_ORDER : Fld := ⟨0x60, 0x80020, 1, 16, 1, .rw, 0, .num, 0, 1, .none, .all⟩
def VLTX_STRAND_CLOSE : Fld := ⟨0x60, 0x80028, 1, 0, 13, .rw, 500, .num, 50, 5000, .none, .all⟩
def VLTX_MEAS_MIB : Fld := ⟨0x60, 0x80030, 1, 0, 13, .rw, 1024, .num, 256, 4096, .none, .all⟩
def VLTX_MEAS_DERATE : Fld := ⟨0x60, 0x80030, 1, 16, 5, .rw, 15, .num, 12, 16, .none, .all⟩
def VLTX_CLEAN_LIVE : Fld := ⟨0x60, 0x80038, 1, 0, 4, .rw, 8, .num, 1, 12, .none, .all⟩

-- Table 11.6
def MER_TIME_S_SECONDS : Fld := ⟨0x7, 0x20, 1, 0, 40, .ro, 0, .num, 0, 1099511627775, .none, .all⟩
def MER_TIME_F_FRACTION : Fld := ⟨0x7, 0x28, 1, 0, 40, .ro, 0, .num, 0, 1099511627775, .none, .all⟩
def MER_CFG_K : Fld := ⟨0x7, 0x30, 1, 0, 6, .rwl, 27, .cfg, 24, 34, .image, .all⟩
def MER_CFG_START_UNSURE : Fld := ⟨0x7, 0x30, 1, 6, 1, .rwl, 0, .cfg, 0, 1, .image, .all⟩
def MER_CFG_FORCE_UNSURE : Fld := ⟨0x7, 0x30, 1, 7, 1, .rw, 0, .num, 0, 1, .none, .all⟩
def MER_CFG_SURE_HOLD : Fld := ⟨0x7, 0x30, 1, 8, 8, .rw, 1, .cfg, 1, 255, .none, .all⟩
def MER_CFG_BOUND : Fld := ⟨0x7, 0x30, 1, 32, 32, .rwl, 100, .cfg, 100, 1000000, .image, .all⟩
def MER_STAT_STATE : Fld := ⟨0x7, 0x38, 1, 0, 3, .ro, 0, .num, 0, 7, .none, .all⟩
def MER_STAT_UNSURE : Fld := ⟨0x7, 0x38, 1, 3, 1, .ro, 1, .num, 0, 1, .none, .all⟩
def MER_STAT_SOURCE : Fld := ⟨0x7, 0x38, 1, 4, 3, .ro, 0, .num, 0, 7, .none, .all⟩
def MER_STAT_FREQ : Fld := ⟨0x7, 0x38, 1, 7, 1, .ro, 0, .num, 0, 1, .none, .all⟩
def MER_STAT_LOOP_FAIL : Fld := ⟨0x7, 0x38, 1, 8, 1, .ro, 0, .num, 0, 1, .none, .all⟩
def MER_STAT_USABLE : Fld := ⟨0x7, 0x38, 1, 9, 7, .ro, 0, .num, 0, 127, .none, .all⟩
def MER_RES_OFFSET : Fld := ⟨0x7, 0x40, 1, 0, 32, .ro, 0, .num, 0, 4294967295, .none, .all⟩
def MER_RES_SIGMA : Fld := ⟨0x7, 0x40, 1, 32, 16, .ro, 0, .num, 0, 65535, .none, .all⟩
def MER_EST_EST : Fld := ⟨0x7, 0x48, 1, 0, 32, .ro, 4294967295, .num, 0, 4294967295, .none, .all⟩
def MER_EST_AGE : Fld := ⟨0x7, 0x48, 1, 32, 32, .ro, 0, .num, 0, 4294967295, .none, .all⟩
def MER_SRC_P0 : Fld := ⟨0x7, 0x50, 1, 0, 3, .rw, 0, .cfg, 0, 6, .none, .all⟩
def MER_SRC_P1 : Fld := ⟨0x7, 0x50, 1, 4, 3, .rw, 0, .cfg, 0, 6, .none, .all⟩
def MER_SRC_P2 : Fld := ⟨0x7, 0x50, 1, 8, 3, .rw, 0, .cfg, 0, 6, .none, .all⟩
def MER_SRC_P3 : Fld := ⟨0x7, 0x50, 1, 12, 3, .rw, 0, .cfg, 0, 6, .none, .all⟩
def MER_CAL_LOOP_EN : Fld := ⟨0x7, 0x58, 1, 0, 1, .rw, 0, .cfg, 0, 1, .none, .all⟩
def MER_CAL_LOOP_SEL : Fld := ⟨0x7, 0x58, 1, 1, 1, .rw, 0, .cfg, 0, 1, .none, .all⟩
def MER_CAL_DELAY_A : Fld := ⟨0x7, 0x58, 1, 4, 24, .rw, 0, .cfg, 0, 16777215, .none, .all⟩
def MER_CAL_DELAY_B : Fld := ⟨0x7, 0x58, 1, 28, 24, .rw, 0, .cfg, 0, 16777215, .none, .all⟩
def MER_LOOP_RTT : Fld := ⟨0x7, 0x60, 1, 0, 24, .ro, 0, .num, 0, 16777215, .none, .all⟩
def MER_LOOP_ASYM : Fld := ⟨0x7, 0x60, 1, 24, 24, .rw, 0, .cfg, 0, 16777215, .none, .all⟩
def MER_LOOP_DISCARDS : Fld := ⟨0x7, 0x60, 1, 48, 16, .ro, 0, .num, 0, 65535, .none, .all⟩
def MER_PPSO_EN : Fld := ⟨0x7, 0x68, 1, 0, 1, .rw, 0, .cfg, 0, 1, .none, .all⟩
def MER_PPSO_ADVANCE : Fld := ⟨0x7, 0x68, 1, 1, 24, .rw, 0, .cfg, 0, 16777215, .none, .all⟩
def MER_PPSO_WIDTH : Fld := ⟨0x7, 0x68, 1, 32, 8, .rw, 10, .cfg, 1, 255, .none, .all⟩
def MER_PTP_EN : Fld := ⟨0x7, 0x70, 1, 0, 1, .rw, 0, .cfg, 0, 1, .none, .all⟩
def MER_PTP_DOMAIN : Fld := ⟨0x7, 0x70, 1, 4, 8, .rw, 0, .cfg, 0, 255, .none, .all⟩
def MER_PTP_PORT1 : Fld := ⟨0x7, 0x70, 1, 16, 6, .rw, 0, .cfg, 0, 63, .none, .all⟩
def MER_PTP_PORT2 : Fld := ⟨0x7, 0x70, 1, 24, 6, .rw, 0, .cfg, 0, 63, .none, .all⟩
def MER_PTP_LOG_SYNC : Fld := ⟨0x7, 0x70, 1, 32, 3, .rw, 4, .cfg, 4, 7, .none, .all⟩
def MER_PTP_ASYM : Fld := ⟨0x7, 0x70, 1, 40, 24, .rw, 0, .cfg, 0, 16777215, .none, .all⟩
def MER_SYNCE_EN : Fld := ⟨0x7, 0x78, 1, 0, 1, .rw, 0, .cfg, 0, 1, .none, .all⟩
def MER_SYNCE_LANE : Fld := ⟨0x7, 0x78, 1, 1, 6, .rw, 0, .cfg, 0, 63, .none, .all⟩
def MER_SYNCE_MGMT : Fld := ⟨0x7, 0x78, 1, 7, 1, .rw, 0, .cfg, 0, 1, .none, .all⟩
def MER_HOLD_DRIFT : Fld := ⟨0x7, 0x80, 1, 0, 20, .rwl, 0, .cfg, 0, 1048575, .image, .all⟩
def MER_GCUT_CUT : Fld := ⟨0x7, 0x88, 1, 0, 40, .rw, 0, .num, 0, 1099511627775, .none, .all⟩
def MER_SUSPECT_LO_LO : Fld := ⟨0x7, 0x90, 1, 0, 40, .ro, 0, .num, 0, 1099511627775, .none, .all⟩
def MER_SUSPECT_HI_HI : Fld := ⟨0x7, 0x98, 1, 0, 40, .ro, 0, .num, 0, 1099511627775, .none, .all⟩
def MER_SUSPECT_HI_VALID : Fld := ⟨0x7, 0x98, 1, 40, 1, .ro, 0, .num, 0, 1, .none, .all⟩
def MER_SUSPECT_HI_CLEAR : Fld := ⟨0x7, 0x98, 1, 41, 1, .wo, 0, .num, 0, 1, .none, .all⟩
def MER_BEACON_EN : Fld := ⟨0x7, 0xA0, 1, 0, 1, .rw, 0, .cfg, 0, 1, .none, .all⟩
def MER_BEACON_PAGE : Fld := ⟨0x7, 0xA0, 1, 12, 38, .rwl, 0, .cfg, 0, 274877906943, .image, .all⟩
def MER_EPOCH_CURRENT : Fld := ⟨0x7, 0xA8, 1, 0, 40, .ro, 0, .num, 0, 1099511627775, .none, .all⟩

-- Table 12.10
def TWIN_CFG_PEER_DEV : Fld := ⟨0x22, 0x20, 1, 0, 14, .rwl, 0, .cfg, 0, 16383, .image, .all⟩
def TWIN_CFG_PREFERRED : Fld := ⟨0x22, 0x20, 1, 14, 1, .rwl, 0, .cfg, 0, 1, .image, .all⟩
def TWIN_CFG_DOMAIN : Fld := ⟨0x22, 0x20, 1, 15, 1, .ro, 0, .cfg, 0, 1, .none, .all⟩
def TWIN_CFG_QP_BASE : Fld := ⟨0x22, 0x20, 1, 16, 20, .rwl, 0, .cfg, 0, 1048575, .image, .all⟩
def TWIN_CFG_KEY_SLOT : Fld := ⟨0x22, 0x20, 1, 36, 16, .rwl, 0, .cfg, 0, 65535, .image, .all⟩
def TWIN_CFG_ACK_TO : Fld := ⟨0x22, 0x28, 1, 0, 14, .rw, 1000, .cfg, 100, 10000, .none, .all⟩
def TWIN_CFG_FAILBACK : Fld := ⟨0x22, 0x28, 1, 16, 8, .rw, 10, .cfg, 1, 255, .none, .all⟩
def TWIN_STAT_STATE : Fld := ⟨0x22, 0x30, 1, 0, 3, .ro, 0, .num, 0, 7, .none, .all⟩
def TWIN_STAT_LEADER : Fld := ⟨0x22, 0x30, 1, 3, 1, .ro, 0, .num, 0, 1, .none, .all⟩
def TWIN_STAT_SENSE : Fld := ⟨0x22, 0x30, 1, 4, 2, .ro, 0, .num, 0, 3, .none, .all⟩
def TWIN_STAT_HOLDING : Fld := ⟨0x22, 0x30, 1, 6, 1, .ro, 0, .num, 0, 1, .none, .all⟩
def TWIN_STAT_DIAG_OK : Fld := ⟨0x22, 0x30, 1, 7, 1, .ro, 0, .num, 0, 1, .none, .all⟩
def TWIN_STAT_CAUSE : Fld := ⟨0x22, 0x30, 1, 8, 8, .ro, 0, .num, 0, 255, .none, .all⟩
def TWIN_STAT_LEVEL : Fld := ⟨0x22, 0x30, 1, 16, 8, .ro, 0, .num, 0, 255, .none, .all⟩
def TWIN_STAT_PREFERRED : Fld := ⟨0x22, 0x30, 1, 24, 1, .ro, 0, .cfg, 0, 1, .none, .all⟩
def TWIN_STAT_HANDOVER : Fld := ⟨0x22, 0x30, 1, 25, 1, .ro, 0, .num, 0, 1, .none, .all⟩
def TWIN_STAT_TERM : Fld := ⟨0x22, 0x30, 1, 32, 32, .ro, 0, .fuse, 0, 4294967295, .none, .all⟩
def TWIN_CMD_OP : Fld := ⟨0x22, 0x38, 1, 0, 3, .wo, 0, .num, 0, 7, .none, .all⟩
def TWIN_CMD_GO : Fld := ⟨0x22, 0x38, 1, 3, 1, .wo, 0, .num, 0, 1, .none, .all⟩
def TWIN_RES_STATUS : Fld := ⟨0x22, 0x40, 1, 0, 8, .ro, 0, .num, 0, 255, .none, .all⟩
def TWIN_RESYNC_LEFT : Fld := ⟨0x22, 0x48, 1, 0, 32, .ro, 0, .num, 0, 4294967295, .none, .all⟩
def TWIN_RESYNC_TOTAL : Fld := ⟨0x22, 0x48, 1, 32, 32, .ro, 0, .num, 0, 4294967295, .none, .all⟩
def TWIN_RATE_RESYNC : Fld := ⟨0x22, 0x50, 1, 0, 8, .rw, 100, .num, 10, 255, .none, .all⟩
def TWIN_HEALTH_SECONDS : Fld := ⟨0x22, 0x58, 1, 0, 16, .ro, 0, .num, 0, 65535, .none, .all⟩
def TWIN_HEALTH_MOVES : Fld := ⟨0x22, 0x58, 1, 16, 16, .ro, 0, .num, 0, 65535, .none, .all⟩
def TWIN_DIGEST : Fld := ⟨0x22, 0x60, 6, 0, 64, .ro, 0, .cfg, 0, 18446744073709551615, .none, .all⟩
def TWIN_PEERDIG : Fld := ⟨0x22, 0x90, 6, 0, 64, .ro, 0, .num, 0, 18446744073709551615, .none, .all⟩
def CLM_CFG_TTL : Fld := ⟨0x22, 0xC0, 1, 0, 16, .rw, 0, .cfg, 0, 65535, .none, .all⟩
def CLM_CFG_RETURN_HOLD : Fld := ⟨0x22, 0xC0, 1, 16, 16, .rw, 100, .cfg, 0, 60000, .none, .all⟩
def CLM_CMD_OP : Fld := ⟨0x22, 0xC8, 1, 0, 3, .wo, 0, .num, 0, 7, .none, .all⟩
def CLM_CMD_GO : Fld := ⟨0x22, 0xC8, 1, 3, 1, .wo, 0, .num, 0, 1, .none, .all⟩
def CLM_CMD_PLANE : Fld := ⟨0x22, 0xC8, 1, 4, 1, .wo, 0, .num, 0, 1, .none, .all⟩
def CLM_CMD_ENTRY : Fld := ⟨0x22, 0xC8, 1, 16, 12, .wo, 0, .num, 0, 4095, .none, .all⟩
def CLM_CMD_CLAIM : Fld := ⟨0x22, 0xC8, 1, 32, 16, .wo, 0, .num, 0, 65535, .none, .all⟩
def CLM_CMD_LEN : Fld := ⟨0x22, 0xC8, 1, 48, 8, .wo, 0, .num, 0, 255, .none, .all⟩
def CLM_RES_STATUS : Fld := ⟨0x22, 0xD0, 1, 0, 8, .ro, 0, .num, 0, 255, .none, .all⟩
def CLM_RES_ENTRY : Fld := ⟨0x22, 0xD0, 1, 32, 12, .ro, 0, .num, 0, 4095, .none, .all⟩
def CLM_DATA : Fld := ⟨0x22, 0xD8, 2, 0, 64, .rw, 0, .num, 0, 18446744073709551615, .none, .all⟩
def CLM_DATA2_CLAIM_A : Fld := ⟨0x22, 0xE8, 1, 0, 16, .ro, 0, .num, 0, 65535, .none, .all⟩
def CLM_DATA2_CLAIM_B : Fld := ⟨0x22, 0xE8, 1, 16, 16, .ro, 0, .num, 0, 65535, .none, .all⟩
def CLM_DATA2_LEN : Fld := ⟨0x22, 0xE8, 1, 40, 8, .ro, 0, .num, 0, 255, .none, .all⟩
def CLM_DEFAULT_CLAIM_A : Fld := ⟨0x22, 0xF0, 1, 0, 16, .rw, 0, .cfg, 0, 65535, .none, .all⟩
def CLM_DEFAULT_CLAIM_B : Fld := ⟨0x22, 0xF0, 1, 16, 16, .rw, 0, .cfg, 0, 65535, .none, .all⟩
def CLM_STAT_ENTRIES : Fld := ⟨0x22, 0xF8, 1, 0, 13, .ro, 0, .num, 0, 8191, .none, .all⟩
def CLM_STAT_A_UP : Fld := ⟨0x22, 0xF8, 1, 13, 1, .ro, 0, .num, 0, 1, .none, .all⟩
def CLM_STAT_B_UP : Fld := ⟨0x22, 0xF8, 1, 14, 1, .ro, 0, .num, 0, 1, .none, .all⟩
def CLM_STAT_MOVES : Fld := ⟨0x22, 0xF8, 1, 32, 32, .ro, 0, .num, 0, 4294967295, .none, .all⟩

-- Table 13.9
def TM_CAP_CROWN_MIB : Fld := ⟨0x81, 0x20, 1, 0, 16, .ro, 160, .fuse, 0, 65535, .none, .all⟩
def TM_CAP_GIRDLE_MIB : Fld := ⟨0x81, 0x20, 1, 16, 24, .ro, 0, .num, 0, 16777215, .none, .all⟩
def TM_CAP_LEND_GIB : Fld := ⟨0x81, 0x20, 1, 40, 6, .ro, 0, .cfg, 0, 32, .none, .all⟩
def TM_USE_CROWN : Fld := ⟨0x81, 0x28, 1, 0, 16, .ro, 0, .num, 0, 65535, .none, .all⟩
def TM_USE_GIRDLE : Fld := ⟨0x81, 0x28, 1, 16, 24, .ro, 0, .num, 0, 16777215, .none, .all⟩
def TM_USE_NEIGH : Fld := ⟨0x81, 0x28, 1, 40, 24, .ro, 0, .num, 0, 16777215, .none, .all⟩
def TM_HANDLES_LIVE : Fld := ⟨0x81, 0x30, 1, 0, 16, .ro, 0, .num, 0, 65535, .none, .all⟩
def TM_HANDLES_EVICTING : Fld := ⟨0x81, 0x30, 1, 32, 16, .ro, 0, .num, 0, 65535, .none, .all⟩
def TM_CFG_NEIGH_EN : Fld := ⟨0x81, 0x38, 1, 0, 1, .ro, 0, .cfg, 0, 1, .none, .all⟩
def TM_CFG_PREFETCH_EN : Fld := ⟨0x81, 0x38, 1, 1, 1, .rw, 0, .cfg, 0, 1, .none, .all⟩
def TM_NEIGH_SEL_INDEX : Fld := ⟨0x81, 0x40, 1, 0, 2, .rw, 0, .num, 0, 3, .none, .all⟩
def TM_NEIGH_DEV : Fld := ⟨0x81, 0x48, 1, 0, 14, .rw, 0, .num, 0, 16383, .none, .all⟩
def TM_NEIGH_VALID : Fld := ⟨0x81, 0x48, 1, 14, 1, .rw, 0, .num, 0, 1, .none, .all⟩
def TM_NEIGH_UP : Fld := ⟨0x81, 0x48, 1, 15, 1, .ro, 0, .num, 0, 1, .none, .all⟩
def TM_NEIGH_QPN : Fld := ⟨0x81, 0x48, 1, 16, 20, .rw, 0, .num, 0, 1048575, .none, .all⟩
def TM_NEIGH_GIB : Fld := ⟨0x81, 0x48, 1, 36, 7, .rw, 0, .num, 0, 127, .none, .all⟩
def TM_NEIGH_KEY_KEY : Fld := ⟨0x81, 0x50, 1, 0, 32, .rw, 0, .num, 0, 4294967295, .none, .all⟩
def TM_CMD_OP : Fld := ⟨0x81, 0x58, 1, 0, 3, .wo, 0, .num, 0, 7, .none, .all⟩
def TM_CMD_GO : Fld := ⟨0x81, 0x58, 1, 3, 1, .wo, 0, .num, 0, 1, .none, .all⟩
def TM_CMD_HANDLE : Fld := ⟨0x81, 0x58, 1, 32, 32, .wo, 0, .num, 0, 4294967295, .none, .all⟩
def TM_RES_STATUS : Fld := ⟨0x81, 0x60, 1, 0, 8, .ro, 0, .num, 0, 255, .none, .all⟩
def TM_DATA : Fld := ⟨0x81, 0x68, 8, 0, 64, .ro, 0, .num, 0, 18446744073709551615, .none, .all⟩
def TM_HSTAT_CROWN : Fld := ⟨0x81, 0xA8, 1, 0, 1, .ro, 0, .num, 0, 1, .none, .all⟩
def TM_HSTAT_GIRDLE : Fld := ⟨0x81, 0xA8, 1, 1, 1, .ro, 0, .num, 0, 1, .none, .all⟩
def TM_HSTAT_NEIGH : Fld := ⟨0x81, 0xA8, 1, 2, 1, .ro, 0, .num, 0, 1, .none, .all⟩
def TM_HSTAT_PROMOTING : Fld := ⟨0x81, 0xA8, 1, 3, 1, .ro, 0, .num, 0, 1, .none, .all⟩
def TM_HSTAT_EVICTING : Fld := ⟨0x81, 0xA8, 1, 4, 1, .ro, 0, .num, 0, 1, .none, .all⟩
def TM_HSTAT_REVOKED : Fld := ⟨0x81, 0xA8, 1, 5, 1, .ro, 0, .num, 0, 1, .none, .all⟩
def TM_HSTAT_SHARED : Fld := ⟨0x81, 0xA8, 1, 6, 1, .ro, 0, .num, 0, 1, .none, .all⟩
def TM_HSTAT_REFS : Fld := ⟨0x81, 0xA8, 1, 16, 16, .ro, 0, .num, 0, 65535, .none, .all⟩
def TM_HSTAT_RING : Fld := ⟨0x81, 0xA8, 1, 32, 12, .ro, 0, .num, 0, 4095, .none, .all⟩
def TM_MISS_DEADLINE : Fld := ⟨0x81, 0xB0, 1, 0, 32, .ro, 0, .num, 0, 4294967295, .none, .all⟩
def TM_MISS_FULL : Fld := ⟨0x81, 0xB0, 1, 32, 32, .ro, 0, .num, 0, 4294967295, .none, .all⟩

-- Table 13.10
def FE_CTL_EN : Fld := ⟨0x80, 0x20, 1, 0, 1, .rw, 0, .cfg, 0, 1, .none, .all⟩
def FE_STAT_STATE : Fld := ⟨0x80, 0x28, 1, 0, 2, .ro, 0, .num, 0, 3, .none, .all⟩
def FE_STAT_RING : Fld := ⟨0x80, 0x28, 1, 4, 12, .ro, 0, .num, 0, 4095, .none, .all⟩
def FE_CROWN_TENSOR_KIB : Fld := ⟨0x80, 0x30, 1, 0, 12, .ro, 0, .num, 0, 4095, .none, .all⟩
def FE_ERR_PARITY : Fld := ⟨0x80, 0x38, 1, 0, 16, .ro, 0, .num, 0, 65535, .none, .all⟩
def FE_ERR_RESTARTS : Fld := ⟨0x80, 0x38, 1, 16, 16, .ro, 0, .num, 0, 65535, .none, .all⟩

-- Table 14.11
def CE_STAT_PIPES : Fld := ⟨0x90, 0x20, 1, 0, 5, .ro, 0, .num, 0, 31, .none, .all⟩
def CE_STAT_KAT_OK : Fld := ⟨0x90, 0x20, 1, 8, 1, .ro, 0, .num, 0, 1, .none, .all⟩
def CE_ERR_TAG_FAIL : Fld := ⟨0x90, 0x28, 1, 0, 32, .ro, 0, .num, 0, 4294967295, .none, .all⟩
def CE_ERR_LENGTH : Fld := ⟨0x90, 0x28, 1, 32, 32, .ro, 0, .num, 0, 4294967295, .none, .all⟩
def CE_USE_SPENT : Fld := ⟨0x90, 0x30, 1, 0, 32, .ro, 0, .num, 0, 4294967295, .none, .all⟩
def CE_USE_STAGE : Fld := ⟨0x90, 0x30, 1, 32, 32, .ro, 0, .num, 0, 4294967295, .none, .all⟩

-- Table 14.12
def KS_CFG_VAULT_SLOT : Fld := ⟨0x91, 0x20, 1, 0, 16, .rwl, 1, .cfg, 1, 65535, .image, .all⟩
def KS_CFG_GRACE : Fld := ⟨0x91, 0x20, 1, 16, 14, .rw, 1000, .cfg, 10, 10000, .none, .all⟩
def KS_CMD_OP : Fld := ⟨0x91, 0x28, 1, 0, 3, .wo, 0, .num, 0, 7, .none, .all⟩
def KS_CMD_GO : Fld := ⟨0x91, 0x28, 1, 3, 1, .wo, 0, .num, 0, 1, .none, .all⟩
def KS_CMD_SLOT : Fld := ⟨0x91, 0x28, 1, 16, 16, .wo, 0, .num, 0, 65535, .none, .all⟩
def KS_RES_STATUS : Fld := ⟨0x91, 0x30, 1, 0, 8, .ro, 0, .num, 0, 255, .none, .all⟩
def KS_RES_SLOT : Fld := ⟨0x91, 0x30, 1, 16, 16, .ro, 0, .num, 0, 65535, .none, .all⟩
def KS_ENV : Fld := ⟨0x91, 0x38, 16, 0, 64, .wo, 0, .num, 0, 18446744073709551615, .none, .all⟩
def KS_SLOT_MODE : Fld := ⟨0x91, 0xB8, 1, 0, 2, .ro, 0, .num, 0, 3, .none, .all⟩
def KS_SLOT_STAGED : Fld := ⟨0x91, 0xB8, 1, 2, 2, .ro, 0, .num, 0, 3, .none, .all⟩
def KS_SLOT_ACTIVE : Fld := ⟨0x91, 0xB8, 1, 4, 1, .ro, 0, .num, 0, 1, .none, .all⟩
def KS_SLOT_NEAR : Fld := ⟨0x91, 0xB8, 1, 5, 1, .ro, 0, .num, 0, 1, .none, .all⟩
def KS_SLOT_SPENT : Fld := ⟨0x91, 0xB8, 1, 6, 1, .ro, 0, .num, 0, 1, .none, .all⟩
def KS_SLOT_PERSIST : Fld := ⟨0x91, 0xB8, 1, 7, 1, .ro, 0, .num, 0, 1, .none, .all⟩
def KS_SLOT_SWAP_ARMED : Fld := ⟨0x91, 0xB8, 1, 8, 1, .ro, 0, .num, 0, 1, .none, .all⟩
def KS_SLOT_ACTIVE_VER : Fld := ⟨0x91, 0xB8, 1, 32, 32, .ro, 0, .num, 0, 4294967295, .none, .all⟩
def KS_SLOT_VER_STAGED_VER : Fld := ⟨0x91, 0xC0, 1, 0, 32, .ro, 0, .num, 0, 4294967295, .none, .all⟩
def KS_SLOT_USE_USES : Fld := ⟨0x91, 0xC8, 1, 0, 48, .ro, 0, .num, 0, 281474976710655, .none, .all⟩
def KS_SLOT_LIM_LIMIT : Fld := ⟨0x91, 0xD0, 1, 0, 48, .ro, 0, .num, 0, 281474976710655, .none, .all⟩
def KS_STAT_ACTIVE : Fld := ⟨0x91, 0xD8, 1, 0, 17, .ro, 0, .num, 0, 131071, .none, .all⟩
def KS_STAT_ERASES : Fld := ⟨0x91, 0xD8, 1, 32, 32, .ro, 0, .num, 0, 4294967295, .none, .all⟩

-- Table 14.13
def LC_STAT_STATE : Fld := ⟨0x8, 0x20, 1, 0, 3, .ro, 0, .fuse, 0, 7, .none, .all⟩
def LC_STAT_DEBUG : Fld := ⟨0x8, 0x20, 1, 4, 2, .ro, 0, .num, 0, 3, .none, .all⟩
def LC_STAT_HELD : Fld := ⟨0x8, 0x20, 1, 6, 1, .ro, 0, .num, 0, 1, .none, .all⟩
def LC_ALARM_LATCHED : Fld := ⟨0x8, 0x28, 1, 0, 5, .w1c, 0, .num, 0, 31, .none, .all⟩
def LC_ALARM_PRESENT : Fld := ⟨0x8, 0x28, 1, 8, 5, .ro, 0, .num, 0, 31, .none, .all⟩
def LC_CMD_OP : Fld := ⟨0x8, 0x30, 1, 0, 3, .wo, 0, .num, 0, 7, .none, .all⟩
def LC_CMD_GO : Fld := ⟨0x8, 0x30, 1, 3, 1, .wo, 0, .num, 0, 1, .none, .all⟩
def LC_CMD_LEVEL : Fld := ⟨0x8, 0x30, 1, 4, 2, .wo, 0, .num, 0, 3, .none, .all⟩
def LC_RES_STATUS : Fld := ⟨0x8, 0x38, 1, 0, 8, .ro, 0, .num, 0, 255, .none, .all⟩
def LC_NONCE_VALUE : Fld := ⟨0x8, 0x40, 1, 0, 64, .ro, 0, .num, 0, 18446744073709551615, .none, .all⟩
def LC_DIE_ID_VALUE : Fld := ⟨0x8, 0x48, 1, 0, 64, .ro, 0, .fuse, 0, 18446744073709551615, .none, .all⟩
def LC_SVN_FW : Fld := ⟨0x8, 0x50, 1, 0, 6, .ro, 0, .fuse, 0, 63, .none, .all⟩
def LC_SVN_CFG : Fld := ⟨0x8, 0x50, 1, 8, 6, .ro, 0, .fuse, 0, 63, .none, .all⟩
def LC_BUF : Fld := ⟨0x8, 0x1000, 2048, 0, 64, .rw, 0, .num, 0, 18446744073709551615, .none, .all⟩

-- Table 15.6
def PS_STAT_STATE : Fld := ⟨0x3, 0x20, 1, 0, 3, .ro, 4, .num, 0, 7, .none, .all⟩
def PS_STAT_SEQ : Fld := ⟨0x3, 0x20, 1, 4, 3, .ro, 0, .num, 0, 7, .none, .all⟩
def PS_STAT_LATCH_ON : Fld := ⟨0x3, 0x20, 1, 8, 1, .ro, 0, .num, 0, 1, .none, .all⟩
def PS_STAT_WARN : Fld := ⟨0x3, 0x20, 1, 9, 1, .ro, 0, .num, 0, 1, .none, .all⟩
def PS_STAT_PWR_REQ : Fld := ⟨0x3, 0x20, 1, 10, 1, .ro, 0, .num, 0, 1, .none, .all⟩
def PS_STAT_PF_WARN_N : Fld := ⟨0x3, 0x20, 1, 11, 1, .ro, 0, .num, 0, 1, .none, .all⟩
def PS_STAT_HOLDUP_OK : Fld := ⟨0x3, 0x20, 1, 12, 1, .ro, 0, .num, 0, 1, .none, .all⟩
def PS_STAT_CYCLES : Fld := ⟨0x3, 0x20, 1, 32, 32, .ro, 0, .flash, 0, 4294967295, .none, .all⟩
def PS_CMD_OP : Fld := ⟨0x3, 0x28, 1, 0, 3, .wo, 0, .num, 0, 7, .none, .all⟩
def PS_CMD_GO : Fld := ⟨0x3, 0x28, 1, 3, 1, .wo, 0, .num, 0, 1, .none, .all⟩
def PS_RES_STATUS : Fld := ⟨0x3, 0x30, 1, 0, 8, .ro, 0, .num, 0, 255, .none, .all⟩
def PS_RAIL_SEL_INDEX : Fld := ⟨0x3, 0x38, 1, 0, 4, .rw, 0, .num, 0, 11, .none, .all⟩
def PS_RAIL_SET_MV : Fld := ⟨0x3, 0x40, 1, 0, 16, .rw, 750, .fuse, 0, 65535, .none, .all⟩
def PS_RAIL_MV : Fld := ⟨0x3, 0x40, 1, 16, 16, .ro, 0, .num, 0, 65535, .none, .all⟩
def PS_RAIL_STATE : Fld := ⟨0x3, 0x40, 1, 32, 3, .ro, 0, .num, 0, 7, .none, .all⟩
def PS_RAIL_FAULTS : Fld := ⟨0x3, 0x40, 1, 48, 16, .ro, 0, .num, 0, 65535, .none, .all⟩
def PS_TIMING_RISE_TO : Fld := ⟨0x3, 0x48, 1, 0, 8, .rw, 10, .num, 1, 100, .none, .all⟩
def PS_TIMING_FALL_TO : Fld := ⟨0x3, 0x48, 1, 8, 8, .rw, 50, .num, 5, 250, .none, .all⟩
def PS_TIMING_GRACE : Fld := ⟨0x3, 0x48, 1, 16, 16, .rw, 2000, .num, 500, 4000, .none, .all⟩
def PS_TIMING_MIN_OFF : Fld := ⟨0x3, 0x48, 1, 32, 16, .ro, 500, .num, 0, 65535, .none, .all⟩
def PS_LAST_KIND : Fld := ⟨0x3, 0x50, 1, 0, 4, .ro, 0, .flash, 0, 15, .none, .all⟩
def PS_LAST_RAIL : Fld := ⟨0x3, 0x50, 1, 4, 4, .ro, 0, .flash, 0, 15, .none, .all⟩
def PS_LAST_DIR : Fld := ⟨0x3, 0x50, 1, 8, 1, .ro, 0, .flash, 0, 1, .none, .all⟩
def PS_LAST_TIME_S : Fld := ⟨0x3, 0x50, 1, 24, 40, .ro, 0, .flash, 0, 1099511627775, .none, .all⟩
def PS_REC_WRITTEN : Fld := ⟨0x3, 0x58, 1, 0, 32, .ro, 0, .flash, 0, 4294967295, .none, .all⟩
def PS_REC_FREE : Fld := ⟨0x3, 0x58, 1, 32, 32, .ro, 0, .num, 0, 4294967295, .none, .all⟩

-- Table 16.3
def KF_UNLOCK_KEY : Fld := ⟨0x4, 0x20, 1, 0, 32, .wo, 0, .num, 0, 4294967295, .none, .all⟩
def KF_CMD_OP : Fld := ⟨0x4, 0x28, 1, 0, 3, .wo, 0, .num, 0, 7, .none, .all⟩
def KF_ADDR_ADDR : Fld := ⟨0x4, 0x30, 1, 0, 28, .wo, 0, .num, 0, 268435455, .none, .all⟩
def KF_RES_STATUS : Fld := ⟨0x4, 0x38, 1, 0, 8, .ro, 0, .num, 0, 255, .none, .all⟩
def KF_RES_BLOCK : Fld := ⟨0x4, 0x38, 1, 8, 12, .ro, 0, .num, 0, 4095, .none, .all⟩
def KF_RES_BANK_BUSY : Fld := ⟨0x4, 0x38, 1, 20, 4, .ro, 0, .num, 0, 15, .none, .all⟩
def KF_RWIN_ADDR : Fld := ⟨0x4, 0x40, 1, 12, 16, .rw, 0, .num, 0, 65535, .none, .all⟩
def KF_EC_SEL_BLOCK : Fld := ⟨0x4, 0x48, 1, 0, 12, .rw, 0, .num, 0, 4095, .none, .all⟩
def KF_EC_COUNT : Fld := ⟨0x4, 0x50, 1, 0, 32, .ro, 0, .flash, 0, 4294967295, .none, .all⟩
def KF_EC_TORN : Fld := ⟨0x4, 0x50, 1, 32, 1, .ro, 0, .flash, 0, 1, .none, .all⟩
def KF_EC_WORN : Fld := ⟨0x4, 0x50, 1, 33, 1, .ro, 0, .flash, 0, 1, .none, .all⟩
def KF_SEL_FW : Fld := ⟨0x4, 0x58, 1, 0, 1, .ro, 0, .flash, 0, 1, .none, .all⟩
def KF_SEL_TRY : Fld := ⟨0x4, 0x58, 1, 1, 1, .ro, 0, .flash, 0, 1, .none, .all⟩
def KF_SEL_CFG : Fld := ⟨0x4, 0x58, 1, 2, 1, .ro, 0, .flash, 0, 1, .none, .all⟩
def KF_SEL_BOOTED : Fld := ⟨0x4, 0x58, 1, 3, 1, .ro, 0, .num, 0, 1, .none, .all⟩
def KF_SEL_SEQ : Fld := ⟨0x4, 0x58, 1, 32, 32, .ro, 0, .flash, 0, 4294967295, .none, .all⟩
def KF_VER_VERSION : Fld := ⟨0x4, 0x60, 1, 0, 32, .ro, 0, .num, 0, 4294967295, .none, .all⟩
def KF_VER_LEVEL : Fld := ⟨0x4, 0x60, 1, 32, 8, .ro, 0, .num, 0, 255, .none, .all⟩
def KF_DATA : Fld := ⟨0x4, 0x100, 32, 0, 64, .wo, 0, .num, 0, 18446744073709551615, .none, .all⟩
def KF_READ : Fld := ⟨0x4, 0x1000, 512, 0, 64, .ro, 0, .num, 0, 18446744073709551615, .none, .all⟩

-- Table 16.5
def EV_HEAD_SEQ : Fld := ⟨0x5, 0x20, 1, 0, 48, .ro, 0, .flash, 0, 281474976710655, .none, .all⟩
def EV_TAIL_SEQ : Fld := ⟨0x5, 0x28, 1, 0, 48, .ro, 1, .flash, 0, 281474976710655, .none, .all⟩
def EV_CURSOR_SEQ : Fld := ⟨0x5, 0x30, 1, 0, 48, .rw, 0, .num, 0, 281474976710655, .none, .all⟩
def EV_CSTAT_STATE : Fld := ⟨0x5, 0x38, 1, 0, 2, .ro, 0, .num, 0, 3, .none, .all⟩
def EV_CSTAT_OPEN : Fld := ⟨0x5, 0x38, 1, 2, 1, .ro, 0, .num, 0, 1, .none, .all⟩
def EV_REC : Fld := ⟨0x5, 0x40, 8, 0, 64, .ro, 0, .num, 0, 18446744073709551615, .none, .all⟩
def EV_STAT_DROPPED : Fld := ⟨0x5, 0x80, 1, 0, 32, .ro, 0, .num, 0, 4294967295, .none, .all⟩
def EV_STAT_QUEUED : Fld := ⟨0x5, 0x80, 1, 32, 9, .ro, 0, .num, 0, 511, .none, .all⟩

-- Table 17.3
def BLK_FSTAT_CLASS : Fld := ⟨0x0, 0x10, 1, 0, 3, .ro, 7, .num, 0, 7, .none, .all⟩
def BLK_FSTAT_UNACK : Fld := ⟨0x0, 0x10, 1, 3, 5, .ro, 0, .num, 0, 31, .none, .all⟩
def BLK_FSTAT_ESCALATED : Fld := ⟨0x0, 0x10, 1, 8, 1, .ro, 0, .num, 0, 1, .none, .all⟩
def BLK_FSTAT_CODE : Fld := ⟨0x0, 0x10, 1, 16, 8, .ro, 0, .num, 0, 255, .none, .all⟩
def BLK_FSTAT_RAISED : Fld := ⟨0x0, 0x10, 1, 24, 16, .ro, 0, .num, 0, 65535, .none, .all⟩
def BLK_FSTAT_RECOVERIES : Fld := ⟨0x0, 0x10, 1, 40, 16, .ro, 0, .num, 0, 65535, .none, .all⟩
def BLK_FSTAT_QUIET_LEFT : Fld := ⟨0x0, 0x10, 1, 56, 8, .ro, 0, .num, 0, 255, .none, .all⟩

-- Table 17.4
def BLK_FCTL_ACK : Fld := ⟨0x0, 0x18, 1, 0, 1, .wo, 0, .num, 0, 1, .none, .all⟩
def BLK_FCTL_IE_CLASS : Fld := ⟨0x0, 0x18, 1, 1, 3, .rw, 1, .num, 0, 7, .none, .all⟩
def BLK_FCTL_QUIET : Fld := ⟨0x0, 0x18, 1, 8, 8, .rw, 30, .cfg, 1, 255, .none, .all⟩

-- Table 17.5
def LP_SNAP_ARM : Fld := ⟨0x6, 0x20, 1, 0, 1, .wo, 0, .num, 0, 1, .none, .all⟩
def LP_SNAP_NOW : Fld := ⟨0x6, 0x20, 1, 1, 1, .wo, 0, .num, 0, 1, .none, .all⟩
def LP_SNAP_ARMED : Fld := ⟨0x6, 0x20, 1, 2, 1, .ro, 0, .num, 0, 1, .none, .all⟩
def LP_SNAP_STATUS : Fld := ⟨0x6, 0x20, 1, 8, 8, .ro, 0, .num, 0, 255, .none, .all⟩
def LP_SNAP_S_SECONDS : Fld := ⟨0x6, 0x28, 1, 0, 40, .rw, 0, .num, 0, 1099511627775, .none, .all⟩
def LP_SNAP_F_FRACTION : Fld := ⟨0x6, 0x30, 1, 0, 40, .rw, 0, .num, 0, 1099511627775, .none, .all⟩
def LP_SNAPT_S_SECONDS : Fld := ⟨0x6, 0x38, 1, 0, 40, .ro, 0, .num, 0, 1099511627775, .none, .all⟩
def LP_SNAPT_F_FRACTION : Fld := ⟨0x6, 0x40, 1, 0, 40, .ro, 0, .num, 0, 1099511627775, .none, .all⟩
def LP_FREEZE_ARM : Fld := ⟨0x6, 0x48, 1, 0, 1, .wo, 0, .num, 0, 1, .none, .all⟩
def LP_FREEZE_NOW : Fld := ⟨0x6, 0x48, 1, 1, 1, .wo, 0, .num, 0, 1, .none, .all⟩
def LP_FREEZE_THAW : Fld := ⟨0x6, 0x48, 1, 2, 1, .wo, 0, .num, 0, 1, .none, .all⟩
def LP_FREEZE_FROZEN : Fld := ⟨0x6, 0x48, 1, 3, 1, .ro, 0, .num, 0, 1, .none, .all⟩
def LP_FREEZE_ARMED : Fld := ⟨0x6, 0x48, 1, 4, 1, .ro, 0, .num, 0, 1, .none, .all⟩
def LP_FRZ_S_SECONDS : Fld := ⟨0x6, 0x50, 1, 0, 40, .rw, 0, .num, 0, 1099511627775, .none, .all⟩
def LP_FRZ_F_FRACTION : Fld := ⟨0x6, 0x58, 1, 0, 40, .rw, 0, .num, 0, 1099511627775, .none, .all⟩
def LP_PERM_BANKS : Fld := ⟨0x6, 0x60, 1, 0, 26, .rwl, 0, .cfg, 0, 67108863, .image, .all⟩
def LP_CLEAR_BANK : Fld := ⟨0x6, 0x68, 1, 0, 4, .wo, 0, .num, 0, 15, .none, .all⟩
def LP_CLEAR_GO : Fld := ⟨0x6, 0x68, 1, 4, 1, .wo, 0, .num, 0, 1, .none, .all⟩
def LP_FCUR_CLASS : Fld := ⟨0x6, 0x70, 1, 0, 16, .rw, 0, .num, 0, 65535, .none, .all⟩
def LP_FCUR_UNIT : Fld := ⟨0x6, 0x70, 1, 16, 16, .rw, 0, .num, 0, 65535, .none, .all⟩
def LP_FNEXT_CLASS : Fld := ⟨0x6, 0x78, 1, 0, 16, .ro, 0, .num, 0, 65535, .none, .all⟩
def LP_FNEXT_UNIT : Fld := ⟨0x6, 0x78, 1, 16, 16, .ro, 0, .num, 0, 65535, .none, .all⟩
def LP_FNEXT_FCLASS : Fld := ⟨0x6, 0x78, 1, 32, 3, .ro, 7, .num, 0, 7, .none, .all⟩
def LP_FNEXT_FOUND : Fld := ⟨0x6, 0x78, 1, 35, 1, .ro, 0, .num, 0, 1, .none, .all⟩
def LP_FSUM_NOTICE : Fld := ⟨0x6, 0x80, 1, 0, 13, .ro, 0, .num, 0, 8191, .none, .all⟩
def LP_FSUM_MINOR : Fld := ⟨0x6, 0x80, 1, 13, 13, .ro, 0, .num, 0, 8191, .none, .all⟩
def LP_FSUM_MAJOR : Fld := ⟨0x6, 0x80, 1, 26, 13, .ro, 0, .num, 0, 8191, .none, .all⟩
def LP_FSUM_CRITICAL : Fld := ⟨0x6, 0x80, 1, 39, 13, .ro, 0, .num, 0, 8191, .none, .all⟩
def LP_FSUM_FATAL : Fld := ⟨0x6, 0x80, 1, 52, 12, .ro, 0, .num, 0, 4095, .none, .all⟩
def LP_CTR : Fld := ⟨0x6, 0x1000, 1024, 0, 48, .ro, 0, .num, 0, 281474976710655, .none, .all⟩
def LP_SNAPCTR : Fld := ⟨0x6, 0x3000, 1024, 0, 48, .ro, 0, .num, 0, 281474976710655, .none, .all⟩
def LP_EVSEL_EVENT : Fld := ⟨0x6, 0x5000, 1024, 0, 6, .rw, 0, .num, 0, 63, .none, .all⟩
def LP_EVSEL_EN : Fld := ⟨0x6, 0x5000, 1024, 6, 1, .rw, 0, .num, 0, 1, .none, .all⟩

-- Table 18.8
def BT_STAT_STATE : Fld := ⟨0x2, 0x20, 1, 0, 4, .ro, 0, .num, 0, 15, .none, .all⟩
def BT_STAT_CAUSE : Fld := ⟨0x2, 0x20, 1, 8, 4, .ro, 0, .num, 0, 15, .none, .all⟩
def BT_STAT_START : Fld := ⟨0x2, 0x20, 1, 12, 2, .ro, 0, .num, 0, 3, .none, .all⟩
def BT_STAT_LAST_RESET : Fld := ⟨0x2, 0x20, 1, 16, 2, .ro, 0, .num, 0, 3, .none, .all⟩
def BT_STAT_WARM : Fld := ⟨0x2, 0x20, 1, 32, 32, .ro, 0, .num, 0, 4294967295, .none, .all⟩
def BT_ENTRY_INDEX : Fld := ⟨0x2, 0x28, 1, 0, 32, .ro, 0, .num, 0, 4294967295, .none, .all⟩
def RST_CMD_GO : Fld := ⟨0x2, 0x30, 1, 0, 1, .wo, 0, .num, 0, 1, .none, .all⟩
def RST_CMD_KEY : Fld := ⟨0x2, 0x30, 1, 16, 32, .wo, 0, .num, 0, 4294967295, .none, .all⟩
def BT_WDT_TIMEOUT : Fld := ⟨0x2, 0x38, 1, 0, 16, .rw, 10000, .num, 100, 60000, .wdt, .all⟩
def BT_WDT_LOCK : Fld := ⟨0x2, 0x38, 1, 16, 1, .rwl, 0, .num, 0, 1, .own, .all⟩
def WDT_KICK_KEY : Fld := ⟨0x2, 0x40, 1, 0, 32, .wo, 0, .num, 0, 4294967295, .none, .all⟩

-- Named in the text without an offset (log entry 3)
def TXFIR_PRE2 : Fld := ⟨0x10, 0x840, 1, 0, 8, .rw, 0, .num, 0, 255, .none, .all⟩
def TXFIR_PRE1 : Fld := ⟨0x10, 0x840, 1, 8, 8, .rw, 0, .num, 0, 255, .none, .all⟩
def TXFIR_MAIN : Fld := ⟨0x10, 0x840, 1, 16, 8, .rw, 0, .num, 0, 255, .none, .all⟩
def TXFIR_POST1 : Fld := ⟨0x10, 0x840, 1, 24, 8, .rw, 0, .num, 0, 255, .none, .all⟩
def RXEQ_CTLE : Fld := ⟨0x10, 0x848, 1, 0, 8, .rw, 0, .num, 0, 255, .none, .all⟩
def RXEQ_FREEZE : Fld := ⟨0x10, 0x848, 1, 8, 8, .rw, 0, .num, 0, 255, .none, .all⟩
def ADCTRIM_OFFSET : Fld := ⟨0x10, 0x850, 1, 0, 8, .ro, 0, .num, 0, 255, .none, .all⟩
def ADCTRIM_GAIN : Fld := ⟨0x10, 0x850, 1, 8, 8, .ro, 0, .num, 0, 255, .none, .all⟩
def ADCTRIM_SKEW : Fld := ⟨0x10, 0x850, 1, 16, 8, .ro, 0, .num, 0, 255, .none, .all⟩
def WCACHE_PIN_INDEX : Fld := ⟨0x30, 0x80020, 1, 0, 20, .rw, 0, .num, 0, 1048575, .none, .all⟩
def WCACHE_PIN_EN : Fld := ⟨0x30, 0x80020, 1, 32, 1, .rw, 0, .num, 0, 1, .none, .all⟩
def WCACHE_FLUSH : Fld := ⟨0x30, 0x80020, 1, 33, 1, .wo, 0, .num, 0, 1, .none, .all⟩
def WFETCH_MAX_OUT : Fld := ⟨0x30, 0x80028, 1, 0, 8, .rw, 128, .num, 0, 255, .none, .all⟩
def SBX_CLOSE_HI : Fld := ⟨0x41, 0x8020, 1, 0, 8, .rw, 224, .num, 128, 248, .none, .all⟩
def LKX_ENTRY_OFF : Fld := ⟨0x42, 0x8020, 1, 0, 48, .rw, 0, .num, 0, 281474976710655, .none, .all⟩
def LKX_FORCE_BYPASS : Fld := ⟨0x42, 0x8028, 1, 0, 1, .rw, 0, .num, 0, 1, .none, .all⟩
def MCX_SB_ADDR : Fld := ⟨0x50, 0x8048, 1, 0, 32, .rw, 0, .num, 0, 4294967295, .none, .all⟩
def MCX_SB_DATA : Fld := ⟨0x50, 0x8050, 1, 0, 32, .rw, 0, .num, 0, 4294967295, .none, .all⟩
def MCX_SB_CMD : Fld := ⟨0x50, 0x8058, 1, 0, 32, .wo, 0, .num, 0, 4294967295, .none, .all⟩
def MCX_SB_STATUS : Fld := ⟨0x50, 0x8060, 1, 0, 32, .ro, 0, .num, 0, 4294967295, .none, .all⟩
def MERX_DPLL_BW : Fld := ⟨0x7, 0x8020, 1, 0, 16, .rw, 0, .num, 0, 65535, .none, .all⟩
def MERX_DPLL_PHASE_ONLY : Fld := ⟨0x7, 0x8020, 1, 16, 1, .rw, 0, .num, 0, 1, .none, .all⟩
def MERX_SLEW_MAX : Fld := ⟨0x7, 0x8028, 1, 0, 16, .rw, 100, .num, 10, 500, .none, .all⟩
def MERX_PPS_WIN : Fld := ⟨0x7, 0x8030, 1, 0, 16, .rw, 50, .num, 10, 1000, .none, .all⟩
def MERX_PTP_KP : Fld := ⟨0x7, 0x8038, 1, 0, 16, .rw, 0, .num, 0, 65535, .none, .all⟩
def MERX_PTP_KI : Fld := ⟨0x7, 0x8038, 1, 16, 16, .rw, 0, .num, 0, 65535, .none, .all⟩
def MERX_TREE_TRIM : Fld := ⟨0x7, 0x8040, 27, 0, 16, .rw, 0, .num, 0, 65535, .none, .all⟩
def CLASPX_SETTLE : Fld := ⟨0x22, 0x8020, 1, 0, 8, .rw, 10, .num, 10, 100, .none, .all⟩
def CLASPX_TERM_WAIT : Fld := ⟨0x22, 0x8020, 1, 8, 8, .rw, 50, .num, 20, 50, .none, .all⟩
def FEX_FREQ_CAP : Fld := ⟨0x80, 0x8020, 1, 0, 16, .rw, 0, .num, 0, 65535, .none, .all⟩
def TMX_PROMOTE_GBS : Fld := ⟨0x81, 0x80020, 1, 0, 16, .rw, 0, .num, 0, 65535, .none, .all⟩
def TMX_STREAM_PAUSE : Fld := ⟨0x81, 0x80020, 1, 16, 1, .rw, 0, .num, 0, 1, .none, .all⟩
def TMX_T3_OUT : Fld := ⟨0x81, 0x80028, 1, 0, 16, .rw, 0, .num, 0, 65535, .none, .all⟩
def CEX_PIPE_OFF : Fld := ⟨0x90, 0x80020, 1, 0, 16, .rw, 0, .num, 0, 65535, .none, .all⟩
def CEX_KAT_RUN : Fld := ⟨0x90, 0x80028, 1, 0, 1, .wo, 0, .num, 0, 1, .none, .all⟩
def PSX_PMB_ADDR : Fld := ⟨0x3, 0x8020, 1, 0, 32, .rw, 0, .num, 0, 4294967295, .none, .all⟩
def PSX_PMB_DATA : Fld := ⟨0x3, 0x8028, 1, 0, 32, .rw, 0, .num, 0, 4294967295, .none, .all⟩
def PSX_PMB_CMD : Fld := ⟨0x3, 0x8030, 1, 0, 32, .wo, 0, .num, 0, 4294967295, .none, .all⟩
def PSX_PMB_STATUS : Fld := ⟨0x3, 0x8038, 1, 0, 32, .ro, 0, .num, 0, 4294967295, .none, .all⟩
def PSX_RING_RAIL : Fld := ⟨0x3, 0x8040, 1, 0, 4, .rw, 0, .num, 0, 11, .none, .all⟩
def PSX_RING_DATA : Fld := ⟨0x3, 0x8048, 32, 0, 16, .ro, 0, .num, 0, 65535, .none, .all⟩
def KFX_BANK : Fld := ⟨0x4, 0x8020, 1, 0, 4, .ro, 0, .num, 0, 15, .none, .all⟩
def KFX_JRNL_SEL : Fld := ⟨0x4, 0x8028, 1, 0, 32, .rw, 0, .num, 0, 4294967295, .none, .all⟩
def KFX_JRNL_DATA : Fld := ⟨0x4, 0x8030, 1, 0, 64, .ro, 0, .num, 0, 18446744073709551615, .none, .all⟩
def LPX_BANK_OFF : Fld := ⟨0x6, 0x8020, 1, 0, 13, .rw, 0, .num, 0, 8191, .none, .all⟩
def SEQX_HALT : Fld := ⟨0x70, 0x8020, 1, 0, 1, .rw, 0, .num, 0, 1, .none, .all⟩
def SEQX_STEP : Fld := ⟨0x70, 0x8020, 1, 1, 1, .wo, 0, .num, 0, 1, .none, .all⟩
def SEQX_BREAK_EN : Fld := ⟨0x70, 0x8028, 1, 0, 1, .rw, 0, .num, 0, 1, .none, .all⟩
def SEQX_BREAK : Fld := ⟨0x70, 0x8028, 1, 16, 16, .rw, 0, .num, 0, 65535, .none, .all⟩
def PCI_LINK_UP : Fld := ⟨0x61, 0x20, 1, 0, 1, .ro, 0, .num, 0, 1, .none, .all⟩
def PCI_SPEED : Fld := ⟨0x61, 0x20, 1, 4, 4, .ro, 0, .num, 0, 15, .none, .all⟩
def PCI_WIDTH : Fld := ⟨0x61, 0x20, 1, 8, 5, .ro, 0, .num, 0, 31, .none, .all⟩
def PCI_NVME_QUEUES : Fld := ⟨0x61, 0x28, 1, 0, 5, .ro, 0, .num, 0, 31, .none, .all⟩

/-- The fields of class 0x0000 (common registers). -/
def class0 : List Fld :=
  [BLK_ID_CLASS, BLK_ID_UNIT, BLK_ID_VER_MINOR, BLK_ID_VER_MAJOR, BLK_XACC_OPEN, BLK_XACC_LOCK, BLK_XACC_HOLDER, BLK_XACC_KEY, BLK_FSTAT_CLASS, BLK_FSTAT_UNACK, BLK_FSTAT_ESCALATED, BLK_FSTAT_CODE, BLK_FSTAT_RAISED, BLK_FSTAT_RECOVERIES, BLK_FSTAT_QUIET_LEFT, BLK_FCTL_ACK, BLK_FCTL_IE_CLASS, BLK_FCTL_QUIET]

/-- The fields of class 0x0001. -/
def class1 : List Fld :=
  [HT_SIGNATURE, HT_VER_MINOR, HT_VER_MAJOR, HT_ENTRY_COUNT, HT_ENTRY_SIZE, HT_STEPPING, HT_PART, HT_TABLE_BYTES, HT_DEVICE_NUMBER, HT_CFG_VALID, HT_GENERATION, HT_CRC]

/-- The fields of class 0x0002. -/
def class2 : List Fld :=
  [BT_STAT_STATE, BT_STAT_CAUSE, BT_STAT_START, BT_STAT_LAST_RESET, BT_STAT_WARM, BT_ENTRY_INDEX, RST_CMD_GO, RST_CMD_KEY, BT_WDT_TIMEOUT, BT_WDT_LOCK, WDT_KICK_KEY]

/-- The fields of class 0x0003. -/
def class3 : List Fld :=
  [PS_STAT_STATE, PS_STAT_SEQ, PS_STAT_LATCH_ON, PS_STAT_WARN, PS_STAT_PWR_REQ, PS_STAT_PF_WARN_N, PS_STAT_HOLDUP_OK, PS_STAT_CYCLES, PS_CMD_OP, PS_CMD_GO, PS_RES_STATUS, PS_RAIL_SEL_INDEX, PS_RAIL_SET_MV, PS_RAIL_MV, PS_RAIL_STATE, PS_RAIL_FAULTS, PS_TIMING_RISE_TO, PS_TIMING_FALL_TO, PS_TIMING_GRACE, PS_TIMING_MIN_OFF] ++
  [PS_LAST_KIND, PS_LAST_RAIL, PS_LAST_DIR, PS_LAST_TIME_S, PS_REC_WRITTEN, PS_REC_FREE, PSX_PMB_ADDR, PSX_PMB_DATA, PSX_PMB_CMD, PSX_PMB_STATUS, PSX_RING_RAIL, PSX_RING_DATA]

/-- The fields of class 0x0004. -/
def class4 : List Fld :=
  [KF_UNLOCK_KEY, KF_CMD_OP, KF_ADDR_ADDR, KF_RES_STATUS, KF_RES_BLOCK, KF_RES_BANK_BUSY, KF_RWIN_ADDR, KF_EC_SEL_BLOCK, KF_EC_COUNT, KF_EC_TORN, KF_EC_WORN, KF_SEL_FW, KF_SEL_TRY, KF_SEL_CFG, KF_SEL_BOOTED, KF_SEL_SEQ, KF_VER_VERSION, KF_VER_LEVEL, KF_DATA, KF_READ] ++
  [KFX_BANK, KFX_JRNL_SEL, KFX_JRNL_DATA]

/-- The fields of class 0x0005. -/
def class5 : List Fld :=
  [EV_HEAD_SEQ, EV_TAIL_SEQ, EV_CURSOR_SEQ, EV_CSTAT_STATE, EV_CSTAT_OPEN, EV_REC, EV_STAT_DROPPED, EV_STAT_QUEUED]

/-- The fields of class 0x0006. -/
def class6 : List Fld :=
  [LP_SNAP_ARM, LP_SNAP_NOW, LP_SNAP_ARMED, LP_SNAP_STATUS, LP_SNAP_S_SECONDS, LP_SNAP_F_FRACTION, LP_SNAPT_S_SECONDS, LP_SNAPT_F_FRACTION, LP_FREEZE_ARM, LP_FREEZE_NOW, LP_FREEZE_THAW, LP_FREEZE_FROZEN, LP_FREEZE_ARMED, LP_FRZ_S_SECONDS, LP_FRZ_F_FRACTION, LP_PERM_BANKS, LP_CLEAR_BANK, LP_CLEAR_GO, LP_FCUR_CLASS, LP_FCUR_UNIT] ++
  [LP_FNEXT_CLASS, LP_FNEXT_UNIT, LP_FNEXT_FCLASS, LP_FNEXT_FOUND, LP_FSUM_NOTICE, LP_FSUM_MINOR, LP_FSUM_MAJOR, LP_FSUM_CRITICAL, LP_FSUM_FATAL, LP_CTR, LP_SNAPCTR, LP_EVSEL_EVENT, LP_EVSEL_EN, LPX_BANK_OFF]

/-- The fields of class 0x0007. -/
def class7 : List Fld :=
  [MER_TIME_S_SECONDS, MER_TIME_F_FRACTION, MER_CFG_K, MER_CFG_START_UNSURE, MER_CFG_FORCE_UNSURE, MER_CFG_SURE_HOLD, MER_CFG_BOUND, MER_STAT_STATE, MER_STAT_UNSURE, MER_STAT_SOURCE, MER_STAT_FREQ, MER_STAT_LOOP_FAIL, MER_STAT_USABLE, MER_RES_OFFSET, MER_RES_SIGMA, MER_EST_EST, MER_EST_AGE, MER_SRC_P0, MER_SRC_P1, MER_SRC_P2] ++
  [MER_SRC_P3, MER_CAL_LOOP_EN, MER_CAL_LOOP_SEL, MER_CAL_DELAY_A, MER_CAL_DELAY_B, MER_LOOP_RTT, MER_LOOP_ASYM, MER_LOOP_DISCARDS, MER_PPSO_EN, MER_PPSO_ADVANCE, MER_PPSO_WIDTH, MER_PTP_EN, MER_PTP_DOMAIN, MER_PTP_PORT1, MER_PTP_PORT2, MER_PTP_LOG_SYNC, MER_PTP_ASYM, MER_SYNCE_EN, MER_SYNCE_LANE, MER_SYNCE_MGMT] ++
  [MER_HOLD_DRIFT, MER_GCUT_CUT, MER_SUSPECT_LO_LO, MER_SUSPECT_HI_HI, MER_SUSPECT_HI_VALID, MER_SUSPECT_HI_CLEAR, MER_BEACON_EN, MER_BEACON_PAGE, MER_EPOCH_CURRENT, MERX_DPLL_BW, MERX_DPLL_PHASE_ONLY, MERX_SLEW_MAX, MERX_PPS_WIN, MERX_PTP_KP, MERX_PTP_KI, MERX_TREE_TRIM]

/-- The fields of class 0x0008. -/
def class8 : List Fld :=
  [LC_STAT_STATE, LC_STAT_DEBUG, LC_STAT_HELD, LC_ALARM_LATCHED, LC_ALARM_PRESENT, LC_CMD_OP, LC_CMD_GO, LC_CMD_LEVEL, LC_RES_STATUS, LC_NONCE_VALUE, LC_DIE_ID_VALUE, LC_SVN_FW, LC_SVN_CFG, LC_BUF]

/-- The fields of class 0x0010. -/
def class10 : List Fld :=
  [LANE_CTL_EN, LANE_CTL_PRBS, LANE_CTL_TX_POL, LANE_CTL_RX_POL, LANE_STAT_STATE, LANE_STAT_SIGNAL, LANE_STAT_LOCK, LANE_STAT_DEGRADED, LANE_QUAL_SNR, LANE_QUAL_EYE_W, LANE_QUAL_EYE_H, LANE_QUAL_BER_E, LANE_QUAL_SRC, LANE_QUAL_SAMPLE, LANE_CALSTAT_VISITS, LANE_CALSTAT_SKIPS, LANE_CALSTAT_HOLDS, LANE_THR_WARN, LANE_THR_FAIL, LCAL_CTL_AUTO] ++
  [LCAL_CTL_INTERVAL, LCAL_CTL_ORDER, LCAL_SHADOW_CONV_MAX, LCAL_SHADOW_MATCH, LCAL_SHADOW_DISAGREE, LCAL_SHADOW_MAX_HOLD, LCAL_STEPS_OFFSET, LCAL_STEPS_GAIN, LCAL_STEPS_SKEW, LCAL_STEPS_CTLE, LCAL_STEPS_FFE, LCAL_STEPS_DFE, LCAL_STEPS_BUDGET, LCAL_STAT_LANE, LCAL_STAT_SHADOWING, LCAL_STAT_ACTIVE, LCAL_STAT_BOUNDARY, TXFIR_PRE2, TXFIR_PRE1, TXFIR_MAIN] ++
  [TXFIR_POST1, RXEQ_CTLE, RXEQ_FREEZE, ADCTRIM_OFFSET, ADCTRIM_GAIN, ADCTRIM_SKEW]

/-- The fields of class 0x0011. -/
def class11 : List Fld :=
  [PORT_CFG_MODE, PORT_CFG_EN, PORT_CFG_AN, PORT_CFG_VLAN_EN, PORT_CFG_VLAN_ID, PORT_CFG_VLAN_PCP, PORT_CFG_MTU, PORT_STAT_STATE, PORT_STAT_PLANE, PORT_STAT_IN_SET, PORT_STAT_LAST_CAUSE, PORT_STAT_UP_SINCE, PORT_MAC_ADDR, PORT_NH_ADDR, PORT_DSCP_HOST, PORT_DSCP_TWIN, PORT_DSCP_CTRL, PORT_DSCP_ECT, PLANE_IP6_HI, PLANE_IP6_LO] ++
  [PLANE_IP4_ADDR, PLANE_IP4_HOP]

/-- The fields of class 0x0020. -/
def class20 : List Fld :=
  [TR_CFG_UDP_PORT, TR_CFG_EN, TR_CTX_BASE_ADDR, TR_ACK_COALESCE, TR_ACK_DELAY, TR_TIMER_CREDIT, TR_TIMER_HOLD, TR_QP_CMD_OP, TR_QP_CMD_GO, TR_QP_CMD_QPN, TR_QP_CMD_QUARTER, TR_QP_RES_STATUS, TR_QP_RES_QPN, TR_QP_DATA, TR_PARK_PKTS, TR_PARK_KIB, TR_PARK_DROPS, TR_CACHE_CACHED, TR_CACHE_PINNED, TR_CACHE_MISSES]

/-- The fields of class 0x0022. -/
def class22 : List Fld :=
  [TWIN_CFG_PEER_DEV, TWIN_CFG_PREFERRED, TWIN_CFG_DOMAIN, TWIN_CFG_QP_BASE, TWIN_CFG_KEY_SLOT, TWIN_CFG_ACK_TO, TWIN_CFG_FAILBACK, TWIN_STAT_STATE, TWIN_STAT_LEADER, TWIN_STAT_SENSE, TWIN_STAT_HOLDING, TWIN_STAT_DIAG_OK, TWIN_STAT_CAUSE, TWIN_STAT_LEVEL, TWIN_STAT_PREFERRED, TWIN_STAT_HANDOVER, TWIN_STAT_TERM, TWIN_CMD_OP, TWIN_CMD_GO, TWIN_RES_STATUS] ++
  [TWIN_RESYNC_LEFT, TWIN_RESYNC_TOTAL, TWIN_RATE_RESYNC, TWIN_HEALTH_SECONDS, TWIN_HEALTH_MOVES, TWIN_DIGEST, TWIN_PEERDIG, CLM_CFG_TTL, CLM_CFG_RETURN_HOLD, CLM_CMD_OP, CLM_CMD_GO, CLM_CMD_PLANE, CLM_CMD_ENTRY, CLM_CMD_CLAIM, CLM_CMD_LEN, CLM_RES_STATUS, CLM_RES_ENTRY, CLM_DATA, CLM_DATA2_CLAIM_A, CLM_DATA2_CLAIM_B] ++
  [CLM_DATA2_LEN, CLM_DEFAULT_CLAIM_A, CLM_DEFAULT_CLAIM_B, CLM_STAT_ENTRIES, CLM_STAT_A_UP, CLM_STAT_B_UP, CLM_STAT_MOVES, CLASPX_SETTLE, CLASPX_TERM_WAIT]

/-- The fields of class 0x0030. -/
def class30 : List Fld :=
  [WIN_TABLE_BASE_ADDR, WIN_CMD_OP, WIN_CMD_GO, WIN_CMD_KEY, WIN_RES_STATUS, WIN_RES_KEY, WIN_DATA, WIN_STAT_OPEN, WIN_STAT_CACHED, WCACHE_PIN_INDEX, WCACHE_PIN_EN, WCACHE_FLUSH, WFETCH_MAX_OUT]

/-- The fields of class 0x0040. -/
def class40 : List Fld :=
  [PIPE_STAT_HELD, PIPE_STAT_SB_OPEN, PIPE_STAMP_EPOCH, PIPE_SEAL_SEALED, PIPE_SEAL_UNSURE, PIPE_SEAL_SINGLE, PIPE_OPEN_OLDEST, PIPE_OPEN_EMPTY, PIPE_PEND_WRITES]

/-- The fields of class 0x0041. -/
def class41 : List Fld :=
  [SB_CFG_WINDOW, SB_STAT_OPEN, SB_STAT_CLOSING, SBX_CLOSE_HI]

/-- The fields of class 0x0042. -/
def class42 : List Fld :=
  [LK_CTL_EN, LK_CFG_COALESCE, LK_CFG_STREAM, LK_STAT_STATE, LK_STAT_DIRTY, LK_STAT_VICTIMS, LKX_ENTRY_OFF, LKX_FORCE_BYPASS]

/-- The fields of class 0x0050. -/
def class50 : List Fld :=
  [MC_STAT_STATE, MC_STAT_RETAINED, MC_STAT_POP_ERR, MC_STAT_TYPE, MC_STAT_DPC, MC_STAT_RANKS, MC_STAT_MTS, MC_STAT_GIB, MC_LIMIT_MTS, MC_TEMP_HOT, MC_TEMP_THROTTLE, MC_TEMP_CRIT, MC_TEMP_DOUBLE, MC_TEMP_THROTTLING, MC_RETRAIN_INTERVAL, MC_RETRAIN_NEXT, MC_PANIC_FAB, MC_PANIC_TWIN, MC_PANIC_VAULT, MC_PANIC_FACET] ++
  [MC_QUEUE_READS, MC_QUEUE_WRITES, MC_MAP_LAYOUT, MCX_SCHED_ROTATE, MCX_SCHED_HIT_CAP, MCX_SCHED_WQ_HI, MCX_SCHED_WQ_LO, MCX_SCHED_AGE_MAX, MCX_PCP_THRESH, MCX_PCP_IDLE, MCX_PCP_FORCE_OPEN, MCX_PCP_FORCE_CLOSE, MCX_PANIC_L1_FAB, MCX_PANIC_L1_TWIN, MCX_PANIC_L1_VAULT, MCX_PANIC_L1_FACET, MCX_PANIC_L2_FAB, MCX_PANIC_L2_TWIN, MCX_PANIC_L2_VAULT, MCX_PANIC_L2_FACET] ++
  [MCX_PANIC_L3_FAB, MCX_PANIC_L3_TWIN, MCX_PANIC_L3_VAULT, MCX_PANIC_L3_FACET, MCX_REF_MODE, MCX_REF_POSTPONE, MCX_RETRAIN_DRIFT, MCX_SB_ADDR, MCX_SB_DATA, MCX_SB_CMD, MCX_SB_STATUS]

/-- The fields of class 0x0051. -/
def class51 : List Fld :=
  [BZ_SCRUB_EN, BZ_SCRUB_WIN_K, BZ_SCRUB_WIN_DUTY, BZ_SCRUB_LAP_MAX, BZ_SCRUB_LATE, BZ_SCRUB_RUNNING, BZ_LAP_LAST, BZ_LAP_CUR, BZ_SPARE_FREE, BZ_SPARE_PAGES, BZ_SPARE_BANKS, BZ_RETIRE_OP, BZ_RETIRE_GO, BZ_RETIRE_OFFSET, BZ_RETIRE_RES_STATUS, BZ_RETIRE_RES_MOVED, BZ_MARK_SEL_INDEX, BZ_MARK_DEVICE, BZ_MARK_VALID, BZ_MARK_LINES] ++
  [BZ_LAST_KIND, BZ_LAST_OFFSET, BZ_LAST_DEVICE, BZ_STAT_POISONED, BZX_MARK_AUTO, BZX_MARK_LINES, BZX_MARK_WINDOW, BZX_INJ_MODE, BZX_INJ_DEVICE, BZX_INJ_OFFSET, BZX_INJ_DEVICE2, BZX_INJ_ARM, BZX_INJ_NOW, BZX_INJ_X8, BZX_INJ_X9, BZX_TEST_BASE, BZX_TEST_SIZE]

/-- The fields of class 0x0060. -/
def class60 : List Fld :=
  [VLT_CFG_EN, VLT_CFG_MODE, VLT_CFG_CUT_EN, VLT_CFG_AWAIT, VLT_CFG_RETAIN, VLT_BUDGET_LIMIT, VLT_BUDGET_EFFECTIVE, VLT_BUDGET_SIGNED_MAX, VLT_BUDGET_STATUS, VLT_DIRTY_GRANULES, VLT_DIRTY_DRAIN_SET, VLT_HOLDUP_E_HOLD, VLT_HOLDUP_P_DRAIN, VLT_HOLDUP_RATE, VLT_HOLDUP_COVER, VLT_HOLDUP_HOLDUP_OK, VLT_STAT_STATE, VLT_STAT_THROTTLING, VLT_STAT_REVERTING, VLT_STAT_DEGRADED] ++
  [VLT_STAT_LOSS, VLT_STAT_DRIVES, VLT_VAULTED_EPOCH, VLT_RESTORE_TARGET_KIND, VLT_RESTORE_GO, VLT_RESTORE_EPOCH, VLT_RESTORE_RES_STATUS, VLT_CUTINFO_FLOOR, VLT_CUTINFO_LAST, VLT_CUTINFO_SEALED, VLT_FILL_FILLED, VLT_FILL_TOTAL, VLT_SPACE_FREE, VLT_SPACE_SLOTS, VLT_JRNL_SIZE, VLTX_BUDGET_HI, VLTX_BUDGET_BG_RATE, VLTX_BUDGET_ORDER, VLTX_STRAND_CLOSE, VLTX_MEAS_MIB] ++
  [VLTX_MEAS_DERATE, VLTX_CLEAN_LIVE]

/-- The fields of class 0x0061. -/
def class61 : List Fld :=
  [PCI_LINK_UP, PCI_SPEED, PCI_WIDTH, PCI_NVME_QUEUES]

/-- The fields of class 0x0070. -/
def class70 : List Fld :=
  [SEQ_STATE_STATE, SEQ_STATE_RING, SEQ_STATE_TAG, SEQ_STATE_LINK, SEQ_LIB_BASE_ADDR, SEQ_INSTALL_SLOT, SEQ_INSTALL_GO, SEQ_INSTALL_STATUS, SEQ_INSTALL_BAD_LINK, SEQX_HALT, SEQX_STEP, SEQX_BREAK_EN, SEQX_BREAK]

/-- The fields of class 0x0071. -/
def class71 : List Fld :=
  [RING_SQ_BASE_ADDR, RING_CFG_EN, RING_CFG_LOG2, RING_CFG_PRIO, RING_CFG_SERIAL, RING_CFG_PRIV, RING_CFG_LOCK, RING_SQ_TAIL_IDX, RING_SQ_HEAD_IDX, RING_CQ_BASE_ADDR, RING_CQ_HEAD_IDX, RING_CQ_TAIL_IDX, RING_CQ_TAIL_PHASE, RING_PROFILE_LEVEL, RING_PROFILE_ASYNC, RING_PROFILE_FALLBACK, RING_PROFILE_LIMIT, RING_ABORT_TAG, RING_ABORT_GO, RING_ABORT_RES_STATUS] ++
  [RING_ABORT_RES_TAG, RING_STAT_RUNNING, RING_STAT_QUEUED, RING_STAT_CQ_WAIT]

/-- The fields of class 0x0080. -/
def class80 : List Fld :=
  [FE_CTL_EN, FE_STAT_STATE, FE_STAT_RING, FE_CROWN_TENSOR_KIB, FE_ERR_PARITY, FE_ERR_RESTARTS, FEX_FREQ_CAP]

/-- The fields of class 0x0081. -/
def class81 : List Fld :=
  [TM_CAP_CROWN_MIB, TM_CAP_GIRDLE_MIB, TM_CAP_LEND_GIB, TM_USE_CROWN, TM_USE_GIRDLE, TM_USE_NEIGH, TM_HANDLES_LIVE, TM_HANDLES_EVICTING, TM_CFG_NEIGH_EN, TM_CFG_PREFETCH_EN, TM_NEIGH_SEL_INDEX, TM_NEIGH_DEV, TM_NEIGH_VALID, TM_NEIGH_UP, TM_NEIGH_QPN, TM_NEIGH_GIB, TM_NEIGH_KEY_KEY, TM_CMD_OP, TM_CMD_GO, TM_CMD_HANDLE] ++
  [TM_RES_STATUS, TM_DATA, TM_HSTAT_CROWN, TM_HSTAT_GIRDLE, TM_HSTAT_NEIGH, TM_HSTAT_PROMOTING, TM_HSTAT_EVICTING, TM_HSTAT_REVOKED, TM_HSTAT_SHARED, TM_HSTAT_REFS, TM_HSTAT_RING, TM_MISS_DEADLINE, TM_MISS_FULL, TMX_PROMOTE_GBS, TMX_STREAM_PAUSE, TMX_T3_OUT]

/-- The fields of class 0x0090. -/
def class90 : List Fld :=
  [CE_STAT_PIPES, CE_STAT_KAT_OK, CE_ERR_TAG_FAIL, CE_ERR_LENGTH, CE_USE_SPENT, CE_USE_STAGE, CEX_PIPE_OFF, CEX_KAT_RUN]

/-- The fields of class 0x0091. -/
def class91 : List Fld :=
  [KS_CFG_VAULT_SLOT, KS_CFG_GRACE, KS_CMD_OP, KS_CMD_GO, KS_CMD_SLOT, KS_RES_STATUS, KS_RES_SLOT, KS_ENV, KS_SLOT_MODE, KS_SLOT_STAGED, KS_SLOT_ACTIVE, KS_SLOT_NEAR, KS_SLOT_SPENT, KS_SLOT_PERSIST, KS_SLOT_SWAP_ARMED, KS_SLOT_ACTIVE_VER, KS_SLOT_VER_STAGED_VER, KS_SLOT_USE_USES, KS_SLOT_LIM_LIMIT, KS_STAT_ACTIVE] ++
  [KS_STAT_ERASES]

end F

/-- The fields of a class, the common ones (Table 2.5) first; the Hallmark Table has none of those (R57). -/
def classFields (cls : Nat) : List Fld :=
  match cls with
  | 0x1 => F.class1
  | 0x2 => F.class0 ++ F.class2
  | 0x3 => F.class0 ++ F.class3
  | 0x4 => F.class0 ++ F.class4
  | 0x5 => F.class0 ++ F.class5
  | 0x6 => F.class0 ++ F.class6
  | 0x7 => F.class0 ++ F.class7
  | 0x8 => F.class0 ++ F.class8
  | 0x10 => F.class0 ++ F.class10
  | 0x11 => F.class0 ++ F.class11
  | 0x20 => F.class0 ++ F.class20
  | 0x22 => F.class0 ++ F.class22
  | 0x30 => F.class0 ++ F.class30
  | 0x40 => F.class0 ++ F.class40
  | 0x41 => F.class0 ++ F.class41
  | 0x42 => F.class0 ++ F.class42
  | 0x50 => F.class0 ++ F.class50
  | 0x51 => F.class0 ++ F.class51
  | 0x60 => F.class0 ++ F.class60
  | 0x61 => F.class0 ++ F.class61
  | 0x70 => F.class0 ++ F.class70
  | 0x71 => F.class0 ++ F.class71
  | 0x80 => F.class0 ++ F.class80
  | 0x81 => F.class0 ++ F.class81
  | 0x90 => F.class0 ++ F.class90
  | 0x91 => F.class0 ++ F.class91
  | _ => F.class0

end Sys2Proof.Machine
end

