-- ==== Sys2Proof/Machine/State.lean ====
section
/-! DEFINITION. The state of the block as plain data, everything the spec gives it, and the state after reset: the
power state P4 (Table 0.5) with every register at its reset value (R12) and nothing in any memory. -/

namespace Sys2Proof.Machine

/-- Why the block stops. -/
inductive Fault where
  /-- Raised by any command that names a unit, a sequencer, a ring, a lane, a slot or an index that stepping B0 does
  not have (Table 2.4 gives the counts). No part of the spec describes such a command. Safe: the model stops where
  the part cannot be. -/
  | noSuchUnit (cls n : Nat)
  deriving DecidableEq, Repr

/-- Why the model answers no state. -/
inductive Refusal where
  /-- Raised by an arm of exec that has no meaning yet. Safe: nothing can be proved of such a command. -/
  | notModelled (mnemonic : String)
  deriving DecidableEq, Repr

/-! ## Management core, event recorder, keepsake, Loupe (chapters 2, 16, 17, 18) -/

/-- An event record of Table 16.4 without its CRC, which is computed when it is written out. `ident` is payload
bytes 0 to 7 and `detail` payload bytes 8 to 19, little-endian. -/
structure EvRec where
  source : Nat
  u : Nat
  code : Nat
  fclass : Nat
  again : Nat
  sq : Nat
  opSecs : Nat
  lastSecs : Nat
  cycles : Nat
  ident : Nat
  detail : Nat
  deriving DecidableEq, Repr

/-- The event recorder (R386 to R389). `newest` is the open record with the local instant at which it opened; `queue`
the island queue; `tail` EV_TAIL; `lost` the records dropped since the last one written. Cursors: management port,
firmware, all fabric windows. `done` is the SEQ of the last record programmed. -/
structure Recorder where
  head : Nat
  tail : Nat
  newest : Option (EvRec × Nat)
  queue : List EvRec
  dropped : Nat
  lost : Nat
  done : Nat
  curM : Nat
  curFw : Nat
  curF : Nat
  deriving DecidableEq, Repr

/-- An entry of the state journal (Table 16.1). -/
inductive JItem where
  | eraseStart (block : Nat)
  | marker (block : Nat)
  | term (t : Nat)
  | outcome (o : Nat)
  | cycles (n : Nat)
  | opSecs (n : Nat)
  | uses (slot ver n : Nat)
  deriving DecidableEq, Repr

/-- What the state journal holds: for each item the entry of the highest journal sequence (R377). `erases` are the
erase counters, `torn` the blocks whose latest start entry has no later marker (R380), `uses` the USES reservations
(R443), `used0` and `used1` the entries programmed into copies J0 and J1 since they were erased (R377). -/
structure Journal where
  sq : Nat
  erases : SMap Nat
  torn : List Nat
  term : Nat
  outcome : Nat
  cycles : Nat
  opSecs : Nat
  uses : SMap Nat
  used0 : Nat
  used1 : Nat
  deriving DecidableEq, Repr

/-- The checked content of a key envelope (Table 14.4). -/
structure Env where
  slot : Nat
  ver : Nat
  mode : Nat
  limit : Nat
  persist : Bool
  deriving DecidableEq, Repr

/-- Who asked for a flash operation. -/
inductive FlashBy where
  | command | recorder | island | supervisor | selector | retirement
  deriving DecidableEq, Repr

/-- One keepsake operation (R373): a program of bytes at an address, a block erase (ready once its erase-start entry
is in the journal, R380), a journal entry, a copy of a key envelope (R338, Table 16.1) and of the identity area. -/
inductive FlashOp where
  | program (addr : Nat) (data : List Byte) (src : FlashBy)
  | erase (block : Nat) (ready : Bool) (src : FlashBy)
  | journal (x : JItem)
  | envelope (e : Env) (copy : Nat)
  | identity (copy : Nat)
  deriving DecidableEq, Repr

/-- The command sequence of R378: how many steps have been made, by whom, when the last, and what they gave. -/
structure KfSeq where
  stage : Nat
  owner : Path
  last : Nat
  op : Nat
  addr : Nat
  data : SMap Nat
  deriving DecidableEq, Repr

/-- The keepsake flash (chapter 16): its bytes, the operation running in each bank, the operations that wait, the
state journal, the command sequence, the command-path operation in progress, the slots that passed VERIFY since
their last change. -/
structure Keepsake where
  flash : SMap Byte
  banks : SMap FlashOp
  waiting : List FlashOp
  journal : Journal
  sequence : Option KfSeq
  active : Option Nat
  verified : List Nat
  torn : List Nat
  deriving DecidableEq, Repr

/-- The Loupe (chapter 17). `sel` lists the counters whose LP_EVSEL differs from its reset value (R394): event code
plus 64 when enabled. `snapWait` are the sequencers whose snap waits for the armed snapshot; `rest` is what an event counted in units of 64
bytes or 1,024 MACs has over since its last whole unit (R392). -/
structure Loupe where
  ctr : SMap Nat
  snap : SMap Nat
  sel : SMap Nat
  armed : Option Nat
  status : Status
  snapAt : Nat
  frozen : Bool
  freezeArmed : Option Nat
  snapWait : List Nat
  rest : SMap Nat
  deriving DecidableEq, Repr

/-- The management core and the resets (chapter 18): the image lock (R441), the watchdog deadline, whether a warm
reset is in force (R409), whether RESET_N is low, whether the channels must still finish the hold of R198, the
debug halt of the management core (R353), the classes that the image switched off (CFG_OFF), the values that the image loaded
into the fields whose reset is cfg, by field key (R12, R415). -/
structure Core where
  imageLock : Bool
  wdtEnd : Option Nat
  inReset : Bool
  resetN : Bool
  holdDone : Bool
  halted : Bool
  cfgOff : List Nat
  image : SMap Nat
  fusedOff : List Nat
  rewriteEnd : Option Nat
  deriving DecidableEq, Repr

/-- A stored response to a control datagram (R54). -/
structure MgmtResp where
  tag : Nat
  addr : Nat
  status : Status
  count : Nat
  data : List Nat
  deriving DecidableEq, Repr


/-- Who made a control access over several registers: a management datagram, or a request of a path, with the place of
the access in the bytes it reads. -/
inductive CtlBy where
  | datagram (m : Mgmt)
  | request (p : Path) (op pos : Nat)
  deriving DecidableEq, Repr

/-- A control access over several registers that is under way (R51): whether it writes, its next address, the registers
and the values to write that are left, the values read, newest first, the registers done. -/
structure CtlJob where
  by_ : CtlBy
  wr : Bool
  addr : Nat
  left : Nat
  vals : List Nat
  got : List Nat
  done : Nat
  deriving DecidableEq, Repr

/-! ## Keys, lifecycle and debug (chapter 14) -/

/-- One key version in a slot: version, USES, LIMIT (R334, R337). The key itself is readable on no path and never
leaves the store (R339), so the model holds none (log entry 5). -/
structure KeyCopy where
  ver : Nat
  uses : Nat
  limit : Nat
  deriving DecidableEq, Repr

/-- The staged position of a slot (R337). -/
inductive Staged where
  | empty
  | loaded (k : KeyCopy)
  | retiring (k : KeyCopy)
  deriving DecidableEq, Repr

/-- A key slot (R337). `swapAt` is the instant of an armed swap (R342) with the sequencer whose kswap armed it;
`graceEnd` the end of the grace of the retiring copy; `parked` a load that waits for the staged position (R341),
with the sequencer that issued it, if one did; `told` its spending has been told (R334). -/
structure KeySlot where
  active : Option KeyCopy
  staged : Staged
  mode : Nat
  persist : Bool
  near : Bool
  swapAt : Option (Nat × Option Nat)
  graceEnd : Option Nat
  parked : Option (Env × Option Nat)
  told : Bool
  deriving DecidableEq, Repr

/-- The Key Store (R337, R338): slots, the envelopes in the keepsake (key 2 slot + 0 the newest, 2 slot + 1 the
vault slot's retiring one), the erasures counted, the KS_CMD in progress on a slot. -/
structure KeyStore where
  slots : SMap KeySlot
  envs : SMap Env
  erases : Nat
  busy : Option Nat
  deriving DecidableEq, Repr

/-- The lifecycle (Table 0.6). -/
inductive Life where
  | blank | provisioned | deployed | returned | scrapped
  deriving DecidableEq, Repr

/-- The fused limits of one rail, in mV (R371). -/
structure RailLimit where
  setMin : Nat
  setMax : Nat
  hardLo : Nat
  hardHi : Nat
  deriving DecidableEq, Repr

/-- Lifecycle, debug and security alarms (R347 to R353): fuses (state, owner key hashes, rail limits, SVN floors, die
identity, device-unique key), whether the keepsake holds the wrapped OWK, whether an owner-signed image has been
accepted (DEPLOY), the alarm bits and the conditions now present, the hold, the nonce, LC_BUF, the halted sequencers (R353), whether D3 stopped service
until the next reset, and the halted sequencers that have been told to step over one link (Table 0.7). -/
structure Lifecycle where
  state : Life
  ecdsa : List Byte
  mldsa : List Byte
  rails : List RailLimit
  svnFw : Nat
  svnCfg : Nat
  dieId : Nat
  keyBlown : Bool
  owk : Bool
  signedImage : Bool
  level : Nat
  latched : Nat
  present : Nat
  held : Bool
  nonce : Nat
  buf : SMap Byte
  halted : List Nat
  stopped : Bool
  steps : List Nat
  deriving DecidableEq, Repr

/-- Egress work that waits for a cipher pipeline: packets queued on a QP, its acknowledgement, its ERROR packet with a status, the
retransmission of a PSN and whether a SACK asked for it. -/
inductive TxWork where
  | pump (n : Nat)
  | ack (n : Nat)
  | error (n st : Nat)
  | resend (n psn : Nat) (fast : Bool)
  deriving DecidableEq, Repr

/-- The pipelines of the Cipher Engine (R331): the local instants at which the occupied ones are free again, the class granted
last (0 ingress, 1 egress, 2 blobs, 3 vault), and what waits: received packets and egress work in order, the sequencers whose
link has a blob, a vault plate. -/
structure CipherSt where
  busy : List Nat
  last : Nat
  rx : List Pkt
  tx : List TxWork
  blobs : List Nat
  plate : Bool
  deriving DecidableEq, Repr

/-! ## Power Supervisor (chapter 15) -/

/-- The power states (Table 0.5). -/
inductive PState where
  | p0 | p1 | p2 | p3 | p4
  deriving DecidableEq, Repr

/-- PS_STAT.SEQ (Table 15.6). -/
inductive PSeq where
  | idle | up | checkpoint | down | minOff
  deriving DecidableEq, Repr

/-- What a running sequence leads to (Table 15.5). -/
inductive PPlan where
  | none | boot | wakeStandby | wakeDormant | off | standby | dormant | drainRails
  deriving DecidableEq, Repr

/-- PS_RAIL.STATE (Table 15.6). -/
inductive RailSt where
  | off | rising | inWindow | outOfWindow | falling
  deriving DecidableEq, Repr

/-- One rail: its state, last sensed voltage, window exits, last PMBus current (10 mA), temperature and
STATUS_WORD, and the ring of its last 32 samples, oldest first (R356). -/
structure Rail where
  st : RailSt
  mv : Nat
  faults : Nat
  amps : Nat
  temp : Nat
  sw : Nat
  ring : List Nat
  deriving DecidableEq, Repr

/-- What a power record will say (Table 15.3), fixed at detection. -/
structure PRec where
  kind : Nat
  rail : Nat
  dir : Nat
  pstate : Nat
  snapshot : Bool
  timeS : Nat
  timeF : Nat
  mvs : List Nat
  samples : List Nat
  amps : Nat
  temp : Nat
  sw : Nat
  deriving DecidableEq, Repr

/-- The Power Supervisor (chapter 15). `todo` are the rails the running sequence still has to switch, its head the
one in progress; `warnAt` is T_W in local time; `graceEnd` the shutdown timer of R364; `rcd` the record that the
running power-down will write; `offUntil` the end of the minimum off time; `retryUsed` one power-up has failed in a
row; `upAllowed` power-up is not withheld by R359; `lowSince` since when PWR_REQ is low; `cmd` the
PS_CMD in progress; `w0` and `w1` the used slots of the record blocks W0 and W1 (R367);
`drainDone` the drain reached its superblock; `facetHalf` the Facet Engines run
at half clock (R438); `thermN` the die holds THERM_N; `stepAt` when the head rail of the sequence was enabled or disabled. -/
structure Power where
  state : PState
  sq : PSeq
  plan : PPlan
  todo : List Nat
  rails : SMap Rail
  pwrReq : Bool
  pfWarnN : Bool
  holdupOk : Bool
  latchOn : Bool
  warn : Bool
  warnAt : Option Nat
  graceEnd : Option Nat
  rcd : Option PRec
  offUntil : Option Nat
  retryUsed : Bool
  upAllowed : Bool
  lowSince : Option Nat
  cmd : Option Nat
  w0 : Nat
  w1 : Nat
  drainDone : Bool
  coreUp : Option Nat
  facetHalf : Bool
  thermN : Bool
  stepAt : Nat
  deriving DecidableEq, Repr

/-! ## Outputs -/

/-- What the block puts out on its ports and pins. -/
inductive Out where
  /-- An NRT packet on the fabric: its fields, the 96-bit IV it is sealed under, its header bytes (the additional data of the
  seal, R117). -/
  | nrt (k : Pkt) (iv head : List Byte)
  /-- A RoCEv2 packet on the fabric: frame, destination QP, opcode, PSN, AETH syndrome, payload, and the bytes of its UDP
  payload. -/
  | roce (f : Frame) (qp opcode psn synd : Nat) (data bytes : List Byte)
  /-- A response on the management port: tag and address of the request, status code, registers completed, data (R52). -/
  | mgmt (tag addr status count : Nat) (data : List Nat)
  /-- An interrupt of the management core (R402). -/
  | irq (cls u fclass : Nat)
  /-- An edge on MER_PPSO or MER_LOOP_TX. -/
  | ppso (high : Bool)
  | loopTx
  /-- CLASP_LINE starts or stops toggling (R290). -/
  | clasp (asserted : Bool)
  /-- REG_EN[n]. -/
  | regEn (n : Nat) (on : Bool)
  /-- A PMBus write that an expert register makes (chapter 15). -/
  | pmbus (addr data cmd : Nat)
  /-- Answers of R106: ARP, neighbour advertisement, ICMP echo (the frame sent, and the plane address, or identifier with
  sequence number and the data echoed). -/
  | arp (f : Frame) (ip : Nat)
  | neighbour (f : Frame) (ipHi ipLo : Nat)
  | echo (f : Frame) (ident : Nat) (data : List Byte)
  /-- A PTP Delay_Req on a port (R259). -/
  | ptpDelayReq (port sequence : Nat)
  /-- A DIMM command outside data transfers: refresh of a bank, precharge, refresh of every bank, refresh
  management, self-refresh entry, ZQ calibration with its latch, sideband access. -/
  | refresh (ch sub bank : Nat)
  | precharge (ch sub bank : Nat)
  | refreshAll (ch sub : Nat)
  | refreshManagement (ch sub bank : Nat)
  | selfRefresh (ch sub : Nat)
  | zqCalibration (ch sub : Nat)
  | sideband (ch target reg value : Nat) (isWrite : Bool)
  /-- The status of a chain's control-space or register write from a path that gets one (R50). -/
  | answer (p : Path) (status : Status) (value : Nat)
  deriving DecidableEq, Repr

/-! ## Requests, line operations, setting buffer, locket cache (chapter 7) -/

/-- Who asked for a request: an NRT message, a RoCEv2 packet, the link at word `pc` of a sequencer, a Facet ticket, a promotion, a
message of twin records (role, MSG), a descriptor update, the ring machinery, a restore. -/
inductive OpSrc where
  | nrt (qp msg : Nat)
  | roce (qp psn : Nat)
  | link (q n : Nat)
  | facet (tk : Nat)
  | promo (h tier : Nat)
  | record (r msg : Nat)
  | desc (idx : Nat)
  | ring (n : Nat)
  | restore
  deriving DecidableEq, Repr

inductive OpKind where
  | write | read | atomic | persist | copy | control
  deriving DecidableEq, Repr

/-- A request that has passed the window check and has not ended: its level (1 to 3), the status met so far (R445),
the writes still to be Placed and to be Twinned, the line reads that are out, the highest epoch stamped, the bytes
read (by position), its length, whether every part has been handed over, the bytes that arrived of a multi-packet
write. -/
structure Op where
  src : OpSrc
  kind : OpKind
  level : Nat
  status : Status
  toPlace : Nat
  toTwin : Nat
  reads : Nat
  hiEpoch : Option Nat
  data : SMap Byte
  len : Nat
  got : Nat
  issued : Bool
  deriving DecidableEq, Repr

/-- A stamped write to one line: its request, its epoch, whether it is Placed here, whether the twin has acknowledged
its forward, whether it waits for one (R179, R181), its line. -/
structure WriteRec where
  op : Nat
  epoch : Nat
  line : Nat
  placed : Bool
  acked : Bool
  fwd : Bool
  deriving DecidableEq, Repr

/-- One write as merged into an entry: write number, bytes by position in the line, epoch, window key. -/
structure Merge where
  wid : Nat
  patch : SMap Byte
  epoch : Nat
  key : Nat
  deriving DecidableEq, Repr

/-- A setting-buffer entry (R166): line, the writes merged in line order, the local instant it opened, the window it
opened with, whether it is closing, whether its merge waits for a heal. -/
structure SbEntry where
  line : Nat
  writes : List Merge
  opened : Nat
  window : Nat
  closing : Bool
  deriving DecidableEq, Repr

/-- A line handed to its channel and not yet accepted (R168, R173): its full image, its writes, whether it comes from
the locket cache or a bypassed atomic, whether the entry was full, whether its writes were healed. -/
structure Store where
  line : Nat
  data : List Byte
  writes : List Merge
  atom : Bool
  deriving DecidableEq, Repr

/-- A resident line of the locket cache or its victim buffer (R171 to R174): `base` is the line before the changes
not yet written through, `writes` those changes, `due` the local instant by which it is written through (R184), `through` the
write-throughs that the channel has not accepted yet. -/
structure LkLine where
  line : Nat
  data : List Byte
  base : List Byte
  ref : Bool
  dirty : Bool
  due : Nat
  writes : List Merge
  through : Nat
  deriving DecidableEq, Repr

/-- A fill in progress (R171), or the read of a bypassed atomic (R175), and the local instant at which it started. -/
structure LkFill where
  line : Nat
  stream : Bool
  bypass : Bool
  at_ : Nat
  deriving DecidableEq, Repr

/-- The locket cache: its 48 entries by number, the 8 victims oldest first, fills in progress, the line of the last fill
of each requester (R172), whether a flush runs, whether EN = 1 was written meanwhile. -/
structure Locket where
  lines : SMap LkLine
  victims : List LkLine
  fills : List LkFill
  lastFill : SMap Nat
  flushing : Bool
  again : Bool
  deriving DecidableEq, Repr

/-- An operation on one line (R161): a write of bytes, a read of a byte range into a request's result, an atomic. -/
inductive LineAct where
  | write (m : Merge)
  | read (op pos lo len : Nat)
  | atom (wid op off atop operand cmp epoch key who : Nat)
  deriving DecidableEq, Repr

/-- What a DRAM read is for. -/
inductive ReadFor where
  | request (op pos lo len : Nat)
  | scrub
  | move
  deriving DecidableEq, Repr

/-- A DRAM read that is out (R204): the line, its bytes and stored check deviation when it was taken in line order, the
bytes of setting-buffer entries to lay over them, whether a write passed the check since (R210), whether it waits
for a heal, the mark in force, the local instant at which it was queued, whether a full line has been stored since (R212). -/
structure ReadRec where
  what : ReadFor
  line : Nat
  base : List Byte
  chk : BitVec 64 × BitVec 64
  overlay : SMap Byte
  stale : Bool
  healing : Bool
  mark : Option Nat
  at_ : Nat
  full : Bool
  deriving DecidableEq, Repr

/-- What a heal serves (R211). -/
inductive HealFor where
  | read (rid : Nat)
  | merge (line : Nat)
  | fill (line : Nat)
  | vault (granule line : Nat)
  | restore (granule line : Nat)
  | desc (line : Nat)
  deriving DecidableEq, Repr

/-- A heal that waits (R211): the line, what it serves, whether a write passed the check since the read (R210), whether the
line was found uncorrectable just now, whether a full line has been stored since (R212). -/
structure Heal where
  line : Nat
  what : HealFor
  dropped : Bool
  fresh : Bool
  full : Bool
  deriving DecidableEq, Repr

/-- The Service Pipeline and the line stores behind it (chapter 7, R202 to R212). `pm` is the content of persistent
memory by byte offset, `chk` the deviation of a line's stored check symbols from those that make both syndromes zero
(R203, R206), `sb` the setting buffer, `stores` the lines on their way to a channel, `waits` the operations that wait
in line order (R163, R171), `openEpochs` the stamped writes not yet Twinned per epoch (R181), `stamp` the last epoch
stamped by each slice, `timeReached` the highest epoch whose boundary plus guard band has passed while sure (R270),
`taking` whether the window check admits requests, `highStamp` the highest epoch stamped, `forced` whether everything admitted is
brought to Placed whatever the dirty budget (R38, R176). -/
structure Pipe where
  pm : SMap Byte
  chk : SMap (BitVec 64 × BitVec 64)
  sb : List SbEntry
  stores : List Store
  locket : Locket
  waits : List (Nat × LineAct)
  ops : SMap Op
  nextOp : Nat
  writes : SMap WriteRec
  nextWrite : Nat
  reads : SMap ReadRec
  nextRead : Nat
  heals : SMap Heal
  nextTag : Nat
  openEpochs : SMap Nat
  stamp : SMap Nat
  highStamp : Option Nat
  sealedE : Nat
  timeReached : Option Nat
  taking : Bool
  forced : Bool
  deriving DecidableEq, Repr

/-! ## Window Unit (chapter 6) -/

/-- A request that waits at the window stage for a descriptor fetch (R151): a packet past the cipher stage, the link
that a sequencer stands at, the front record of a twin QP. -/
inductive WinWait where
  | nrt (k : Pkt)
  | roce (k : Roce)
  | link (q : Nat)
  | record (r : Nat)
  deriving DecidableEq, Repr

/-- Who waits for a window operation: WIN_CMD, or the link of a sequencer that issued it. -/
inductive WinBy where
  | command
  | link (q : Nat)
  | lend
  deriving DecidableEq, Repr

/-- A revoke in progress (R155): index, key, who waits, whether the cut has been made, the writes checked before the
cut that are not Placed, the number of the descriptor write, whether the twin must acknowledge it. -/
structure Revoke where
  idx : Nat
  key : Nat
  by_ : WinBy
  cut : Bool
  before : List Nat
  desc : Option Nat
  deriving DecidableEq, Repr

/-- A window open whose descriptor write has not ended (R153). -/
structure Opening where
  key : Nat
  by_ : WinBy
  wid : Nat
  deriving DecidableEq, Repr

/-- The Window Unit: cached descriptors, most recently used first, the requests that wait at the window stage in order, revokes and
openings in progress, the window command that waits for a part of the table (code, path, key), descriptor updates whose forward
waits for those of earlier writes (line, its bytes, the writes; R157). -/
structure Windows where
  cache : List Nat
  waiting : List (Nat × WinWait)
  revokes : List Revoke
  openings : List Opening
  asked : Option (Nat × Path × Nat)
  held : List (Nat × List Byte × List Merge)
  deriving DecidableEq, Repr

/-! ## Memory channels, Bezel code (chapters 8, 9) -/

/-- A bank of a subchannel: its open row if one is left open, its two-bit counter (R194), refresh intervals postponed
(R196), the local instant of its last access, its row hits in a row (R192), its activates since its last refresh (R196). -/
structure BankSt where
  row : Option Nat
  counter : Nat
  postponed : Nat
  last : Nat
  hits : Nat
  acts : Nat
  deriving DecidableEq, Repr

/-- A line in the write queue of its subchannel (R192), and the local instant at which it entered. -/
structure WqLine where
  line : Nat
  at_ : Nat
  deriving DecidableEq, Repr

/-- The sixteen channels beyond their registers: banks (key 1024 (2 ch + sub) + 256 rank + 16 group + bank), polls that a DIMM's sensor
missed in a row, the in-band interrupts taken, the write-timing value of each subchannel, the bank group of its last
activate, whether the island holds the DIMMs (R198), whether training values are saved, the lines in the write queues of all
subchannels, oldest first (R192), the subchannels (2c + s) that drain writes, the throttled channels whose next activate is
left out (R190), the channels last found at or above MC_TEMP.CRIT, for each subchannel the next retraining boundary that it
has not taken (R197), the sideband buses that run I3C, and the dynamic addresses of the DIMM targets on them (R189). -/
structure Channels where
  banks : SMap BankSt
  missed : SMap Nat
  ibis : List (Nat × Nat)
  timing : SMap Nat
  lastGroup : SMap Nat
  held : Bool
  trained : Bool
  wq : List WqLine
  draining : List Nat
  skip : List Nat
  crit : List Nat
  boundary : SMap Nat
  i3c : List Nat
  dyn : SMap Nat
  deriving DecidableEq, Repr

/-- A retirement in progress (R219): bank or page, the line offset named, lines to move, the sequencer whose
`retire` waits, whether its record is in the keepsake. -/
structure Retire where
  bank : Bool
  off : Nat
  total : Nat
  by_ : Option Nat
  recorded : Bool
  deriving DecidableEq, Repr

/-- Corrections seen on a subchannel-rank within the marking window (R209). -/
structure Seen where
  source : Nat
  sr : Nat
  device : Nat
  line : Nat
  at_ : Nat
  deriving DecidableEq, Repr

/-- The Bezel unit beyond its registers: device marks, corrections seen, retired pages and banks, the retirements that
wait and the watermark of the one that moves, the scrubber (window open, next line, lap start, poisoned lines met in
this lap). -/
structure Bezel where
  marks : SMap Nat
  seen : List Seen
  pages : List Nat
  bankList : List Nat
  retiring : List Retire
  moved : Nat
  window : Bool
  next : Nat
  lapStart : Nat
  poisonedNow : Nat
  deriving DecidableEq, Repr

/-! ## Vault Engine (chapter 10) -/

/-- A dirty granule (R226): LAST, the lowest epoch Placed in it since it was clean, writes Placed in it and not yet Twinned, the order in which it became dirty, whether
a write was Placed since the engine read it, the strand that holds its latest read. -/
structure Dirty where
  last : Nat
  first : Nat
  untwinned : Nat
  order : Nat
  since : Bool
  strand : Option Nat
  deriving DecidableEq, Repr

/-- A cut record (R243). -/
structure CutRec where
  line : Nat
  epoch : Nat
  poison : Bool
  data : List Byte
  deriving DecidableEq, Repr

/-- A payload plate (Table 10.5): kind 0 empty, 1 data, 2 cut; for data the granule, LAST, poison mask and bytes by
position; for cut its records. -/
structure Plate where
  kind : Nat
  granule : Nat
  epoch : Nat
  poison : Nat
  data : SMap Byte
  records : List CutRec
  deriving DecidableEq, Repr

/-- A strand (R237, Table 10.4). `state`: 0 open, 1 closing, 2 closed. `lacks`: drives that hold no chunk of it. `into`: the
strand to which cleaning copied its live plates. -/
structure Strand where
  slot : Nat
  keyVer : Nat
  openEpoch : Nat
  closeEpoch : Nat
  drain : Bool
  clean : Bool
  sealedE : Nat
  closeTime : Nat
  plates : List Plate
  state : Nat
  openedAt : Nat
  lacks : List Nat
  into : Option Nat
  deriving DecidableEq, Repr

/-- A superblock (Table 10.3) without its constants. -/
structure Super where
  vaultId : Nat
  device : Nat
  generation : Nat
  state : Nat
  twinDep : Bool
  slots : Nat
  pmBytes : Nat
  lastSeq : Nat
  lastEpoch : Nat
  sealedE : Nat
  floorE : Nat
  gcut : Nat
  timeS : Nat
  deriving DecidableEq, Repr

/-- A vault drive: lost, rebuilding, its superblock copies (LBA 0 and LBA 128). -/
structure Drive where
  lost : Bool
  rebuilding : Bool
  sb0 : Option Super
  sb1 : Option Super
  deriving DecidableEq, Repr

/-- The Vault Engine beyond its registers: dirty granules and the count given out as their order, strands by SEQ and
the next SEQ, drives, the cut journal ring, the floor, granules not yet filled, the restore target in force (kind and
epoch) and whether a choice is awaited, whether a measurement runs, its payload bytes, whether B_eff is forced to 0,
PM_BYTES and VAULT_ID of the image, whether the drain or a dormancy entry runs, vault LBAs per drive in slots; the granules of the drain set fixed at the
warning (R245), the earliest instant of the next background plate (R228), the start of the measurement (R234), granules whose
lines the twin restores (R242), SEALED and the global cut at the warning (Table 10.3), whether PERST# of the vault links is released (Table 18.6). -/
structure Vault where
  dirty : SMap Dirty
  order : Nat
  strands : SMap Strand
  nextSeq : Nat
  drives : SMap Drive
  journal : List CutRec
  floorE : Nat
  unfilled : List Nat
  total : Nat
  awaiting : Bool
  target : Nat × Nat
  measuring : Bool
  zeroed : Bool
  pmBytes : Nat
  vaultId : Nat
  initVault : Bool
  draining : Bool
  dormant : Bool
  slots : Nat
  nonLatest : Bool
  earlyFloor : Bool
  fixed : List Nat
  bgNext : Nat
  measAt : Nat
  rescue : List Nat
  atWarn : Option (Nat × Nat)
  linksUp : Bool
  deriving DecidableEq, Repr

/-! ## Twin, clasp and plane claims (chapter 12) -/

/-- CLASP_SENSE as classified (Table 12.6). -/
inductive Sense where
  | released | held | lost
  deriving DecidableEq, Repr

/-- TWIN_STAT.STATE (Table 12.2). -/
inductive TwinSt where
  | unpaired | resync | inSync | single | refused
  deriving DecidableEq, Repr

/-- A forward record (Tables 12.3, 12.4): its body as bytes, and the message that carried it. -/
structure TwinRec where
  typ : Nat
  atom : Bool
  line : Nat
  epoch : Nat
  wkey : Nat
  term : Nat
  body : List Byte
  msg : Nat
  lastOfMsg : Bool
  deriving DecidableEq, Repr

/-- The content of a HELLO (Table 12.7). -/
structure Hello where
  digest : List Byte
  level : Nat
  joinKind : Nat
  preferred : Bool
  holding : Bool
  outcome : Nat
  device : Nat
  term : Nat
  deriving DecidableEq, Repr

/-- The receiving side of one twin QP (roles 0 to 7 slices, 8 control): records delivered and not yet applied, packets
held for MSG order, the next MSG to apply, messages whose lines are not all Placed, the last FENCE applied, the
sealed epoch of the last SEAL_MARK, whether TERM_END of the leader's term has been applied. -/
structure TwinRx where
  records : List TwinRec
  held : List (Nat × List TwinRec)
  nextMsg : Nat
  fence : Nat
  sealMark : Option Nat
  termEnd : Bool
  deriving DecidableEq, Repr

/-- The twin unit (chapter 12) beyond its registers. `peerTerm` is the TERM of the latest record received, `sentHello` and
`peerHello` whether HELLO was sent and what the peer's said, `settleEnd` the end of the 10 us of R290, `termWaitEnd`
of the 50 us of R294, `bothSince` since when both members hold, `releasedSince` since when the sense reads released,
`regions` the marked regions below `allFrom`, from which on every region is marked (R296), `copied` the regions
whose RESYNC_LINE records are out, `fenceNo` the last fence number given out,
`endAcked` TERM_END acknowledged, `ledAtWarn` it led at T_W (R289), `everHeld` it has held the pair's data, `sealSent` when SEAL_MARK was last sent, `markDue` whether one waits for its
microsecond (R287), `assumed` whether the clasp was taken by ASSUME, `followed` whether it has followed since its last OUTCOME (R292), `healthSince` since when
IN_SYNC and healthy, `endSent` the TERM_END messages out. -/
structure Twin where
  state : TwinSt
  leader : Bool
  sense : Sense
  holding : Bool
  diagOk : Bool
  cause : Nat
  level : Nat
  handover : Bool
  term : Nat
  peerTerm : Option Nat
  sentHello : Bool
  peerHello : Option Hello
  settleEnd : Option Nat
  termWaitEnd : Option Nat
  bothSince : Option Nat
  releasedSince : Option Nat
  regions : List Nat
  allFrom : Nat
  copied : List Nat
  total : Nat
  rx : SMap TwinRx
  fenceNo : Nat
  endAcked : Bool
  endSent : List (Nat × Nat)
  ledAtWarn : Bool
  everHeld : Bool
  sealSent : Option Nat
  markDue : Bool
  assumed : Bool
  followed : Bool
  healthSince : Option Nat
  joinKind : Nat
  pairStateAt : Nat
  deriving DecidableEq, Repr

/-- An entry of the claim table (R300): prefix, length, the claims, the local instants at which they were set, whether it
has a prefix. -/
structure Claim where
  pfxHi : Nat
  pfxLo : Nat
  len : Nat
  a : Nat
  b : Nat
  setA : Nat
  setB : Nat
  on_ : Bool
  deriving DecidableEq, Repr

/-! ## Transport (chapter 5) -/

/-- What one of the controller's own request messages on a QP serves. -/
inductive OutFor where
  | forward (wids : List Nat) (termEnd : Bool)
  | resync (region : Nat)
  | op (id : Nat)
  | neighbour (promo : Nat)
  | control
  deriving DecidableEq, Repr

/-- A packet sent and not yet acknowledged (R126, R130): the packet as it was formed, when it was last sent, whether a
SACK has already made it go again within the RTO, the key version it keeps. -/
structure SentPkt where
  psn : Nat
  k : Pkt
  sentAt : Nat
  fastAt : Option Nat
  ver : Nat
  deriving DecidableEq, Repr

/-- A message of the controller's own on an outbound or twin QP: its number, what it serves, the bytes of a read so
far, the instant it was sent (R299). -/
structure OwnMsg where
  msg : Nat
  what : OutFor
  data : SMap Byte
  len : Nat
  got : Nat
  sentAt : Nat
  deriving DecidableEq, Repr

/-- A request message of the peer: its number and type, its request, whether a COMPLETION is wanted, whether it has
ended, the response that waits for MSG order (status, level reached, epoch, data), the key version captured. -/
structure RxMsg where
  msg : Nat
  typ : Nat
  op : Option Nat
  signal : Bool
  ended : Bool
  resp : Option (Status × Nat × Nat × List Byte)
  ver : Nat
  level : Nat
  len : Nat
  deriving DecidableEq, Repr

/-- The RoCEv2 side of a KIND 3 QP (R137 to R143): expected PSN, whether a sequence NAK is out, the write in progress
(R_Key, start, length, bytes so far), replay store of atomic results (PSN, old value),
rate divisor of READ responses, message sequence number, when a CNP was last sent and when the rate last changed, requests not yet
answered (PSN, request, opcode), immediates that wait for their write (request, immediate, R_Key, offset; R140). -/
structure RoceSt where
  ePsn : Nat
  nakOut : Bool
  cur : Option (Nat × Nat × Nat × Nat)
  replay : List (Nat × Nat)
  divisor : Nat
  msn : Nat
  cnpAt : Option Nat
  notified : Nat
  open_ : List (Nat × Nat × Nat)
  imms : List (Nat × Nat × Nat × Nat)
  deriving DecidableEq, Repr

/-- A QP context (Table 5.7) and what the Transport Engine keeps for the QP beside it; `stWas` is the state shown until the flush of
a RESET is over (R120), `sealedHigh` the highest epoch of the QP's writes that are Sealed and forgotten (R114). -/
structure Qp where
  st : Nat
  pin : Bool
  kind : Nat
  ipv4 : Bool
  level : Nat
  retry : Nat
  peerQp : Nat
  pmtu : Nat
  keySlot : Nat
  rto : Nat
  credInit : Nat
  credMax : Nat
  ipA : Nat
  ipB : Nat
  udpSrc : Nat
  immRing : Nat
  immChain : Nat
  cookie : Nat
  sndNxt : Nat
  sndUna : Nat
  rcvNxt : Nat
  rcvMsg : Nat
  credGrant : Nat
  credSeen : Nat
  credPeer : Nat
  credUsed : Nat
  txCtr : Nat
  sndMsg : Nat
  w : Nat
  errCause : Nat
  errWhy : Nat
  plane : Nat
  backoff : Nat
  errTime : Nat
  rcvd : List Nat
  rxCtr : Nat
  sent : List SentPkt
  sendq : List (Pkt × Nat)
  waitSince : Option Nat
  own : List OwnMsg
  rx : List RxMsg
  orderq : List Pkt
  lost : List Nat
  ackCount : Nat
  ackSince : Option Nat
  ceSeen : Bool
  growAt : Nat
  halvedAt : Option Nat
  errSentAt : Option Nat
  progressAt : Nat
  resetting : Bool
  stWas : Nat
  sealedHigh : Option Nat
  ce : RoceSt
  deriving DecidableEq, Repr

/-- The Transport Engine beyond its registers: contexts by number, cached ones most recently used first, parked
packets in arrival order (R132), contexts whose fetch is out, timers that fired for an evicted context (R131: the QP, and whether
it is the credit timer). -/
structure Transport where
  qps : SMap Qp
  cache : List Nat
  parked : List Pkt
  parkedRoce : List Roce
  fetches : List Nat
  timers : List (Nat × Bool)
  deriving DecidableEq, Repr

/-! ## Meridian Unit (chapter 11) -/

/-- A time transmitter heard by Announce (R259): port (0 management port, 1 and 2 the fabric ports), source identity,
dataset rank (lower is better), whether it runs the high accuracy profile. -/
structure Transmitter where
  port : Nat
  src : Nat
  dataset : Nat
  highAcc : Bool
  deriving DecidableEq, Repr

/-- A PTP exchange in progress on a port: its sequence, whether the Sync is complete (one-step, or followed up), whether
the Delay_Req has been sent. -/
structure Exchange where
  port : Nat
  src : Nat
  sequence : Nat
  complete : Bool
  requested : Bool
  deriving DecidableEq, Repr

/-- The Meridian Unit beyond its registers: the latched fraction of each path (R255), for each PPS input the edges
accepted and rejected in a row, time transmitters and exchanges, the local instant of the last exchange of each PTP
source, the last 64 measured offsets in ps, the last 16 loop measurements and the discards in a row (R258), when the
last measurement was accepted, since when a source has been usable before the first lock (R266), whether the first lock
has happened, since when no unsure condition holds (R264), whether MER_REF10M is lost
(R447), since when MER_PPSO is high, since when the epoch check holds service (R267), the K of the previous service. -/
structure Meridian where
  latched : SMap Nat
  runs : SMap (Nat × Nat)
  heard : List Transmitter
  exchanges : List Exchange
  lastPtp : SMap Nat
  offsets : List Int
  loops : List Nat
  loopBad : Nat
  lastMeas : Option Nat
  usableSince : Option Nat
  locked : Bool
  calmSince : Option Nat
  refLost : Bool
  ppsHigh : Option Nat
  epochHold : Option Nat
  lastK : Option Nat
  deriving DecidableEq, Repr

/-! ## Fabric ports (chapter 4) -/

/-- The chord slice of a quad (R100 to R103): the lane of the quad that it serves, whether it converges in shadow or
carries the lane, for how many intervals it has held a lane whose return failed, whether the own slice repeats its
full calibration, the lanes served in this cycle, and during a visit the INTERVAL and MAX_HOLD in force since the last boundary. -/
structure Chord where
  lane : Nat
  shadowing : Bool
  active : Bool
  held : Nat
  recal : Bool
  served : List Nat
  visit : Option (Nat × Nat)
  deriving DecidableEq, Repr

/-- The fabric beyond its registers: chord slices by quad, per lane the successive refreshes below WARN, at or above
WARN while degraded, and below FAIL (R105), the planes within CLM_CFG.RETURN_HOLD of coming up (R301), since when
both planes are down (Table 12.8), echo requests answered per plane in the current second (R106), whether every lane
is held dark (Table 4.3), per port the local instant at which its bring-up or its dark wait started (R98). -/
structure Fabric where
  chords : SMap Chord
  low : SMap Nat
  good : SMap Nat
  fail : SMap Nat
  hold : SMap Nat
  bothDown : Option Nat
  echo : SMap (Nat × Nat)
  dark : Bool
  since : SMap Nat
  deriving DecidableEq, Repr

/-! ## Facet Engines and tensor tiers (chapter 13) -/

/-- A tensor descriptor (Table 13.3). -/
structure Tensor where
  wkey : Nat
  fmt : Nat
  rank : Nat
  shared : Bool
  keep : Bool
  alloc : Nat
  off : Nat
  dims : List Nat
  strides : List Nat
  deriving DecidableEq, Repr

/-- A copy of a tensor in a tier: its bytes by position in the tensor's span, whether it is stale (R312), the neighbour
that holds it and where in its share (neighbour tier), when it was last used. -/
structure TierCopy where
  data : SMap Byte
  stale : Bool
  at_ : Nat
  pos : Nat
  used : Nat
  deriving DecidableEq, Repr

/-- A handle (R308): CHECK, descriptor as words, ring of the chain that loaded it, copies, evicting, revoked, REFS, the
fallback recorded by `tpromote` (policy, handle), the asynchronous operations of sequencers that a deferred `tevict`
completes (sequencer, chain, number), whether it has been named by an `fx`; `base` is where element 0 lies in persistent
memory, `idx` and `gen` the window of the key it was loaded with, `span` the bytes it spans. -/
structure Handle where
  check : Nat
  words : List Nat
  t : Tensor
  ring : Nat
  crown : Option TierCopy
  girdle : Option TierCopy
  neigh : Option TierCopy
  evicting : Bool
  revoked : Bool
  refs : Nat
  policy : Nat
  fallback : Nat
  waiters : List (Nat × Nat × Nat)
  named : Bool
  base : Nat
  span : Nat
  idx : Nat
  gen : Nat
  deriving DecidableEq, Repr

/-- A promotion in progress (R311, R314): handle, tier (0 crown, 1 girdle, 2 neighbour), status met, whether its window
was revoked, the operations for which it pauses, its pavilion read, whether a tracked write asks for a restart, whether
its bytes are on their way to a neighbour, that neighbour and the place in its share, the neighbour whose copy it reads. -/
structure Promo where
  h : Nat
  tier : Nat
  status : Status
  revoked : Bool
  pauses : Nat
  op : Option Nat
  restart : Bool
  sent : Bool
  at_ : Nat
  pos : Nat
  src : Option Nat
  deriving DecidableEq, Repr

/-- How an operation reads an input (R320): the pavilion by a request, a neighbour's copy by a request, bytes of a copy on
this controller. -/
inductive InputFrom where
  | pavilion (op : Nat)
  | neighbour (n op : Nat)
  | copy (data : SMap Byte)
  deriving DecidableEq, Repr

/-- An input of a running operation: 0 A, 1 B, 2 C; the handle whose copy is read, its tensor, where it lies, how it is read, the
tier of a copy, whether a promotion pauses for it, the handle of the input. -/
structure FxInput where
  role : Nat
  h : Nat
  t : Tensor
  base : Nat
  span : Nat
  from_ : InputFrom
  tier : Nat
  pausing : Bool
  inp : Nat
  deriving DecidableEq, Repr

/-- Where an operation stands (R319 to R322). -/
inductive FxStage where
  | queued | running | writing | done
  deriving DecidableEq, Repr

/-- A Facet operation (Table 13.7): its ticket's sequencer, chain and ring, priority, descriptor words, level of its
writes, deadline, FALLBACK policy (0 none of its own) and handle, the policy of the ring, the handles that it names as they stood
at acceptance, stage, status, engines, withdrawals met, parity errors met, inputs, the
handles it holds references on, its request in the pipeline, whether `fwait` has taken it. -/
structure FxOp where
  q : Nat
  chain : Nat
  ring : Nat
  prio : Nat
  words : List Nat
  level : Nat
  deadline : Option Nat
  policy : Nat
  fbHandle : Nat
  profile : Nat
  snaps : List (Nat × Handle)
  stage : FxStage
  status : Status
  engines : List Nat
  withdrawals : Nat
  parities : Nat
  inputs : List FxInput
  refs : List Nat
  op : Option Nat
  waited : Bool
  deriving DecidableEq, Repr

/-- A neighbour entry (TM_NEIGH). -/
structure Neighbour where
  dev : Nat
  valid : Bool
  up : Bool
  qpn : Nat
  gib : Nat
  key : Nat
  deriving DecidableEq, Repr

/-- The tier manager and the Facet Engines beyond their registers: handles by index, the CHECK last given out per index,
promotions, operations by ticket and the next ticket, the lend area's bytes, neighbours, the use counter, engines whose EN = 0 waits for their operation. -/
structure Tiers where
  handles : SMap Handle
  checks : SMap Nat
  promos : List Promo
  ops : SMap FxOp
  nextTk : Nat
  lend : SMap Byte
  neigh : SMap Neighbour
  clock : Nat
  leaving : List Nat
  deriving DecidableEq, Repr

/-! ## Chains: library, sequencers, rings (chapter 3) -/

/-- An installed library slot (R63): its link-start map as word indices, its privilege summary, whether a rewrite asks
for the check again (R61). -/
structure LibSlot where
  starts : List Nat
  privs : Nat
  recheck : Bool
  deriving DecidableEq, Repr

/-- A `copy` link in progress (Table 7.1, R78, R335): the request that reads its source, the request that writes its
destination, the next line, lines in all, source key and offset, destination key and offset, the SEAL slot and mode (0
none), the remote device of its destination, and, once a sealed copy of more than 64 KiB has begun to write (R78), the code
with which its tag has failed, if it has, the key version that it has captured (R343). -/
structure CopyJob where
  rd : Nat
  wr : Nat
  k : Nat
  n : Nat
  sk : Nat
  so : Nat
  dk : Nat
  dof : Nat
  slot : Nat
  mode : Nat
  remote : Option Nat
  failed : Option Status
  ver : Option Nat
  deriving DecidableEq, Repr

/-- A `fill` link in progress (R156, R170): the request that writes, window key, offset, lines in all, the value, lines
written. -/
structure FillJob where
  wr : Nat
  key : Nat
  off : Nat
  n : Nat
  value : Nat
  k : Nat
  deriving DecidableEq, Repr

/-- What a blocking or asynchronous link waits for (R74, R75). -/
inductive WaitFor where
  /-- A request in the pipeline or of an outbound QP; `slot` when a SEAL word made its bytes (R92). -/
  | op (id : Nat) (slot : Option (Nat × Nat))
  /-- A read whose bytes go to the local store, opened under a slot when one is named (R336). -/
  | get (id store len : Nat) (slot : Option Nat)
  /-- An atomic whose old value goes to register b. -/
  | atom (id b : Nat)
  | copy (j : CopyJob)
  | fill (j : FillJob)
  | sync
  | halt (st : Status)
  | persist (key : Option Nat) (level : Nat)
  | seal (e : Nat)
  | await (t : Nat)
  | wopen (a key : Nat)
  | wrevoke
  | promote (h tier : Nat) (deadline : Option Nat)
  /-- The link waits to be issued again: an asynchronous place, FENCE, a Facet queue place, a USES reservation, an
  evicting handle. -/
  | again
  | fwait (tk : Nat)
  | kload (slot : Nat)
  | kswap (slot : Nat)
  | evict
  | retire
  | snap
  /-- An armed link that has not been issued yet. -/
  | armed
  /-- The outcome is known: the status. -/
  | ready (st : Status)
  deriving DecidableEq, Repr

/-- A blocking link in progress: the register that receives its status and what it waits for. -/
structure SeqWait where
  d : Nat
  what : WaitFor
  deriving DecidableEq, Repr

/-- An asynchronous operation of a chain (R74, R75): its number in issue order and what it waits for. -/
structure AsyncOp where
  n : Nat
  what : WaitFor
  deriving DecidableEq, Repr

/-- A write operation of a chain: its request and its window key. -/
structure Wrote where
  op : Nat
  key : Nat
  deriving DecidableEq, Repr

/-- A link armed by `atmt` (R75): its instant, opcode and operands, its number among the asynchronous operations,
its word index, and whether it has tried to issue. -/
structure ArmedLink where
  at_ : Nat
  op : Nat
  l : Link
  n : Nat
  pc : Nat
  tried : Bool
  deriving DecidableEq, Repr

/-- A chain sequencer with a chain (R67): ring, TAG, USER, number of the chain, library slot, the level its links
default to (R82), its copy of the image and of the link-start map, the word index of the current link, registers,
local store, the fraction latched by `rdsp` and whether the previous link was `rdsp` imm 0, links executed (R87), the
blocking link in progress, asynchronous operations (an ended one until `sync` reports it), armed links, whether an abort
waits for the link boundary (R89), whether the early warning stopped it (R91), its writes. -/
structure Seq where
  ring : Nat
  tag : Nat
  user : Nat
  chain : Nat
  slot : Nat
  level : Nat
  words : List W40
  starts : List Nat
  pc : Nat
  w : SMap Nat
  store : SMap Byte
  latched : Nat
  after0 : Bool
  count : Nat
  wait : Option SeqWait
  asyncs : List AsyncOp
  nextAsync : Nat
  armed : List ArmedLink
  aborted : Bool
  stopped : Bool
  wrote : List Wrote
  deriving DecidableEq, Repr

/-- A ring beyond its registers: pending submission entries that an abort has ended (R88), and of these those whose
completion waits for a free slot; the TAG of an abort that has not resolved; the requests that write completion entries not yet
Placed (R85), and submission entries of immediates not yet Placed (R140), oldest first. -/
structure RingSt where
  dead : List Nat
  owed : List Nat
  abort : Option Nat
  posts : List Nat
  subs : List Nat
  deriving DecidableEq, Repr

/-- The chain library, sequencers and rings: installed slots, the slot under check, sequencers by number, rings by
number, the number of the next chain, the ring that each priority served last. -/
structure Kexiut where
  lib : SMap LibSlot
  installing : Option Nat
  seqs : SMap Seq
  rings : SMap RingSt
  nextChain : Nat
  turn : SMap Nat
  deriving DecidableEq, Repr

/-- The block. -/
structure State where
  /-- Meridian time in units of 2^-40 s, modulo 2^80 (R14, R28). -/
  time : Nat
  /-- Local time since the model's reset, same unit, never stepped: what timers count (R401). -/
  mono : Nat
  /-- Every field of every register map, at its key; an unlisted one reads as its reset value. -/
  regs : SMap Nat
  /-- Expert registers: the local instant of the last expert access to a unit whose registers are open (R59). -/
  xlast : SMap Nat
  /-- End of the quiet period of each unit (R401). -/
  quiet : SMap Nat
  /-- The responses to the 64 most recent TAGs, newest first (R54). -/
  replay : List MgmtResp
  /-- Control accesses over several registers that are under way, in the order of their next turns (R51). -/
  jobs : List CtlJob
  /-- Units whose outstanding Fatal fault was raised by escalation (R401). -/
  fatalEsc : List Nat
  /-- Units with an outstanding fault of a class below Fatal (R401), which CLASS does not show beside a Fatal one. -/
  lowOut : List Nat
  /-- Units that have withdrawn a function on a Critical fault (Table 0.8), until the next reset. -/
  withdrawn : List Nat
  ev : Recorder
  kf : Keepsake
  loupe : Loupe
  core : Core
  /-- A Fatal fault has failed self-diagnosis (Table 0.8, Table 12.8). -/
  diagFail : Bool
  /-- Free values drawn so far (the model's own field). -/
  free : Nat
  /-- What the block has put out on its ports and pins, oldest first (the model's own field). -/
  out : List Out
  keys : KeyStore
  life : Lifecycle
  cipher : CipherSt
  pow : Power
  pipe : Pipe
  wins : Windows
  chan : Channels
  bezel : Bezel
  vault : Vault
  twin : Twin
  /-- The claim table (R300): entries with a prefix. -/
  claims : SMap Claim
  tr : Transport
  mer : Meridian
  fab : Fabric
  tiers : Tiers
  kex : Kexiut
  /-- The commands that wait, first in, first out. -/
  pending : List Instr
  deriving DecidableEq, Repr

/-- The registers that reset to something else than their field's reset value: none. -/
def resetRegs : SMap Nat := []

/-- The vendor fuses of the rail limits, which equal Table 15.1 (R371): SET at the nominal value (0.70 V to 0.85 V for
VDD_CORE), hard limits at 10 % of the nominal value, in mV. -/
def vendorRails : List RailLimit :=
  [⟨800, 800, 720, 880⟩, ⟨1800, 1800, 1620, 1980⟩, ⟨1800, 1800, 1620, 1980⟩, ⟨700, 850, 675, 825⟩,
    ⟨800, 800, 720, 880⟩, ⟨750, 750, 675, 825⟩, ⟨750, 750, 675, 825⟩, ⟨1200, 1200, 1080, 1320⟩,
    ⟨12000, 12000, 10800, 13200⟩, ⟨1100, 1100, 990, 1210⟩, ⟨400, 400, 360, 440⟩, ⟨720, 720, 648, 792⟩]

/-- The block right after reset: off (P4), as a part before its first power-up (R12, R18, Table 18.2). -/
def State.reset : State where
  time := 0
  mono := 0
  regs := resetRegs
  xlast := []
  quiet := []
  replay := []
  jobs := []
  ev := ⟨0, 1, none, [], 0, 0, 0, 0, 0, 0⟩
  fatalEsc := []
  lowOut := []
  withdrawn := []
  kf := ⟨[], [], [], ⟨0, [], [], 0, 0, 0, 0, [], 0, 0⟩, none, none, [], []⟩
  loupe := ⟨[], [], [], none, .ok, 0, false, none, [], []⟩
  core := ⟨false, none, true, true, true, false, [], [], [], none⟩
  diagFail := false
  free := 0
  out := []
  keys := ⟨[], [], 0, none⟩
  life := ⟨.blank, [], [], vendorRails, 0, 0, 0, false, false, false, 0, 0, 0, false, 0, [], [], false, []⟩
  cipher := ⟨[], 3, [], [], [], false⟩
  pow := ⟨.p4, .idle, .none, [], [], false, false, false, false, false, none, none, none, none, false, true,
    none, none, 0, 0, false, none, false, false, 0⟩
  pipe := ⟨[], [], [], [], ⟨[], [], [], [], false, false⟩, [], [], 0, [], 0, [], 0, [], 0, [], [], none, 0, none, false, false⟩
  wins := ⟨[], [], [], [], none, []⟩
  chan := ⟨[], [], [], [], [], false, false, [], [], [], [], [], [], []⟩
  bezel := ⟨[], [], [], [], [], 0, false, 0, 0, 0⟩
  vault := ⟨[], 0, [], 1, [], [], 0, [], 0, false, (0, 0), false, false, 0, 0, false, false, false, 0, false, false, [], 0, 0, [], none, false⟩
  twin := ⟨.unpaired, false, .released, false, true, 0, 0, false, 0, none, false, none, none, none, none, none, [], 0,
    [], 0, [], 0, false, [], false, false, none, false, false, false, none, 0, 0⟩
  claims := []
  tr := ⟨[], [], [], [], [], []⟩
  mer := ⟨[], [], [], [], [], [], [], 0, none, none, false, none, false, none, none, none⟩
  fab := ⟨[], [], [], [], [], none, [], true, []⟩
  tiers := ⟨[], [], [], [], 1, [], [], 0, []⟩
  kex := ⟨[], none, [], [], 0, []⟩
  pending := []

end Sys2Proof.Machine
end

