-- ==== Sys2Proof/Machine/Regs.lean ====
section
/-! DEFINITION. Registers and time as shared operations: the block table of stepping B0 (Table 2.4), the key of a field
of a unit, reading and setting a field, a plain register write (R11, R13, R441), the two clocks and the epoch number
(R28), free values, outputs. -/

namespace Sys2Proof

/-- Is it the management port or firmware? -/
def Path.trusted (p : Path) : Bool := match p with | .mgmt | .firmware => true | _ => false

/-- Accesses from any fabric window belong to one path (R51). -/
def Path.same (a b : Path) : Bool :=
  match a, b with
  | .fabric _, .fabric _ => true
  | _, _ => a == b

namespace Machine

/-! ## Blocks -/

/-- A row of Table 2.4: class, base, size and count of the units, expert offset (0 when none), and the paths F and C. -/
structure Blk where
  cls : Nat
  base : Nat
  size : Nat
  count : Nat
  expert : Nat
  fabric : Bool
  chain : Bool
  deriving DecidableEq, Repr

/-- Table 2.4 (R49). EXPERT_OFFSET is half of SIZE but for the Hallmark Table and the command rings. -/
def blocks : List Blk :=
  [⟨0x01, 0x00000000, 0x1000, 1, 0, true, true⟩, ⟨0x02, 0x00010000, 0x10000, 1, 0x8000, false, false⟩,
   ⟨0x03, 0x00020000, 0x10000, 1, 0x8000, false, false⟩, ⟨0x04, 0x00030000, 0x10000, 1, 0x8000, false, false⟩,
   ⟨0x05, 0x00040000, 0x10000, 1, 0x8000, true, false⟩, ⟨0x06, 0x00050000, 0x10000, 1, 0x8000, true, true⟩,
   ⟨0x07, 0x00060000, 0x10000, 1, 0x8000, true, true⟩, ⟨0x08, 0x00070000, 0x10000, 1, 0x8000, false, false⟩,
   ⟨0x10, 0x00100000, 0x1000, 64, 0x800, false, false⟩, ⟨0x11, 0x00140000, 0x1000, 64, 0x800, true, false⟩] ++
  [⟨0x20, 0x00200000, 0x100000, 1, 0x80000, true, true⟩, ⟨0x21, 0x00300000, 0x10000, 1, 0x8000, true, false⟩,
   ⟨0x22, 0x00310000, 0x10000, 1, 0x8000, true, false⟩, ⟨0x30, 0x00400000, 0x100000, 1, 0x80000, true, true⟩,
   ⟨0x40, 0x00500000, 0x10000, 8, 0x8000, true, false⟩, ⟨0x41, 0x00580000, 0x10000, 1, 0x8000, true, false⟩,
   ⟨0x42, 0x00590000, 0x10000, 1, 0x8000, true, false⟩, ⟨0x50, 0x00600000, 0x10000, 16, 0x8000, false, false⟩,
   ⟨0x51, 0x00700000, 0x10000, 1, 0x8000, true, false⟩] ++
  [⟨0x60, 0x00800000, 0x100000, 1, 0x80000, true, false⟩, ⟨0x61, 0x00900000, 0x10000, 8, 0x8000, false, false⟩,
   ⟨0x70, 0x00A00000, 0x10000, 32, 0x8000, true, false⟩, ⟨0x71, 0x00C00000, 0x100, 4096, 0, true, true⟩,
   ⟨0x80, 0x01000000, 0x10000, 64, 0x8000, true, true⟩, ⟨0x81, 0x01400000, 0x100000, 1, 0x80000, true, true⟩,
   ⟨0x90, 0x01800000, 0x100000, 1, 0x80000, false, false⟩, ⟨0x91, 0x01900000, 0x400000, 1, 0x200000, false, false⟩]

/-- The block of a class. -/
def blockOf (cls : Nat) : Option Blk := blocks.find? (fun b => b.cls == cls)

/-- How many units of a class the part has (0 for a reserved class). -/
def unitCount (cls : Nat) : Nat := match blockOf cls with | some b => b.count | none => 0

/-- The unit and offset that a control address lies in (R46), if any. -/
def locate (addr : Nat) : Option (Blk × Nat × Nat) :=
  match blocks.find? (fun b => decide (b.base ≤ addr ∧ addr < b.base + b.size * b.count)) with
  | some b => some (b, (addr - b.base) / b.size, (addr - b.base) % b.size)
  | none => none

/-- Go on only with a unit that stepping B0 has. -/
def onUnit (cls n : Nat) (k : Host.Outcome State Fault Refusal) : Host.Outcome State Fault Refusal :=
  if n < unitCount cls then k else .fault (.noSuchUnit cls n)

/-- Go on only with a unit that holds the common registers: every one but the Hallmark Table (R57). -/
def onCommon (cls n : Nat) (k : Host.Outcome State Fault Refusal) : Host.Outcome State Fault Refusal :=
  if n < unitCount cls ∧ cls ≠ 0x01 then k else .fault (.noSuchUnit cls n)

/-- Does a path reach the basic registers of a class (Table 2.4, R55, R56)? -/
def pathMay (p : Path) (cls : Nat) : Bool :=
  match p, blockOf cls with
  | .mgmt, _ | .firmware, _ => true
  | .fabric _, some b => b.fabric
  | .chain, some b => b.chain
  | _, none => false

/-- Is a class switched off, by a fuse (FUSED_OFF) or, for writes, by the image (CFG_OFF) (Table 2.3)? -/
def State.barred (s : State) (cls : Nat) : Bool := s.core.fusedOff.contains cls || s.core.cfgOff.contains cls

/-! ## Fields -/

/-- The key of a field in `State.regs`. -/
def fieldKey (cls u off lo : Nat) : Nat := ((cls * 65536 + u) * 2 ^ 24 + off / 8) * 64 + lo

/-- The key of a unit. -/
def unitKey (cls u : Nat) : Nat := cls * 65536 + u

/-- Read field f of a unit of class `cls`, register i of those that carry it. -/
def State.fldOf (s : State) (cls : Nat) (f : Fld) (u : Nat) (i : Nat := 0) : Nat :=
  SMap.get f.reset s.regs (fieldKey cls u (f.off + 8 * i) f.lo)

/-- Set field f of a unit of class `cls`. -/
def State.setFldOf (s : State) (cls : Nat) (f : Fld) (u : Nat) (v : Nat) (i : Nat := 0) : State :=
  { s with regs := SMap.put f.reset s.regs (fieldKey cls u (f.off + 8 * i) f.lo) (v % 2 ^ f.width) }

/-- Read a field of a unit of its own class. -/
def State.fld (s : State) (f : Fld) (u : Nat := 0) (i : Nat := 0) : Nat := s.fldOf f.cls f u i

/-- Read a one-bit field. -/
def State.flag (s : State) (f : Fld) (u : Nat := 0) : Bool := s.fldOf f.cls f u 0 != 0

/-- Set a field of unit u of its own class. -/
def State.setFld (s : State) (f : Fld) (u : Nat) (v : Nat) (i : Nat := 0) : State := s.setFldOf f.cls f u v i

/-- Add one to a wrapping counter field. -/
def State.bump (s : State) (f : Fld) (u : Nat := 0) (n : Nat := 1) : State := s.setFld f u (s.fld f u + n)

/-- The value that the image leaves in a field: a reserved value counts as the field's default image value (R13, R415). -/
def Fld.settle (f : Fld) (v : Nat) : Nat := if f.min ≤ v ∧ v ≤ f.max then v else f.reset

/-- The reset value of a field (R12): for one whose reset is cfg, what the image loaded into it. -/
def State.resetOf (s : State) (cls : Nat) (f : Fld) (u : Nat) (i : Nat := 0) : Nat :=
  if f.kind = .cfg then SMap.get f.reset s.core.image (fieldKey cls u (f.off + 8 * i) f.lo) else f.reset

/-- The value a write of v leaves in a field: a reserved value counts as the reset value (R13). -/
def State.settleFld (s : State) (cls : Nat) (f : Fld) (u : Nat) (v : Nat) (i : Nat := 0) : Nat :=
  if f.min ≤ v ∧ v ≤ f.max then v else s.resetOf cls f u i

/-- Is the lock that covers the field set (R441)? -/
def State.lockedOf (s : State) (cls : Nat) (f : Fld) (u : Nat) : Bool :=
  match f.lock with
  | .none => false
  | .image => s.core.imageLock
  | .ring => s.flag F.RING_CFG_LOCK u
  | .own => s.fldOf cls f u != 0
  | .wdt => s.flag F.BT_WDT_LOCK

/-- Does the unit hold the field (Tables 3.1, 4.8, 4.9)? -/
def Fld.inUnit (f : Fld) (u : Nat) : Bool :=
  match f.scope with
  | .all => true
  | .unit0 => u == 0
  | .quad => u % 4 == 0
  | .plane => u % 32 == 0

/-- The fields of the register at an offset of a unit, each with which of its registers this is. -/
def fieldsAt (cls u off : Nat) : List (Fld × Nat) :=
  (classFields cls).filterMap (fun f =>
    if f.off ≤ off ∧ off < f.off + 8 * f.n ∧ f.inUnit u then some (f, (off - f.off) / 8) else none)

/-- One field's part of a plain write of v to its register (Table 0.2), its lock being clear. -/
def State.writeField (s : State) (cls u : Nat) (v : Nat) (fi : Fld × Nat) : State :=
  let f := fi.1
  let x := bits v f.lo f.width
  match f.acc with
  | .ro | .wo => s
  | .rw | .rwl => s.setFldOf cls f u (s.settleFld cls f u x fi.2) fi.2
  | .w1c => s.setFldOf cls f u (s.fldOf cls f u fi.2 &&& (2 ^ f.width - 1 - x)) fi.2

/-- A plain register write (R11, R13, R441): every field in turn, each judged by the locks before the write. -/
def State.writePlain (s : State) (cls u off v : Nat) : State :=
  (fieldsAt cls u off).foldl (fun t fi => if s.lockedOf cls fi.1 u then t else t.writeField cls u v fi) s

/-! ## Time -/

/-- One second in units of 2^-40 s (R14). -/
def second : Nat := 2 ^ 40

/-- n nanoseconds, microseconds, milliseconds in units of 2^-40 s, rounded up. -/
def ns (n : Nat) : Nat := ceilDiv (n * second) 1000000000
def us (n : Nat) : Nat := ceilDiv (n * second) 1000000
def ms (n : Nat) : Nat := ceilDiv (n * second) 1000

/-- d units pass on both clocks. -/
def State.advance (s : State) (d : Nat) : State :=
  { s with time := if s.pow.state = .p4 then s.time else (s.time + d) % 2 ^ 80, mono := s.mono + d }

/-- Meridian time reaches instant t (no effect where it has passed). -/
def State.reach (s : State) (t : Nat) : State := if s.time < t then s.advance (t - s.time) else s

/-- Local time reaches t. -/
def State.reachLocal (s : State) (t : Nat) : State := if s.mono < t then s.advance (t - s.mono) else s

/-- The current epoch number (R28): bits [39:0] of time over the period 2^K. -/
def State.epoch (s : State) : Nat := s.time / 2 ^ s.fld F.MER_CFG_K % 2 ^ 40

/-- Seconds and fraction of the current time (R14). -/
def State.secs (s : State) : Nat := s.time / second
def State.frac (s : State) : Nat := s.time % second

/-! ## Free values and outputs -/

/-- Draw the next free value: its index, and the state with the counter advanced. -/
def State.draw (s : State) : Nat × State := (s.free, { s with free := s.free + 1 })

/-- Put something out. -/
def State.emit (s : State) (o : Out) : State := { s with out := s.out ++ [o] }

/-- Answer a register access on the path that made it (R50). -/
def State.answer (s : State) (p : Path) (st : Status) (v : Nat := 0) : State := s.emit (.answer p st v)

/-- A command with a status for its path ends: the state goes on and the status is answered (R50). -/
def ends (p : Path) (r : Status × State) : Host.Outcome State Fault Refusal := .next (r.2.answer p r.1)

/-! ## Waiting links -/

/-- Links that wait for what `f` names learn their status (R74, R75). -/
def State.tellLinks (s : State) (f : Nat → WaitFor → Option Status) : State :=
  let tell (q : Nat) (w : WaitFor) : WaitFor := match f q w with | some st => .ready st | none => w
  { s with kex := { s.kex with seqs := s.kex.seqs.map (fun p =>
    (p.1, { p.2 with
      wait := p.2.wait.map (fun (w : SeqWait) => { w with what := tell p.1 w.what }),
      asyncs := p.2.asyncs.map (fun (a : AsyncOp) => { a with what := tell p.1 a.what }) })) } }

end Machine

end Sys2Proof
end

