-- ==== Sys2Proof/Machine/Flags.lean ====
section
/-! DEFINITION. The flags of the block: Loupe counters (R392 to R394), the keepsake as a shared service (R373 to R380),
event records (R386 to R388, R442) and the fault state of every unit (R22, R399 to R404, R443). -/

namespace Sys2Proof.Machine

/-! ## Loupe counters -/

/-- A row of Table 17.1: class, first counter, counters per unit, number of events in its list. -/
structure Bank where
  cls : Nat
  first : Nat
  per : Nat
  events : Nat
  deriving DecidableEq, Repr

/-- Table 17.1. -/
def banks : List Bank :=
  [⟨0x11, 0, 4, 14⟩, ⟨0x20, 256, 64, 18⟩, ⟨0x30, 320, 16, 8⟩, ⟨0x40, 336, 8, 10⟩, ⟨0x50, 400, 8, 10⟩,
   ⟨0x51, 528, 48, 48⟩, ⟨0x60, 576, 64, 23⟩, ⟨0x70, 640, 2, 4⟩, ⟨0x80, 704, 4, 6⟩, ⟨0x81, 960, 32, 9⟩,
   ⟨0x90, 992, 16, 8⟩, ⟨0x07, 1008, 8, 6⟩, ⟨0x22, 1016, 8, 7⟩]

/-- The bank of counter i, with its number. -/
def bankOfCounter (i : Nat) : Option (Bank × Nat) :=
  (banks.zip (List.range 13)).find? (fun b =>
    decide (b.1.first ≤ i ∧ i < b.1.first + b.1.per * unitCount b.1.cls))

/-- LP_EVSEL of counter i after reset: event code plus 64 when enabled (R394). -/
def evselReset (i : Nat) : Nat :=
  match bankOfCounter i with
  | some (b, _) => let j := (i - b.first) % b.per; if j < b.events then j + 64 else 0
  | none => 0

/-- LP_EVSEL of counter i. -/
def Loupe.evsel (l : Loupe) (i : Nat) : Nat := (SMap.look l.sel i).getD (evselReset i)

/-- Counter i of the Loupe counts n occurrences of event `code`, if it selects it and is enabled. -/
def Loupe.tickOne (l : Loupe) (code n i : Nat) : Loupe :=
  if l.evsel i = code + 64 then { l with ctr := SMap.put 0 l.ctr i ((SMap.get 0 l.ctr i + n) % 2 ^ 48) } else l

/-- n occurrences of event `code` in unit u of a class (R392, R393, R396). -/
def State.count (s : State) (cls u code : Nat) (n : Nat := 1) : State :=
  if s.loupe.frozen then s
  else match banks.find? (fun b => b.cls == cls) with
    | some b =>
      { s with loupe := (List.range b.per).foldl (fun l i => l.tickOne code n (b.first + u * b.per + i)) s.loupe }
    | none => s

/-- An event that is counted in units (R392): the part of a unit that is over is kept until it fills one. -/
def State.countUnits (s : State) (cls u code unit n : Nat) : State :=
  if s.loupe.frozen then s
  else
    let key := (cls * 65536 + u) * 64 + code
    let m := SMap.get 0 s.loupe.rest key + n
    State.count { s with loupe := { s.loupe with rest := SMap.put 0 s.loupe.rest key (m % unit) } } cls u code (m / unit)

/-! ## Keepsake operations -/

/-- The bank of a block (R373). -/
def kfBank (block : Nat) : Nat := block / 1024

/-- Is a bank running an erase? -/
def Keepsake.erasing (k : Keepsake) (b : Nat) : Bool :=
  match SMap.look k.banks b with
  | some (.erase ..) => true
  | _ => false

/-- Is a bank idle? -/
def Keepsake.idle (k : Keepsake) (b : Nat) : Bool := (SMap.look k.banks b).isNone

/-- The other bank of a bank's pair (R377). -/
def pairBank (b : Nat) : Nat := if b % 2 = 0 then b + 1 else b - 1

/-- Is copy c (0 J0, 1 J1) of the state journal full (R377)? -/
def Journal.full (j : Journal) (c : Nat) : Bool :=
  let n := if c = 0 then j.used0 else j.used1
  decide (2048 ≤ n) && Config.journalFull c n

/-- The blocks of copy c of the state journal (Table 16.1). -/
def journalBlocks (c : Nat) : List Nat := (List.range 8).map (fun i => (if c = 0 then 2560 else 3600) + i)

/-- Does an operation write or erase a selector copy? -/
def FlashOp.ofSelector (x : FlashOp) : Bool :=
  match x with
  | .program _ _ .selector | .erase _ _ .selector => true
  | _ => false

/-- Must an operation wait for one before it? Those on the selector copies go one after another, copy 0 before copy 1
(R384), and a program waits for an erase of its block that was asked for before it. `waiting` holds what came before. -/
def Keepsake.mustFollow (k : Keepsake) (x : FlashOp) : Bool :=
  (x.ofSelector && (k.banks.any (fun p => p.2.ofSelector) || k.waiting.any FlashOp.ofSelector)) ||
  (match x with
   | .program addr _ _ => k.waiting.any (fun y => match y with | .erase b _ _ => b == addr / 65536 | _ => false)
   | _ => false)

/-- The bank in which an operation can start now, if there is one (R374, R377). A journal entry goes into a bank of
2 and 3 that runs no erase and whose copy has room; an erase waits for its erase-start entry, for its own bank, for an erase of the other
bank of the pair, in banks 0 and 1 for a free power record slot of the other bank, and for a journal copy for room in the
other copy. -/
def State.startBank (s : State) (x : FlashOp) : Option Nat :=
  match x with
  | .program addr _ _ => let b := kfBank (addr / 65536); if s.kf.idle b then some b else none
  | .envelope _ copy | .identity copy => if s.kf.idle copy then some copy else none
  | .journal _ =>
    if s.kf.idle 2 && !s.kf.journal.full 0 then some 2 else if s.kf.idle 3 && !s.kf.journal.full 1 then some 3 else none
  | .erase block ready _ =>
    let b := kfBank block
    let room : Bool := if b = 0 then decide (s.pow.w1 < 256) else if b = 1 then decide (s.pow.w0 < 256)
      else if (journalBlocks 0).contains block then !s.kf.journal.full 1
      else if (journalBlocks 1).contains block then !s.kf.journal.full 0 else true
    if ready && s.kf.idle b && !s.kf.erasing (pairBank b) && room then some b else none

/-- Start every waiting operation that can start, in order. -/
def State.startWaiting (s : State) : List FlashOp → State
  | [] => s
  | x :: xs =>
    match (if s.kf.mustFollow x then none else s.startBank x) with
    | some b => State.startWaiting { s with kf := { s.kf with banks := SMap.ins s.kf.banks b x } } xs
    | none => State.startWaiting { s with kf := { s.kf with waiting := s.kf.waiting ++ [x] } } xs

/-- Wait for a flash operation. -/
def State.flashWait (s : State) (x : FlashOp) : State := { s with kf := { s.kf with waiting := s.kf.waiting ++ [x] } }

/-- Program an entry of the state journal; a new TERM goes ahead of every other entry (R377). -/
def State.journalize (s : State) (x : JItem) : State :=
  match x with
  | .term _ => { s with kf := { s.kf with waiting := .journal x :: s.kf.waiting } }
  | _ => s.flashWait (.journal x)

/-- Ask for a block erase: its erase-start entry goes into the journal first (R380). -/
def State.requestErase (s : State) (block : Nat) (src : FlashBy) : State :=
  (s.journalize (.eraseStart block)).flashWait (.erase block false src)

/-! ## Event records -/

/-- Operating seconds (R386): those in the journal and the whole seconds since VDD_CORE came into its window. -/
def State.opSecs (s : State) : Nat :=
  s.kf.journal.opSecs + (match s.pow.coreUp with | some t => (s.mono - t) / second | none => 0)

/-- The bytes of an event record (Table 16.4). -/
def EvRec.bytes (r : EvRec) : List Byte :=
  let b := leBytes 8 (r.source + r.u * 2 ^ 16 + r.code * 2 ^ 32 + r.fclass * 2 ^ 40 + r.again * 2 ^ 48) ++
    leBytes 8 r.sq ++ leBytes 8 r.opSecs ++ leBytes 8 r.lastSecs ++ leBytes 4 r.cycles ++ leBytes 4 0 ++
    leBytes 8 r.ident ++ leBytes 12 r.detail
  b ++ leBytes 4 (crc32c b)

/-- The flash address of record SEQ in the event ring (R388). -/
def ringAddr (sq : Nat) : Nat :=
  let i := (sq - 1) % 1048576
  let j := i / 1024
  (if j % 2 = 0 then 2048 + j / 2 else 3072 + (j - 1) / 2) * 65536 + i % 1024 * 64

/-- The block of ring block j. -/
def ringBlock (j : Nat) : Nat := if j % 2 = 0 then 2048 + j / 2 else 3072 + (j - 1) / 2

/-- What a repeat compares (R387): payload bytes 0 to 7, or KIND and OFFSET for a Bezel event (Table 9.5). -/
def identOf (source code ident : Nat) : Nat :=
  if source = 0x51 ∧ code < 8 then ident % 8 + bits ident 6 44 * 8 else ident

/-- Put a closed record into the island queue, or drop it when the queue is full (R388). The record that first finds
room after a drop is preceded by one that tells the dropped count, under the SEQ of the last dropped record. -/
def Recorder.enqueue (e : Recorder) (r : EvRec) : Recorder :=
  if (if e.lost = 0 then 256 else 255) ≤ e.queue.length then { e with dropped := (e.dropped + 1) % 2 ^ 32, lost := e.lost + 1 }
  else if e.lost = 0 then { e with queue := e.queue ++ [r] }
  else { e with
    queue := e.queue ++ [{ r with source := 0x05, u := 0, code := 1, fclass := 7, again := 0, sq := r.sq - 1,
                                  ident := e.lost, detail := 0 }, r],
    lost := 0 }

/-- Close the open record. -/
def Recorder.close (e : Recorder) : Recorder :=
  match e.newest with
  | some (r, _) => Recorder.enqueue { e with newest := none } r
  | none => e

/-- Program the oldest closed record if its bank is idle; on entering a ring block the recorder erases the block three
ahead, and the records it held leave the ring (R388). -/
def State.programRecord (s : State) : State :=
  match s.ev.queue with
  | [] => s
  | r :: _ =>
    let a := ringAddr r.sq
    let b := kfBank (a / 65536)
    let running := s.kf.banks.any (fun p => match p.2 with | .program _ _ .recorder => true | _ => false)
    let erased := s.kf.waiting.any (fun x => match x with | .erase k _ _ => k == a / 65536 | _ => false)
    if running || !s.kf.idle b || erased then s
    else
      let blk := (r.sq - 1) / 1024
      let s := { s with kf := { s.kf with banks := SMap.ins s.kf.banks b (.program a r.bytes .recorder) } }
      if s.ev.done ≠ 0 ∧ (s.ev.done - 1) / 1024 = blk then s
      else
        let s := s.requestErase (ringBlock ((blk + 3) % 1024)) .recorder
        if blk + 3 < 1024 then s
        else { s with ev := { s.ev with tail := max s.ev.tail ((blk + 4 - 1024) * 1024 + 1) } }

/-- Let the keepsake start what it can: waiting operations first, then the event recorder. -/
def State.kick (s : State) : State :=
  (State.startWaiting { s with kf := { s.kf with waiting := [] } } s.kf.waiting).programRecord

/-- Close the open event record (R387). -/
def State.closeEvent (s : State) : State := State.kick { s with ev := s.ev.close }

/-- Write an event (R386, R387): a repeat of the open record, or a new open record. FCLASS 7 is no fault (R399). -/
def State.event (s : State) (source u code fclass ident detail : Nat) : State :=
  let now := s.opSecs
  let fresh : EvRec := ⟨source, u, code, fclass, 0, s.ev.head + 1, now, now, s.kf.journal.cycles, ident, detail⟩
  match s.ev.newest with
  | some (r, t) =>
    if r.source = source ∧ r.u = u ∧ r.code = code ∧ r.fclass = fclass ∧
        identOf source code r.ident = identOf source code ident then
      { s with ev := { s.ev with newest := some ({ r with again := min 65535 (r.again + 1), lastSecs := now }, t) } }
    else State.kick { s with ev := { s.ev.close with newest := some (fresh, s.mono), head := s.ev.head + 1 } }
  | none => { s with ev := { s.ev with newest := some (fresh, s.mono), head := s.ev.head + 1 } }

/-! ## Faults -/

/-- The class a raise of native class c takes in a unit (R22, R399): one higher when UNACK[c] is set, but Fatal. -/
def raisedClass (unack c : Nat) : Nat := if bitAt unack c && decide (c < 4) then c + 1 else c

/-- A raise of native class c in a unit (R399, R401, R402, Table 0.8): fault state, quiet period, event record,
interrupt; a Critical fault withdraws the affected function, which for a Facet Engine is the engine (R324); a Fatal fault
fails self-diagnosis. -/
def State.raise (s : State) (cls u c code : Nat) (ident : Nat := 0) (detail : Nat := 0) : State :=
  let unack := s.fldOf cls F.BLK_FSTAT_UNACK u
  let rc := raisedClass unack c
  let was := s.fldOf cls F.BLK_FSTAT_CLASS u
  let s := s.setFldOf cls F.BLK_FSTAT_UNACK u (unack ||| 2 ^ rc)
  let s := if rc = c then s else s.setFldOf cls F.BLK_FSTAT_ESCALATED u 1
  let s := if was = 7 ∨ was < rc then
      (s.setFldOf cls F.BLK_FSTAT_CLASS u rc).setFldOf cls F.BLK_FSTAT_CODE u code else s
  let s := s.setFldOf cls F.BLK_FSTAT_RAISED u (s.fldOf cls F.BLK_FSTAT_RAISED u + 1)
  let s := { s with
    quiet := SMap.ins s.quiet (unitKey cls u) (s.mono + s.fldOf cls F.BLK_FCTL_QUIET u * second),
    diagFail := s.diagFail || decide (rc = 4),
    fatalEsc := if rc = 4 ∧ c < 4 then addNew s.fatalEsc (unitKey cls u) else s.fatalEsc,
    lowOut := if rc < 4 then addNew s.lowOut (unitKey cls u) else s.lowOut,
    withdrawn := if rc = 3 then addNew s.withdrawn (unitKey cls u) else s.withdrawn }
  let s := if rc = 3 ∧ cls = 0x80 then s.setFld F.FE_STAT_STATE u 3 else s
  let s := s.event cls u code rc ident detail
  if s.fldOf cls F.BLK_FCTL_IE_CLASS u ≤ rc then s.emit (.irq cls u rc) else s

/-- An event record that is no fault (R399). -/
def State.note (s : State) (cls u code : Nat) (ident : Nat := 0) (detail : Nat := 0) : State :=
  s.event cls u code 7 ident detail

/-- An acknowledgement clears every UNACK bit of the unit and leaves CLASS (R400). -/
def State.ackFault (s : State) (cls u : Nat) : State := s.setFldOf cls F.BLK_FSTAT_UNACK u 0

/-- The end of a unit's quiet period (R401). -/
def State.endQuiet (s : State) (cls u : Nat) : State :=
  let unack := s.fldOf cls F.BLK_FSTAT_UNACK u
  let cl := s.fldOf cls F.BLK_FSTAT_CLASS u
  let fatal := cl == 4
  let minor := decide (unack % 16 ≠ 0) || decide (cl < 4) || s.lowOut.contains (unitKey cls u)
  let s := { s with
    quiet := SMap.del s.quiet (unitKey cls u), lowOut := s.lowOut.filter (fun k => k != unitKey cls u) }
  let s := s.setFldOf cls F.BLK_FSTAT_UNACK u (unack - unack % 16)
  let s := if minor then s.setFldOf cls F.BLK_FSTAT_RECOVERIES u (s.fldOf cls F.BLK_FSTAT_RECOVERIES u + 1) else s
  if fatal then
    if unitKey cls u ∈ s.fatalEsc then s else s.setFldOf cls F.BLK_FSTAT_ESCALATED u 0
  else (s.setFldOf cls F.BLK_FSTAT_CLASS u 7).setFldOf cls F.BLK_FSTAT_ESCALATED u 0

/-- ALERT_N is asserted (R403): some unit has UNACK[2] to UNACK[4] set or a Fatal fault outstanding. -/
def State.alert (s : State) : Bool :=
  s.regs.any (fun p => p.1 / 64 % 2 ^ 24 == 2 && ((p.1 % 64 == 3 && decide (4 ≤ p.2)) || (p.1 % 64 == 0 && p.2 == 4)))

end Sys2Proof.Machine
end

