-- ==== Sys2Proof/Machine/KeyStore.lean ====
section
/-! DEFINITION. The Key Store as a shared service (chapter 14): slots, sealing and opening invocations (R334, R343,
R443), the load checks (R340), load, swap and zeroize (R341, R342, R345), the keepsake envelopes (R338). -/

namespace Sys2Proof.Machine

/-- An empty slot. -/
def emptySlot : KeySlot := ⟨none, .empty, 0, false, false, none, none, none, false⟩

/-- Slot n. -/
def State.slot (s : State) (n : Nat) : KeySlot := SMap.get emptySlot s.keys.slots n

def State.setSlot (s : State) (n : Nat) (k : KeySlot) : State :=
  { s with keys := { s.keys with slots := SMap.put emptySlot s.keys.slots n k } }

/-- The vault slot (KS_CFG.VAULT_SLOT) and the twin slot (TWIN_CFG.KEY_SLOT). -/
def State.vaultSlot (s : State) : Nat := s.fld F.KS_CFG_VAULT_SLOT
def State.twinSlot (s : State) : Nat := s.fld F.TWIN_CFG_KEY_SLOT

/-- Is an operation a program of an envelope of slot n? -/
def FlashOp.savesSlot (n : Nat) (x : FlashOp) : Bool := match x with | .envelope e _ => e.slot == n | _ => false

/-- Is an envelope of slot n being written to the keepsake (R341)? -/
def State.saving (s : State) (n : Nat) : Bool :=
  s.kf.waiting.any (FlashOp.savesSlot n) || s.kf.banks.any (fun p => p.2.savesSlot n)

/-- Does the keepsake hold an envelope of the slot, or is one being written? -/
def State.kept (s : State) (n : Nat) : Bool := (SMap.look s.keys.envs (2 * n)).isSome || s.saving n

/-- The step of USES in which reservations are made (R443). -/
def useStep : Nat := 2 ^ 20

/-- The USES reservation of a version in the journal. -/
def State.reserved (s : State) (n ver : Nat) : Nat := SMap.get 0 s.kf.journal.uses (n * 2 ^ 32 + ver)

/-- USES of a version stands at u on entering a step: reserve the end of the next step (R443). -/
def State.reserve (s : State) (n ver u : Nat) : State :=
  if s.kept n then (s.journalize (.uses n ver ((u / useStep + 2) * useStep))).kick else s

/-- What a sealing invocation meets. -/
inductive SealOut where
  | ok (ver uses : Nat)
  | refuse (st : Status)
  | wait
  deriving DecidableEq, Repr

/-- A sealing invocation on slot n (R334, R343, R443); `force` for vault plates of a drain or dormancy entry, which
neither the limit nor a reservation holds back (Table 14.2). -/
def State.sealUse (s : State) (n : Nat) (force : Bool := false) : SealOut × State :=
  let k := s.slot n
  match k.active with
  | none =>
    match k.staged with
    | .loaded _ => (.refuse .stagePending, (s.bump F.CE_USE_STAGE).count 0x90 0 5)
    | _ => (.refuse .keyErased, s)
  | some c =>
    if c.limit ≤ c.uses ∧ ¬ force then (.refuse .keySpent, (s.bump F.CE_USE_SPENT).count 0x90 0 4)
    else if s.kept n ∧ s.reserved n c.ver ≤ c.uses ∧ ¬ force then (.wait, s)
    else
      let s := s.setSlot n { k with active := some { c with uses := c.uses + 1 } }
      let s := if (c.uses + 1) % useStep = 0 then s.reserve n c.ver (c.uses + 1) else s
      (.ok c.ver c.uses, s)

/-- The version that opens a packet sealed under the low 16 bits `v16` of slot n (R343): active, retiring, loaded but
not swapped (STAGE_PENDING), or none. -/
inductive OpenOut where
  | ok (ver : Nat)
  | pending
  | unknown
  deriving DecidableEq, Repr

def State.openWith (s : State) (n v16 : Nat) : OpenOut :=
  let k := s.slot n
  let staged := match k.staged with
    | .retiring c => if c.ver % 65536 = v16 then OpenOut.ok c.ver else .unknown
    | .loaded c => if c.ver % 65536 = v16 then OpenOut.pending else .unknown
    | .empty => .unknown
  match k.active with
  | some c => if c.ver % 65536 = v16 then .ok c.ver else staged
  | none => staged

/-- Does the slot hold version `ver` as its active or retiring version (R336)? -/
def State.holdsVer (s : State) (n ver : Nat) : Bool :=
  (match (s.slot n).active with | some c => c.ver == ver | none => false) ||
  (match (s.slot n).staged with | .retiring c => c.ver == ver | _ => false)

/-- An envelope's fields when MAGIC, FORMAT, MODE and its reserved bytes are right (Table 14.4, R340 step 1). -/
def Env.parse (b : List Byte) : Option Env :=
  let w (i : Nat) : Nat := leNat ((b.drop (8 * i)).take 8)
  let mode := bits (w 0) 40 2
  let ok := decide (b.length = 128 ∧ bits (w 0) 0 32 = 0x4B454E31 ∧ bits (w 0) 32 8 = 1 ∧ (mode = 1 ∨ mode = 2) ∧
    bits (w 0) 42 6 = 0 ∧ bits (w 0) 49 15 = 0 ∧ bits (w 1) 16 16 = 0 ∧ bits (w 2) 48 16 = 0 ∧
    leNat ((b.drop 36).take 12) = 0)
  if ok then some ⟨bits (w 1) 0 16, bits (w 1) 32 32, mode, bits (w 2) 0 48, bitAt (w 0) 48⟩ else none

/-- Is the slot empty (no copy at all)? -/
def KeySlot.isEmpty (k : KeySlot) : Bool := k.active.isNone && k.staged == .empty

/-- The unreserved envelope places in use (R338). -/
def State.placesUsed (s : State) : Nat :=
  let held := (s.keys.envs.filter (fun p => p.1 % 2 == 0)).map (fun p => p.1 / 2)
  let new := (s.kf.waiting ++ s.kf.banks.map (fun p => p.2)).filterMap (fun x =>
    match x with | .envelope e _ => if held.contains e.slot then none else some e.slot | _ => none)
  ((held ++ new.dedup).filter (fun n => n != 0 && n != s.vaultSlot)).length

/-- Does the load keep its envelope in the keepsake (R338)? -/
def State.keeps (s : State) (e : Env) : Bool := e.persist || e.slot == 0 || e.slot == s.vaultSlot

/-- Step 1 of R340: the envelope's fields, its target slot, the slot's MODE. -/
def State.loadForm (s : State) (n : Nat) (b : List Byte) : Option Env :=
  (Env.parse b).filter (fun e => e.slot == n && ((s.slot n).isEmpty || e.mode == (s.slot n).mode))

/-- The checks of a load into slot n (R340, R338), in order. -/
def State.loadCheck (s : State) (n : Nat) (b : List Byte) (tagOk : Bool) : Except Status Env :=
  let k := s.slot n
  match s.loadForm n b with
  | none => .error .privilege
  | some e =>
    if ¬ tagOk then .error .privilege
    else
      let floor := max (match k.active with | some c => c.ver | none => 0)
        (match k.staged with | .retiring c => c.ver | _ => 0)
      if e.ver ≤ floor then .error .privilege
      else if e.limit = 0 ∨ (if e.mode = 1 then 2 ^ 48 else 2 ^ 36) < e.limit then .error .lengthLimit
      else if s.keeps e ∧ ¬ s.kept n ∧ n ≠ 0 ∧ n ≠ s.vaultSlot ∧ 253 ≤ s.placesUsed then .error .tierFull
      else .ok e

/-- The Cipher Engine has opened an envelope (Table 17.1). -/
def State.envOpened (s : State) : State := s.count 0x90 0 1

/-- Count a load that failed: a tag mismatch in CE_ERR.TAG_FAIL, a limit in CE_ERR.LENGTH (Table 14.11); an envelope whose tag was
good has been opened. -/
def State.loadFailed (s : State) (n : Nat) (b : List Byte) (tagOk : Bool) (st : Status) : State :=
  if (s.loadForm n b).isNone then s
  else if ¬ tagOk then s.bump F.CE_ERR_TAG_FAIL
  else if st = .lengthLimit then (s.envOpened.bump F.CE_ERR_LENGTH).count 0x90 0 3
  else s.envOpened

/-- An envelope is in the keepsake, in its first copy at least (R382); the vault slot keeps the one of the version that it
holds beside it (R338, R344). -/
def State.keepEnv (s : State) (e : Env) : State :=
  let old := SMap.look s.keys.envs (2 * e.slot)
  let envs := match old with
    | some o => if e.slot = s.vaultSlot ∧ o.ver ≠ e.ver ∧ s.holdsVer e.slot o.ver then SMap.ins s.keys.envs (2 * e.slot + 1) o else s.keys.envs
    | none => s.keys.envs
  { s with keys := { s.keys with envs := SMap.ins envs (2 * e.slot) e } }

/-- Write the staged position of a slot with a checked envelope; one that the keepsake keeps goes there, copy 0 and then copy 1
(R341, Table 16.1). -/
def State.stage (s : State) (e : Env) : State :=
  let k := s.slot e.slot
  let s := if s.keeps e then (s.flashWait (.envelope e 0)).kick else s
  s.setSlot e.slot { k with staged := .loaded ⟨e.ver, 0, e.limit⟩, mode := e.mode, persist := s.keeps e }

/-- Load a checked envelope: at once, or after the retiring copy is zeroized (R341). True when it is done: one that the keepsake
keeps is done when it has been written there. -/
def State.load (s : State) (e : Env) (by_ : Option Nat) : Bool × State :=
  let k := s.slot e.slot
  match k.staged with
  | .retiring _ => (false, s.setSlot e.slot { k with parked := some (e, by_) })
  | _ => (!s.keeps e, s.stage e)

/-- A KS_CMD that is in progress on a slot ends. -/
def State.ksEnds (s : State) (n : Nat) (st : Status) : State :=
  if s.keys.busy = some n then { s with keys := { s.keys with busy := none } }.setFld F.KS_RES_STATUS 0 st.code else s

/-- Make the loaded version active (R342). True when one was loaded. A timed swap that is armed stays so, and finds nothing loaded. -/
def State.swap (s : State) (n : Nat) : Bool × State :=
  let k := s.slot n
  match k.staged with
  | .loaded c =>
    let s := s.setSlot n { k with
      active := some { c with uses := 0 }, near := false, told := false,
      staged := (match k.active with | some a => .retiring a | none => .empty),
      graceEnd := (match k.active with | some _ => some (s.mono + us (s.fld F.KS_CFG_GRACE)) | none => none) }
    (true, s.reserve n c.ver 0)
  | _ => (false, s)

/-- Zeroize every copy of a slot (R345); keepsake envelopes stay. What its users meet follows in `eraseSlot`. -/
def State.zeroize (s : State) (n : Nat) : State :=
  let s := s.setSlot n emptySlot
  { s with keys := { s.keys with erases := (s.keys.erases + 1) % 2 ^ 32 } }

/-- Reload a slot from its keepsake envelopes: the newest version active, the vault slot's older one retiring, USES at
the highest reservation (R338, R443, R344). A slot that holds an active copy stays as it is. -/
def State.reloadSlot (s : State) (n : Nat) : State :=
  let k := s.slot n
  match k.active, SMap.look s.keys.envs (2 * n) with
  | none, some e =>
    let old := SMap.look s.keys.envs (2 * n + 1)
    let u := s.reserved n e.ver
    let s := s.count 0x90 0 1 (if old.isSome then 2 else 1)
    let s := s.setSlot n { k with
      active := some ⟨e.ver, u, e.limit⟩, mode := e.mode, persist := true, near := false, told := false,
      staged := (match old with | some o => .retiring ⟨o.ver, s.reserved n o.ver, o.limit⟩ | none => k.staged) }
    s.reserve n e.ver u
  | _, _ => s

/-- Reload every slot whose envelope the keepsake holds (R338). -/
def State.reloadAll (s : State) : State :=
  (s.keys.envs.filter (fun p => p.1 % 2 == 0)).foldl (fun t p => t.reloadSlot (p.1 / 2)) s

/-- USES has reached LIMIT (R334). -/
def KeySlot.spent (k : KeySlot) : Bool := match k.active with | some c => decide (c.limit ≤ c.uses) | none => false

/-- Slots with an active copy (KS_STAT.ACTIVE). -/
def State.activeSlots (s : State) : Nat := (s.keys.slots.filter (fun p => p.2.active.isSome)).length

end Sys2Proof.Machine
end

