-- ==== Sys2Proof/Machine/Bezel.lean ====
section
/-! DEFINITION. The Bezel code (R202 to R206), where a line lies (R160, R191), the Bezel events (R221) and the device
marks (R209). A line is named by its index, its byte offset over 64. -/

namespace Sys2Proof.Machine

/-! ## The code -/

/-- Q of R206. -/
def poisonQ : BitVec 64 := 0xFFFFFFFFFFFFFFFF#64

/-- The deviation of both check symbols that gives S0 = 0 and S1 = Q: Q divided by α^8 + α^9. -/
def poisonDelta : BitVec 64 × BitVec 64 := (0x6B55555555555550#64, 0x6B55555555555550#64)

/-- Invert the bits `e` of the symbol of data device d in a line (R202). -/
def flipDevice (data : List Byte) (d : Nat) (e : BitVec 64) : List Byte :=
  data.zipIdx.map (fun p =>
    if p.2 % 4 = d / 2 ∧ d < 8 then
      let nib := (e >>> (4 * (p.2 / 4))).setWidth 4
      p.1 ^^^ (if d % 2 = 0 then nib.setWidth 8 else (nib.setWidth 8) <<< 4)
    else p.1)

/-- Both syndromes (R203) of a line stored with check deviation `chk` and read with device errors `es`. -/
def syndromes (chk : BitVec 64 × BitVec 64) (es : List DevErr) : BitVec 64 × BitVec 64 :=
  let all := (8, chk.1) :: (9, chk.2) :: es
  (all.foldl (fun a p => a ^^^ p.2) 0, all.foldl (fun a p => a ^^^ gfAlphaPow p.1 p.2) 0)

/-- The outcome of a decode (Table 9.2): `fixed d e` corrects symbol d by e. -/
inductive Decoded where
  | clean
  | fixed (d : Nat) (e : BitVec 64)
  | poisoned
  | bad
  deriving DecidableEq, Repr

/-- The devices d with S1 = α^d S0. -/
def locators (s0 s1 : BitVec 64) : List Nat := (List.range 10).filter (fun d => gfAlphaPow d s0 == s1)

/-- Table 9.2, with the marked device if a mark is set (R204). -/
def decodeBezel (mark : Option Nat) (syn : BitVec 64 × BitVec 64) : Decoded :=
  let s0 := syn.1
  let s1 := syn.2
  if s0 = 0 ∧ s1 = 0 then .clean
  else
    let marked : Option Decoded := match mark with
      | some m => if s0 ≠ 0 ∧ gfAlphaPow m s0 = s1 then some (.fixed m s0) else none
      | none => none
    match marked with
    | some r => r
    | none =>
      match (if s0 = 0 then [] else locators s0 s1) with
      | [d] => (match mark with | some _ => .bad | none => .fixed d s0)
      | _ =>
        if s0 = 0 ∧ s1 = poisonQ then .poisoned
        else if (locators s0 (s1 ^^^ poisonQ)) ≠ [] then .poisoned
        else .bad

/-- The bytes that a decode gives from the stored bytes and the device errors: corrected where one device was at
fault (R204). -/
def decodedBytes (data : List Byte) (es : List DevErr) (r : Decoded) : List Byte :=
  let raw := es.foldl (fun b p => flipDevice b p.1 p.2) data
  match r with
  | .fixed d e => flipDevice raw d e
  | _ => raw

/-! ## Where a line lies -/

/-- The slice of a line (R160). -/
def sliceOf (line : Nat) : Nat := bits line 0 3 ^^^ bits line 3 3 ^^^ bits line 6 3 ^^^ bits line 9 3

/-- The channel and subchannel of a line (R191). -/
def chanOf (line : Nat) : Nat := bits line 1 4 ^^^ bits line 5 4 ^^^ bits line 9 4 ^^^ bits line 13 4
def subOf (line : Nat) : Nat := line % 2

/-- The bank group, bank, rank, row and column of a line (R191), by the widths in MC_MAP.LAYOUT. -/
structure Place where
  group : Nat
  bank : Nat
  rank : Nat
  row : Nat
  col : Nat
  deriving DecidableEq, Repr

def State.cellPlace (s : State) (line : Nat) : Place :=
  let w := s.fld F.MC_MAP_LAYOUT (chanOf line)
  let l := line / 32
  let c := bits w 0 4
  let g := bits w 4 4
  let k := bits w 8 4
  let r := bits w 12 2
  ⟨bits l c g, bits l (c + g) k, bits l (c + g + k) r, l / 2 ^ (c + g + k + r), bits l 0 c⟩

/-- Do two cells lie in the same bank of the same subchannel-rank (R218)? -/
def State.sameBank (s : State) (a b : Nat) : Bool :=
  let p := s.cellPlace a
  let q := s.cellPlace b
  chanOf a == chanOf b && subOf a == subOf b && p.rank == q.rank && p.group == q.group && p.bank == q.bank

/-- The number of a cell within its bank, in row and then column order (R218), and the i-th cell of the bank of another one. -/
def State.bankIndex (s : State) (line : Nat) : Nat :=
  (s.cellPlace line).row * 2 ^ bits (s.fld F.MC_MAP_LAYOUT (chanOf line)) 0 4 + (s.cellPlace line).col
def State.bankLine (s : State) (line i : Nat) : Nat :=
  let w := s.fld F.MC_MAP_LAYOUT (chanOf line)
  let p := s.cellPlace line
  let c := bits w 0 4
  let g := c + bits w 4 4
  let k := g + bits w 8 4
  let l := i % 2 ^ c + p.group * 2 ^ c + p.bank * 2 ^ g + p.rank * 2 ^ k + i / 2 ^ c * 2 ^ (k + bits w 12 2)
  32 * l + 2 * (chanOf line ^^^ bits l 0 4 ^^^ bits l 4 4 ^^^ bits l 8 4) + subOf line

/-- DRAM capacity in bytes (Table 8.4). -/
def State.dramBytes (s : State) : Nat := ((List.range 16).map (fun c => s.fld F.MC_STAT_GIB c)).sum * 2 ^ 30

/-- Has line i of a retired page or bank been moved (R219): its retirement is over, or is the one that moves and has passed it? -/
def State.hasMoved (s : State) (bank : Bool) (off i : Nat) : Bool :=
  match s.bezel.retiring with
  | [] => true
  | r :: rest =>
    if r.bank == bank && (if bank then r.off == off else r.off / 4096 == off / 4096) then decide (i < s.bezel.moved)
    else !rest.any (fun x => x.bank == bank && (if bank then x.off == off else x.off / 4096 == off / 4096))

/-- Where the spare pool begins, in lines (R217), and line i of what the n-th retired bank or page has there. -/
def State.spareLine (s : State) (bank : Bool) (n i : Nat) : Nat :=
  (s.dramBytes - s.dramBytes / 256) / 64 + 64 * Config.spareUnit bank n + i

/-- The cell that holds a line (R218): its own, or its spare place once it has moved there. -/
def State.cell (s : State) (line : Nat) : Nat :=
  if s.bezel.pages.isEmpty && s.bezel.bankList.isEmpty then line
  else
    let a := match s.bezel.pages.findIdx? (fun p => p == line / 64) with
      | some n => if s.hasMoved false (64 * line) (line % 64) then s.spareLine false n (line % 64) else line
      | none => line
    match s.bezel.bankList.findIdx? (fun b => s.sameBank (b / 64) a) with
    | some n =>
      if s.hasMoved true (s.bezel.bankList.getD n 0) (s.bankIndex a) then s.spareLine true n (s.bankIndex a) else a
    | none => a

/-- The channel, the subchannel and the place in which a line is stored. -/
def State.chanAt (s : State) (line : Nat) : Nat := chanOf (s.cell line)
def State.subAt (s : State) (line : Nat) : Nat := subOf (s.cell line)
def State.place (s : State) (line : Nat) : Place := s.cellPlace (s.cell line)

/-- The subchannel-rank index 8c + 4s + r of a line. -/
def State.srOf (s : State) (line : Nat) : Nat := 8 * s.chanAt line + 4 * s.subAt line + (s.place line).rank

/-- The mark on a line's subchannel-rank (R209). -/
def State.markOf (s : State) (line : Nat) : Option Nat := SMap.look s.bezel.marks (s.srOf line)

/-! ## Events of the Bezel unit -/

/-- Write a Bezel event (R221, Table 9.5) with fault class `cl` (7: no fault) and put it in BZ_LAST. -/
def State.bezelEvent (s : State) (kind source line device cl : Nat) : State :=
  let p := s.place line
  let ident := kind + source * 2 ^ 3 + line * 2 ^ 6 + device * 2 ^ 50 + s.chanAt line * 2 ^ 54 + s.subAt line * 2 ^ 58 +
    p.rank % 4 * 2 ^ 59
  let detail := p.group % 8 + p.bank % 4 * 2 ^ 3 + p.row % 2 ^ 18 * 2 ^ 5 + p.col % 2 ^ 11 * 2 ^ 23
  let s := if cl = 7 then s.note 0x51 0 kind ident detail else s.raise 0x51 0 cl kind ident detail
  ((s.setFld F.BZ_LAST_KIND 0 kind).setFld F.BZ_LAST_OFFSET 0 line).setFld F.BZ_LAST_DEVICE 0 device

/-- A Bezel event of a mark set or cleared by BZ_MARK: SOURCE 7, OFFSET 0, the place from BZ_MARK_SEL.INDEX (R221). -/
def State.markEvent (s : State) (kind idx device cl : Nat) : State :=
  let ident := kind + 7 * 2 ^ 3 + device * 2 ^ 50 + idx / 8 * 2 ^ 54 + idx / 4 % 2 * 2 ^ 58 + idx % 4 * 2 ^ 59
  let s := s.raise 0x51 0 cl kind ident 0
  ((s.setFld F.BZ_LAST_KIND 0 kind).setFld F.BZ_LAST_OFFSET 0 0).setFld F.BZ_LAST_DEVICE 0 device

/-- The corrections of a device of a subchannel-rank on distinct lines in the current window (R209). -/
def State.linesSeen (s : State) (sr device : Nat) : Nat :=
  ((s.bezel.seen.filter (fun x => x.sr == sr && x.device == device &&
    decide (s.mono ≤ x.at_ + s.fld F.BZX_MARK_WINDOW * second))).map Seen.line).dedup.length

/-- A correction of device d on a line: event, counter, marking statistics (R209, R221). -/
def State.corrected (s : State) (source line d : Nat) : State :=
  let s := (s.bezelEvent 0 source line d 0).count 0x51 0 (3 * s.chanAt line)
  let s := { s with bezel := { s.bezel with seen := s.bezel.seen ++ [⟨source, s.srOf line, d, line, s.mono⟩] } }
  s

end Sys2Proof.Machine
end

