-- ==== Sys2Proof/Machine/Cipher.lean ====
section
/-! DEFINITION. The pipelines of the Cipher Engine (R331): which units of work wait for one, and whose turn it is. -/

namespace Sys2Proof.Machine

/-- Set bits among the low n of a number. -/
def popCount (v : Nat) : Nat → Nat
  | 0 => 0
  | n + 1 => popCount v n + boolNat (bitAt v n)

/-- Pipelines in service (CE_STAT.PIPES): those tested at cold reset, without the ones that CEX_PIPE.OFF takes out. -/
def State.pipesIn (s : State) : Nat := s.fld F.CE_STAT_PIPES - popCount (s.fld F.CEX_PIPE_OFF) 16

/-- Pipelines that no unit of work occupies. -/
def State.pipesFree (s : State) : Nat := s.pipesIn - (s.cipher.busy.filter (fun t => decide (s.mono < t))).length

/-- Does a class of work wait for a pipeline: 0 fabric ingress, 1 fabric egress, 2 blobs, 3 vault plates? -/
def State.cipherWaits (s : State) (c : Nat) : Bool :=
  match c with
  | 0 => !s.cipher.rx.isEmpty
  | 1 => !s.cipher.tx.isEmpty
  | 2 => !s.cipher.blobs.isEmpty
  | _ => s.cipher.plate

/-- The classes in the order of their turns (R331): vault plates first from T_W, round-robin after the class granted last at other
times. -/
def State.cipherTurns (s : State) : List Nat :=
  if s.pow.warn then 3 :: ([1, 2, 3].map (fun d => (min s.cipher.last 2 + d) % 3))
  else [1, 2, 3, 4].map (fun d => (s.cipher.last + d) % 4)

/-- May a unit of class c take a pipeline now: is one free beyond those that the waiting classes before it take? -/
def State.mayPipe (s : State) (c : Nat) : Bool :=
  decide (((s.cipherTurns.takeWhile (fun d => d != c)).filter s.cipherWaits).length < s.pipesFree)

/-- A unit of class c and n bytes occupies a pipeline: 512 bits at each clock of 1 ns. -/
def State.occupy (s : State) (c n : Nat) : State :=
  { s with cipher := { s.cipher with
    busy := (s.mono + ns (ceilDiv (max 1 n) 64)) :: s.cipher.busy.filter (fun t => decide (s.mono < t)), last := c } }

/-- Work of fabric egress that no pipeline could take waits in order; each is held once. -/
def State.waitTx (s : State) (w : TxWork) : State :=
  { s with cipher := { s.cipher with tx := if s.cipher.tx.contains w then s.cipher.tx else s.cipher.tx ++ [w] } }

/-- The link of sequencer q waits for a pipeline for its blob, or no longer does. -/
def State.waitBlob (s : State) (q : Nat) (on_ : Bool) : State :=
  let rest := s.cipher.blobs.filter (fun i => i != q)
  { s with cipher := { s.cipher with blobs := if on_ then rest ++ [q] else rest } }

/-- A blob of n bytes of sequencer q takes a pipeline; false when its link waits for one. -/
def State.blobPipe (s : State) (q n : Nat) : Bool × State :=
  if s.mayPipe 2 then (true, (s.waitBlob q false).occupy 2 n) else (false, s.waitBlob q true)

/-- A vault plate waits for a pipeline, or no longer does. -/
def State.waitPlate (s : State) (on_ : Bool) : State := { s with cipher := { s.cipher with plate := on_ } }

end Sys2Proof.Machine
end

