-- ==== Sys2Proof/Machine/Wire.lean ====
section
/-! DEFINITION. Packets as bytes: the NRT header (Tables 5.1 to 5.3), the headers of a RoCEv2 packet that the responder sends
(R137), what a received packet says of its plane and of congestion. -/

namespace Sys2Proof

open Machine

/-- The plane a packet came in on: that of its port. -/
def Pkt.plane (k : Pkt) : Nat := k.frame.port / 32
def Roce.plane (k : Roce) : Nat := k.frame.port / 32

/-- Is the packet CE-marked (Table 4.6)? -/
def Pkt.ce (k : Pkt) : Bool := k.frame.ecn == 3
def Roce.ce (k : Roce) : Bool := k.frame.ecn == 3

/-! ## The bytes of a packet (Tables 5.1 to 5.3) -/

/-- The request extension: 32 bytes. -/
def ReqX.bytes (x : ReqX) : List Byte :=
  leBytes 4 x.wkey ++ leBytes 4 x.length ++ leBytes 8 x.offset ++ leBytes 4 x.moff ++ leBytes 1 x.level ++ leBytes 1 x.atop ++
    leBytes 2 0 ++ leBytes 8 x.epoch

/-- The acknowledgement extension: 14 bytes and the bitmap. -/
def AckX.bytes (x : AckX) : List Byte :=
  leBytes 4 x.ackPsn ++ leBytes 4 x.creditLimit ++ leBytes 4 x.cmplMsg ++ leBytes 1 x.sackLen ++
    leBytes 1 (boolNat x.hold + boolNat x.ceSeen * 2) ++ leBytes x.sackLen x.sack

/-- The base header: 48 bytes. -/
def Pkt.base (k : Pkt) : List Byte :=
  leBytes 8 (k.ver + k.typ * 2 ^ 8 + boolNat k.ackx.isSome * 2 ^ 16 + boolNat k.reqx.isSome * 2 ^ 17 + boolNat k.first * 2 ^ 18 +
    boolNat k.last * 2 ^ 19 + boolNat k.signal * 2 ^ 20 + boolNat k.retx * 2 ^ 21 + k.status * 2 ^ 24 + k.dqp * 2 ^ 32) ++
  leBytes 8 (k.psn + k.sqp * 2 ^ 32) ++ leBytes 8 (k.msg + k.keySlot * 2 ^ 32 + k.keyVer * 2 ^ 48) ++
  leBytes 8 (k.sealedEpoch + boolNat k.unsure * 2 ^ 40 + boolNat k.single * 2 ^ 41) ++ leBytes 8 (k.plen + k.roff * 2 ^ 16) ++
  leBytes 8 k.nonce

/-- Every header byte, from the base header to SACK: the additional data of the seal (R117). -/
def Pkt.head (k : Pkt) : List Byte :=
  k.base ++ (match k.reqx with | some x => x.bytes | none => []) ++ (match k.ackx with | some x => x.bytes | none => [])

/-! ## RoCEv2 headers (R137), in the standard's big-endian order -/

namespace Machine

/-- The n low bytes of a number, most significant first. -/
def beBytes (n v : Nat) : List Byte := (leBytes n v).reverse

/-- The base transport header: opcode, pad count, P_Key 0xFFFF, BECN of a notification, destination QP, PSN. -/
def bthBytes (opcode pad qp psn : Nat) : List Byte :=
  beBytes 1 opcode ++ beBytes 1 (pad * 16) ++ beBytes 2 0xFFFF ++ beBytes 1 (if opcode = 0x81 then 0x40 else 0) ++ beBytes 3 qp ++
    beBytes 1 0 ++ beBytes 3 psn

/-- Pad bytes of a payload of n bytes. -/
def padOf (n : Nat) : Nat := (4 - n % 4) % 4

/-- Does an opcode of the responder carry an AETH: responses but for READ Response Middle? -/
def hasAeth (opcode : Nat) : Bool := opcode == 0x0D || opcode == 0x0F || opcode == 0x10 || opcode == 0x11 || opcode == 0x12

/-- The UDP payload of a RoCEv2 packet without its ICRC: BTH, AETH with syndrome and message sequence number, payload (an
AtomicAckETH is one in big-endian order), padding; a notification carries 16 bytes of zeros. -/
def roceBytes (opcode qp psn synd msn : Nat) (data : List Byte) : List Byte :=
  bthBytes opcode (padOf data.length) qp psn ++ (if hasAeth opcode then beBytes 1 synd ++ beBytes 3 msn else []) ++
    (if opcode = 0x81 then List.replicate 16 0 else data ++ List.replicate (padOf data.length) 0)

end Machine

end Sys2Proof
end

