-- ==== Sys2Proof/Machine/Fabric.lean ====
section
/-! DEFINITION. Ports, planes and the chord slice (chapter 4): what a port is, which planes are up, the plane and port a
QP sends on (R35, R108, R301), the frames a port takes and sends (R106, R107), the dark state (R97), bring-up (R98) and the
calibration cycle (R100 to R105). -/

namespace Sys2Proof.Machine

/-! ## Ports and planes -/

/-- Lanes per port of a port mode (Table 4.1). -/
def modeLanes (m : Nat) : Nat := match m with | 1 => 1 | 2 => 4 | 3 => 8 | _ => 0

/-- The port mode of the octet that unit u lies in (R93), which the image gives in the octet's first unit. -/
def State.octetMode (s : State) (u : Nat) : Nat := s.fld F.PORT_CFG_MODE (u / 8 * 8)

/-- Is MAC unit u the first lane of a port (R93)? -/
def State.isPort (s : State) (u : Nat) : Bool :=
  let n := modeLanes (s.octetMode u)
  n != 0 && u % n == 0

/-- The lanes of the port at unit u. -/
def State.portLanes (s : State) (u : Nat) : List Nat :=
  (List.range (modeLanes (s.octetMode u))).map (fun i => u + i)

/-- The port that lane n belongs to. -/
def State.portOfLane (s : State) (n : Nat) : Option Nat :=
  (List.range 64).find? (fun u => s.isPort u && (s.portLanes u).contains n)

/-- A port or lane's plane: 0 for A (lanes 0 to 31), 1 for B. -/
def planeOf (u : Nat) : Nat := u / 32

/-- The ports of a plane that are up (R95). -/
def State.upPorts (s : State) (p : Nat) : List Nat :=
  ((List.range 32).map (fun i => 32 * p + i)).filter (fun u => s.isPort u && s.fld F.PORT_STAT_STATE u == 2)

/-- A plane is up while at least one of its ports is up (R95). -/
def State.planeUp (s : State) (p : Nat) : Bool := !(s.upPorts p).isEmpty

/-- The smallest MTU among the ports of both planes (R116). -/
def State.minMtu (s : State) : Nat :=
  ((List.range 64).filter (fun u => s.isPort u)).foldl (fun m u => min m (s.fld F.PORT_CFG_MTU u)) 9216

/-! ## Egress -/

/-- Do the first `len` bits of two addresses agree? Address byte i lies in bits [8i + 7:8i] and its bits count from the
most significant (Table 12.10). -/
def prefixMatch (a b len : Nat) : Bool :=
  (List.range 16).all (fun i =>
    let n := min 8 (len - 8 * i)
    bits a (8 * i) 8 / 2 ^ (8 - n) == bits b (8 * i) 8 / 2 ^ (8 - n))

/-- A claim set at an instant as it counts: 0 once it has not been set again for CLM_CFG.TTL seconds (R300). -/
def State.claimNow (s : State) (v set : Nat) : Nat :=
  let ttl := s.fld F.CLM_CFG_TTL
  if ttl ≠ 0 ∧ set + ttl * second ≤ s.mono then 0 else v

/-- The claims of a path (R301): those of the longest matching entry, the lowest-numbered of equals, or CLM_DEFAULT. -/
def State.claimsOf (s : State) (ip : Nat) : Nat × Nat :=
  let best := s.claims.foldl (fun (b : Option Claim) p =>
    if p.2.on_ && prefixMatch ip (p.2.pfxHi + p.2.pfxLo * 2 ^ 64) p.2.len then
      match b with
      | some c => if c.len < p.2.len then some p.2 else b
      | none => some p.2
    else b) none
  match best with
  | some c => (s.claimNow c.a c.setA, s.claimNow c.b c.setB)
  | none => (s.fld F.CLM_DEFAULT_CLAIM_A, s.fld F.CLM_DEFAULT_CLAIM_B)

/-- Is a plane held back, RETURN_HOLD ms after it came up (R301)? -/
def State.planeHeld (s : State) (p : Nat) : Bool :=
  match SMap.look s.fab.hold p with
  | some t => decide (s.mono < t + ms (s.fld F.CLM_CFG_RETURN_HOLD))
  | none => false

/-- A plane's effective claim: 0 while the plane is down and during its RETURN_HOLD (R301). -/
def State.effective (s : State) (p claim : Nat) : Nat := if s.planeUp p && !s.planeHeld p then claim else 0

/-- The plane a QP with peer address `ip` sends on (R35, R301). -/
def State.egressPlane (s : State) (ip : Nat) : Nat :=
  let c := s.claimsOf ip
  let a := s.effective 0 c.1
  let b := s.effective 1 c.2
  if b < a then 0 else if a < b then 1 else if s.planeUp 0 then 0 else 1

/-- The score of a port for a QP (R108). -/
def portScore (qp u : Nat) : Nat := crc32 (leBytes 4 qp ++ leBytes 4 u)

/-- The ports of a plane's egress set. -/
def State.egressSet (s : State) (p : Nat) : List Nat := (s.upPorts p).filter (fun u => s.flag F.PORT_STAT_IN_SET u)

/-- The port a QP's packet leaves on within a plane: the highest score, the lower lane on equal ones (R108). -/
def State.egressPort (s : State) (qp p : Nat) : Option Nat :=
  (s.egressSet p).foldl (fun (b : Option Nat) u =>
    match b with
    | some v => if portScore qp v < portScore qp u then some u else b
    | none => some u) none

/-! ## Frames (R106, R107, Table 4.6) -/

/-- The unit that holds the plane fields of a port's plane. -/
def planeUnit (u : Nat) : Nat := 32 * planeOf u

/-- The IPv6 address of a port's plane. -/
def State.planeIp6 (s : State) (u : Nat) : Nat := s.fld F.PLANE_IP6_HI (planeUnit u) + s.fld F.PLANE_IP6_LO (planeUnit u) * 2 ^ 64

/-- The VLAN tags that a port sends (R106): priority and identifier, or none. -/
def State.vlanTags (s : State) (u : Nat) : List Nat :=
  if s.flag F.PORT_CFG_VLAN_EN u then [s.fld F.PORT_CFG_VLAN_ID u + s.fld F.PORT_CFG_VLAN_PCP u * 2 ^ 13] else []

/-- The tags without the drop-eligible bit, which Table 4.6 does not name. -/
def tagKey (ts : List Nat) : List Nat := ts.map (fun t => bits t 0 12 + bits t 13 3 * 2 ^ 13)

/-- What the frame rules below IP say of a frame: the event of Table 17.1 that counts its discard (FCS 3; size, slow protocols
2; PAUSE, PFC, LLDP and MACsec 12; VLAN 11). -/
def State.linkCause (s : State) (f : Frame) : Option Nat :=
  if ¬ f.fcsOk then some 3
  else if f.size < 64 ∨ s.fld F.PORT_CFG_MTU f.port < f.size then some 2
  else if f.etype = 0x8808 ∨ f.etype = 0x88CC ∨ f.etype = 0x88E5 then some 12
  else if f.etype = 0x8809 then some 2
  else if tagKey f.tags ≠ s.vlanTags f.port then some 11
  else none

/-- The solicited-node multicast address of an IPv6 address and the multicast MAC that carries it (IPv6 neighbour discovery). -/
def solicitedIp (ip : Nat) : Nat := 0xFF + 0x02 * 2 ^ 8 + 0x01 * 2 ^ 88 + 0xFF * 2 ^ 96 + ip / 2 ^ 104 * 2 ^ 104
def solicitedMac (ip : Nat) : Nat := 0x3333FF000000 + bits ip 104 8 * 2 ^ 16 + bits ip 112 8 * 2 ^ 8 + bits ip 120 8

/-- Is the destination MAC one that the port takes: its own, broadcast for ARP only, solicited-node multicast for NDP only? -/
def State.macOk (s : State) (f : Frame) : Bool :=
  f.dmac == s.fld F.PORT_MAC_ADDR f.port || (f.etype == 0x0806 && f.dmac == 2 ^ 48 - 1) ||
  (f.etype == 0x86DD && f.proto == 58 && f.dmac == solicitedMac (s.planeIp6 f.port))

/-- Does the IP header meet Table 4.6: the plane's address (R107), no options, extension headers or fragments, a good header
checksum? NDP may also come to the solicited-node address. -/
def State.ipOk (s : State) (f : Frame) : Bool :=
  f.plain &&
  (if f.etype = 0x86DD then f.dst == s.planeIp6 f.port || (f.proto == 58 && f.dst == solicitedIp (s.planeIp6 f.port))
   else
     let a := s.fld F.PLANE_IP4_ADDR (planeUnit f.port)
     a != 0 && f.dst == a && f.hdrSum)

/-- Does the UDP header meet Table 4.6: the NRT port or 4791, a good checksum, which IPv4 may leave zero? -/
def State.udpOk (s : State) (f : Frame) : Bool :=
  (f.dport == s.fld F.TR_CFG_UDP_PORT 0 || f.dport == 4791) &&
  (match f.sum with | some b => b | none => f.etype == 0x0800)

/-- Is a PTP frame accepted: on a port that MER_PTP names, to its own MAC, while MER_PTP.EN = 1? -/
def State.ptpOk (s : State) (f : Frame) : Bool :=
  s.flag F.MER_PTP_EN && f.dmac == s.fld F.PORT_MAC_ADDR f.port &&
  (f.port == s.fld F.MER_PTP_PORT1 0 || f.port == s.fld F.MER_PTP_PORT2 0)

/-- Why a received frame is discarded (R106), if it is: the event of Table 17.1. -/
def State.frameCause (s : State) (f : Frame) : Option Nat :=
  match s.linkCause f with
  | some e => some e
  | none =>
    if f.etype = 0x88F7 then (if s.ptpOk f then none else some 2)
    else if f.etype ≠ 0x0806 ∧ f.etype ≠ 0x0800 ∧ f.etype ≠ 0x86DD then some 2
    else if ¬ s.macOk f then some 10
    else if f.etype = 0x0806 then none
    else if ¬ s.ipOk f then some 13
    else if f.proto = 17 then (if s.udpOk f then none else some 13)
    else if f.proto = (if f.etype = 0x86DD then 58 else 1) then none
    else some 13

/-- A frame that is none: of a packet that has not been sent. -/
def noFrame : Frame := ⟨0, 0, false, 0, [], 0, 0, 0, false, false, 0, 0, 0, 0, 0, 0, none⟩

/-- A frame to the next hop of a port (R106): `len` bytes follow the Ethernet header; short frames are padded to 64 bytes. -/
def State.frameFor (s : State) (u etype len : Nat) : Frame where
  port := u
  size := max 64 (18 + 4 * (s.vlanTags u).length + len)
  fcsOk := true
  dmac := s.fld F.PORT_NH_ADDR u
  tags := s.vlanTags u
  etype := etype
  src := 0
  dst := 0
  plain := true
  hdrSum := true
  hop := 0
  dscp := 0
  ecn := 0
  proto := 0
  sport := 0
  dport := 0
  sum := none

/-- An IP packet of a port's plane (R106): hop limit, traffic mark, ECT(0) with PORT_DSCP.ECT; DF set and ID 0 on IPv4. -/
def State.ipFrame (s : State) (u : Nat) (ip4 : Bool) (dst dscp proto len : Nat) : Frame :=
  let p := planeUnit u
  { s.frameFor u (if ip4 then 0x0800 else 0x86DD) ((if ip4 then 20 else 40) + len) with
    src := if ip4 then s.fld F.PLANE_IP4_ADDR p else s.planeIp6 u
    dst := dst
    hop := s.fld F.PLANE_IP4_HOP p
    dscp := dscp
    ecn := if s.flag F.PORT_DSCP_ECT u then 2 else 0
    proto := proto }

/-- A frame leaves the port (Table 17.1). -/
def State.sends (s : State) (f : Frame) (o : Out) : State :=
  ((s.emit o).count 0x11 f.port 1).countUnits 0x11 f.port 5 64 f.size

/-- A frame is discarded for a cause of the port's Loupe bank (R106, Table 17.1). -/
def State.frameGone (s : State) (port event : Nat) : State :=
  let s := if 10 ≤ event then s.count 0x11 port 2 else s
  s.count 0x11 port event

/-- A frame on a port that is up, with its bytes and its CE mark; others are not heard. -/
def State.hearsFrame (s : State) (f : Frame) : Bool := s.isPort f.port && s.fld F.PORT_STAT_STATE f.port == 2

def State.countFrame (s : State) (f : Frame) : State :=
  let s := (s.count 0x11 f.port 0).countUnits 0x11 f.port 4 64 f.size
  if f.ecn = 3 then s.count 0x11 f.port 6 else s

/-! ## Dark lanes and bring-up -/

/-- Set LANE_STAT.STATE of every lane of a port. -/
def State.setLanes (s : State) (u st : Nat) : State :=
  (s.portLanes u).foldl (fun t n => t.setFld F.LANE_STAT_STATE n st) s

/-- A lane goes dark: its receiver ignores the line (R97). -/
def State.laneDark (s : State) (n : Nat) : State :=
  ((s.setFld F.LANE_STAT_STATE n 0).setFld F.LANE_STAT_SIGNAL n 0).setFld F.LANE_STAT_LOCK n 0

/-- A port goes dark and leaves its egress set (R97). -/
def State.portDark (s : State) (u : Nat) : State :=
  (((s.portLanes u).foldl State.laneDark s).setFld F.PORT_STAT_STATE u 0).setFld F.PORT_STAT_IN_SET u 0

/-- Every lane goes dark (Table 4.3). -/
def State.fabricDark (s : State) : State :=
  let s := (List.range 64).foldl (fun t u => if t.isPort u then t.portDark u else t) s
  { s with fab := { s.fab with dark := true, chords := [] } }

/-- Nothing of Table 4.3 holds the lanes of a port dark. -/
def State.mayLight (s : State) (u : Nat) : Bool :=
  s.isPort u && !s.fab.dark && !s.diagFail && s.flag F.PORT_CFG_EN u && (s.portLanes u).all (fun n => s.flag F.LANE_CTL_EN n)

/-- A bring-up attempt, or the dark wait after it, starts now (R98). -/
def State.sinceNow (s : State) (u : Nat) : State := { s with fab := { s.fab with since := SMap.ins s.fab.since u s.mono } }

/-- Bring-up of a port starts: its transmitters start (R98). A lane that has failed keeps showing it (R109). -/
def State.bringUp (s : State) (u : Nat) : State :=
  if s.mayLight u then
    let s := (s.portLanes u).foldl (fun (t : State) n =>
      if t.fld F.LANE_STAT_STATE n = 4 then t else t.setFld F.LANE_STAT_STATE n 1) s
    (s.setFld F.PORT_STAT_STATE u 1).sinceNow u
  else s

/-- The fabric may light up: bring-up of every port that nothing holds dark (R98). -/
def State.fabricLight (s : State) : State :=
  (List.range 64).foldl (fun t u => t.bringUp u) { s with fab := { s.fab with dark := false } }

/-- A lane's place in no port or in a port that is up (R95). -/
def State.laneUp (s : State) (n : Nat) : Bool := s.fld F.LANE_STAT_STATE n == 2 || s.fld F.LANE_STAT_STATE n == 3

/-- A chord slice lets go of the lanes of a port that goes down (Table 4.5). -/
def State.chordRelease (s : State) (u : Nat) : State :=
  let chords := s.fab.chords.map (fun p =>
    if (s.portLanes u).contains (4 * p.1 + p.2.lane) ∧ p.2.active then
      (p.1, { p.2 with active := false, shadowing := false, held := 0, recal := false, visit := none }) else p)
  { s with fab := { s.fab with chords := chords } }

/-- A port goes down (R99): out of its egress set, cause recorded, Major fault; a plane that goes down with it raises a
Critical fault in the MAC unit of its first port; bring-up starts again. -/
def State.portLost (s : State) (u cause : Nat) : State :=
  let p := planeOf u
  let s := ((s.chordRelease u).portDark u).setFld F.PORT_STAT_LAST_CAUSE u cause
  let s := s.raise 0x11 u 2 0x02 cause
  let s := if s.planeUp p then s else s.raise 0x11 (32 * p) 3 0x03 p
  let s := if s.planeUp 0 || s.planeUp 1 then s
    else { s with fab := { s.fab with bothDown := s.fab.bothDown.or (some s.mono) } }
  s.bringUp u

/-! ## The calibration cycle -/

/-- The chord slice of a quad. -/
def noChord : Chord := ⟨0, false, false, 0, false, [], none⟩
def State.chord (s : State) (q : Nat) : Chord := SMap.get noChord s.fab.chords q

def State.setChord (s : State) (q : Nat) (c : Chord) : State :=
  { s with fab := { s.fab with chords := SMap.put noChord s.fab.chords q c } }

/-- A manual equaliser setting takes a lane out of the cycle (R111): a nonzero expert setting of the lane. -/
def State.manual (s : State) (n : Nat) : Bool :=
  [F.TXFIR_PRE2, F.TXFIR_PRE1, F.TXFIR_MAIN, F.TXFIR_POST1, F.RXEQ_CTLE, F.RXEQ_FREEZE].any (fun f => s.fld f n != 0)

/-- May the chord slice serve a lane of quad q: up, and without a manual setting (R100, R111)? -/
def State.servable (s : State) (q i : Nat) : Bool := s.laneUp (4 * q + i) && !s.manual (4 * q + i)

/-- The lane of lowest SNR among some lanes of a quad, the lower-numbered of equals. -/
def State.lowestSnr (s : State) (q : Nat) (ls : List Nat) : Option Nat :=
  ls.foldl (fun (b : Option Nat) i =>
    match b with
    | some j => if s.fld F.LANE_QUAL_SNR (4 * q + i) < s.fld F.LANE_QUAL_SNR (4 * q + j) then some i else b
    | none => some i) none

/-- The next lane of the cycle of quad q, and the lanes that the cycle has then served (R100): round-robin by lane, or the lowest
SNR first among those it has not served yet (LCAL_CTL.ORDER); lanes that are not up or manually set are passed over. -/
def State.nextLane (s : State) (q : Nat) (c : Chord) : Option (Nat × List Nat) :=
  let ok := (List.range 4).filter (fun i => s.servable q i)
  let left := ok.filter (fun i => !c.served.contains i)
  let served := if left.isEmpty then [] else c.served
  let l := if s.fld F.LCAL_CTL_ORDER (4 * q) = 0 then
      ((if c.served.isEmpty then [0, 1, 2, 3] else [1, 2, 3, 4].map (fun d => (c.lane + d) % 4))).find? (fun i => s.servable q i)
    else s.lowestSnr q (if left.isEmpty then ok else left)
  l.map (fun i => (i, i :: served.filter (fun j => j != i)))

/-- The chord slice idles. -/
def State.chordIdle (s : State) (q : Nat) (c : Chord) : State :=
  s.setChord q { c with shadowing := false, active := false, held := 0, visit := none }

/-- INTERVAL and MAX_HOLD that stand until the next boundary of a visit (Table 4.5). -/
def State.calFields (s : State) (q : Nat) : Nat × Nat :=
  (s.fld F.LCAL_CTL_INTERVAL (4 * q), s.fld F.LCAL_SHADOW_MAX_HOLD (4 * q))

/-- Start shadowing the next lane, if the cycle runs (R100, Table 4.5: not once the early warning is latched). -/
def State.shadowNext (s : State) (q : Nat) (c : Chord) : State :=
  if s.flag F.LCAL_CTL_AUTO (4 * q) && !s.pow.warn then
    match s.nextLane q c with
    | some (l, served) =>
      s.setChord q { c with lane := l, shadowing := true, active := false, held := 0, served := served, visit := some (s.calFields q) }
    | none => s.chordIdle q c
  else s.chordIdle q c

/-- The two checks of a takeover or return (R101): the receiving slice's SNR is at most MATCH below the carrying one's, and they
disagree in at most DISAGREE bits. -/
def State.calPass (s : State) (q : Nat) (k : Cal) : Bool :=
  decide (k.carry ≤ k.recv + s.fld F.LCAL_SHADOW_MATCH (4 * q)) && decide (k.disagree ≤ s.fld F.LCAL_SHADOW_DISAGREE (4 * q))

/-- The takeover or return that a calibration boundary brings (R100 to R103); `pass` tells whether its two checks
passed (R101). A lane that can no longer be served is passed over. -/
def State.calStep (s : State) (q : Nat) (pass : Bool) : State :=
  let c := { s.chord q with visit := some (s.calFields q) }
  let n := 4 * q + c.lane
  if c.active then
    if s.pow.warn then s
    else if pass then
      let s := (s.setFld F.LANE_STAT_STATE n 2).bump F.LANE_CALSTAT_VISITS n
      s.shadowNext q { c with recal := false }
    else (s.bump F.LANE_CALSTAT_HOLDS n).setChord q { c with held := c.held + 1 }
  else if c.shadowing then
    if s.pow.warn || !s.flag F.LCAL_CTL_AUTO (4 * q) then s.chordIdle q c
    else if !s.servable q c.lane then s.shadowNext q c
    else if pass then (s.setFld F.LANE_STAT_STATE n 3).setChord q { c with shadowing := false, active := true, held := 0 }
    else (s.bump F.LANE_CALSTAT_SKIPS n).shadowNext q c
  else s.shadowNext q c

/-- The fail threshold of a lane: a FAIL above WARN is treated as WARN (Table 4.7). -/
def State.failAt (s : State) (n : Nat) : Nat := min (s.fld F.LANE_THR_WARN n) (s.fld F.LANE_THR_FAIL n)

/-- Refresh LANE_QUAL of a lane at boundary number b (R104). -/
def State.putQual (s : State) (n b : Nat) (x : Nat × Nat × Nat × Nat) : State :=
  let s := (((s.setFld F.LANE_QUAL_SNR n x.1).setFld F.LANE_QUAL_EYE_W n x.2.1).setFld F.LANE_QUAL_EYE_H n x.2.2.1).setFld
    F.LANE_QUAL_BER_E n x.2.2.2
  (s.setFld F.LANE_QUAL_SRC n (boolNat (s.fld F.LANE_STAT_STATE n == 3))).setFld F.LANE_QUAL_SAMPLE n b

/-- Judge the quality of a lane that is up (R105). -/
def State.judgeQual (s : State) (n : Nat) : State :=
  let snr := s.fld F.LANE_QUAL_SNR n
  let warn := s.fld F.LANE_THR_WARN n
  let fail := s.failAt n
  let low := if snr < warn then SMap.get 0 s.fab.low n + 1 else 0
  let good := if snr < warn then 0 else SMap.get 0 s.fab.good n + 1
  let bad := if snr < fail then SMap.get 0 s.fab.fail n + 1 else 0
  let s := { s with fab := { s.fab with low := SMap.put 0 s.fab.low n (min low 3), good := SMap.put 0 s.fab.good n (min good 3), fail := SMap.put 0 s.fab.fail n (min bad 3) } }
  if 3 ≤ low ∧ ¬ s.flag F.LANE_STAT_DEGRADED n then
    (s.setFld F.LANE_STAT_DEGRADED n 1).raise 0x10 n 1 0x01 0 snr
  else if 3 ≤ good then s.setFld F.LANE_STAT_DEGRADED n 0 else s

/-- Has a lane failed by three successive refreshes below FAIL (R105)? -/
def State.laneFailed (s : State) (n : Nat) : Bool := SMap.get 0 s.fab.fail n == 3 && s.laneUp n

/-- A lane of a quad at boundary number b (R104, R105): its figures while it is lit; a lane that is up is judged, one that has
failed shows bring-up again once it reaches FAIL. -/
def State.refreshQual (s : State) (n b : Nat) (x : Nat × Nat × Nat × Nat) : State :=
  if s.fld F.LANE_STAT_STATE n = 0 then s
  else
    let s := s.putQual n b x
    if s.laneUp n then s.judgeQual n
    else if s.fld F.LANE_STAT_STATE n = 4 ∧ s.failAt n ≤ s.fld F.LANE_QUAL_SNR n then s.setFld F.LANE_STAT_STATE n 1
    else s

/-- The calibration interval of a quad: 2^(30 + INTERVAL) units (R100); during a visit the INTERVAL of the last boundary. -/
def State.calPeriod (s : State) (q : Nat) : Nat :=
  2 ^ (30 + (match (s.chord q).visit with | some v => v.1 | none => s.fld F.LCAL_CTL_INTERVAL (4 * q)))

/-- MAX_HOLD of a quad; during a visit that of the last boundary. -/
def State.maxHold (s : State) (q : Nat) : Nat :=
  match (s.chord q).visit with | some v => v.2 | none => s.fld F.LCAL_SHADOW_MAX_HOLD (4 * q)

end Sys2Proof.Machine
end

