-- ==== Sys2Proof/Machine/Budget.lean ====
section
/-! DEFINITION. The content of a line, dirty granules and the dirty budget (R226, R229 to R232), the cut journal (R243,
R244), the regions that the twin lacks (R296). -/

namespace Sys2Proof.Machine

/-! ## Lines as bytes -/

/-- The 64 bytes of a line in persistent memory. -/
def State.pmLine (s : State) (line : Nat) : List Byte := bytesAt s.pipe.pm 0 (64 * line) 64

def State.setPmLine (s : State) (line : Nat) (data : List Byte) : State :=
  { s with pipe := { s.pipe with pm := putBytes 0 s.pipe.pm (64 * line) (data.take 64) } }

/-- The deviation of a line's stored check symbols. -/
def State.chkOf (s : State) (line : Nat) : BitVec 64 × BitVec 64 := SMap.get (0, 0) s.pipe.chk line

def State.setChk (s : State) (line : Nat) (c : BitVec 64 × BitVec 64) : State :=
  { s with pipe := { s.pipe with chk := SMap.put (0, 0) s.pipe.chk line c } }

/-- Lay a patch over a line. -/
def overlay (data : List Byte) (p : SMap Byte) : List Byte := data.zipIdx.map (fun x => (SMap.look p x.2).getD x.1)

/-- Lay the later patch over the earlier. -/
def overPatch (p q : SMap Byte) : SMap Byte := q.foldl (fun m x => SMap.ins m x.1 x.2) p

/-- The patch of bytes at a position of a line. -/
def patchAt (pos : Nat) (bs : List Byte) : SMap Byte := bs.zipIdx.map (fun x => (pos + x.2, x.1))

/-- The bytes that a list of merges leaves (R166). -/
def patchOf (ms : List Merge) : SMap Byte := ms.foldl (fun p m => overPatch p m.patch) []

/-- Does a patch cover the whole line? -/
def isFull (p : SMap Byte) : Bool := p.length == 64

/-- The byte mask of a patch (R166): bit i set when byte i is written. -/
def maskOf (p : SMap Byte) : Nat := p.foldl (fun m x => m ||| 2 ^ x.1) 0

/-! ## The dirty budget -/

/-- The granule of a line. -/
def granuleOf (line : Nat) : Nat := line / 64

/-- Reserved size of the cut journal in granules (R229, VLT_JRNL.SIZE). -/
def State.journalGranules (s : State) : Nat :=
  if s.flag F.VLT_CFG_CUT_EN ∧ s.fld F.VLT_JRNL_SIZE ≤ 5 then 2 ^ s.fld F.VLT_JRNL_SIZE * 65536 else 0

/-- Twin-covered mode is active: declared, and the pair in sync (Table 10.2, R232). -/
def State.twinCovered (s : State) : Bool :=
  s.flag F.VLT_CFG_MODE && s.flag F.TWIN_CFG_DOMAIN && s.twin.state == .inSync

/-- The dirty granules in the drain set (R229). -/
def State.drainDirty (s : State) : Nat :=
  if s.twinCovered then (s.vault.dirty.filter (fun p => p.2.untwinned != 0)).length else s.vault.dirty.length

/-- The drain set in granules, with J. -/
def State.drainSet (s : State) : Nat := s.drainDirty + s.journalGranules

/-- B_eff in GiB (R231, R234, R235). -/
def State.budgetGib (s : State) : Nat :=
  if s.vault.zeroed then 0 else min (s.fld F.VLT_BUDGET_LIMIT) (s.fld F.VLT_HOLDUP_COVER)

def State.inDrain (s : State) (g : Nat) : Bool :=
  match SMap.look s.vault.dirty g with
  | some d => !s.twinCovered || d.untwinned != 0
  | none => false

/-- Granules that admitted writes not yet Placed will add to the drain set. -/
def State.comingGranules (s : State) : List Nat :=
  let ls := s.pipe.sb.map SbEntry.line ++ s.pipe.stores.map Store.line ++
    (s.pipe.locket.lines.filter (fun p => p.2.dirty)).map (fun p => p.2.line) ++
    (s.pipe.locket.victims.filter LkLine.dirty).map LkLine.line
  ((ls.map granuleOf).dedup).filter (fun g => !s.inDrain g)

/-- Must a write to the line be held (R30, R230)? None is once everything admitted goes on to Placed (R38, R176). -/
def State.mustHold (s : State) (line : Nat) : Bool :=
  let g := granuleOf line
  let coming := s.comingGranules
  !s.pipe.forced && !s.inDrain g && !(coming.contains g) && decide (s.budgetGib * 262144 ≤ s.drainSet + coming.length)

/-- Does an operation that waits on a line wait for the budget (PIPE_STAT.HELD)? -/
def State.heldOp (s : State) (w : Nat × LineAct) : Bool :=
  (match w.2 with | .read .. => false | _ => true) && s.mustHold w.1

/-- The request of an operation on a line. -/
def State.reqOf (s : State) (a : LineAct) : Option Op :=
  match a with
  | .write m => (SMap.look s.pipe.writes m.wid).bind (fun x => SMap.look s.pipe.ops x.op)
  | .read op _ _ _ => SMap.look s.pipe.ops op
  | .atom _ op .. => SMap.look s.pipe.ops op

/-- Bytes that an operation on a line writes. -/
def LineAct.size (a : LineAct) : Nat := match a with | .write m => m.patch.length | .read .. => 0 | .atom .. => 8

/-- A write stamped `epoch`, or a poison mark, dirties a granule (R226). -/
def State.dirtied (s : State) (g epoch untw : Nat) : State :=
  let d := match SMap.look s.vault.dirty g with
    | some d => { d with last := epochMax d.last epoch, first := epochMin d.first epoch, untwinned := d.untwinned + untw, since := true }
    | none => ⟨epoch, epoch, untw, s.vault.order, true, none⟩
  { s with vault := { s.vault with dirty := SMap.ins s.vault.dirty g d, order := s.vault.order + 1 } }

/-- A write of the granule became Twinned (R226). -/
def State.untwin (s : State) (g : Nat) : State :=
  match SMap.look s.vault.dirty g with
  | some d => { s with vault := { s.vault with dirty := SMap.ins s.vault.dirty g { d with untwinned := d.untwinned - 1 } } }
  | none => s

/-! ## The cut journal -/

/-- The records of a store (R243): for each distinct epoch x among its writes, the line with exactly the writes of
epochs below x applied. -/
def cutRecords (line : Nat) (base : List Byte) (poison : Bool) (ms : List Merge) : List CutRec :=
  (ms.map Merge.epoch).dedup.map (fun x =>
    let p := patchOf (ms.filter (fun m => m.epoch != x && serialLe 40 m.epoch x))
    ⟨line, x, poison && !isFull p, overlay base p⟩)

/-- How many records the journal ring holds: 72 bytes each (R244). -/
def State.journalRoom (s : State) : Nat := s.journalGranules * 4096 / 72

/-- Discard records at or below the floor. -/
def State.dropOld (s : State) : State :=
  { s with vault := { s.vault with journal := s.vault.journal.filter (fun r => serialLater 40 r.epoch s.vault.floorE) } }

/-- Raise the floor to the epoch of the oldest record that does not fit, until the ring fits (R244). -/
def State.fitJournal (s : State) : Nat → State
  | 0 => s
  | fuel + 1 =>
    if s.vault.journal.length ≤ s.journalRoom then s
    else
      match s.vault.journal.foldl (fun (b : Option Nat) r =>
          match b with | some e => some (epochMin e r.epoch) | none => some r.epoch) none with
      | some e =>
        let s := { s with vault := { s.vault with floorE := e, earlyFloor := true } }
        State.fitJournal s.dropOld fuel
      | none => s

/-- Enter the records of a store (R243, R244). -/
def State.journalStore (s : State) (line : Nat) (base : List Byte) (poison : Bool) (ms : List Merge) : State :=
  if s.flag F.VLT_CFG_CUT_EN then
    let rs := (cutRecords line base poison ms).filter (fun r => serialLater 40 r.epoch s.vault.floorE)
    let s := (s.count 0x60 0 22 rs.length)
    let s := { s with vault := { s.vault with journal := s.vault.journal ++ rs, earlyFloor := false } }
    let s := s.fitJournal (s.vault.journal.length + 1)
    if s.vault.earlyFloor then s.raise 0x60 0 1 0x07 0 s.vault.floorE else s
  else s

/-! ## Regions the twin lacks -/

/-- The 2 MiB region of a line (R296). -/
def regionOf (line : Nat) : Nat := line / 32768

/-- The regions of persistent memory. -/
def State.regionCount (s : State) : Nat := ceilDiv s.vault.pmBytes 2097152

/-- Mark a region (R296). -/
def State.markRegion (s : State) (r : Nat) : State :=
  if s.twin.allFrom ≤ r then s else { s with twin := { s.twin with regions := addNew s.twin.regions r } }

/-- Mark every region. -/
def State.markAll (s : State) : State := { s with twin := { s.twin with regions := [], allFrom := 0 } }

/-- The regions still marked. -/
def State.regionsLeft (s : State) : Nat := s.twin.regions.length + (s.regionCount - s.twin.allFrom)

end Sys2Proof.Machine
end

