-- ==== Sys2Proof/Machine/Send.lean ====
section
/-! DEFINITION. The sending side of the Transport Engine (chapter 5): contexts, payload size (R116), sealing and forming a
packet (R117, R118, R134), acknowledgements (R129), credit and window of a sender (R123, R126), retransmission
(R130), entry into ERROR (R120). -/

namespace Sys2Proof.Machine

/-- A context in RESET (R119). -/
def emptyQp : Qp where
  st := 0
  pin := false
  kind := 0
  ipv4 := false
  level := 0
  retry := 0
  peerQp := 0
  pmtu := 0
  keySlot := 0
  rto := 0
  credInit := 0
  credMax := 0
  ipA := 0
  ipB := 0
  udpSrc := 0
  immRing := 0
  immChain := 0
  cookie := 0
  sndNxt := 0
  sndUna := 0
  rcvNxt := 0
  rcvMsg := 0
  credGrant := 0
  credSeen := 0
  credPeer := 0
  credUsed := 0
  txCtr := 0
  sndMsg := 0
  w := 0
  errCause := 0
  errWhy := 0
  plane := 0
  backoff := 0
  errTime := 0
  rcvd := []
  rxCtr := 0
  sent := []
  sendq := []
  waitSince := none
  own := []
  rx := []
  orderq := []
  lost := []
  ackCount := 0
  ackSince := none
  ceSeen := false
  growAt := 0
  halvedAt := none
  errSentAt := none
  progressAt := 0
  resetting := false
  stWas := 0
  sealedHigh := none
  ce := ⟨0, false, none, [], 1, 0, none, 0, [], []⟩

/-- The context of QP n. -/
def State.qp (s : State) (n : Nat) : Qp := SMap.get emptyQp s.tr.qps n

def State.setQp (s : State) (n : Nat) (q : Qp) : State := { s with tr := { s.tr with qps := SMap.put emptyQp s.tr.qps n q } }

/-- Change QP n. -/
def State.modQp (s : State) (n : Nat) (f : Qp → Qp) : State := s.setQp n (f (s.qp n))

/-- The controller forwards to its twin: it leads and the pair is in RESYNC or IN_SYNC (R282). -/
def State.forwarding (s : State) : Bool :=
  s.twin.leader && (s.twin.state == .resync || s.twin.state == .inSync)

/-- It leads and serves a single copy (R282). -/
def State.single (s : State) : Bool := s.twin.leader && !(s.twin.state == .resync || s.twin.state == .inSync)

/-- The controller is time-unsure (MER_STAT.UNSURE). -/
def State.unsure (s : State) : Bool := s.flag F.MER_STAT_UNSURE

/-- Payload size of a QP (R116). -/
def State.payload (s : State) (q : Qp) : Nat :=
  let m := min 8192 ((s.minMtu - 244) / 256 * 256)
  if q.pmtu = 0 then m else min m (q.pmtu * 256)

/-- The twin QP number of a role, and the role of a QP number (R279). -/
def State.twinQp (s : State) (r : Nat) : Nat := s.fld F.TWIN_CFG_QP_BASE + r

def State.roleOf (s : State) (n : Nat) : Option Nat :=
  let b := s.fld F.TWIN_CFG_QP_BASE
  if b ≤ n ∧ n < b + 9 ∧ (s.qp n).kind = 1 then some (n - b) else none

/-- Does a request come from QP n: a message of it, or the records of a twin QP? -/
def State.fromQp (s : State) (n : Nat) (o : Op) : Bool :=
  match o.src with | .nrt qp _ => qp == n | .record r _ => s.twinQp r == n | _ => false

/-- Is credit withheld from a QP (R125)? While the budget holds a write or an atomic of it, and from the early warning on. -/
def State.withheld (s : State) (n : Nat) : Bool :=
  s.pow.warn || s.pipe.waits.any (fun w =>
    s.heldOp w && (match s.reqOf w.2 with | some o => s.fromQp n o | none => false))

/-- The SACK bitmap (Table 5.3): bit i set when PSN RCV_NXT + 1 + i is received, for the 512 above RCV_NXT. -/
def Qp.sackMap (q : Qp) : Nat :=
  q.rcvd.foldl (fun m p => let d := (p + 2 ^ 32 - q.rcvNxt) % 2 ^ 32; if 1 ≤ d ∧ d ≤ 512 then m ||| 2 ^ (d - 1) else m) 0

/-- SACK_LEN: the smallest length that covers the bitmap (R129). -/
def sackLen (m : Nat) : Nat :=
  if m = 0 then 0 else if m < 2 ^ 64 then 8 else if m < 2 ^ 128 then 16 else if m < 2 ^ 256 then 32 else 64

/-- The acknowledgement extension of a QP now (Table 5.3). -/
def State.ackFor (s : State) (n : Nat) : AckX :=
  let q := s.qp n
  ⟨q.rcvNxt, q.credGrant, q.rcvMsg, sackLen q.sackMap, s.withheld n, q.ceSeen, q.sackMap⟩

/-- An acknowledgement has gone out: nothing is left to acknowledge. -/
def Qp.acked (q : Qp) : Qp := { q with ackCount := 0, ackSince := none, ceSeen := false }

/-- What sealing a packet of slot n under a captured version, or the active one, meets (R118, R343). -/
def State.sealFor (s : State) (n : Nat) (ver : Option Nat) : SealOut × State :=
  match ver with
  | none => s.sealUse n
  | some v =>
    match (s.slot n).active with
    | some c => if c.ver = v then s.sealUse n
      else if s.holdsVer n v then (.ok v 0, s) else (.refuse .keyErased, s)
    | none => if s.holdsVer n v then (.ok v 0, s) else (.refuse .keyErased, s)

/-- A packet still to be given its place in the QP's streams. -/
def blankPkt : Pkt := ⟨noFrame, 1, 0, false, false, false, false, 0, 0, 0, 0, 0, 0, 0, 0, false, false, 0, 0, 0, none, none, [],
  true⟩

/-- Is this end of QP n the responding one (R117): the controller of a host QP, the member of higher device number of a twin
QP? -/
def State.responds (s : State) (n : Nat) : Bool :=
  match (s.qp n).kind with
  | 0 => true
  | 1 => decide (s.fld F.TWIN_CFG_PEER_DEV < s.fld F.HT_DEVICE_NUMBER)
  | _ => false

/-- The IV of packet NONCE_CTR that this end of QP n sends (R117): the responding end's QP number, the direction, the counter. -/
def State.ivOf (s : State) (n nonce : Nat) : List Byte :=
  leBytes 4 (if s.responds n then n % 2 ^ 20 + 2 ^ 31 else (s.qp n).peerQp % 2 ^ 20) ++ leBytes 8 nonce

/-- The traffic mark of a packet (Table 4.9): credit and acknowledgement packets, twin forwards, host traffic. -/
def State.dscpOf (s : State) (n u : Nat) (k : Pkt) : Nat :=
  if k.typ = 0x13 then s.fld F.PORT_DSCP_CTRL u
  else if (s.qp n).kind = 1 then s.fld F.PORT_DSCP_TWIN u else s.fld F.PORT_DSCP_HOST u

/-- The peer address of QP n on a plane (R136), the 32-bit one of an IPv4 QP. -/
def State.peerIp (s : State) (n p : Nat) : Nat :=
  let q := s.qp n
  let a := if p = 0 then q.ipA else q.ipB
  if q.ipv4 then a / 2 ^ 96 else a

/-- The frame of a UDP payload of `len` bytes that QP n sends on port u (R106, R116). -/
def State.udpFrame (s : State) (n u dscp dport len : Nat) : Frame :=
  { s.ipFrame u (s.qp n).ipv4 (s.peerIp n (planeOf u)) dscp 17 (8 + len) with
    sport := (s.qp n).udpSrc
    dport := dport
    sum := some true }

/-- Is a packet type sent by the responder (Table 5.4)? -/
def isResponse (typ : Nat) : Bool := 0x10 ≤ typ && typ ≤ 0x12

/-- QP n sends on the plane that its claims now choose (R35, R136). -/
def State.choosePlane (s : State) (n : Nat) : State :=
  let p := s.egressPlane (s.qp n).ipA
  if (s.qp n).plane = p then s else (s.modQp n (fun q => { q with plane := p })).bump F.CLM_STAT_MOVES

/-- A sealed packet of QP n leaves on the port of highest score of its plane's egress set (R108); with no port in the set it is
lost. -/
def State.putOnWire (s : State) (n : Nat) (k : Pkt) : State :=
  match s.egressPort n (s.qp n).plane with
  | none => s
  | some u =>
    let f := s.udpFrame n u (s.dscpOf n u k) (s.fld F.TR_CFG_UDP_PORT) (k.head.length + k.data.length + 16)
    (s.sends f (.nrt { k with frame := f } (s.ivOf n k.nonce) k.head)).count 0x20 0 1

/-- Form and send a packet on QP n as it stands now (R118): plane, addresses of the QP, sealed epoch and flags on
responses, nonce, an acknowledgement on responses and ACK packets. It waits while no cipher pipeline takes it (R331). -/
def State.transmit (s : State) (n : Nat) (k : Pkt) (ver : Option Nat) : SealOut × State :=
  let q := s.qp n
  if ¬ s.mayPipe 1 then (.wait, s)
  else match s.sealFor q.keySlot ver with
  | (.ok v _, s) =>
    let s := s.choosePlane n
    let q := s.qp n
    let resp := isResponse k.typ
    let acks := resp || k.typ == 0x13
    let k : Pkt := { k with
      dqp := q.peerQp, sqp := n, keySlot := q.keySlot, keyVer := v % 65536, nonce := q.txCtr,
      sealedEpoch := if resp then s.pipe.sealedE else 0, unsure := resp && s.unsure, single := resp && s.single,
      plen := k.data.length, ackx := if acks then some (s.ackFor n) else none }
    let s := s.setQp n { (if acks then q.acked else q) with txCtr := (q.txCtr + 1) % 2 ^ 64 }
    (.ok v q.txCtr, ((s.occupy 1 k.data.length).putOnWire n k).count 0x90 0 0)
  | r => r

/-- Send an ACK packet (R129), or let it wait. -/
def State.sendAck (s : State) (n : Nat) : State :=
  let hold := s.withheld n
  match s.transmit n { blankPkt with typ := 0x13 } none with
  | (.wait, s) => s.waitTx (.ack n)
  | (_, s) => if hold then s.count 0x20 0 13 else s

/-- Send an ERROR packet with a status (R120), or let it wait. -/
def State.sendError (s : State) (n : Nat) (st : Nat) : State :=
  let s := s.modQp n (fun q => { q with errSentAt := some s.mono })
  match s.transmit n { blankPkt with typ := 0x14, status := st } none with
  | (.wait, s) => s.waitTx (.error n st)
  | (_, s) => s.count 0x20 0 12

/-- A message of the controller's own ends with a status: the request it stands for has nothing more to wait for. -/
def State.ownMeets (s : State) (m : OwnMsg) (st : Status) : State :=
  { s with pipe := { s.pipe with ops := s.pipe.ops.map (fun p =>
    if m.what = .op p.1 then
      (p.1, { p.2 with status := p.2.status.meet st, issued := true, reads := 0, toPlace := 0, toTwin := 0 })
    else p) } }

/-- A packet of QP n cannot be sealed again, since the version it keeps has been zeroized (R118): it is not sent; a message of the
controller's own that it carried ends with KEY_ERASED. -/
def State.dropUnsealed (s : State) (n : Nat) (k : Pkt) : State :=
  if isResponse k.typ then s.modQp n (fun q => { q with sent := q.sent.filter (fun x => x.psn != k.psn) })
  else
    let mine (x : Pkt) : Bool := !isResponse x.typ && x.msg == k.msg
    let ms := (s.qp n).own.filter (fun m => m.msg == k.msg)
    let s := ms.foldl (fun (t : State) m => t.ownMeets m .keyErased) s
    s.modQp n (fun q => { q with
      sent := q.sent.filter (fun x => !mine x.k), sendq := q.sendq.filter (fun x => !mine x.1),
      own := q.own.filter (fun m => m.msg != k.msg || (match m.what with | .op _ => false | _ => true)) })

/-- May a packet go now by the window of 4,096 (R126)? -/
def Qp.inWindow (q : Qp) : Bool := decide ((q.sndNxt + 2 ^ 32 - q.sndUna) % 2 ^ 32 < 4096)

/-- Is there credit for a packet of cost c (R123)? A response needs none. -/
def Qp.hasCredit (q : Qp) (c : Nat) : Bool := c == 0 || serialLe 32 (q.credUsed + c) q.credPeer

/-- Send the packets that wait on QP n, in order, as far as window, credit, cipher pipelines and USES reservations let them (R123,
R126, R331, R443). Each takes the next PSN. A packet that the key slot refuses counts as sent and is left to R130, but a message
whose version has been zeroized ends (R118). The credit timer runs while the first packet waits for credit (R125). -/
def State.pumpList (s : State) (n : Nat) : List (Pkt × Nat) → State
  | [] => s.modQp n (fun q => { q with sendq := [], waitSince := none })
  | (k, c) :: rest =>
    let q := s.qp n
    if q.st ≠ 2 then s.modQp n (fun q => { q with sendq := [] })
    else if ¬ q.inWindow then s.modQp n (fun q => { q with sendq := (k, c) :: rest, waitSince := none })
    else if q.hasCredit c then
      let capture := if isResponse k.typ then some k.keyVer else none
      let k : Pkt := { k with psn := q.sndNxt }
      match s.transmit n k capture with
      | (.wait, s) =>
        (s.modQp n (fun q => { q with sendq := ({ k with psn := 0 }, c) :: rest, waitSince := none })).waitTx (.pump n)
      | (r, s) =>
        match r, isResponse k.typ with
        | .refuse .keyErased, true => State.pumpList s n rest
        | _, _ =>
          let v := match r with | .ok v _ => v | _ => k.keyVer
          let s := s.modQp n (fun q => { q with
            sndNxt := (q.sndNxt + 1) % 2 ^ 32, credUsed := (q.credUsed + c) % 2 ^ 32,
            progressAt := if q.sent.isEmpty then s.mono else q.progressAt, waitSince := none,
            sent := q.sent ++ [⟨q.sndNxt, k, s.mono, none, v⟩] })
          State.pumpList s n rest
    else s.modQp n (fun q => { q with sendq := (k, c) :: rest, waitSince := q.waitSince.or (some s.mono) })

def State.pump (s : State) (n : Nat) : State := s.pumpList n (s.qp n).sendq

/-- Hand packets with their credit costs to QP n (R123, Table 5.4). -/
def State.queue (s : State) (n : Nat) (ks : List (Pkt × Nat)) : State :=
  (s.modQp n (fun q => { q with sendq := q.sendq ++ ks })).pump n

/-- Cut bytes into payloads of m bytes (R115). -/
def chunk (m : Nat) : Nat → List Byte → List (List Byte)
  | 0, _ => []
  | fuel + 1, bs => if bs.length ≤ m then [bs] else bs.take m :: chunk m fuel (bs.drop m)

def chunks (m : Nat) (bs : List Byte) : List (List Byte) := if m = 0 then [bs] else chunk m (bs.length + 1) bs

/-- Send a request message on an outbound or twin QP (R115): one packet per payload, each with the whole message's
request extension. Answers the message's number. -/
def State.sendRequest (s : State) (n typ : Nat) (x : ReqX) (data : List Byte) (what : OutFor) (signal : Bool) :
    Nat × State :=
  let q := s.qp n
  let m := q.sndMsg
  let m1 := s.payload q
  let parts := (chunks m1 data).zipIdx
  let last := parts.length - 1
  let ks := parts.map (fun p =>
    ({ blankPkt with
        typ := typ, msg := m, first := p.2 == 0, last := p.2 == last, signal := signal,
        reqx := some { x with moff := p.2 * m1 }, data := p.1 },
     if typ = 0x01 then ceilDiv p.1.length 256 else 1))
  let s := s.modQp n (fun q => { q with
    sndMsg := (m + 1) % 2 ^ 32, own := q.own ++ [⟨m, what, [], x.length, 0, s.mono⟩] })
  (m, s.queue n ks)

/-- The packets of a response (R115, R133): data over as many READ_RESP packets as it needs, or one packet. -/
def State.respond (s : State) (n : Nat) (m : RxMsg) (st : Status) (level epoch : Nat) (data : List Byte) : State :=
  let q := s.qp n
  let m1 := s.payload q
  let mk (typ : Nat) (d : List Byte) (roff : Nat) (f l : Bool) : Pkt × Nat :=
    ({ blankPkt with
        typ := typ, msg := m.msg, status := st.code, first := f, last := l, data := d, roff := roff,
        keyVer := m.ver }, 0)
  let ks :=
    if m.typ = 0x02 then
      let parts := if st.isFailure then [([], 0)] else (chunks m1 data).zipIdx
      let lastI := parts.length - 1
      parts.map (fun p => mk 0x10 p.1 (p.2 * m1) (p.2 == 0) (p.2 == lastI))
    else if m.typ = 0x03 then [mk 0x11 (if st.isFailure ∧ st ≠ .timeUnsure then [] else data) 0 true true]
    else [mk 0x12 (leBytes 8 (epoch % 2 ^ 40 + level * 2 ^ 40)) 0 true true]
  s.queue n ks

/-- Send again an outstanding packet, with a new nonce and the version it kept (R118, R130), or let it wait. -/
def State.resend (s : State) (n : Nat) (p : SentPkt) (fast : Bool) : State :=
  let s := s.modQp n (fun q => { q with sent := q.sent.map (fun x =>
    if x.psn = p.psn then { x with sentAt := s.mono, fastAt := if fast then some s.mono else x.fastAt } else x) })
  match s.transmit n { p.k with retx := true } (some p.ver) with
  | (.wait, s) => s.waitTx (.resend n p.psn fast)
  | (.refuse .keyErased, s) => s.dropUnsealed n p.k
  | (_, s) => s.count 0x20 0 2

/-- A QP enters ERROR (R120): cause recorded, one ERROR packet unless the key is gone or the peer sent one, nothing more
sent, its own messages flushed. What those messages served is ended by `flushOwn`. -/
def State.qpError (s : State) (n why cause : Nat) : State :=
  let q := s.qp n
  if q.st ≠ 2 then s
  else
    let s := if why = 4 ∨ why = 5 ∨ q.kind = 3 then s else s.sendError n cause
    s.modQp n (fun q => { q with
      st := 3, errCause := cause, errWhy := why, errTime := s.secs, sent := [], sendq := [], waitSince := none, rx := [],
      orderq := [] })

end Sys2Proof.Machine
end

