-- ==== Sys2Proof/Machine/Forward.lean ====
section
/-! DEFINITION. Forward records (R284, Tables 12.3 and 12.4): their bytes, reading them back, sending one on a twin QP. -/

namespace Sys2Proof.Machine

/-- Bytes of a record body by TYPE (Table 12.4); none for a reserved TYPE. -/
def bodyLen : Nat → Option Nat
  | 1 => some 64 | 2 => some 72 | 3 => some 0 | 4 => some 8 | 5 => some 64 | 6 => some 8 | 7 => some 8
  | 8 => some 8 | 9 => some 64 | 10 => some 0 | 11 => some 64 | 12 => some 0 | 13 => some 8
  | _ => none

/-- The bytes of a record. -/
def TwinRec.bytes (r : TwinRec) : List Byte :=
  leBytes 8 (r.typ + boolNat r.atom * 16 + r.line * 256) ++ leBytes 8 r.epoch ++ leBytes 4 r.wkey ++ leBytes 4 r.term ++
    r.body

/-- Read the records of a payload: a zero TYPE ends it, a reserved one is the last (R284, R286). A HEAL_RESP carries 64
bytes more when its STATUS is OK. -/
def readRecords (msg : Nat) : Nat → List Byte → List TwinRec
  | 0, _ => []
  | fuel + 1, bs =>
    if bs.length < 24 then []
    else
      let w0 := leNat (bs.take 8)
      let typ := w0 % 16
      let rest := bs.drop 24
      let mk (body : List Byte) : TwinRec :=
        ⟨typ, bitAt w0 4, bits w0 8 44, leNat ((bs.drop 8).take 8) % 2 ^ 40, leNat ((bs.drop 16).take 4),
          leNat ((bs.drop 20).take 4), body, msg, false⟩
      if typ = 0 then []
      else match bodyLen typ with
        | none => [mk []]
        | some n =>
          let n := if typ = 8 ∧ bits (leNat (rest.take 8)) 16 8 = 0 then 72 else n
          mk (rest.take n) :: readRecords msg fuel (rest.drop n)

/-- The records of a forward message, its last one marked. -/
def recordsOf (msg : Nat) (bs : List Byte) : List TwinRec :=
  let rs := readRecords msg (bs.length + 1) bs
  match rs.reverse with
  | [] => []
  | r :: rest => (({ r with lastOfMsg := true } : TwinRec) :: rest).reverse

/-- Send one record as a message on the twin QP of a role (R284). Answers its MSG. -/
def State.sendRecord (s : State) (role typ : Nat) (atom : Bool) (line epoch wkey : Nat) (body : List Byte)
    (what : OutFor) : Nat × State :=
  let bs := (⟨typ, atom, line, epoch, wkey, s.twin.term, body, 0, true⟩ : TwinRec).bytes
  let r := s.sendRequest (s.twinQp role) 0x01 ⟨0, bs.length, 0, 0, 1, 0, epoch⟩ bs what false
  (r.1, r.2.count 0x22 0 0)

/-- Forward a stored line of writes to the twin (R169): LINE_FULL with the line, or LINE_PART with mask and bytes. -/
def State.forwardLine (s : State) (line : Nat) (data : List Byte) (ms : List Merge) (full atom : Bool) : State :=
  let p := patchOf ms
  let epoch := (ms.foldl (fun (e : Option Nat) m => some (match e with | some x => epochMax x m.epoch | none => m.epoch)) none).getD 0
  let key := match ms.getLast? with | some m => m.key | none => 0
  let body := if full then data else leBytes 8 (maskOf p) ++ overlay (List.replicate 64 0) p
  (s.sendRecord (sliceOf line) (if full then 1 else 2) atom line epoch key body
    (.forward (ms.map Merge.wid) false)).2

end Sys2Proof.Machine
end

