-- ==== Sys2Proof/Machine/Pipeline.lean ====
section
/-! DEFINITION. The Service Pipeline (chapter 7) with decoding, poison and heals (R204 to R214): stamping, line order,
setting buffer, locket cache, hand-over to the channels, reads, and what a write reaches (R179, R181). -/

namespace Sys2Proof.Machine

/-! ## Requests and stamped writes -/

def State.op? (s : State) (i : Nat) : Option Op := SMap.look s.pipe.ops i

def State.modOp (s : State) (i : Nat) (f : Op → Op) : State :=
  match s.op? i with
  | some o => { s with pipe := { s.pipe with ops := SMap.ins s.pipe.ops i (f o) } }
  | none => s

def State.endOp (s : State) (i : Nat) : State := { s with pipe := { s.pipe with ops := SMap.del s.pipe.ops i } }

/-- A new request. -/
def State.newOp (s : State) (src : OpSrc) (kind : OpKind) (level len : Nat) : Nat × State :=
  let i := s.pipe.nextOp
  (i, { s with pipe := { s.pipe with
    ops := SMap.ins s.pipe.ops i ⟨src, kind, level, .ok, 0, 0, 0, none, [], len, 0, false⟩, nextOp := i + 1 } })

/-- A request meets a status (R445). -/
def State.opMeets (s : State) (i : Nat) (st : Status) : State := s.modOp i (fun o => { o with status := o.status.meet st })

/-- Bytes of a read arrive at a position of the request's result. -/
def State.opBytes (s : State) (i pos : Nat) (bs : List Byte) : State :=
  s.modOp i (fun o => { o with data := overPatch o.data (patchAt pos bs), reads := o.reads - 1 })

/-- The result bytes of a request. -/
def Op.bytes (o : Op) : List Byte := bytesAt o.data 0 0 o.len

/-- A write of a line passes the window check: copies of tracked tensors over it become stale, and leave when nothing
reads them; a promotion of one starts again (R312, Table 13.6). -/
def State.trackWrite (s : State) (line : Nat) : State :=
  let hit (h : Handle) : Bool := bitAt h.t.alloc 4 && decide (h.base < 64 * line + 64 ∧ 64 * line < h.base + h.span)
  let stale (h : Handle) (c : Option TierCopy) : Option TierCopy :=
    if h.refs = 0 then none else c.map (fun x => { x with stale := true })
  let hs := s.tiers.handles.map (fun p =>
    if hit p.2 then
      (p.1, { p.2 with crown := stale p.2 p.2.crown, girdle := stale p.2 p.2.girdle, neigh := stale p.2 p.2.neigh })
    else p)
  let ps := s.tiers.promos.map (fun (p : Promo) =>
    match SMap.look s.tiers.handles p.h with
    | some h => if hit h then { p with restart := true } else p
    | none => p)
  { s with tiers := { s.tiers with handles := hs, promos := ps } }

/-- Stamp a write of request i to a line with epoch e (R29, R161, R181): its number and its record. -/
def State.stampAs (s : State) (i line e : Nat) : Nat × State :=
  let w := s.pipe.nextWrite
  let s := s.modOp i (fun o => { o with
    toPlace := o.toPlace + 1, toTwin := o.toTwin + 1, hiEpoch := some ((o.hiEpoch.map (epochMax e)).getD e) })
  let s := (s.count 0x40 (sliceOf line) 0).trackWrite line
  let s := if s.unsure && s.twin.leader then
      let lo := s.fld F.MER_SUSPECT_LO_LO
      let hi := s.fld F.MER_SUSPECT_HI_HI
      if s.flag F.MER_SUSPECT_HI_VALID then
        (s.setFld F.MER_SUSPECT_LO_LO 0 (epochMin lo e)).setFld F.MER_SUSPECT_HI_HI 0 (epochMax hi e)
      else ((s.setFld F.MER_SUSPECT_LO_LO 0 e).setFld F.MER_SUSPECT_HI_HI 0 e).setFld F.MER_SUSPECT_HI_VALID 0 1
    else s
  (w, { s with pipe := { s.pipe with
    writes := SMap.ins s.pipe.writes w ⟨i, e, line, false, false, false⟩, nextWrite := w + 1,
    openEpochs := SMap.put 0 s.pipe.openEpochs e (SMap.get 0 s.pipe.openEpochs e + 1),
    stamp := SMap.put 0 s.pipe.stamp (sliceOf line) e,
    highStamp := some (match s.pipe.highStamp with | some h => epochMax h e | none => e),
    reads := s.pipe.reads.map (fun p => if p.2.line = line then (p.1, { p.2 with stale := true }) else p),
    heals := s.pipe.heals.map (fun p => if p.2.line = line then (p.1, { p.2 with dropped := true }) else p) } })

/-- Stamp with the current epoch (R29). -/
def State.stamp (s : State) (i line : Nat) : Nat × State := s.stampAs i line s.epoch

/-- A write leaves the count of its epoch: it is Twinned, Placed under single-copy service, or has failed. -/
def State.closeWrite (s : State) (w : Nat) : State :=
  match SMap.look s.pipe.writes w with
  | none => s
  | some x =>
    let s := s.modOp x.op (fun o => { o with toTwin := o.toTwin - 1 })
    let s := if x.placed ∧ x.fwd then s.untwin (granuleOf x.line) else s
    { s with pipe := { s.pipe with
      writes := SMap.del s.pipe.writes w,
      openEpochs := SMap.put 0 s.pipe.openEpochs x.epoch (SMap.get 0 s.pipe.openEpochs x.epoch - 1) } }

def State.modWrite (s : State) (w : Nat) (f : WriteRec → WriteRec) : State :=
  match SMap.look s.pipe.writes w with
  | some x => { s with pipe := { s.pipe with writes := SMap.ins s.pipe.writes w (f x) } }
  | none => s

/-- Close a write that is Placed and needs no acknowledgement, or has it (R179). -/
def State.settleWrite (s : State) (w : Nat) : State :=
  match SMap.look s.pipe.writes w with
  | some x => if x.placed && (!x.fwd || x.acked) then s.closeWrite w else s
  | none => s

/-- A write becomes Placed (R179, R226, R296). -/
def State.placeWrite (s : State) (w : Nat) : State :=
  match SMap.look s.pipe.writes w with
  | none => s
  | some x =>
    let s := s.modWrite w (fun x => { x with placed := true })
    let s := s.modOp x.op (fun o => { o with toPlace := o.toPlace - 1 })
    let s := s.dirtied (granuleOf x.line) x.epoch (if x.fwd then 1 else 0)
    let s := if s.twin.leader ∧ (¬ x.fwd ∨ ¬ s.forwarding) then s.markRegion (regionOf x.line) else s
    s.settleWrite w

/-- A write fails with a status: it counts neither as to be Placed nor as to be Twinned. -/
def State.failWrite (s : State) (w : Nat) (st : Status) : State :=
  match SMap.look s.pipe.writes w with
  | none => s
  | some x =>
    let s := s.modOp x.op (fun o => { o with toPlace := if x.placed then o.toPlace else o.toPlace - 1, status := o.status.meet st })
    s.closeWrite w

/-- The twin acknowledges the forwards of writes (R179). -/
def State.ackWrites (s : State) (ws : List Nat) : State :=
  ws.foldl (fun t w => (t.modWrite w (fun x => { x with acked := true })).settleWrite w) s

/-- Is a write a window descriptor's (R147)? -/
def State.isDesc (s : State) (m : Merge) : Bool :=
  match SMap.look s.pipe.writes m.wid with
  | some x => (match s.op? x.op with
    | some o => (match o.src with | .desc _ => true | _ => false)
    | none => false)
  | none => false

/-- Byte offset of the window table. -/
def State.winBase (s : State) : Nat := s.fld F.WIN_TABLE_BASE_ADDR * 2 ^ 26

/-- Is a write that passed the check before the cut of a line's descriptor still to be forwarded (R157)? -/
def State.cutPending (s : State) (line : Nat) : Bool :=
  s.wins.revokes.any (fun r => r.cut && s.winBase / 64 + r.idx == line && r.before.any (fun w =>
    match SMap.look s.pipe.writes w with | some x => !x.fwd | none => false))

/-- A descriptor update goes to the twin after a new fence on all eight slice QPs (Table 12.5). -/
def State.forwardDesc (s : State) (line : Nat) (data : List Byte) (ms : List Merge) : State :=
  let n := s.twin.fenceNo + 1
  let s := { s with twin := { s.twin with fenceNo := n } }
  let s := (List.range 8).foldl (fun t r => (t.sendRecord r 4 false 0 0 0 (leBytes 8 n) (.forward [] false)).2) s
  let e := match ms.getLast? with | some m => m.epoch | none => 0
  (s.sendRecord (sliceOf line) 5 false line e 0 data (.forward (ms.map Merge.wid) false)).2

/-- Mark writes as waiting for the twin, and forward their line; a descriptor update follows the last forward of a write that
passed the check before its cut (R157). -/
def State.forwardWrites (s : State) (line : Nat) (data : List Byte) (ms : List Merge) (full atom : Bool) : State :=
  if s.forwarding then
    let s := ms.foldl (fun t m => t.modWrite m.wid (fun x => { x with fwd := true })) s
    if ms.any s.isDesc then
      (if s.cutPending line then { s with wins := { s.wins with held := s.wins.held ++ [(line, data, ms)] } }
       else s.forwardDesc line data ms)
    else s.forwardLine line data ms full atom
  else s

/-- Descriptor updates whose forward waited for those of earlier writes go to the twin (R157). -/
def State.settleHeld (s : State) : State :=
  s.wins.held.foldl (fun (t : State) h =>
    if t.cutPending h.1 then t
    else
      let t := { t with wins := { t.wins with held := t.wins.held.erase h } }
      if t.forwarding then t.forwardDesc h.1 h.2.1 h.2.2 else t) s

/-! ## What observers see -/

/-- The last image of a line on its way to its channel. -/
def State.storeOf (s : State) (line : Nat) : Option (List Byte) :=
  (s.pipe.stores.filter (fun x => x.line == line)).getLast?.map Store.data

/-- The resident or victim copy of a line. -/
def State.lkLine (s : State) (line : Nat) : Option LkLine :=
  match s.pipe.locket.lines.find? (fun p => p.2.line == line) with
  | some p => some p.2
  | none => s.pipe.locket.victims.find? (fun x => x.line == line)

/-- The patch that the setting buffer lays over a line (R167). -/
def State.sbPatch (s : State) (line : Nat) : SMap Byte :=
  (s.pipe.sb.filter (fun e => e.line == line)).foldl (fun p e => overPatch p (patchOf e.writes)) []

/-- The content of a line as an observer in line order sees it (R161, R167, R173, R192). -/
def State.lineNow (s : State) (line : Nat) : List Byte :=
  match s.lkLine line with
  | some l => l.data
  | none => overlay ((s.storeOf line).getD (s.pmLine line)) (s.sbPatch line)

/-- Is a line stored with the poison syndrome, and is nothing newer on its way? -/
def State.poisoned (s : State) (line : Nat) : Bool :=
  (s.lkLine line).isNone && (s.storeOf line).isNone && decodeBezel none (syndromes (s.chkOf line) []) == .poisoned

/-- A line as the dispatcher and the install check read it: the bytes of a poisoned line are returned to nobody (R206),
so they are free. -/
def State.lineSeen (s : State) (line : Nat) : List Byte :=
  if s.poisoned line then (List.range 64).map (fun i => Config.poisonByte (64 * line + i)) else s.lineNow line

/-- Bytes of persistent memory as the dispatcher and the install check read them. -/
def State.viewBytes (s : State) (off n : Nat) : List Byte :=
  let first := off / 64
  let lines := (List.range (ceilDiv (off % 64 + n) 64)).flatMap (fun i => s.lineSeen (first + i))
  (lines.drop (off % 64)).take n

/-! ## Closing setting-buffer entries, hand-over to the channel -/

def SbEntry.full (e : SbEntry) : Bool := isFull (patchOf e.writes)

/-- Hand a full line to its channel. -/
def State.handOver (s : State) (x : Store) : State := { s with pipe := { s.pipe with stores := s.pipe.stores ++ [x] } }

/-- Hand over the closing full entries of a line that no older closing entry of the line precedes (R166, R168, R169). -/
def State.releaseFull (s : State) (line : Nat) : Nat → State
  | 0 => s
  | fuel + 1 =>
    match s.pipe.sb.find? (fun e => e.line == line) with
    | some e =>
      if e.closing && e.full then
        let data := overlay (List.replicate 64 0) (patchOf e.writes)
        let s := { s with pipe := { s.pipe with sb := s.pipe.sb.erase e } }
        let s := (s.handOver ⟨line, data, e.writes, false⟩).count 0x40 (sliceOf line) 3
        State.releaseFull (s.forwardWrites line data e.writes true false) line fuel
      else s
    | none => s

/-- Close the open entry of a line (R167, R168). -/
def State.closeLine (s : State) (line : Nat) : State :=
  let s := { s with pipe := { s.pipe with
    sb := s.pipe.sb.map (fun (e : SbEntry) => if e.line = line then { e with closing := true } else e) } }
  s.releaseFull line 2

/-- Entries of a slice, open and closing, of its 256. -/
def State.sliceEntries (s : State) (sl : Nat) : Nat := (s.pipe.sb.filter (fun e => sliceOf e.line == sl)).length

/-- The open entries of a slice, oldest first. -/
def State.openEntries (s : State) (sl : Nat) : List SbEntry :=
  s.pipe.sb.filter (fun e => !e.closing && sliceOf e.line == sl)

/-- Merge a write into the setting buffer (R166, R167). -/
def State.sbMerge (s : State) (line : Nat) (m : Merge) : State :=
  let s : State :=
    match s.pipe.sb.find? (fun e => e.line == line && !e.closing) with
    | some _ =>
      let s := s.count 0x40 (sliceOf line) 2
      { s with pipe := { s.pipe with sb := s.pipe.sb.map (fun (e : SbEntry) =>
          if e.line = line ∧ ¬ e.closing then { e with writes := e.writes ++ [m] } else e) } }
    | none => { s with pipe := { s.pipe with
        sb := s.pipe.sb ++ [⟨line, [m], s.mono, s.fld F.SB_CFG_WINDOW, false⟩] } }
  let now := s.pipe.sb.find? (fun e => e.line == line && !e.closing)
  let s := match now with
    | some e => if e.full || e.window == 0 || s.pow.warn then s.closeLine line else s
    | none => s
  let opens := s.openEntries (sliceOf line)
  match opens with
  | e :: _ => if s.fld F.SBX_CLOSE_HI < opens.length then s.closeLine e.line else s
  | [] => s

/-- A line's poison mark (R207): dropped when a full-line store of the line is pending (Table 9.3). -/
def State.markPoison (s : State) (line source : Nat) : State :=
  let full := s.pipe.stores.any (fun x => x.line == line) ||
    s.pipe.sb.any (fun e => e.line == line && e.full)
  if full then s
  else
    let s := (s.setChk line poisonDelta).dirtied (granuleOf line) s.epoch 0
    (s.bezelEvent 2 source line 15 2).count 0x51 0 (3 * s.chanAt line + 2)

/-- The number of a line's bank within its subchannel: rank, bank group, bank. -/
def Place.bankIdx (p : Place) : Nat := p.rank * 256 + p.group % 16 * 16 + p.bank % 16

/-- The key of a bank of a subchannel. -/
def bankKey (ch sub bank : Nat) : Nat := (2 * ch + sub) * 1024 + bank

/-- A bank after training: closed, its counter at 2 (R194). -/
def newBank : BankSt := ⟨none, 2, 0, 0, 0, 0⟩

/-- An access to a line's row (R193, R194): a hit on an open row, another row open, which a precharge closes, or a closed
bank; the last two take an activate. -/
def State.touchBank (s : State) (line : Nat) : State :=
  let p := s.place line
  let c := s.chanAt line
  let k := bankKey c (s.subAt line) p.bankIdx
  let b := SMap.get newBank s.chan.banks k
  let hit := b.row == some p.row
  let n := match b.row with
    | some r => if r = p.row then min 3 (b.counter + 1) else b.counter - 1
    | none => b.counter
  let s := if hit then s.count 0x50 c 3 else s.count 0x50 c 2
  let s := if b.row.isSome && !hit then s.emit (.precharge c (s.subAt line) p.bankIdx) else s
  { s with chan := { s.chan with
    banks := SMap.put newBank s.chan.banks k { b with
      row := some p.row, counter := n, last := s.mono, hits := if hit then b.hits + 1 else 0,
      acts := if hit then b.acts else b.acts + 1 },
    lastGroup := if hit then s.chan.lastGroup else SMap.ins s.chan.lastGroup (2 * c + s.subAt line) p.group } }

/-- The deviation that an armed injection gives the next full-line store of a line (R220). -/
def State.injection (s : State) : BitVec 64 × BitVec 64 :=
  let x8 := BitVec.ofNat 64 (s.fld F.BZX_INJ_X8)
  let x9 := BitVec.ofNat 64 (s.fld F.BZX_INJ_X9)
  let dev (d : Nat) (e : BitVec 64) : BitVec 64 × BitVec 64 := (e, gfAlphaPow d e)
  let add (a b : BitVec 64 × BitVec 64) : BitVec 64 × BitVec 64 := (a.1 ^^^ b.1, a.2 ^^^ b.2)
  -- the check deviation (v8, v9) whose syndromes are the given ones
  let ofSyn (t : BitVec 64 × BitVec 64) : BitVec 64 × BitVec 64 :=
    let r := gfAlphaPow 8 t.1 ^^^ t.2
    let v9 := Nat.iterate gfInvAlpha 8 (gfDivOnePlusAlpha r)
    (t.1 ^^^ v9, v9)
  match s.fld F.BZX_INJ_MODE with
  | 0 => (x8, x9)
  | 1 => ofSyn (dev (s.fld F.BZX_INJ_DEVICE) x8)
  | 2 => ofSyn (add (dev (s.fld F.BZX_INJ_DEVICE) x8) (dev (s.fld F.BZX_INJ_DEVICE2) x9))
  | _ => poisonDelta

/-- The check deviation a full-line store leaves: none, or the armed injection (R220). -/
def State.storeChk (s : State) (line : Nat) : State :=
  if s.flag F.BZX_INJ_ARM ∧ s.fld F.BZX_INJ_OFFSET = line then
    (s.setChk line s.injection).setFld F.BZX_INJ_ARM 0 0
  else s.setChk line (0, 0)

/-- A full line has been stored: reads and heals of it that are out leave no poison mark (R212). -/
def State.storedFull (s : State) (line : Nat) : State :=
  { s with pipe := { s.pipe with
    reads := s.pipe.reads.map (fun p => if p.2.line = line then (p.1, { p.2 with full := true }) else p),
    heals := s.pipe.heals.map (fun p => if p.2.line = line then (p.1, { p.2 with full := true }) else p) } }

/-- Does the copy hold changes that its channel has not accepted (R173)? -/
def LkLine.unclean (l : LkLine) : Bool := l.dirty || l.through != 0

/-- The copy of a line that is lost to a double-bit error leaves the locket cache; changes not yet written through end with
INTERNAL (R214). -/
def State.dropResident (s : State) (line : Nat) : State :=
  match s.lkLine line with
  | none => s
  | some l =>
    let s := l.writes.foldl (fun (t : State) m => t.failWrite m.wid .internal) s
    { s with pipe := { s.pipe with locket := { s.pipe.locket with
      lines := s.pipe.locket.lines.filter (fun p => p.2.line != line),
      victims := s.pipe.locket.victims.filter (fun v => v.line != line) } } }

/-- The channel accepts the oldest line on its way (R179, R243); `dbe` a double-bit error in the buffer (R214). -/
def State.acceptStore (s : State) (x : Store) (dbe : Bool) : State :=
  let s := { s with pipe := { s.pipe with stores := s.pipe.stores.erase x } }
  let base := s.pmLine x.line
  let wasPoison := decodeBezel none (syndromes (s.chkOf x.line) []) == .poisoned
  let s := s.count 0x50 (s.chanAt x.line) 1
  let s := { s with chan := { s.chan with wq := s.chan.wq ++ [(⟨x.line, s.mono⟩ : WqLine)] } }
  let s := if dbe then
      let s := (s.setChk x.line poisonDelta).dirtied (granuleOf x.line) s.epoch 0
      let s := (s.bezelEvent 2 2 x.line 15 2).count 0x51 0 (3 * s.chanAt x.line + 2)
      let s := x.writes.foldl (fun t m => t.failWrite m.wid .internal) s
      let s := if s.forwarding then
          (s.sendRecord (sliceOf x.line) 3 false x.line 0 0 [] (.forward [] false)).2 else s
      let s := if x.atom then s.dropResident x.line else s
      s.raise 0x40 (sliceOf x.line) 2 0x01 (64 * x.line) (if x.atom then 1 else 0)
    else
      let s := s.journalStore x.line base wasPoison x.writes
      let s := ((s.setPmLine x.line x.data).storeChk x.line).storedFull x.line
      x.writes.foldl (fun t m => t.placeWrite m.wid) s
  if x.atom then
    let calm (l : LkLine) : LkLine := if l.line = x.line then { l with through := l.through - 1 } else l
    { s with pipe := { s.pipe with locket := { s.pipe.locket with
      lines := s.pipe.locket.lines.map (fun p => (p.1, calm p.2)),
      victims := (s.pipe.locket.victims.map calm).filter (fun l => l.line != x.line || l.unclean) } } }
  else s

/-! ## The locket cache -/

/-- Is the cache enabled and not flushing (R175)? -/
def State.lkOn (s : State) : Bool :=
  s.flag F.LK_CTL_EN && !s.pipe.locket.flushing && !s.flag F.LKX_FORCE_BYPASS

/-- Set the referenced bit of a line; when every valid entry would be referenced, clear the others (R172). -/
def touchRef (m : SMap LkLine) (line : Nat) : SMap LkLine :=
  let m := m.map (fun p => if p.2.line = line then (p.1, { p.2 with ref := true }) else p)
  if m.all (fun p => p.2.ref) then m.map (fun p => (p.1, { p.2 with ref := p.2.line == line })) else m

/-- Change the copy of a line in the cache or the victim buffer. -/
def State.modLk (s : State) (line : Nat) (f : LkLine → LkLine) : State :=
  let g (l : LkLine) : LkLine := if l.line = line then f l else l
  { s with pipe := { s.pipe with locket := { s.pipe.locket with
    lines := s.pipe.locket.lines.map (fun p => (p.1, g p.2)), victims := s.pipe.locket.victims.map g } } }

/-- An operation changes a resident line (R173). -/
def State.lkWrite (s : State) (line : Nat) (m : Merge) : State :=
  s.modLk line (fun l => { l with
    data := overlay l.data m.patch, writes := l.writes ++ [m], dirty := true,
    due := if l.dirty then l.due else s.mono + ns (s.fld F.LK_CFG_COALESCE) })

/-- Issue the write-through of a dirty line (R173): one full line, forwarded as a full entry. -/
def State.writeThrough (s : State) (line : Nat) : State :=
  match s.lkLine line with
  | some l =>
    if l.dirty then
      let s := s.modLk line (fun l => { l with writes := [], dirty := false, through := l.through + 1, base := l.data })
      let s := s.handOver ⟨line, l.data, l.writes, true⟩
      s.forwardWrites line l.data l.writes true true
    else s
  | none => s

/-- Does an atomic on a line wait in its line order (R172)? -/
def State.atomWaits (s : State) (line : Nat) : Bool :=
  s.pipe.waits.any (fun w => w.1 == line && (match w.2 with | .atom .. => true | _ => false))

/-- The entry a fill takes (R172): an invalid one not masked by LKX_ENTRY_OFF, else the lowest valid one with its
referenced bit clear and no atomic in progress. -/
def State.lkPick (s : State) : Option Nat :=
  let l := s.pipe.locket
  let free := (List.range 48).find? (fun i => (SMap.look l.lines i).isNone && !bitAt (s.fld F.LKX_ENTRY_OFF) i)
  match free with
  | some i => some i
  | none => (l.lines.find? (fun p => !p.2.ref && !s.atomWaits p.2.line)).map (fun p => p.1)

/-- Make a line resident (R172, R174); none when a dirty victim finds the victim buffer full. -/
def State.lkPlace (s : State) (x : LkLine) : Option State :=
  match s.lkPick with
  | none => none
  | some i =>
    let l := s.pipe.locket
    let put (s : State) : State :=
      { s with pipe := { s.pipe with locket := { s.pipe.locket with
        lines := (if x.ref then touchRef (SMap.ins s.pipe.locket.lines i x) x.line
          else SMap.ins s.pipe.locket.lines i x) } } }
    match SMap.look l.lines i with
    | none => some (put s)
    | some v =>
      if v.unclean then
        if 8 ≤ l.victims.length then none
        else
          let s := put { s with pipe := { s.pipe with locket := { l with victims := l.victims ++ [v] } } }
          some (s.writeThrough v.line)
      else some (put s)

/-- A request for a line in the victim buffer returns it to the cache with its referenced bit set, when an entry can be
had (R174). -/
def State.lkReturn (s : State) (line : Nat) : State :=
  match s.pipe.locket.victims.find? (fun l => l.line == line) with
  | some v =>
    let t := { s with pipe := { s.pipe with locket := { s.pipe.locket with
      victims := s.pipe.locket.victims.erase v } } }
    (t.lkPlace { v with ref := true }).getD s
  | none => s

/-- The new value of an atomic (`atom` imm[3:0], R177). -/
def atopNew (atop old operand cmp : Nat) : Nat :=
  match atop with
  | 0 => (old + operand) % 2 ^ 64
  | 1 => operand
  | 2 => if old = cmp then operand else old
  | 3 => old &&& operand
  | 4 => old ||| operand
  | 5 => old ^^^ operand
  | 6 => min old operand
  | _ => max old operand

/-- Run an atomic on a line's bytes: old value and the merge it makes (R177). -/
def runAtom (data : List Byte) (wid off atop operand cmp epoch key : Nat) : Nat × Merge :=
  let old := leNat ((data.drop off).take 8)
  (old, ⟨wid, patchAt off (leBytes 8 (atopNew atop old operand cmp)), epoch, key⟩)

/-- An operation uses a resident line: its referenced bit is set (R172). -/
def State.touch (s : State) (line : Nat) : State :=
  { s with pipe := { s.pipe with locket := { s.pipe.locket with lines := touchRef s.pipe.locket.lines line } } }

/-- An atomic runs on the resident copy of its line (R173): its old value goes to the request, the line is dirty. -/
def State.atomHere (s : State) (line wid op off atop operand cmp epoch key : Nat) : State :=
  match s.lkLine line with
  | some l =>
    let r := runAtom l.data wid off atop operand cmp epoch key
    (s.opBytes op 0 (leBytes 8 r.1)).lkWrite line r.2
  | none => s

/-- Start the fill or the bypass read of a line for a requester (R171, R172, R175), closing its open entry first. -/
def State.startFill (s : State) (line who : Nat) (bypass : Bool) : State :=
  let s := s.closeLine line
  let stream := s.flag F.LK_CFG_STREAM && SMap.look s.pipe.locket.lastFill who == some (line - 1) && line != 0
  let s := if bypass then s.count 0x40 (sliceOf line) 8
    else if stream then (s.count 0x40 (sliceOf line) 6).count 0x40 (sliceOf line) 7
    else s.count 0x40 (sliceOf line) 6
  { s with pipe := { s.pipe with locket := { s.pipe.locket with
    fills := s.pipe.locket.fills ++ [⟨line, stream, bypass, s.mono⟩],
    lastFill := if bypass then s.pipe.locket.lastFill else SMap.ins s.pipe.locket.lastFill who line } } }

/-! ## Line order -/

/-- Is a fill of the line in progress? -/
def State.filling (s : State) (line : Nat) : Bool := s.pipe.locket.fills.any (fun f => f.line == line)

/-- Is the line's granule still to be filled from the vault (R248)? -/
def State.unfilled (s : State) (line : Nat) : Bool := s.vault.unfilled.contains (granuleOf line)

/-- A DRAM read of a line in line order (R204). -/
def State.issueRead (s : State) (what : ReadFor) (line : Nat) : State :=
  let r : ReadRec := ⟨what, line, s.pmLine line, s.chkOf line, s.sbPatch line, false, false, s.markOf line, s.mono, false⟩
  let s := s.count 0x50 (s.chanAt line) 0
  { s with pipe := { s.pipe with
    reads := SMap.ins s.pipe.reads s.pipe.nextRead r, nextRead := s.pipe.nextRead + 1 } }

/-- Read entries of a subchannel in use, of its pool of 128 (chapter 8). -/
def State.readsOf (s : State) (ch sub : Nat) : Nat :=
  (s.pipe.reads.filter (fun p => s.chanAt p.2.line == ch && s.subAt p.2.line == sub)).length

/-- Try an operation at the head of its line's order; none while it must wait (R163, R166, R171, R175, R248). -/
def State.perform (s : State) (line : Nat) (a : LineAct) : Option State :=
  if s.unfilled line || s.filling line then none
  else match a with
    | .read op pos lo len =>
      let s := s.count 0x40 (sliceOf line) 1
      match s.lkLine line with
      | some l =>
        let s := (s.lkReturn line).touch line
        some (s.opBytes op pos ((l.data.drop lo).take len))
      | none =>
        match s.storeOf line with
        | some d => some (s.opBytes op pos (((overlay d (s.sbPatch line)).drop lo).take len))
        | none =>
          if 128 ≤ s.readsOf (s.chanAt line) (s.subAt line) then none else some (s.issueRead (.request op pos lo len) line)
    | .write m =>
      if s.mustHold line then none
      else match s.lkLine line with
        | some _ =>
          some (((s.lkReturn line).touch line).lkWrite line m)
        | none =>
          let es := s.pipe.sb.filter (fun e => e.line == line)
          if es.all SbEntry.closing ∧ (2 ≤ es.length ∨ 256 ≤ s.sliceEntries (sliceOf line)) then none
          else some (s.sbMerge line m)
    | .atom wid op off atop operand cmp epoch key who =>
      if s.mustHold line then none
      else match s.lkLine line with
        | some _ =>
          let _ := who
          if s.pipe.locket.flushing then none
          else some ((((s.lkReturn line).touch line).count 0x40 (sliceOf line) 5).atomHere line wid op off atop operand
            cmp epoch key)
        | none => none

/-- What an operation that waits sets going: an atomic at the head of its line starts its fill (R171, R175). -/
def State.prepare (s : State) (line : Nat) (a : LineAct) : State :=
  match a with
  | .atom _ _ _ _ _ _ _ _ who =>
    if s.unfilled line || s.filling line || s.mustHold line || (s.lkLine line).isSome then s
    else s.startFill line who (!s.lkOn)
  | _ => s

/-- The operations that wait on a line, in line order. -/
def State.waitsOf (s : State) (line : Nat) : List LineAct :=
  (s.pipe.waits.filter (fun w => w.1 == line)).map (fun w => w.2)

/-- Run waiting operations of a line in order until one must wait. -/
def State.runLine (s : State) (line : Nat) : List LineAct → State
  | [] => s
  | a :: rest =>
    match s.perform line a with
    | some t => State.runLine { t with pipe := { t.pipe with waits := t.pipe.waits.erase (line, a) } } line rest
    | none => s.prepare line a

/-- Let a line's waiting operations go on. -/
def State.drainLine (s : State) (line : Nat) : State := s.runLine line (s.waitsOf line)

/-- Let every waiting operation go on that can (R230). -/
def State.drainAll (s : State) : State := ((s.pipe.waits.map (fun w => w.1)).dedup).foldl State.drainLine s

/-- An entry of a slice or a read entry is free again: the operations that waited for one go on. -/
def State.drainSlice (s : State) (line : Nat) : State :=
  (((s.pipe.waits.map (fun w => w.1)).filter (fun m => sliceOf m == sliceOf line || m == line)).dedup).foldl
    State.drainLine s

/-- An operation that has passed the window check takes its place in its line's order (R161). -/
def State.lineOp (s : State) (line : Nat) (a : LineAct) : State :=
  let wait (s : State) : State := { s with pipe := { s.pipe with waits := s.pipe.waits ++ [(line, a)] } }
  if (s.waitsOf line).isEmpty then
    match s.perform line a with
    | some t => t
    | none =>
      let s := (match a with
        | .write _ | .atom .. => if s.mustHold line then s.count 0x40 (sliceOf line) 9 else s
        | _ => s)
      (wait s).prepare line a
  else wait s

/-! ## Ranges of several lines (R160) -/

/-- The parts of a range: line, position in the range, first byte in the line, length. -/
def splitLines (off len : Nat) : List (Nat × Nat × Nat × Nat) :=
  if len = 0 then []
  else
    let first := off / 64
    (List.range ((off + len - 1) / 64 - first + 1)).map (fun i =>
      let line := first + i
      let lo := if i = 0 then off % 64 else 0
      let start := if i = 0 then 0 else 64 * line - off
      (line, start, lo, min (64 - lo) (len - start)))

def State.libBase (s : State) : Nat := s.fld F.SEQ_LIB_BASE_ADDR * 2 ^ 6

/-- A write of lines marks the library slots that they lie in uninstalled (R63); a slot lies in 1,024 lines. -/
def State.slotWritten (s : State) (line n : Nat) : State :=
  let b := s.libBase / 64
  if s.kex.lib.isEmpty then s
  else { s with kex := { s.kex with lib := s.kex.lib.filter (fun p =>
    decide (b + 1024 * (p.1 + 1) ≤ line ∨ line + n ≤ b + 1024 * p.1)) } }

/-- Write bytes at an offset of persistent memory for request i, stamped with the current epoch or with a forward's. -/
def State.writeRange (s : State) (i off : Nat) (bs : List Byte) (key : Nat) (epoch : Option Nat := none) : State :=
  let s := s.slotWritten (off / 64) (ceilDiv (off % 64 + bs.length) 64)
  (splitLines off bs.length).foldl (fun t p =>
    let e := epoch.getD t.epoch
    let r := t.stampAs i p.1 e
    r.2.lineOp p.1 (.write ⟨r.1, patchAt p.2.2.1 ((bs.drop p.2.1).take p.2.2.2), e, key⟩)) s

/-- Read a range of persistent memory into the result of request i, from position `pos`. -/
def State.readRange (s : State) (i off len : Nat) (pos : Nat := 0) : State :=
  (splitLines off len).foldl (fun t p =>
    (t.modOp i (fun o => { o with reads := o.reads + 1 })).lineOp p.1 (.read i (pos + p.2.1) p.2.2.1 p.2.2.2)) s

/-- Run an atomic at an offset for request i (R177). -/
def State.atomicAt (s : State) (i off atop operand cmp key who : Nat) : State :=
  let line := off / 64
  let r := s.stamp i line
  let s := r.2.modOp i (fun o => { o with reads := o.reads + 1 })
  s.lineOp line (.atom r.1 i (off % 64) atop operand cmp s.epoch key who)

/-! ## Levels (R179 to R182) -/

/-- The level a request waits for. -/
inductive LevelSt where
  | waiting
  | done (st : Status) (level : Nat)
  deriving DecidableEq, Repr

/-- Is epoch e sealed here (R181)? -/
def State.isSealed (s : State) (e : Nat) : Bool := serialLe 40 e s.pipe.sealedE

/-- What a request's level stands at (R133, R182): all parts in, every read back, every write Placed or failed; then by
level, with the caps of single-copy service and of time-unsure. -/
def State.opLevel (s : State) (o : Op) : LevelSt :=
  if ¬ o.issued ∨ o.reads ≠ 0 ∨ o.toPlace ≠ 0 then .waiting
  else if o.status.isFailure then .done o.status 0
  else if o.kind = .read ∨ o.kind = .control ∨ o.hiEpoch.isNone then .done o.status o.level
  else match o.level with
    | 1 => .done o.status 1
    | 2 =>
      if s.single then .done (o.status.meet .degradedSingle) 1
      else if o.toTwin = 0 then .done o.status 2 else .waiting
    | _ =>
      if s.unsure then .done .timeUnsure 1
      else if s.isSealed (o.hiEpoch.getD 0) then
        (if s.single then .done (o.status.meet .degradedSingle) 1 else .done o.status 3)
      else .waiting

/-- The lowest epoch with a write not yet Twinned (PIPE_OPEN.OLDEST), none when there is none. -/
def State.oldestOpen (s : State) : Option Nat :=
  s.pipe.openEpochs.foldl (fun b p => match b with | some e => some (epochMin e p.1) | none => some p.1) none

end Sys2Proof.Machine
end

