-- ==== Sys2Proof/Machine/Sched.lean ====
section
/-! DEFINITION. The scheduler of a subchannel (R190, R192, R193) and the panic levels of the real-time ports (R195, R228,
R232). A read command of the model is the command slot at which the read issues and its data return; a write leaves its queue
in a slot that passes while no command waits (log entry 2). -/

namespace Sys2Proof.Machine

/-! ## Real-time ports -/

/-- A port that reads DRAM (R195); `other` stands for every source without deadlines. -/
inductive Port where
  | fab | twin | vault | facet | other
  deriving DecidableEq, Repr

/-- The port through which a request reads. -/
def portOf : OpSrc → Port
  | .nrt _ _ | .roce _ _ => .fab
  | .record _ _ => .twin
  | .facet _ | .promo _ _ => .facet
  | _ => .other

/-- The port of a DRAM read. -/
def State.readPort (s : State) (r : ReadRec) : Port :=
  match r.what with
  | .request op _ _ _ => (match s.op? op with | some o => portOf o.src | none => .other)
  | .scrub | .move => .other

/-- What a port's buffer holds: reads of the port that are out and, for the twin, records that wait to be sent, for the vault,
plates not yet on the drives. -/
def State.portUse (s : State) (p : Port) : Nat :=
  match p with
  | .fab | .facet => (s.pipe.reads.filter (fun r => s.readPort r.2 == p)).length
  | .twin => (List.range 9).foldl (fun n r => n + (s.qp (s.twinQp r)).sendq.length) 0
  | .vault => s.vault.strands.foldl (fun n x => if x.2.state = 2 then n else n + x.2.plates.length) 0
  | .other => 0

/-- The fill of a port's buffer in sixteenths; the spec gives no size of a buffer. -/
def State.portFill (s : State) (p : Port) : Nat :=
  let n := s.portUse p
  if n = 0 then 0 else min 16 (16 * n / max 1 (Config.portBuffer (match p with | .fab => 0 | .twin => 1 | .vault => 2 | _ => 3)))

/-- Does the full dirty set of a declared twin-covered pair out of sync still exceed B_eff (R232)? -/
def State.reverting (s : State) : Bool :=
  s.flag F.VLT_CFG_MODE && s.flag F.TWIN_CFG_DOMAIN && !s.twinCovered && decide (s.budgetGib * 262144 < s.drainSet)

/-- Is the drain set at or above VLTX_BUDGET.HI sixteenths of B_eff (R228)? -/
def State.vaultHigh (s : State) : Bool :=
  decide (0 < s.drainSet ∧ s.fld F.VLTX_BUDGET_HI * (s.budgetGib * 262144) ≤ 16 * s.drainSet)

/-- The level that a fill gives, by three thresholds (R195). -/
def levelAt (fill l1 l2 l3 : Nat) : Nat := if l3 ≤ fill then 3 else if l2 ≤ fill then 2 else if l1 ≤ fill then 1 else 0

/-- The panic level of a port on a channel (R195): the vault stands at 3 from T_W until the drain ends and during reversion,
and at 2 at least at or above HI. -/
def State.panic (s : State) (ch : Nat) (p : Port) : Nat :=
  match p with
  | .fab => levelAt (s.portFill p) (s.fld F.MCX_PANIC_L1_FAB ch) (s.fld F.MCX_PANIC_L2_FAB ch) (s.fld F.MCX_PANIC_L3_FAB ch)
  | .twin =>
    levelAt (s.portFill p) (s.fld F.MCX_PANIC_L1_TWIN ch) (s.fld F.MCX_PANIC_L2_TWIN ch) (s.fld F.MCX_PANIC_L3_TWIN ch)
  | .vault =>
    if (s.pow.warn && !s.pow.drainDone) || s.reverting then 3
    else max (if s.vaultHigh then 2 else 0)
      (levelAt (s.portFill p) (s.fld F.MCX_PANIC_L1_VAULT ch) (s.fld F.MCX_PANIC_L2_VAULT ch) (s.fld F.MCX_PANIC_L3_VAULT ch))
  | .facet =>
    levelAt (s.portFill p) (s.fld F.MCX_PANIC_L1_FACET ch) (s.fld F.MCX_PANIC_L2_FACET ch) (s.fld F.MCX_PANIC_L3_FACET ch)
  | .other => 0

/-! ## What a subchannel has queued -/

/-- A read that waits in a subchannel: of a request or the scrubber, of a merge, of a fill. -/
inductive QRead where
  | read (rid : Nat)
  | merge (line : Nat)
  | fill (line : Nat)
  deriving DecidableEq, Repr

/-- A queued read: what it is, its line, since when it waits, its port, whether it is the scrubber's. -/
structure Queued where
  what : QRead
  line : Nat
  at_ : Nat
  port : Port
  scrub : Bool
  deriving DecidableEq, Repr

/-- Take out the first entry of a line that closes with a partial mask. -/
def State.mergeEntry (s : State) (line : Nat) : Option SbEntry :=
  match s.pipe.sb.find? (fun (e : SbEntry) => e.line == line) with
  | some e => if e.closing && !e.full then some e else none
  | none => none

/-- May the read of a fill return: nothing newer of its line is on its way, and no heal of it waits (R171)? -/
def State.fillReady (s : State) (line : Nat) : Bool :=
  (s.storeOf line).isNone && !s.pipe.sb.any (fun (e : SbEntry) => e.line == line) &&
  !s.pipe.heals.any (fun p => p.2.what == .fill line)

/-- Does a line lie on a subchannel? -/
def State.onSub (s : State) (ch sub line : Nat) : Bool := s.chanAt line == ch && s.subAt line == sub

/-- The reads queued in a subchannel. -/
def State.queuedReads (s : State) (ch sub : Nat) : List Queued :=
  (s.pipe.reads.filter (fun p => s.onSub ch sub p.2.line && !p.2.healing)).map (fun p =>
    ⟨.read p.1, p.2.line, p.2.at_, s.readPort p.2, p.2.what == .scrub⟩) ++
  ((s.pipe.sb.map SbEntry.line).dedup.filter (s.onSub ch sub)).filterMap (fun line =>
    match s.mergeEntry line with
    | some e =>
      if (s.storeOf line).isSome || s.pipe.heals.any (fun p => p.2.what == .merge line) then none
      else some ⟨.merge line, line, e.opened + ns e.window, .other, false⟩
    | none => none) ++
  (s.pipe.locket.fills.filter (fun f => s.onSub ch sub f.line && s.fillReady f.line)).map (fun f =>
    ⟨.fill f.line, f.line, f.at_, .other, false⟩)

/-- The lines in the write queue of a subchannel, oldest first. -/
def State.writesOf (s : State) (ch sub : Nat) : List WqLine := s.chan.wq.filter (fun w => s.onSub ch sub w.line)

/-- Is the write queue of a line's subchannel full (R192)? -/
def State.writesFull (s : State) (line : Nat) : Bool := decide (64 ≤ (s.writesOf (s.chanAt line) (s.subAt line)).length)

/-- The bank of a line. -/
def State.bankOf (s : State) (line : Nat) : BankSt :=
  SMap.get newBank s.chan.banks (bankKey (s.chanAt line) (s.subAt line) (s.place line).bankIdx)

/-- Does an access to a line hit an open row? -/
def State.rowHit (s : State) (line : Nat) : Bool := (s.bankOf line).row == some (s.place line).row

/-! ## Precedence (R192, R193) -/

/-- Is a hit still preferred: fewer than HIT_CAP in a row on its bank, or no older miss waits there? -/
def State.hitFirst (s : State) (ch : Nat) (qs : List Queued) (x : Queued) : Bool :=
  s.rowHit x.line && (decide ((s.bankOf x.line).hits < s.fld F.MCX_SCHED_HIT_CAP ch) ||
    !qs.any (fun y => (s.place y.line).bankIdx == (s.place x.line).bankIdx && !s.rowHit y.line && decide (y.at_ < x.at_)))

/-- Is a request older than AGE_MAX? -/
def State.aged (s : State) (ch : Nat) (x : Queued) : Bool := decide (x.at_ + ns (10 * s.fld F.MCX_SCHED_AGE_MAX ch) < s.mono)

/-- Does read x go before read y, which was queued before it or with it? -/
def State.goesBefore (s : State) (ch : Nat) (qs : List Queued) (x y : Queued) : Bool :=
  let lx := s.panic ch x.port
  let ly := s.panic ch y.port
  if lx ≠ ly then decide (ly < lx)
  else if s.aged ch x ≠ s.aged ch y then s.aged ch x
  else if s.aged ch x = false ∧ s.hitFirst ch qs x ≠ s.hitFirst ch qs y then s.hitFirst ch qs x
  else decide (x.at_ < y.at_)

/-- The read that goes first among some. -/
def State.firstOf (s : State) (ch : Nat) (qs : List Queued) : List Queued → Option Queued
  | [] => none
  | x :: rest =>
    match State.firstOf s ch qs rest with
    | none => some x
    | some y => if s.goesBefore ch qs y x then some y else some x

/-- How far a line's bank group lies above the one after the group of the subchannel's last activate. -/
def State.groupTurn (s : State) (ch sub line : Nat) : Nat :=
  ((s.place line).group + 16 - (SMap.get 15 s.chan.lastGroup (2 * ch + sub) + 1) % 16) % 16

/-- The read that the subchannel issues next: by R192, and an activate by the rotation of R193. -/
def State.nextRead (s : State) (ch sub : Nat) (qs : List Queued) : Option Queued :=
  match s.firstOf ch qs qs with
  | none => none
  | some x =>
    if qs.length = 1 ∨ s.rowHit x.line ∨ ¬ s.flag F.MCX_SCHED_ROTATE ch then some x
    else
      let miss := qs.filter (fun y => !s.rowHit y.line)
      let g := miss.foldl (fun g y => min g (s.groupTurn ch sub y.line)) 16
      s.firstOf ch qs (miss.filter (fun y => s.groupTurn ch sub y.line == g))

/-- Do writes go before a read now (R192): draining is on, and the read is not one at level 3 while the queue has room? -/
def State.writesGo (s : State) (ch sub : Nat) (x : Queued) : Bool :=
  s.chan.draining.contains (2 * ch + sub) && (s.writesFull x.line || s.panic ch x.port != 3)

/-- A throttled channel leaves out every other activate (R190): may the access go now? -/
def State.activateOk (s : State) (ch line : Nat) : Bool × State :=
  if ¬ s.flag F.MC_TEMP_THROTTLING ch ∨ s.rowHit line then (true, s)
  else if s.chan.skip.contains ch then
    (false, { s with chan := { s.chan with skip := s.chan.skip.filter (fun c => c != ch) } }.count 0x50 ch 8)
  else (true, { s with chan := { s.chan with skip := ch :: s.chan.skip } })

/-- A read that issues at panic level 3 is counted (Table 17.1). -/
def issuedAt (ch level : Nat) (r : Bool × State) : Bool × State :=
  if r.1 ∧ level = 3 then (true, r.2.count 0x50 ch 6) else r

/-- A queued read issues, if it is its turn in its subchannel (R192): the scrubber's only when nothing else is queued. -/
def State.takeTurn (s : State) (what : QRead) (line : Nat) : Bool × State :=
  let ch := s.chanAt line
  let sub := s.subAt line
  let all := s.queuedReads ch sub
  match all.find? (fun x => x.what == what) with
  | none => (false, s)
  | some x =>
    let others := all.filter (fun y => !y.scrub)
    if x.scrub then
      if others.isEmpty ∧ (s.writesOf ch sub).isEmpty ∧ (all.head?.map Queued.what = some what) then s.activateOk ch line
      else (false, s)
    else if s.writesGo ch sub x then (false, s)
    else if (s.nextRead ch sub others).map Queued.what = some what then issuedAt ch (s.panic ch x.port) (s.activateOk ch line)
    else (false, s)

/-! ## Write queues -/

/-- Draining turns on at WQ_HI entries and off at WQ_LO (R192). -/
def State.settleDrain (s : State) (ch sub : Nat) : State :=
  let n := (s.writesOf ch sub).length
  let k := 2 * ch + sub
  if s.fld F.MCX_SCHED_WQ_HI ch ≤ n ∧ ¬ s.chan.draining.contains k then
    { s with chan := { s.chan with draining := k :: s.chan.draining } }
  else if n ≤ s.fld F.MCX_SCHED_WQ_LO ch then
    { s with chan := { s.chan with draining := s.chan.draining.filter (fun x => x != k) } }
  else s

/-- A command slot of a subchannel in which a write may go (R192): while draining is on, but for a read at level 3 that the
queue leaves room for, and when no read is queued. -/
def State.writeSlot (s : State) (ch sub : Nat) : State :=
  match s.writesOf ch sub with
  | [] => s
  | w :: _ =>
    let reads := (s.queuedReads ch sub).filter (fun x => !x.scrub)
    let go := if s.chan.draining.contains (2 * ch + sub) then
        s.writesFull w.line || reads.all (fun x => s.panic ch x.port != 3)
      else reads.isEmpty
    if go then
      match s.activateOk ch w.line with
      | (false, s) => s
      | (true, s) =>
        let s := s.touchBank w.line
        { s with chan := { s.chan with wq := s.chan.wq.erase w } }.settleDrain ch sub
    else s

/-- Every subchannel with queued writes takes a command slot. -/
def State.writeSlots (s : State) : State :=
  ((s.chan.wq.map (fun w => 2 * s.chanAt w.line + s.subAt w.line)).dedup).foldl (fun (t : State) k => t.writeSlot (k / 2) (k % 2)) s

/-- Every write queue empties (R198, R38). -/
def State.emptyQueues (s : State) : State :=
  let s := s.chan.wq.foldl (fun (t : State) w => t.touchBank w.line) s
  { s with chan := { s.chan with wq := [], draining := [] } }

end Sys2Proof.Machine
end

