-- ==== Sys2Proof/Machine/Window.lean ====
section
/-! DEFINITION. The Window Unit (chapter 6): descriptors in persistent memory (Table 6.1), the check (Table 6.3), the
layout of ring windows (Table 6.4), opening (R153), revoking and its cut (R155), RECYCLE (R444), the descriptor cache
(R151) and the beacon page (R276). -/

namespace Sys2Proof.Machine

/-! ## Descriptors -/

/-- A window descriptor (Table 6.1). -/
structure Desc where
  state : Nat
  rights : Nat
  gen : Nat
  bindSlot : Nat
  bound : Bool
  base : Nat
  len : Nat
  alloc : Nat
  opener : Nat
  openEpoch : Nat
  revokeEpoch : Nat
  cookie : Nat
  deriving DecidableEq, Repr

/-- Word i of a byte list. -/
def wordAt (bs : List Byte) (i : Nat) : Nat := leNat ((bs.drop (8 * i)).take 8)

def Desc.parse (bs : List Byte) : Desc :=
  let a := wordAt bs 0
  let c := wordAt bs 3
  ⟨bits a 0 2, bits a 8 8, bits a 16 12, bits a 32 16, bitAt a 48, bits (wordAt bs 1) 0 50, bits (wordAt bs 2) 0 50,
    bits c 0 16, bits c 32 12, bits (wordAt bs 4) 0 40, bits (wordAt bs 5) 0 40, wordAt bs 6⟩

def Desc.bytes (d : Desc) : List Byte :=
  leBytes 8 (d.state + d.rights * 2 ^ 8 + d.gen * 2 ^ 16 + d.bindSlot * 2 ^ 32 + boolNat d.bound * 2 ^ 48) ++
  leBytes 8 d.base ++ leBytes 8 d.len ++ leBytes 8 (d.alloc + d.opener * 2 ^ 32) ++ leBytes 8 d.openEpoch ++
  leBytes 8 d.revokeEpoch ++ leBytes 8 d.cookie ++ leBytes 8 0

/-- RIGHTS bits (Table 6.2). -/
def Desc.control (d : Desc) : Bool := bitAt d.rights 6
def Desc.ring (d : Desc) : Bool := bitAt d.rights 7
/-- ALLOC.LEND (Table 13.4). -/
def Desc.lend (d : Desc) : Bool := bitAt d.alloc 7

/-- INDEX and GEN of a key (R146). -/
def keyIdx (k : Nat) : Nat := k % 2 ^ 20
def keyGen (k : Nat) : Nat := k / 2 ^ 20 % 4096
def mkKey (idx gen : Nat) : Nat := idx + gen * 2 ^ 20

/-- Byte offsets of the context region and of the beacon page. -/
def State.ctxBase (s : State) : Nat := s.fld F.TR_CTX_BASE_ADDR * 2 ^ 28
def State.beaconPage (s : State) : Nat := s.fld F.MER_BEACON_PAGE * 4096

/-- The line of descriptor idx. -/
def State.descLine (s : State) (idx : Nat) : Nat := s.winBase / 64 + idx

/-- The bytes that waiting writes will lay over a line. -/
def State.waitPatch (s : State) (line : Nat) : SMap Byte :=
  (s.waitsOf line).foldl (fun p a => match a with | .write m => overPatch p m.patch | _ => p) []

/-- Descriptor idx as the Window Unit knows it: an update counts from the instant it is made, also while its write waits (R155). -/
def State.descOf (s : State) (idx : Nat) : Desc :=
  Desc.parse (overlay (s.lineNow (s.descLine idx)) (s.waitPatch (s.descLine idx)))

/-- Is a descriptor readable (R444)? -/
def State.descReadable (s : State) (idx : Nat) : Bool :=
  !s.poisoned (s.descLine idx) || isFull (s.waitPatch (s.descLine idx))

/-- Is the descriptor of a key open under the key's generation (Table 6.3, test 2)? -/
def State.keyOpen (s : State) (key : Nat) : Bool :=
  s.descReadable (keyIdx key) && (s.descOf (keyIdx key)).state == 1 && (s.descOf (keyIdx key)).gen == keyGen key

/-! ## Ring windows -/

/-- S and C of a ring (R152). -/
def roundPage (n : Nat) : Nat := (n + 4095) / 4096 * 4096
def State.ringLog (s : State) (r : Nat) : Nat := s.fld F.RING_CFG_LOG2 r
def State.ringS (s : State) (r : Nat) : Nat := roundPage (2 ^ s.ringLog r * 64)
def State.ringC (s : State) (r : Nat) : Nat := roundPage (2 ^ s.ringLog r * 32)

/-- Length of a window (R152). -/
def State.lenOf (s : State) (d : Desc) : Nat :=
  if d.ring then 4096 + s.ringS (d.base % 4096) + s.ringC (d.base % 4096) else d.len

/-- May a ring window be written at this range (Table 6.4)? -/
def State.ringWritable (s : State) (r off len : Nat) : Bool :=
  if off < 0x1000 then off == 0 || off == 0x10 || off == 0x20
  else decide (off + len ≤ 0x1000 + 2 ^ s.ringLog r * 64)

/-! ## The check -/

/-- Who asks: an NRT QP (kind, key slot), a RoCEv2 QP, a chain, a twin forward. -/
inductive Who where
  | host (kind slot : Nat)
  | roce
  | chain
  | twin
  deriving DecidableEq, Repr

/-- What is asked. -/
inductive WinOp where
  | read | write | atomic
  deriving DecidableEq, Repr

/-- What the range of a request that passed the check names. -/
inductive Target where
  | mem (off : Nat)
  | control (addr : Nat)
  | ring (r off : Nat)
  | lend (off : Nat)
  deriving DecidableEq, Repr

/-- Alignment of a range (Table 6.3, test 4; R55, R152); `line` for `copy` and `fill`. -/
def aligned (d : Desc) (o : WinOp) (line : Bool) (off len : Nat) : Bool :=
  (if o = .atomic then off % 8 == 0 else true) && (if line then off % 64 == 0 else true) &&
  (if d.control then off % 8 == 0 && len % 8 == 0 && decide (len ≤ 512) else true) &&
  (if d.ring && decide (off < 0x1000) then off % 8 == 0 && len == 8 else true)

/-- RIGHTS against operation and requester (Table 6.3, test 5; Table 6.2; R55, R276). -/
def State.rightsOk (s : State) (d : Desc) (w : Who) (o : WinOp) (off len : Nat) : Bool :=
  let bit := match o with | .read => 0 | .write => 1 | .atomic => 2
  let who := match w with
    | .host _ _ => bitAt d.rights 4
    | .roce => bitAt d.rights 5
    | .chain => bitAt d.rights 3 && !d.control
    | .twin => true
  let pg := s.beaconPage
  let beacon := !d.control && !d.ring && !d.lend && decide (d.base + off < pg + 4096 ∧ pg < d.base + off + len)
  bitAt d.rights bit && who &&
  (if o = .read then true else !beacon && (if d.ring then s.ringWritable (d.base % 4096) off len else true))

/-- Test 6 of Table 6.3. -/
def boundOk (d : Desc) (w : Who) : Bool :=
  !d.bound || (match w with
    | .host _ slot => slot == d.bindSlot
    | .roce => false
    | _ => true)

/-- Test 1 of Table 6.3: the leader serves; from the early warning until its release of the clasp a member that led at
T_W still passes reads (R289). -/
def State.serves (s : State) (o : WinOp) : Bool :=
  s.pipe.taking && ((s.twin.leader && !s.twin.handover && (s.twin.diagOk || s.pow.warn)) &&
    (!s.pow.warn || (o == .read && s.twin.ledAtWarn && s.twin.holding)))

/-- The window check (R149, Table 6.3): the first test that fails gives its code. -/
def State.winCheck (s : State) (w : Who) (o : WinOp) (key off len : Nat) (line : Bool := false) :
    Except Status (Desc × Target) :=
  let d := s.descOf (keyIdx key)
  if ¬ (w = .twin ∨ s.serves o) then .error .privilege
  else if ¬ s.keyOpen key then .error .windowRevoked
  else if s.lenOf d < off + len then .error .windowBounds
  else if ¬ aligned d o line off len then .error .windowBounds
  else if ¬ s.rightsOk d w o off len then .error .windowRights
  else if ¬ boundOk d w then .error .windowRights
  else .ok (d,
    if d.ring then .ring (d.base % 4096) off
    else if d.control then .control (d.base % 2 ^ 32 + off)
    else if d.lend then .lend (d.base + off)
    else .mem (d.base + off))

/-- A window check is counted by its outcome (Table 17.1). -/
def State.winTold (s : State) (v : Except Status (Desc × Target)) : State :=
  s.count 0x30 0 (match v with
    | .ok _ => 0
    | .error .windowRevoked => 1
    | .error .windowBounds => 2
    | .error .windowRights => 3
    | .error _ => 4)

/-! ## The cache (R151) -/

/-- Is descriptor idx cached? -/
def State.winCached (s : State) (idx : Nat) : Bool := s.wins.cache.contains idx

/-- Can the check of a request for index idx be made: its descriptor is cached, or is unreadable and fails test 2 (R444)? -/
def State.winReady (s : State) (idx : Nat) : Bool := s.winCached idx || !s.descReadable idx

/-- Is the index pinned in the cache (WCACHE.PIN_EN)? -/
def State.winPinned (s : State) (idx : Nat) : Bool := s.flag F.WCACHE_PIN_EN && s.fld F.WCACHE_PIN_INDEX == idx

/-- Use a descriptor: it becomes the most recently used one, and the least recently used that is not pinned leaves. -/
def State.winTouch (s : State) (idx : Nat) : State :=
  let l := idx :: s.wins.cache.filter (fun i => i != idx)
  let l := if l.length ≤ 65536 then l
    else match l.reverse.find? (fun i => !s.winPinned i) with
      | some i => l.erase i
      | none => l
  if s.descReadable idx then { s with wins := { s.wins with cache := l } } else s

/-- Drop a cached descriptor. -/
def State.winDrop (s : State) (idx : Nat) : State :=
  { s with wins := { s.wins with cache := s.wins.cache.filter (fun i => i != idx) } }

/-- A request waits at the window stage for the fetch of a descriptor, or behind an earlier one. -/
def State.winWait (s : State) (idx : Nat) (w : WinWait) : State :=
  let s := if s.winReady idx then s else s.count 0x30 0 5
  { s with wins := { s.wins with waiting := s.wins.waiting ++ [(idx, w)] } }

/-- The window stage of a request that is tried again by itself: true when the check can be made, else its fetch is under way
(R151). -/
def State.winAsk (s : State) (idx : Nat) (w : WinWait) : Bool × State :=
  if s.winReady idx then (true, s.winTouch idx)
  else if s.wins.waiting.contains (idx, w) then (false, s)
  else (false, s.winWait idx w)

/-- The fetches that are out: of the first indexes asked for, at most 128 and at most WFETCH.MAX_OUT, but one at least. -/
def State.fetching (s : State) : List Nat :=
  (((s.wins.waiting.map (fun w => w.1)).dedup).filter (fun i => !s.winReady i)).take (max 1 (min 128 (s.fld F.WFETCH_MAX_OUT)))

/-- The QP of a packet that waits at the window stage. -/
def WinWait.qp : WinWait → Option Nat
  | .nrt k => some (k.dqp % 2 ^ 20)
  | .roce k => some (k.qp % 2 ^ 20)
  | _ => none

/-- Does a packet of QP n wait at the window stage? Later ones of the QP stay behind it (R164). -/
def State.winBehind (s : State) (n : Nat) : Bool := s.wins.waiting.any (fun w => w.2.qp == some n)

/-- Is the part of the table that holds a descriptor still to be filled from the vault (R248)? -/
def State.tableWaits (s : State) (idx : Nat) : Bool := s.unfilled (s.descLine idx)

/-! ## The beacon (R276, Table 11.5) -/

def State.beacon (s : State) : List Byte :=
  if s.flag F.MER_BEACON_EN then
    leBytes 8 (0x4D424331 + 1 * 2 ^ 32 + s.fld F.MER_CFG_K * 2 ^ 36 + boolNat s.unsure * 2 ^ 42 +
      boolNat s.single * 2 ^ 43 + s.fld F.MER_STAT_SOURCE * 2 ^ 44) ++
    leBytes 8 (s.pipe.sealedE + s.fld F.HT_DEVICE_NUMBER * 2 ^ 40) ++ leBytes 8 (s.fld F.MER_GCUT_CUT) ++
    leBytes 8 s.secs ++ leBytes 8 s.frac ++ leBytes 8 (s.fld F.MER_CFG_BOUND + s.fld F.MER_EST_EST * 2 ^ 32) ++
    leBytes 8 (s.fld F.MER_SUSPECT_LO_LO) ++
    leBytes 8 (s.fld F.MER_SUSPECT_HI_HI + s.fld F.MER_SUSPECT_HI_VALID * 2 ^ 40)
  else List.replicate 64 0

/-- Is the line in the beacon page of a controller that has one? -/
def State.inBeacon (s : State) (line : Nat) : Bool :=
  s.fld F.MER_BEACON_PAGE != 0 && line / 64 == s.fld F.MER_BEACON_PAGE

/-- Read a range for request i, the beacon page by the record it forms now. -/
def State.readWin (s : State) (i off len : Nat) (pos : Nat := 0) : State :=
  (splitLines off len).foldl (fun t p =>
    if t.inBeacon p.1 then
      let line := if p.1 % 64 = 0 then t.beacon else List.replicate 64 0
      t.modOp i (fun o => { o with
        data := overPatch o.data (patchAt (pos + p.2.1) ((line.drop p.2.2.1).take p.2.2.2)) })
    else t.readRange i (64 * p.1 + p.2.2.1) p.2.2.2 (pos + p.2.1)) s

/-! ## Opening, revoking, recycling -/

/-- Write descriptor idx as one full line through the Service Pipeline (R147); the number of the request. -/
def State.writeDesc (s : State) (idx : Nat) (d : Desc) : Nat × State :=
  let r := s.newOp (.desc idx) .write 2 64
  let t := r.2.writeRange r.1 (64 * s.descLine idx) d.bytes 0
  (r.1, t.modOp r.1 (fun o => { o with issued := true }))

/-- Has a descriptor update ended: Placed and, when the twin is in sync, Twinned (R153, R155)? -/
def State.descDone (s : State) (i : Nat) : Bool :=
  match s.op? i with
  | some o => o.toPlace == 0 && (o.toTwin == 0 || s.twin.state != .inSync)
  | none => true

/-- May descriptor idx be taken: STATE 0 and readable? -/
def State.isFreeIdx (s : State) (idx : Nat) : Bool :=
  s.descReadable idx && (s.descOf idx).state == 0 && !(s.wins.openings.any (fun o => keyIdx o.key == idx))

/-- The lowest free index from i on (R153), if there is one; none at all while it lies in a part of the table still to be
filled. -/
def State.freeIdx (s : State) : Nat → Nat → Option (Option Nat)
  | 0, _ => some none
  | fuel + 1, i => if s.tableWaits i then none else if s.isFreeIdx i then some (some i) else State.freeIdx s fuel (i + 1)

/-- Do two ranges overlap? -/
def overlaps (a n b m : Nat) : Bool := decide (a < b + m ∧ b < a + n)

/-- The range rules of Table 6.5: lend area (R325), control space, persistent memory with its reserved regions. -/
def State.openRange (s : State) (d : Desc) : Bool :=
  if d.ring then true
  else if d.control then d.base % 8 == 0 && decide (d.base < 2 ^ 32) && d.len % 8 == 0 && decide (d.base + d.len ≤ 2 ^ 32)
  else
    d.base % 4096 == 0 && d.len % 4096 == 0 && decide (4096 ≤ d.len) && decide (d.len ≤ 2 ^ 43) &&
    (if d.lend then decide (d.base + d.len ≤ s.fld F.TM_CAP_LEND_GIB * 2 ^ 30)
     else decide (d.base + d.len ≤ s.vault.pmBytes) &&
      !overlaps d.base d.len s.winBase (2 ^ 26) && !overlaps d.base d.len s.libBase (2 ^ 28) &&
      !overlaps d.base d.len s.ctxBase (2 ^ 28))

/-- The rights rules of Table 6.5 (R148, R309, R325); `chain` is the ring of the chain that opens, none for WIN_CMD. -/
def State.openRights (s : State) (d : Desc) (chain : Option Nat) : Bool :=
  !(d.control && d.ring) && (if d.control || d.ring then !bitAt d.rights 2 && !bitAt d.rights 5 else true) &&
  (match chain with
   | some r => !((d.control || d.ring) && !bitAt (s.fld F.RING_CFG_PRIV r) 0) && !d.lend
   | none => true) &&
  (if d.ring then s.flag F.RING_CFG_EN (d.base % 4096) else true) &&
  (if d.lend then d.alloc == 0x80 && (d.rights &&& 0xEC) == 0 else true)

/-- Must an open wait for a part of the window table (R248)? -/
def State.openWaits (s : State) (d : Desc) : Bool := s.serves .write && s.openRange d && (s.freeIdx 1048576 0).isNone

/-- Open a window (R153, Table 6.5): a key and the request of the descriptor's write, or the failing code. The controller sets the
length of a ring window (R152) and keeps no allocation flags of a control or ring window (Table 6.1). -/
def State.openWindow (s : State) (d : Desc) (chain : Option Nat) (by_ : WinBy) : Except Status Nat × State :=
  if ¬ s.serves .write then (.error .privilege, s)
  else if ¬ s.openRange d then (.error .windowBounds, s)
  else match (s.freeIdx 1048576 0).bind id with
    | none => (.error .windowBounds, s)
    | some idx =>
      if ¬ s.openRights d chain then (.error .windowRights, s)
      else
        let old := s.descOf idx
        let gen := if old.gen = 0 then 1 else old.gen
        let d := { d with
          state := 1, gen := gen, len := s.lenOf d, alloc := if d.control || d.ring then 0 else d.alloc, opener := chain.getD 0xFFF, openEpoch := s.epoch, revokeEpoch := old.revokeEpoch }
        let r := s.writeDesc idx d
        let key := mkKey idx gen
        let s := (r.2.winTouch idx).count 0x30 0 7
        (.ok key, { s with wins := { s.wins with openings := s.wins.openings ++ [⟨key, by_, r.1⟩] } })

/-- Issue a revoke (R155): none when it can only end with the given code. -/
def State.revoke (s : State) (key : Nat) (by_ : WinBy) : Option Status × State :=
  if ¬ s.serves .write then (some .privilege, s)
  else if ¬ s.keyOpen key ∨ s.wins.revokes.any (fun r => r.key == key) then (some .windowRevoked, s)
  else (none, { s with wins := { s.wins with revokes := s.wins.revokes ++ [⟨keyIdx key, key, by_, false, [], none⟩] } })

/-- Writes that passed the check under a window index and are not Placed yet. -/
def State.beforeCut (s : State) (idx : Nat) : List Nat :=
  let ms := s.pipe.sb.flatMap SbEntry.writes ++ s.pipe.stores.flatMap Store.writes ++
    s.pipe.locket.lines.flatMap (fun p => p.2.writes) ++ s.pipe.locket.victims.flatMap LkLine.writes
  let waiting := s.pipe.waits.filterMap (fun w =>
    match w.2 with
    | .write m => if keyIdx m.key = idx ∧ m.key ≠ 0 then some m.wid else none
    | .atom wid _ _ _ _ _ _ key _ => if keyIdx key = idx ∧ key ≠ 0 then some wid else none
    | _ => none)
  (ms.filter (fun m => keyIdx m.key == idx && m.key != 0)).map Merge.wid ++ waiting

/-- Handles loaded with a key of the index and an older generation are revoked at the cut; copies that nothing reads
drop, and a promotion of one ends (R316, Table 13.6). -/
def State.cutHandles (s : State) (idx gen : Nat) : State :=
  let hit (h : Handle) : Bool := h.idx == idx && h.gen != gen
  let hs := s.tiers.handles.map (fun p =>
    if hit p.2 then
      (p.1, if p.2.refs = 0 then { p.2 with revoked := true, crown := none, girdle := none, neigh := none }
        else { p.2 with revoked := true })
    else p)
  let ps := s.tiers.promos.map (fun (p : Promo) =>
    match SMap.look hs p.h with
    | some h => if h.revoked then { p with revoked := true } else p
    | none => p)
  { s with tiers := { s.tiers with handles := hs, promos := ps } }

/-- The cut of a revoke (R155, R153): generation advanced or the index spent, REVOKE_EPOCH set, the descriptor written. -/
def State.makeCut (s : State) (r : Revoke) : State :=
  let d := s.descOf r.idx
  let before := s.beforeCut r.idx
  let s := { s with wins := { s.wins with revokes := s.wins.revokes.map (fun (x : Revoke) =>
      if x.idx = r.idx ∧ ¬ x.cut then { x with cut := true, before := before } else x) } }
  let d := if d.gen = 4095 then { d with state := 2, revokeEpoch := s.epoch }
    else { d with state := 0, gen := d.gen + 1, revokeEpoch := s.epoch }
  let w := s.writeDesc r.idx d
  let s := (w.2.cutHandles r.idx d.gen).count 0x30 0 6
  { s with wins := { s.wins with revokes := s.wins.revokes.map (fun (x : Revoke) =>
      if x.idx = r.idx ∧ x.desc.isNone then { x with desc := some w.1 } else x) } }

/-- Is a revoke over (R155)? -/
def State.revokeOver (s : State) (r : Revoke) : Bool :=
  r.cut && r.before.all (fun w => match SMap.look s.pipe.writes w with | some x => x.placed | none => true) &&
  (match r.desc with | some i => s.descDone i | none => true)

/-- RECYCLE (R153, R444): OK with the index made free, or PRIVILEGE. -/
def State.recycle (s : State) (idx : Nat) : Status × State :=
  if ¬ s.descReadable idx then
    (.ok, (s.writeDesc idx ⟨0, 0, 1, 0, false, 0, 0, 0, 0, 0, 0, 0⟩).2.winDrop idx)
  else if (s.descOf idx).state = 2 then
    (.ok, (s.writeDesc idx { s.descOf idx with state := 0, gen := 1 }).2.winDrop idx)
  else (.privilege, s)

/-- What QUERY and `wquery` give (Table 6.5, R444): status and the 64 bytes. -/
def State.queryDesc (s : State) (key : Nat) : Status × List Byte :=
  if s.descReadable (keyIdx key) then
    (if s.keyOpen key then .ok else .windowRevoked, (s.descOf (keyIdx key)).bytes)
  else (.windowRevoked, List.replicate 64 0)

/-! ## WIN_CMD (R153, R155, R444) -/

/-- The result of a window command in WIN_RES. -/
def State.winRes (s : State) (st : Status) (key : Nat) : State :=
  (s.setFld F.WIN_RES_STATUS 0 st.code).setFld F.WIN_RES_KEY 0 key

/-- WIN_DATA0 to WIN_DATA7 as 64 bytes (Table 6.1). -/
def State.winData (s : State) : List Byte := (List.range 8).flatMap (fun i => leBytes 8 (s.fld F.WIN_DATA 0 i))

def State.setWinData (s : State) (bs : List Byte) : State :=
  (List.range 8).foldl (fun (t : State) i => t.setFld F.WIN_DATA 0 (wordAt bs i) i) s

/-- An OPEN or REVOKE by firmware writes an event record (R354). -/
def State.firmwareNote (s : State) (p : Path) (code key : Nat) : State :=
  if p = .firmware then s.note 0x30 0 code key else s

/-- A window command waits for a part of the table (R248): BUSY until then. -/
def State.winAsked (s : State) (op : Nat) (p : Path) (key : Nat) : State :=
  { s with wins := { s.wins with asked := some (op, p, key) } }.setFld F.WIN_RES_STATUS 0 Status.busy.code

/-- OPEN (R153): BUSY until the descriptor's update has ended. -/
def State.winOpen (s : State) (p : Path) : State :=
  let d := Desc.parse s.winData
  if s.openWaits d then s.winAsked 1 p 0
  else match s.openWindow d none .command with
    | (.ok key, s) => (s.winRes .busy key).firmwareNote p 0x01 key
    | (.error st, s) => (s.winRes st 0).firmwareNote p 0x01 0

/-- REVOKE (R155): BUSY until cut made and drained. -/
def State.winRevoke (s : State) (p : Path) (key : Nat) : State :=
  if s.tableWaits (keyIdx key) then s.winAsked 2 p key
  else match s.revoke key .command with
    | (none, s) => (s.winRes .busy key).firmwareNote p 0x02 key
    | (some st, s) => (s.winRes st key).firmwareNote p 0x02 key

/-- QUERY (Table 6.5). -/
def State.winQuery (s : State) (p : Path) (key : Nat) : State :=
  if s.tableWaits (keyIdx key) then s.winAsked 3 p key
  else
    let r := s.queryDesc key
    (s.setWinData r.2).winRes r.1 key

/-- RECYCLE (R153, R444); the follower condition is tested first. -/
def State.winRecycle (s : State) (p : Path) (idx : Nat) : State :=
  if ¬ s.serves .write then s.winRes .privilege idx
  else if s.tableWaits idx then s.winAsked 4 p idx
  else
    let r := s.recycle idx
    r.2.winRes r.1 idx

/-- WIN_CMD with GO = 1 (Table 6.7). Codes 0 and 5 to 7 are no command. -/
def State.winCommand (s : State) (p : Path) (op key : Nat) : State :=
  match op with
  | 1 => s.winOpen p
  | 2 => s.winRevoke p key
  | 3 => s.winQuery p key
  | 4 => s.winRecycle p (keyIdx key)
  | _ => s

/-- A window command that waited for a part of the table is tried again. -/
def State.settleAsked (s : State) : State :=
  match s.wins.asked with
  | some (op, p, key) => { s with wins := { s.wins with asked := none } }.winCommand p op key
  | none => s

/-- The lines that hold a byte other than zero, in memory or on the way to it. -/
def State.touchedLines (s : State) : List Nat :=
  (s.pipe.pm.map (fun (p : Nat × Byte) => p.1 / 64) ++ s.pipe.sb.map SbEntry.line ++ s.pipe.stores.map Store.line ++
    s.pipe.locket.lines.map (fun (p : Nat × LkLine) => p.2.line) ++ s.pipe.locket.victims.map LkLine.line).dedup

/-- Windows with STATE = 1 (WIN_STAT.OPEN): a descriptor whose line was never written is not open. -/
def State.openCount (s : State) : Nat :=
  let lo := s.descLine 0
  (s.touchedLines.filter (fun line => decide (lo ≤ line ∧ line < lo + 1048576) && s.descReadable (line - lo) &&
    (s.descOf (line - lo)).state == 1)).length

end Sys2Proof.Machine
end

