-- ==== Sys2Proof/Machine/Heal.lean ====
section
/-! DEFINITION. What a DRAM read, a merge read and a fill come to (Table 9.2): correction and repair (R210), heals (R211,
R212), poison (R207), and the outcomes of Table 7.3 and R168. -/

namespace Sys2Proof.Machine

/-- May a heal be tried (R211, Table 9.3)? -/
def State.canHeal (s : State) : Bool := s.twin.state == .inSync && !s.pow.warn

/-- Ask the other member for a line (R211, R298). `fresh`: the line was found uncorrectable just now. -/
def State.startHeal (s : State) (line : Nat) (what : HealFor) (fresh : Bool) : State :=
  let tag := s.pipe.nextTag % 65536
  let s := { s with pipe := { s.pipe with
    heals := SMap.ins s.pipe.heals tag ⟨line, what, false, fresh, false⟩, nextTag := s.pipe.nextTag + 1 } }
  ((s.sendRecord (sliceOf line) 7 false line 0 0 (leBytes 8 tag) .control).2).count 0x22 0 2

/-- A repair (R210): the line in place, unless it changed since the read that gave `base` and `chk`. -/
def State.repair (s : State) (line : Nat) (base data : List Byte) (chk : BitVec 64 × BitVec 64) : State :=
  if s.pmLine line = base ∧ s.chkOf line = chk ∧ (s.storeOf line).isNone then (s.setPmLine line data).setChk line (0, 0)
  else s

/-- Does the scrubber run now (BZ_SCRUB.RUNNING, R215, R216)? -/
def State.scrubbing (s : State) : Bool :=
  s.flag F.BZ_SCRUB_EN && s.bezel.window && s.pow.state == .p0 && s.vault.unfilled.isEmpty

/-- The scrubber reads its next line (R215). -/
def State.scrubNext (s : State) : State :=
  if s.scrubbing && decide (s.bezel.next * 64 < s.dramBytes) then
    let line := s.bezel.next
    let s := (s.issueRead .scrub line).count 0x50 (s.chanAt line) 9
    { s with bezel := { s.bezel with next := line + 1 } }
  else s

/-- The line that the oldest retirement moves next (R219): the lines of a page in order, those of a bank by row and column. -/
def State.moveLine (s : State) (r : Retire) : Nat :=
  if r.bank then s.bankLine (r.off / 64) s.bezel.moved else r.off / 4096 * 64 + s.bezel.moved

/-- The oldest retirement goes on, once its record is in the keepsake (R219): it reads the next line, unless the line is still to
be filled from the vault. -/
def State.moveNext (s : State) : State :=
  match s.bezel.retiring with
  | [] => s
  | r :: _ =>
    if r.recorded && decide (s.bezel.moved < r.total) && s.pow.state == .p0 && !s.core.inReset && !s.unfilled (s.moveLine r) &&
        !s.pipe.reads.any (fun p => p.2.what == .move) then s.issueRead .move (s.moveLine r)
    else s

/-- The program of a retirement record has ended (R219): the first lines move. -/
def State.retireRecorded (s : State) : State :=
  let mark (b : Bool × List Retire) (r : Retire) : Bool × List Retire :=
    if b.1 && !r.recorded then (false, b.2 ++ [{ r with recorded := true }]) else (b.1, b.2 ++ [r])
  State.moveNext { s with bezel := { s.bezel with retiring := (s.bezel.retiring.foldl mark (true, [])).2 } }

/-- A line has been written to its spare place: it is redirected, and the next one moves (R219). -/
def State.lineMoved (s : State) : State := State.moveNext { s with bezel := { s.bezel with moved := s.bezel.moved + 1 } }

/-- A read ends: its bytes go to its request, or its failing status; operations that waited for its read entry go on. -/
def State.finishRead (s : State) (rid : Nat) (r : ReadRec) (data : List Byte) (st : Status) : State :=
  let s := { s with pipe := { s.pipe with reads := SMap.del s.pipe.reads rid } }
  match r.what with
  | .scrub => s.scrubNext
  | .move => s.lineMoved
  | .request op pos lo len =>
    (if st.isFailure then (s.opMeets op st).modOp op (fun o => { o with reads := o.reads - 1 })
     else (s.opMeets op st).opBytes op pos (((overlay data r.overlay).drop lo).take len)).drainAll

/-- SOURCE of Table 9.5 for a read. -/
def ReadRec.source (r : ReadRec) : Nat := match r.what with | .scrub => 3 | .move => 5 | _ => 0

/-- Drop the window descriptor that a poisoned line holds (R444). -/
def State.dropDesc (s : State) (line : Nat) : State :=
  let d := s.winBase / 64
  if d ≤ line ∧ line < d + 1048576 then s.winDrop (line - d) else s

/-- A line found uncorrectable and not healed (R207). -/
def State.poisonNew (s : State) (line source : Nat) : State := (s.markPoison line source).dropDesc line

def State.dropEntry (s : State) (e : SbEntry) : State := { s with pipe := { s.pipe with sb := s.pipe.sb.erase e } }

/-- The merge of a partial entry (R168, R169): the line goes to its channel whole, its LINE_PART to the twin; its writes
meet `st`. -/
def State.mergeDone (s : State) (e : SbEntry) (data : List Byte) (st : Status) : State :=
  let s := s.dropEntry e
  let s := e.writes.foldl (fun (t : State) m =>
    match SMap.look t.pipe.writes m.wid with
    | some x => t.opMeets x.op st
    | none => t) s
  let img := overlay data (patchOf e.writes)
  let s := (s.handOver ⟨e.line, img, e.writes, false⟩).count 0x40 (sliceOf e.line) 4
  ((s.forwardWrites e.line img e.writes false false).releaseFull e.line 2).drainSlice e.line

/-- A merge that cannot be made (R168): every write ends with POISON_RETAINED, nothing is written or forwarded. -/
def State.mergeFails (s : State) (e : SbEntry) : State :=
  let s := s.dropEntry e
  let s := e.writes.foldl (fun (t : State) m => t.failWrite m.wid .poisonRetained) s
  (s.releaseFull e.line 2).drainSlice e.line

/-- The atomic at the head of a line's order. -/
def State.headAtom (s : State) (line : Nat) : Option LineAct :=
  match s.waitsOf line with
  | a :: _ => (match a with | .atom .. => some a | _ => none)
  | [] => none

def State.dropWait (s : State) (line : Nat) (a : LineAct) : State :=
  { s with pipe := { s.pipe with waits := s.pipe.waits.erase (line, a) } }

def State.dropFill (s : State) (line : Nat) : State :=
  { s with pipe := { s.pipe with locket := { s.pipe.locket with
    fills := s.pipe.locket.fills.filter (fun f => f.line != line) } } }

/-- The atomic that started a streaming fill runs on the new line and leaves its referenced bit clear, so that the line is
the next victim (R172). -/
def State.firstAtom (s : State) (line : Nat) : State :=
  match s.headAtom line with
  | some (.atom wid op off atop operand cmp epoch key who) =>
    (s.dropWait line (.atom wid op off atop operand cmp epoch key who)).atomHere line wid op off atop operand cmp epoch key
  | _ => s

/-- A note for the atomic that a fill serves (Table 7.3). -/
def State.tellAtom (s : State) (line : Nat) (st : Status) : State :=
  match s.headAtom line with
  | some (.atom _ op ..) => s.opMeets op st
  | _ => s

/-- A fill returns data (R171, R172, R175): the line becomes resident, or the bypassed atomic runs; none when the fill
must wait for the victim buffer (R174). -/
def State.fillDone (s : State) (f : LkFill) (data : List Byte) (st : Status) : Option State :=
  let line := f.line
  let s := s.tellAtom line st
  if f.bypass then
    let s := s.dropFill line
    match s.headAtom line with
    | some (.atom wid op off atop operand cmp epoch key who) =>
      let s := s.dropWait line (.atom wid op off atop operand cmp epoch key who)
      let r := runAtom data wid off atop operand cmp epoch key
      let img := overlay data r.2.patch
      let s := ((s.opBytes op 0 (leBytes 8 r.1)).handOver ⟨line, img, [r.2], true⟩)
      some ((s.forwardWrites line img [r.2] true true).drainLine line)
    | _ => some (s.drainLine line)
  else
    match (s.dropFill line).lkPlace ⟨line, data, data, !f.stream, false, 0, [], 0⟩ with
    | some t => some ((if f.stream then t.firstAtom line else t).drainLine line)
    | none => none

/-- A fill that finds no data (Table 7.3): the atomic that found it ends, later operations go on. -/
def State.fillFails (s : State) (line : Nat) (st : Status) : State :=
  let s := s.dropFill line
  let s := match s.headAtom line with
    | some (.atom wid op off atop operand cmp epoch key who) =>
      ((s.dropWait line (.atom wid op off atop operand cmp epoch key who)).failWrite wid st).modOp op
        (fun o => { o with reads := o.reads - 1 })
    | _ => s
  s.drainLine line

/-- A heal ends without a heal (R207, R211): the line is poisoned unless a full line has been stored since (Table 9.3). -/
def State.noHeal (s : State) (tag : Nat) : State :=
  match SMap.look s.pipe.heals tag with
  | none => s
  | some h =>
    let s := { s with pipe := { s.pipe with heals := SMap.del s.pipe.heals tag } }
    match h.what with
    | .read rid =>
      (match SMap.look s.pipe.reads rid with
       | some r =>
         let s := if h.fresh ∧ ¬ h.full then s.poisonNew h.line r.source else s
         s.finishRead rid r [] .uncorrectable
       | none => s)
    | .merge line =>
      let s := if h.fresh then s.poisonNew line 2 else s
      (match s.mergeEntry line with | some e => s.mergeFails e | none => s)
    | .fill line =>
      let s := if h.fresh then s.poisonNew line 1 else s
      s.fillFails line (if h.fresh then .uncorrectable else .poisonRetained)
    | .vault _ line => if h.fresh ∧ ¬ h.full then s.poisonNew line 4 else s
    | .restore _ line => s.poisonNew line 4
    | .desc line => if h.fresh ∧ ¬ h.full then s.poisonNew line 0 else s

/-- Every heal that waits ends without a heal (Table 9.3). -/
def State.endHeals (s : State) : State := (s.pipe.heals.map (fun p => p.1)).foldl State.noHeal s

/-- A heal returns the line (R211): repaired in place, LINE_HEALED for the operation that found the error. A fill that then
waits for the victim buffer reads the repaired line again. -/
def State.healed (s : State) (tag : Nat) (data : List Byte) : State :=
  match SMap.look s.pipe.heals tag with
  | none => s
  | some h =>
    let s := { s with pipe := { s.pipe with heals := SMap.del s.pipe.heals tag } }
    let s := s.bezelEvent 3 (match h.what with | .read rid => (match SMap.look s.pipe.reads rid with | some r => r.source | none => 0) | .merge _ => 2 | .fill _ => 1 | .vault _ _ | .restore _ _ => 4 | .desc _ => 0) h.line 15 1
    let s := s.count 0x51 0 (3 * s.chanAt h.line + 1)
    let s := if h.dropped then s else (s.setPmLine h.line data).setChk h.line (0, 0)
    match h.what with
    | .read rid =>
      (match SMap.look s.pipe.reads rid with
       | some r => s.finishRead rid r data .lineHealed
       | none => s)
    | .merge line => (match s.mergeEntry line with | some e => s.mergeDone e data .lineHealed | none => s)
    | .fill line =>
      (match s.pipe.locket.fills.find? (fun f => f.line == line) with
       | some f => (s.fillDone f data .lineHealed).getD (s.tellAtom line .lineHealed)
       | none => s)
    | .vault _ _ | .restore _ _ | .desc _ => s

end Sys2Proof.Machine
end

