-- ==== Sys2Proof/Machine/Respond.lean ====
section
/-! DEFINITION. The responding side of the Transport Engine (R114, R128, R133, R137 to R142), what follows a QP's entry
into ERROR (R120), entry into SINGLE (R283), a lost neighbour (R327), and what follows an erased key slot (R345). -/

namespace Sys2Proof.Machine

/-! ## The end of request messages -/

/-- Requests of QP n with a lower MSG than m that write (R114). -/
def State.writesBefore (s : State) (n m : Nat) : List Op :=
  (s.pipe.ops.filter (fun p =>
    (match p.2.src with | .nrt qp msg => qp == n && msg != m && serialLe 32 msg m | _ => false) &&
    (p.2.kind == .write || p.2.kind == .atomic))).map (fun p => p.2)

/-- The later of two epochs, where there are any. -/
def latest : Option Nat → Option Nat → Option Nat
  | some a, some b => some (epochMax a b)
  | none, b => b
  | a, none => a

/-- The level that a write which is Placed stands at (R179 to R182). -/
def State.reached (s : State) (o : Op) : Nat :=
  if s.single ∨ o.toTwin ≠ 0 then 1 else if (o.hiEpoch.map s.isSealed).getD false then 3 else 2

/-- The lower of two levels, where there are any. -/
def lowest : Option Nat → Nat → Option Nat
  | some a, b => some (min a b)
  | none, b => some b

/-- The status met, the lowest level reached and the highest epoch of some writes once all have reached `level`; none while one
still waits (R114, R182). Failed writes are not counted. -/
def State.levelOf (s : State) (level : Nat) : List Op → Option (Status × Option Nat × Option Nat)
  | [] => some (.ok, none, none)
  | o :: rest =>
    match State.levelOf s level rest with
    | none => none
    | some (st, l, e) =>
      if o.status.isFailure then some (st, l, e)
      else match s.opLevel { o with level := level, status := .ok } with
        | .waiting => none
        | .done st1 _ =>
          if st1.isFailure ∧ st1 ≠ .timeUnsure then some (st, l, e)
          else some (st1.meet st, lowest l (s.reached o), latest e o.hiEpoch)

/-- Does a write message of QP n with a lower MSG than m still wait at the window stage or in the order queue (R114)? -/
def State.writesComing (s : State) (n m : Nat) : Bool :=
  (s.qp n).rx.any (fun (x : RxMsg) =>
    (x.typ == 0x01 || x.typ == 0x03) && !x.ended && x.op.isNone && x.msg != m && serialLe 32 x.msg m)

/-- A read's request leaves the pipeline when it ends. -/
def State.endOpIf (t : State) (i : Nat) : State :=
  match t.op? i with
  | some o => if o.kind = .read ∨ o.kind = .control then t.endOp i else t
  | none => t

/-- Request messages of QP n other than WRITE that have ended: their responses wait for MSG order. -/
def State.endMessages (s : State) (n : Nat) : State :=
  (s.qp n).rx.foldl (fun t (m : RxMsg) =>
    if m.ended ∨ m.typ = 0x01 then t
    else
      let close (t : State) (r : Status × Nat × Nat × List Byte) : State :=
        t.modQp n (fun q => { q with rx := q.rx.map (fun (x : RxMsg) =>
          if x.msg = m.msg then { x with ended := true, resp := some r } else x) })
      if m.typ = 0x04 then
        if (t.qp n).orderq.any (fun (k : Pkt) => k.msg == m.msg) || t.writesComing n m.msg then t
        else match t.levelOf m.level (t.writesBefore n m.msg) with
        | some (st, l, e) =>
          let old := (t.qp n).sealedHigh
          close t (st, l.getD (if old.isSome then 3 else m.level), (latest e old).getD 0, [])
        | none => t
      else match m.op with
        | none => t
        | some i =>
          match t.op? i with
          | none => t
          | some o =>
            match t.opLevel o with
            | .done st l => (close t (st, l, o.hiEpoch.getD 0, o.bytes)).endOpIf i
            | .waiting => t) s
/-- Is every packet of a WRITE message Placed (R128)? One that has failed still sends its COMPLETION in MSG order. -/
def State.packetsPlaced (s : State) (m : RxMsg) : Bool :=
  match m.op with
  | some i => (match s.op? i with
    | some o => o.issued && o.toPlace == 0 && o.reads == 0 && !o.status.isFailure
    | none => true)
  | none => m.ended

/-- Send responses in MSG order (R128): from message `m` on, as far as the order allows. -/
def State.sendResponses (s : State) (n m : Nat) : Nat → State
  | 0 => s
  | fuel + 1 =>
    match (s.qp n).rx.find? (fun (x : RxMsg) => x.msg == m) with
    | none => s
    | some x =>
      if x.ended then
        match x.resp with
        | some (st, l, e, d) =>
          let s := s.modQp n (fun q => { q with rx := q.rx.map (fun (y : RxMsg) =>
            if y.msg = m then { y with resp := none } else y) })
          State.sendResponses (s.respond n x st l e d) n ((m + 1) % 2 ^ 32) fuel
        | none => State.sendResponses s n ((m + 1) % 2 ^ 32) fuel
      else if x.typ = 0x01 ∧ ¬ x.signal ∧ s.packetsPlaced x then
        State.sendResponses s n ((m + 1) % 2 ^ 32) fuel
      else s

/-- CMPL_MSG passes every leading message that has ended (R133). -/
def State.passMessages (s : State) (n : Nat) : Nat → State
  | 0 => s
  | fuel + 1 =>
    let q := s.qp n
    match q.rx.find? (fun (x : RxMsg) => x.msg == q.rcvMsg) with
    | some x =>
      if x.ended ∧ x.resp.isNone then
        State.passMessages (s.setQp n { q with
          rx := q.rx.filter (fun (y : RxMsg) => y.msg != x.msg), rcvMsg := (q.rcvMsg + 1) % 2 ^ 32 }) n fuel
      else s
    | none => s

/-- Let the messages of QP n end, answer and pass. A twin QP tells the passing at once, since CMPL_MSG is the twin
acknowledgement (R285); a follower whose self-diagnosis fails stops acknowledging (Table 12.9). -/
def State.pumpQp (s : State) (n : Nat) : State :=
  let s := s.endMessages n
  let s := s.sendResponses n (s.qp n).rcvMsg ((s.qp n).rx.length + 1)
  let was := (s.qp n).rcvMsg
  let s := s.passMessages n ((s.qp n).rx.length + 1)
  if (s.qp n).kind = 1 ∧ (s.qp n).rcvMsg ≠ was ∧ (s.qp n).st = 2 ∧ (s.twin.diagOk ∨ s.twin.holding) then s.sendAck n else s

/-! ## Queues of command rings -/

/-- Entries of each queue of a ring (R81). -/
def State.ringSize (s : State) (r : Nat) : Nat := 2 ^ s.ringLog r

/-- A ring with nothing beyond its registers. -/
def noRing : RingSt := ⟨[], [], none, [], []⟩

def State.ringSt (s : State) (r : Nat) : RingSt := SMap.get noRing s.kex.rings r

def State.setRingSt (s : State) (r : Nat) (x : RingSt) : State :=
  { s with kex := { s.kex with rings := SMap.put noRing s.kex.rings r x } }

/-- The queues of a ring in persistent memory. -/
def State.sqBase (s : State) (r : Nat) : Nat := s.fld F.RING_SQ_BASE_ADDR r * 4096
def State.cqBase (s : State) (r : Nat) : Nat := s.fld F.RING_CQ_BASE_ADDR r * 4096

/-- Write an entry of a queue of ring r through the Service Pipeline (R27): the number of the request. -/
def State.writeEntry (s : State) (r off : Nat) (bs : List Byte) : Nat × State :=
  let x := s.newOp (.ring r) .write 1 bs.length
  (x.1, (x.2.writeRange x.1 off bs 0).modOp x.1 (fun o => { o with issued := true }))

/-- Is a queue entry Placed? One whose write failed never is. -/
def State.entryPlaced (s : State) (i : Nat) : Bool :=
  match s.op? i with
  | some o => o.issued && o.toPlace == 0 && !o.status.isFailure
  | none => true

/-- CQ_TAIL passes the completion entries that are Placed, in order; PHASE inverts when it wraps (R85). -/
def State.advancePosts (s : State) (r : Nat) : List Nat → State
  | [] => s
  | i :: rest =>
    if s.entryPlaced i then
      let t := s.fld F.RING_CQ_TAIL_IDX r
      let wrap := t + 1 = s.ringSize r
      let s := (s.setRingSt r { s.ringSt r with posts := rest }).setFld F.RING_CQ_TAIL_IDX r (if wrap then 0 else t + 1)
      State.advancePosts (if wrap then s.setFld F.RING_CQ_TAIL_PHASE r (1 - s.fld F.RING_CQ_TAIL_PHASE r) else s) r rest
    else s

/-- SQ_TAIL passes the submission entries of immediates that are Placed, in order (R140). -/
def State.advanceSubs (s : State) (r : Nat) : List Nat → State
  | [] => s
  | i :: rest =>
    if s.entryPlaced i then
      let t := (s.fld F.RING_SQ_TAIL_IDX r + 1) % s.ringSize r
      State.advanceSubs ((s.setRingSt r { s.ringSt r with subs := rest }).setFld F.RING_SQ_TAIL_IDX r t) r rest
    else s

/-- The queues of every ring move over entries that have become Placed. -/
def State.settleRings (s : State) : State :=
  s.kex.rings.foldl (fun (t : State) p =>
    let u := t.advancePosts p.1 (t.ringSt p.1).posts
    u.advanceSubs p.1 (u.ringSt p.1).subs) s

/-! ## RoCEv2 responses (R137 to R142, Tables 5.8 and 5.9) -/

/-- A RoCEv2 packet leaves on the port of highest score of its plane's egress set (R108, R137), with its ICRC. -/
def State.sendRoce (s : State) (n opcode psn synd : Nat) (data : List Byte) : State :=
  let s := s.choosePlane n
  let q := s.qp n
  match s.egressPort n q.plane with
  | none => s
  | some u =>
    let b := roceBytes opcode q.peerQp psn synd q.ce.msn data
    let dscp := if opcode = 0x11 ∨ opcode = 0x81 then s.fld F.PORT_DSCP_CTRL u else s.fld F.PORT_DSCP_HOST u
    let f := s.udpFrame n u dscp 4791 (b.length + 4)
    s.sends f (.roce f q.peerQp opcode psn synd data
      (b ++ (List.range 4).map (Config.icrc [f.src, f.dst, f.sport, f.dport] b)))

/-- AETH syndromes of the standard: ACK, NAK codes and RNR NAK with timer code 0x0E. -/
def synAck : Nat := 0x1F
def synSeq : Nat := 0x60
def synInvalid : Nat := 0x61
def synAccess : Nat := 0x62
def synOperational : Nat := 0x63
def synRnr : Nat := 0x20 + 0x0E

/-- A NAK, after which the QP is in ERROR (R138, R142); a window check that returned WINDOW_REVOKED is its cause (R120). -/
def State.roceNak (s : State) (n psn synd : Nat) (st : Status := .qpFlushed) : State :=
  let revoked := st = .windowRevoked
  ((s.sendRoce n 0x11 psn synd []).count 0x20 0 14).modQp n (fun q => { q with
    st := 3, errTime := s.secs, errWhy := if revoked then 1 else 0,
    errCause := if revoked then Status.windowRevoked.code else Status.qpFlushed.code, ce := { q.ce with open_ := [], cur := none, imms := [] } })

/-- The payload size of a RoCEv2 QP (R138): the largest of 1,024, 2,048 and 4,096 that R116 allows. -/
def State.rocePayload (s : State) (q : Qp) : Nat :=
  let m := s.payload q
  if 4096 ≤ m then 4096 else if 2048 ≤ m then 2048 else 1024

/-- The READ Response packets of a read (Table 5.8). -/
def State.sendReadResponse (s : State) (n psn : Nat) (data : List Byte) : State :=
  let parts := (chunks (s.rocePayload (s.qp n)) data).zipIdx
  let k := parts.length
  parts.foldl (fun t p =>
    let op := if k = 1 then 0x10 else if p.2 = 0 then 0x0D else if p.2 + 1 = k then 0x0F else 0x0E
    t.sendRoce n op ((psn + p.2) % 2 ^ 24) synAck p.1) s

/-- The immediate of a write that has been placed is submitted (R140): CHAIN, ARG1 to ARG4 as the rule says; TAG, LEVEL, FENCE,
ARG5, ARG6 and USER are free, since the spec states none. SQ_TAIL passes the entry once it is Placed. -/
def State.submitImm (s : State) (n i : Nat) : State :=
  match (s.qp n).ce.imms.find? (fun x => x.1 == i) with
  | none => s
  | some (_, imm, rkey, start) =>
    let q := s.qp n
    let r := q.immRing
    let s := s.setQp n { q with ce := { q.ce with imms := q.ce.imms.filter (fun x => x.1 != i) } }
    let f (i : Nat) : Nat := (Config.freeWord (s.free + i)).toNat
    let head := q.immChain + bits (f 0) 16 16 * 2 ^ 16 + bits (f 0) 32 3 * 2 ^ 32
    let ws := [head, imm, n, rkey, start, f 1, f 2, f 3]
    let x := s.ringSt r
    let t := (s.fld F.RING_SQ_TAIL_IDX r + x.subs.length) % s.ringSize r
    let w := { s with free := s.free + 4 }.writeEntry r (s.sqBase r + 64 * t) (ws.flatMap (leBytes 8))
    w.2.setRingSt r { x with subs := x.subs ++ [w.1] }

/-- A message of a RoCEv2 QP is complete: its message sequence number counts it. -/
def State.nextMsn (s : State) (n : Nat) : State :=
  s.modQp n (fun q => { q with ce := { q.ce with msn := (q.ce.msn + 1) % 2 ^ 24 } })

/-- Answer the requests of a RoCEv2 QP that have ended, in PSN order (R139, R142). Write packets stand as 0x06 (no
acknowledgement asked), 0x07 (one asked before the last packet) and 0x08 (last packet). -/
def State.pumpRoce (s : State) (n : Nat) : List (Nat × Nat × Nat) → State
  | [] => s
  | (psn, i, opcode) :: rest =>
    match s.op? i with
    | none => State.pumpRoce (s.modQp n (fun q => { q with ce := { q.ce with open_ := rest } })) n rest
    | some o =>
      match s.opLevel o with
      | .waiting => s
      | .done st _ =>
        let s := s.modQp n (fun q => { q with ce := { q.ce with open_ := rest } })
        if st = .uncorrectable ∨ st = .poisonRetained then s.roceNak n psn synOperational
        else if st = .windowRevoked ∨ st = .windowBounds ∨ st = .windowRights then s.roceNak n psn synAccess st
        else if st.isFailure then s.roceNak n psn synOperational
        else
          let s := if opcode = 0x06 ∨ opcode = 0x07 then s else s.nextMsn n
          let s := if opcode = 0x0C then (s.sendReadResponse n psn o.bytes).endOp i
            else if opcode = 0x13 ∨ opcode = 0x14 then
              let old := leNat (o.bytes.take 8)
              let t := s.modQp n (fun q => { q with ce := { q.ce with
                replay := (q.ce.replay ++ [(psn, old)]).drop (q.ce.replay.length + 1 - 16) } })
              t.sendRoce n 0x12 psn synAck (beBytes 8 old)
            else if opcode = 0x06 then s
            else if opcode = 0x07 then s.sendRoce n 0x11 psn synAck []
            else (s.submitImm n i).sendRoce n 0x11 psn synAck []
          State.pumpRoce s n rest

/-! ## Serving every QP -/

/-- Is a request over for good: its writes are all Sealed, or nothing of it is left in the pipeline? -/
def State.spentOp (s : State) (o : Op) : Bool :=
    match o.src with
    | .nrt qp msg =>
      (o.issued && o.toTwin == 0 && o.toPlace == 0 && o.reads == 0 &&
        (o.status.isFailure || (o.hiEpoch.map s.isSealed).getD true) &&
        !((s.qp qp).rx.any (fun (x : RxMsg) => x.msg == msg)))
    | .roce qp psn =>
      (o.issued && o.toTwin == 0 && o.toPlace == 0 && o.reads == 0 &&
        !((s.qp qp).ce.open_.any (fun x => x.1 == psn)))
    | .record _ _ => (o.issued && o.toPlace == 0)
    | .desc _ => (o.issued && o.toPlace == 0 && o.toTwin == 0)
    | .ring _ => (o.issued && o.toPlace == 0 && o.toTwin == 0 && !o.status.isFailure)
    | _ => false

/-- A QP keeps the highest epoch of its writes that are forgotten (R114). -/
def State.keepEpoch (s : State) (o : Op) : State :=
  match o.src with
  | .nrt qp _ => if o.status.isFailure ∨ o.hiEpoch.isNone then s
    else s.modQp qp (fun q => { q with sealedHigh := latest q.sealedHigh o.hiEpoch })
  | _ => s

/-- Requests that are over are forgotten. -/
def State.forget (s : State) : State :=
  let s := (s.pipe.ops.filter (fun p => s.spentOp p.2)).foldl (fun (t : State) p => t.keepEpoch p.2) s
  { s with pipe := { s.pipe with ops := s.pipe.ops.filter (fun p => !s.spentOp p.2) } }

/-- Windows opened by WIN_CMD, or by a chain that is gone, whose descriptor update has ended (R153, R159). -/
def State.settleOpens (s : State) : State :=
  s.wins.openings.foldl (fun t (o : Opening) =>
    if t.descDone o.wid then
      match o.by_ with
      | .link q => if q = 32 then { t with wins := { t.wins with openings := t.wins.openings.erase o } } else t
      | _ =>
        let t := { t with wins := { t.wins with openings := t.wins.openings.erase o } }
        (t.setFld F.WIN_RES_STATUS 0 Status.ok.code).setFld F.WIN_RES_KEY 0 o.key
    else t) s

/-- Every QP's ended messages answer (R128, R133, R139). -/
def State.serve (s : State) : State :=
  let s := s.tr.qps.foldl (fun t p =>
    if (t.qp p.1).st ≠ 2 then t
    else if (t.qp p.1).kind = 3 then t.pumpRoce p.1 (t.qp p.1).ce.open_ else t.pumpQp p.1) s
  s.settleHeld.settleAsked.settleOpens.settleRings.forget

/-! ## A QP enters ERROR -/

/-- Outstanding messages of the controller's own on QP n end with QP_FLUSHED (R120), the one whose packet waited for
credit too long with CREDIT_TIMEOUT (R125). -/
def State.flushOwn (s : State) (n : Nat) (timedOut : Option Nat) : State :=
  let s := (s.qp n).own.foldl (fun t (m : OwnMsg) =>
    let st := if timedOut = some m.msg then Status.creditTimeout else .qpFlushed
    t.ownMeets m st) s
  s.modQp n (fun q => { q with own := [] })

/-- Neighbour entry i is lost (R327): UP clears, its copies are dropped, a Notice. -/
def State.loseNeighbour (s : State) (i : Nat) : State :=
  match SMap.look s.tiers.neigh i with
  | some x =>
    if x.up then
      let gone (c : Option TierCopy) : Option TierCopy :=
        match c with | some y => if y.at_ = i then none else c | none => none
      let hs := s.tiers.handles.map (fun p => (p.1, { p.2 with neigh := gone p.2.neigh }))
      { s with tiers := { s.tiers with
          handles := hs, neigh := SMap.ins s.tiers.neigh i { x with up := false } } }.raise
        0x81 0 0 0x02 i x.dev |>.count 0x81 0 8
    else s
  | none => s

/-- Every neighbour entry whose QP is not READY is lost. -/
def State.checkNeighbours (s : State) : State :=
  s.tiers.neigh.foldl (fun t p => if p.2.up ∧ (t.qp p.2.qpn).st ≠ 2 then t.loseNeighbour p.1 else t) s

/-- QP n enters ERROR (R120) and what it was serving ends. -/
def State.failQp (s : State) (n why cause : Nat) : State :=
  if (s.qp n).st ≠ 2 then s
  else
    let waits := if why = 3 then (s.qp n).sendq.head?.map (fun p => p.1.msg) else none
    let s := s.qpError n why cause
    (s.flushOwn n waits).checkNeighbours

/-! ## Entry into SINGLE -/

/-- All nine twin QPs are READY. -/
def State.twinReady (s : State) : Bool := (List.range 9).all (fun r => (s.qp (s.twinQp r)).st == 2)

/-- Send PAIR_STATE (R282). -/
def State.sendPairState (s : State) : State :=
  let code := match s.twin.state with | .unpaired => 0 | .resync => 1 | .inSync => 2 | .single => 3 | .refused => 4
  let s := { s with twin := { s.twin with pairStateAt := s.mono } }
  if (s.qp (s.twinQp 8)).st = 2 then
    (s.sendRecord 8 13 false 0 0 0 (leBytes 8 (code + s.twin.cause * 256)) .control).2
  else s

/-- Writes that wait for the twin no longer do (R182, R283): their regions are marked, and they close once Placed. -/
def State.dropForwards (s : State) : State :=
  let ws := s.pipe.writes.filter (fun p => p.2.fwd && !p.2.acked)
  let s := ws.foldl (fun (t : State) p => t.markRegion (regionOf p.2.line)) s
  let s := ws.foldl (fun (t : State) p =>
    let t := if p.2.placed then t.untwin (granuleOf p.2.line) else t
    (t.modWrite p.1 (fun x => { x with fwd := false })).settleWrite p.1) s
  s

/-- Entry into SINGLE with a CAUSE (R283, R286); a member that holds the clasp and has ceased to lead drops its forwards too. -/
def State.enterSingle (s : State) (cause : Nat) : State :=
  if s.twin.state ≠ .resync ∧ s.twin.state ≠ .inSync then s
  else
    let lead := s.twin.leader
    let s := { s with twin := { s.twin with
      state := .single, cause := cause, healthSince := none, sentHello := false, peerHello := none } }
    let s := if lead then s.sendPairState else s
    let s := if lead ∨ s.twin.holding then
        (List.range 9).foldl (fun t r => t.failQp (t.twinQp r) 0 Status.qpFlushed.code) s.dropForwards
      else s
    let s := (s.note 0x22 0 0x03 cause).count 0x22 0 5
    s.endHeals.serve

/-- The codes with which a record check fails (R286). -/
def checkCodes : List Nat :=
  [Status.windowRevoked.code, Status.windowBounds.code, Status.windowRights.code, Status.illegalLink.code]

/-- The code of a record check that the peer reported: a twin QP is in ERROR by its ERROR packet (R286). -/
def State.peerCheck (s : State) : Option Nat :=
  ((List.range 9).find? (fun r =>
    let q := s.qp (s.twinQp r)
    q.st == 3 && q.errWhy == 5 && checkCodes.contains q.errCause)).map (fun r => (s.qp (s.twinQp r)).errCause)

/-- The sender of a record that failed its check at the peer raises the Major fault too (R286). The TYPE and line of that record
are not in the ERROR packet: a free value. -/
def State.peerCheckFails (s : State) (code : Nat) : State :=
  ({ s with free := s.free + 2 }).raise 0x22 0 2 0x02 ((Config.freeWord s.free).toNat % 256 + code * 256)
    (Config.freeWord (s.free + 1)).toNat

/-- What follows when a twin QP is no longer READY (R282, Table 12.9): HELLO has to be exchanged anew, and a pair that had not
agreed is UNPAIRED. -/
def State.settleTwin (s : State) : State :=
  if s.twinReady then s
  else match s.twin.state with
    | .resync | .inSync =>
      (match s.peerCheck with
       | some c => (s.enterSingle 6).peerCheckFails c
       | none =>
         let own := (List.range 9).any (fun r =>
           let q := s.qp (s.twinQp r)
           q.st == 3 && q.errWhy == 6 && checkCodes.contains q.errCause)
         s.enterSingle (if own then 6 else 3))
    | .refused =>
      let s := { s with twin := { s.twin with state := .unpaired, cause := 0, sentHello := false, peerHello := none } }
      if s.twin.leader then s.sendPairState else s
    | .unpaired | .single => { s with twin := { s.twin with sentHello := false, peerHello := none } }

/-! ## Keys erased -/

/-- Do the users of slot n meet KEY_ERASED (R345)? QPs on it enter ERROR; chain operations that captured it end in the
chain's own meaning. -/
def State.eraseSlot (s : State) (n : Nat) : State :=
  let s := s.zeroize n
  let s := s.tr.qps.foldl (fun t p =>
    if (t.qp p.1).keySlot = n ∧ (t.qp p.1).kind ≠ 3 then t.failQp p.1 4 Status.keyErased.code else t) s
  s.settleTwin

end Sys2Proof.Machine
end

