-- ==== Sys2Proof/Machine/Lines.lean ====
section
/-! DEFINITION. Events of the Service Pipeline and of line reads (chapters 7 and 9): held writes, setting buffer, merge
reads, placing, locket cache, sealing, read decoding, heals that time out. -/

namespace Sys2Proof.Machine

/-- The outcome type of a command. -/
abbrev Res := Host.Outcome State Fault Refusal

/-! ## Held writes and the setting buffer -/

/-- HELD_WRITE_RELEASE (R230, R163): the line's waiting operations go on in line order as far as the budget lets them. -/
def execHeldWriteRelease (line : Nat) (s : State) : Res := .next (s.drainLine line).serve

/-- A double-bit error in a buffer that holds written bytes of a line (R214): the line in DRAM is poisoned, its writes end
with INTERNAL, the poison goes to the twin, Major fault. `part` as Table 16.6 names the structure. -/
def State.bufferError (s : State) (line : Nat) (ws : List Merge) (part : Nat) : State :=
  let s := (s.setChk line poisonDelta).dirtied (granuleOf line) s.epoch 0
  let s := (s.bezelEvent 2 2 line 15 2).count 0x51 0 (3 * s.chanAt line + 2)
  let s := ws.foldl (fun (t : State) m => t.failWrite m.wid .internal) s
  let s := if s.forwarding then
      (s.sendRecord (sliceOf line) 3 false line 0 0 [] (.forward [] false)).2 else s
  s.raise 0x40 (sliceOf line) 2 0x01 (64 * line) part

/-- SB_WINDOW_EXPIRY (R167, R168, R169, R214): WINDOW ns after an entry opened it closes; `dbe` tells a double-bit error
in the entry. -/
def execSbWindowExpiry (line : Nat) (dbe : Bool) (s : State) : Res :=
  match s.pipe.sb.find? (fun (e : SbEntry) => e.line == line && !e.closing) with
  | none => .next s
  | some e =>
    let s := s.reachLocal (e.opened + ns e.window)
    if dbe then .next (((s.dropEntry e).bufferError line e.writes 0).drainSlice line).serve
    else .next ((s.closeLine line).drainSlice line).serve

/-- The read of a closing partial entry's line returns (R168, R207): merged, healed where `heal` allows it, or its writes
end with POISON_RETAINED. -/
def State.mergeReturns (s : State) (line : Nat) (e : SbEntry) (es : List DevErr) (heal : Bool) : State :=
  match s.storeOf line with
  | some d => s.mergeDone e d .ok
  | none =>
    let s := s.touchBank line
    let base := s.pmLine line
    let r := decodeBezel (s.markOf line) (syndromes (s.chkOf line) es)
    match r with
    | .clean => s.mergeDone e (decodedBytes base es r) .ok
    | .fixed d _ => (s.corrected 2 line d).mergeDone e (decodedBytes base es r) .ok
    | .poisoned => if heal then s.startHeal line (.merge line) false else s.mergeFails e
    | .bad =>
      let s := s.bezelEvent 1 2 line 15 7
      if heal then s.startHeal line (.merge line) true else (s.poisonNew line 2).mergeFails e

/-- RMW_READ_DONE (R168, R169, R192, R207): the read of a partial entry's line, at its turn in its subchannel. -/
def execRmwReadDone (line : Nat) (es : List DevErr) (s : State) : Res :=
  match s.mergeEntry line with
  | none => .next s
  | some e =>
    if s.pipe.heals.any (fun p => p.2.what == .merge line) then .next s
    else if (s.storeOf line).isNone then
      match s.takeTurn (.merge line) line with
      | (false, s) => .next s
      | (true, s) => .next (s.mergeReturns line e es s.canHeal).serve
    else .next (s.mergeReturns line e es s.canHeal).serve

/-- LINE_PLACED (R179, R173, R192, R214, R243): the channel accepts the oldest line on its way; its writes are Placed. A full
write queue holds the hand-over. -/
def execLinePlaced (line : Nat) (dbe : Bool) (s : State) : Res :=
  match s.pipe.stores.find? (fun x => x.line == line) with
  | none => .next s
  | some x =>
    if s.writesFull line then .next s
    else .next (((s.acceptStore x dbe).settleDrain (s.chanAt line) (s.subAt line)).drainLine line).serve

/-! ## The locket cache -/

/-- The read of a fill or of a bypassed atomic returns (R171 to R175, R178, R207); it waits where the victim buffer is
full (R174). -/
def State.fillReturns (s : State) (f : LkFill) (es : List DevErr) (heal : Bool) : State :=
  let line := f.line
  let base := s.pmLine line
  let r := decodeBezel (s.markOf line) (syndromes (s.chkOf line) es)
  let data := decodedBytes base es r
  let t := s.touchBank line
  match r with
  | .clean => (t.fillDone f data .ok).getD s
  | .fixed d _ => (((t.corrected 1 line d).repair line base data (s.chkOf line)).fillDone f data .ok).getD s
  | .poisoned => if heal then t.startHeal line (.fill line) false else t.fillFails line .poisonRetained
  | .bad =>
    let t := t.bezelEvent 1 1 line 15 7
    if heal then t.startHeal line (.fill line) true else (t.poisonNew line 1).fillFails line .uncorrectable

/-- LOCKET_FILL_DONE (R171 to R175, R178, R192): a fill or bypass read returns, at its turn in its subchannel. -/
def execLocketFillDone (line : Nat) (es : List DevErr) (s : State) : Res :=
  match s.pipe.locket.fills.find? (fun f => f.line == line) with
  | none => .next s
  | some f =>
    if s.fillReady line then
      match s.takeTurn (.fill line) line with
      | (false, s) => .next s
      | (true, s) => .next (s.fillReturns f es s.canHeal).serve
    else .next s

/-- LOCKET_WRITE_THROUGH (R173): COALESCE ns after it became dirty a line is written through. -/
def execLocketWriteThrough (line : Nat) (s : State) : Res :=
  match s.lkLine line with
  | some l =>
    if l.dirty then .next ((s.reachLocal l.due).writeThrough line)
    else .next s
  | none => .next s

/-- Start the flush of the locket cache (R175). The atomics whose fills are out are atomics on lines that are not resident:
they bypass the cache. -/
def State.lkFlush (s : State) : State :=
  let ls := (s.pipe.locket.lines.filter (fun p => p.2.dirty)).map (fun p => p.2.line) ++
    (s.pipe.locket.victims.filter LkLine.dirty).map LkLine.line
  let s := ls.foldl State.writeThrough s
  { s with pipe := { s.pipe with locket := { s.pipe.locket with
    flushing := true, again := false, fills := s.pipe.locket.fills.map (fun f => { f with bypass := true }) } } }

/-- A write of LK_CTL.EN (R175). -/
def State.lkEnable (s : State) (en : Bool) : State :=
  if en then
    if s.pipe.locket.flushing then { s with pipe := { s.pipe with locket := { s.pipe.locket with again := true } } }
    else s.setFld F.LK_CTL_EN 0 1
  else if s.pipe.locket.flushing then
    { s with pipe := { s.pipe with locket := { s.pipe.locket with again := false } } }
  else if s.flag F.LK_CTL_EN then s.lkFlush
  else s

/-- LOCKET_DISABLE (R175). -/
def rowLocketDisable (p : Path) (s : State) : Res :=
  if pathMay p 0x42 then ends p (.ok, s.lkEnable false) else ends p (.privilege, s)

/-- LOCKET_ENABLE (R175). -/
def rowLocketEnable (p : Path) (s : State) : Res :=
  if pathMay p 0x42 then ends p (.ok, s.lkEnable true) else ends p (.privilege, s)

/-- LOCKET_FLUSH_DONE (R175): nothing is dirty any more; every entry is invalid. Atomics that waited for it bypass the cache,
which then comes back if EN = 1 was written. -/
def execLocketFlushDone (s : State) : Res :=
  let l := s.pipe.locket
  if l.flushing && l.lines.all (fun p => !p.2.unclean) && l.victims.all (fun v => !v.unclean) then
    let s := { s with pipe := { s.pipe with locket := { l with
      lines := [], victims := [], flushing := false, again := false } } }
    .next (((s.setFld F.LK_CTL_EN 0 0).drainAll).setFld F.LK_CTL_EN 0 (boolNat l.again)).serve
  else .next s

/-! ## Sealing -/

/-- The epoch that a 40-bit number names, counted without wrapping: the one nearest to the current epoch (R28). -/
def State.unwrapped (s : State) (e : Nat) : Nat :=
  let cur := s.time / 2 ^ s.fld F.MER_CFG_K
  let d := (e + 2 ^ 40 - cur % 2 ^ 40) % 2 ^ 40
  if d < 2 ^ 39 then cur + d else cur + d - 2 ^ 40

/-- SEAL_TIME_CONDITION (R31, R270): local time reaches the boundary of e plus the guard band, 2 x BOUND, while sure. -/
def execSealTimeCondition (e : Nat) (s : State) : Res :=
  let guard := ceilDiv (2 * s.fld F.MER_CFG_BOUND * second) 1000000000000
  let s := s.reach ((s.unwrapped e + 1) * 2 ^ s.fld F.MER_CFG_K + guard)
  if s.unsure then .next s
  else .next { s with pipe := { s.pipe with
    timeReached := some (match s.pipe.timeReached with | some x => epochMax x (e % 2 ^ 40) | none => e % 2 ^ 40) } }

/-- The highest epoch that may be sealed now (R181, R287), if any: the time condition, no open write at or below it, and
on a follower the lowest SEAL_MARK. -/
def State.sealable (s : State) : Option Nat :=
  match s.pipe.timeReached with
  | none => none
  | some t =>
    let e := match s.oldestOpen with
      | some o => epochMin t ((o + 2 ^ 40 - 1) % 2 ^ 40)
      | none => t
    if s.twin.leader ∨ (s.twin.state ≠ .resync ∧ s.twin.state ≠ .inSync) then some e
    else
      (List.range 8).foldl (fun (b : Option Nat) r =>
        match b, (SMap.look s.twin.rx r).bind TwinRx.sealMark with
        | some x, some m => some (epochMin x m)
        | _, _ => none) (some e)

/-- SEAL_MARK goes out on every slice QP, one microsecond after the last one at the earliest (R287). -/
def State.sealMarks (s : State) : State :=
  if s.twin.markDue && s.forwarding && (match s.twin.sealSent with | some t => decide (t + us 1 ≤ s.mono) | none => true) then
    let t := { s with twin := { s.twin with sealSent := some s.mono, markDue := false } }
    (List.range 8).foldl (fun t r => (t.sendRecord r 6 false 0 0 0 (leBytes 8 s.pipe.sealedE) .control).2) t
  else s

/-- EPOCH_SEAL (R181, R31, R287): the sealed epoch rises to the highest epoch that may be sealed, never falls, and the
leader tells it on every slice QP, at most once per microsecond. -/
def execEpochSeal (s : State) : Res :=
  if s.unsure then .next s
  else match s.sealable with
    | none => .next s
    | some e =>
      if serialLater 40 e s.pipe.sealedE then
        let s := { s with pipe := { s.pipe with sealedE := e } }
        .next ({ s with twin := { s.twin with markDue := s.forwarding } }.sealMarks).serve
      else .next s

/-! ## Line reads -/

/-- LINE_READ_DONE (R192, R204 to R207, R210, R211, R34): a DRAM read returns, at its turn in its subchannel, with the device
errors `es`. -/
def execLineReadDone (rid : Nat) (es : List DevErr) (s : State) : Res :=
  match SMap.look s.pipe.reads rid with
  | none => .next s
  | some r =>
    if r.healing then .next s
    else match s.takeTurn (.read rid) r.line with
    | (false, s) => .next s
    | (true, s) =>
      let s := s.touchBank r.line
      let d := decodeBezel r.mark (syndromes r.chk es)
      let data := decodedBytes r.base es d
      let heal (s : State) (fresh : Bool) : State :=
        { s with pipe := { s.pipe with
          reads := SMap.ins s.pipe.reads rid { r with healing := true } } }.startHeal r.line (.read rid) fresh
      match d with
      | .clean => .next (s.finishRead rid r data .ok).serve
      | .fixed dev _ =>
        let s := s.corrected r.source r.line dev
        let s := if r.stale then s else s.repair r.line r.base data r.chk
        .next (s.finishRead rid r data .ok).serve
      | .poisoned =>
        let s := if r.what = .scrub then
            { s with bezel := { s.bezel with poisonedNow := s.bezel.poisonedNow + 1 } } else s
        if s.canHeal then .next (heal s false) else .next (s.finishRead rid r [] .uncorrectable).serve
      | .bad =>
        let s := s.bezelEvent 1 r.source r.line 15 7
        if s.canHeal then .next (heal s true)
        else
          let s := if r.full then s else s.poisonNew r.line r.source
          .next (s.finishRead rid r [] .uncorrectable).serve

/-- HEAL_TIMEOUT (R211): no HEAL_RESP within 100 us, so there is no heal. -/
def execHealTimeout (tag : Nat) (s : State) : Res := .next (s.noHeal tag).serve

end Sys2Proof.Machine
end

