-- ==== Sys2Proof/Machine/Channels.lean ====
section
/-! DEFINITION. Commands and events of the memory channels (chapter 8) and of the Bezel ECC and Scrubber unit (chapter 9):
temperatures, sideband, refresh, predictor, retraining, training; marks, scrubber, retirement, injection. -/

namespace Sys2Proof.Machine

/-- Go on only with a bank that a subchannel can have. -/
def onBank (ch sub bank : Nat) (k : Res) : Res :=
  onUnit 0x50 ch (if sub < 2 ∧ bank < 1024 then k else .fault (.noSuchUnit 0x50 (bankKey ch sub bank)))

/-- May a path use the expert registers of a unit (R58)? -/
def State.expertOk (s : State) (p : Path) (cls u : Nat) : Bool := p.trusted && s.fldOf cls F.BLK_XACC_OPEN u != 0

/-- An expert access to an open unit restarts its 10 s (R59). -/
def State.expertUsed (s : State) (cls u : Nat) : State := { s with xlast := SMap.ins s.xlast (unitKey cls u) s.mono }

/-! ## Channels -/

/-- Is a channel's highest temperature at or above MC_TEMP.CRIT? -/
def State.tempCrit (s : State) (ch : Nat) : Bool :=
  decide ((s.fld F.MC_TEMP_CRIT ch : Int) ≤ signed 8 (s.fld F.MC_TEMP_HOT ch))

/-- Does a DIMM of the channel leave three polls in a row without an answer? -/
def State.dimmSilent (s : State) (ch : Nat) : Bool := (List.range 2).any (fun i => SMap.get 0 s.chan.missed (2 * ch + i) == 3)

/-- Act on the temperature of a channel at the three thresholds (R190), each fault raised as its threshold is reached; a
silent DIMM counts as above 85 degrees and at THROTTLE. -/
def State.judgeTemp (s : State) (ch : Nat) : State :=
  let hot := signed 8 (s.fld F.MC_TEMP_HOT ch)
  let silent := s.dimmSilent ch
  let throttle := silent || decide ((s.fld F.MC_TEMP_THROTTLE ch : Int) ≤ hot)
  let crit := s.tempCrit ch
  let was := s.flag F.MC_TEMP_THROTTLING ch
  let wasCrit := s.chan.crit.contains ch
  let s := s.setFld F.MC_TEMP_DOUBLE ch (boolNat (silent || decide (85 < hot)))
  let s := s.setFld F.MC_TEMP_THROTTLING ch (boolNat throttle)
  let others := s.chan.crit.filter (fun c => c != ch)
  let s := { s with chan := { s.chan with crit := if crit then ch :: others else others } }
  let s := if throttle && !was then s.raise 0x50 ch 2 0x02 0 (unsigned 8 hot) else s
  if crit && !wasCrit then s.raise 0x50 ch 3 0x03 0 (unsigned 8 hot) else s

/-- DIMM_TEMP_POLL (R190, R189): the sensors of a channel's DIMMs answer (none: no answer). -/
def execDimmTempPoll (ch : Nat) (temps : List (Option Int)) (s : State) : Res :=
  onUnit 0x50 ch <|
    let old := fun i => SMap.get 0 s.chan.missed (2 * ch + i)
    let ts := (temps.take 2).zipIdx
    let missed := ts.foldl (fun m x =>
      SMap.put 0 m (2 * ch + x.2) (if x.1.isNone then min 3 (old x.2 + 1) else 0)) s.chan.missed
    let nowSilent := ts.filter (fun x => x.1.isNone && old x.2 == 2)
    let s := { s with chan := { s.chan with missed := missed } }
    let s := match ts.filterMap (fun x => x.1) with
      | [] => s
      | t :: rest => s.setFld F.MC_TEMP_HOT ch (unsigned 8 (rest.foldl max t))
    .next ((nowSilent.foldl (fun (t : State) x => t.raise 0x50 ch 2 0x04 x.2) s).judgeTemp ch)

/-- Does a channel hold THERM_N (R190, R438)? -/
def State.chanCritical (s : State) (ch : Nat) : Bool :=
  s.tempCrit ch && s.fld F.MC_STAT_STATE ch != 0

/-- THERM_N is asserted (R190, R438). -/
def State.thermN (s : State) : Bool := s.pow.thermN || (List.range 16).any s.chanCritical

/-- SIDEBAND_IBI (R189): an in-band interrupt of an SPD hub is taken on bus `bus` once the bus runs I3C. -/
def execSidebandIbi (bus dimm : Nat) (s : State) : Res :=
  if bus < 4 ∧ dimm < 8 then
    .next (if s.chan.i3c.contains bus then { s with chan := { s.chan with ibis := s.chan.ibis ++ [(bus, dimm)] } } else s)
  else .fault (.noSuchUnit 0x50 bus)

/-- The effect of a sideband command (R201): one register access of a DIMM target, or PRIVILEGE for a PMIC output outside
its SPD limits. -/
def State.sideband (s : State) (ch : Nat) (k : Sideband) : Status × State :=
  if k.isWrite ∧ k.outOfLimits then (.privilege, s.setFld F.MCX_SB_STATUS ch Status.privilege.code)
  else
    let s := s.emit (.sideband ch k.target k.reg k.value k.isWrite)
    let s := if k.isWrite then s else s.setFld F.MCX_SB_DATA ch k.value
    (.ok, s.setFld F.MCX_SB_STATUS ch 0)

/-- SIDEBAND_CMD (R201, R189): a write of MCX_SB.CMD on an open channel unit. -/
def rowSidebandCmd (p : Path) (ch : Nat) (k : Sideband) (s : State) : Res :=
  onUnit 0x50 ch <|
    if s.expertOk p 0x50 ch then ends p ((s.expertUsed 0x50 ch).sideband ch k) else ends p (.privilege, s)

/-- Does higher-precedence traffic wait on a subchannel (R196)? -/
def State.subBusy (s : State) (ch sub : Nat) : Bool :=
  !(s.writesOf ch sub).isEmpty || (s.queuedReads ch sub).any (fun x => !x.scrub)

/-- The banks of a subchannel refresh: all of them in all-bank mode in P0, else one. Rows close, and what was postponed is
issued with it. -/
def State.refresh (s : State) (ch sub bank : Nat) : State :=
  let k := bankKey ch sub bank
  let b := SMap.get newBank s.chan.banks k
  let n := b.postponed + 1
  let done (x : BankSt) : BankSt := { x with row := none, postponed := 0, acts := 0 }
  let all := s.flag F.MCX_REF_MODE ch && s.pow.state == .p0
  let base := bankKey ch sub 0
  let banks := if all then
      (s.chan.banks.map (fun p => if base ≤ p.1 ∧ p.1 < base + 1024 then (p.1, done p.2) else p)).filter
        (fun p => p.2 != newBank)
    else SMap.put newBank s.chan.banks k (done b)
  let cmd : Out := if all then .refreshAll ch sub else .refresh ch sub bank
  let rfm : List Out := if Config.refreshManagement b.acts then [.refreshManagement ch sub bank] else []
  { s with chan := { s.chan with banks := banks }, out := s.out ++ List.replicate n cmd ++ rfm }.count 0x50 ch 4 n

/-- REFRESH_DUE (R196, R192): tREFI passes for a bank; the refresh is postponed within MCX_REF.POSTPONE while traffic is
queued, and otherwise issued with those postponed, and refresh management where the DIMM's SPD asks for it. -/
def execRefreshDue (ch sub bank : Nat) (s : State) : Res :=
  onBank ch sub bank <|
    if s.fld F.MC_STAT_STATE ch ≠ 2 then .next s
    else
      let k := bankKey ch sub bank
      let b := SMap.get newBank s.chan.banks k
      if s.subBusy ch sub ∧ b.postponed < s.fld F.MCX_REF_POSTPONE ch then
        .next ({ s with chan := { s.chan with
          banks := SMap.put newBank s.chan.banks k { b with postponed := b.postponed + 1 } } }.count 0x50 ch 5)
      else .next (s.refresh ch sub bank)

/-- Does a bank's queue hold a hit for its open row (R194)? -/
def State.hitQueued (s : State) (ch sub bank : Nat) : Bool :=
  let hit (line : Nat) : Bool := (s.place line).bankIdx == bank && s.rowHit line
  (s.writesOf ch sub).any (fun w => hit w.line) || (s.queuedReads ch sub).any (fun x => hit x.line)

/-- PAGE_IDLE_CLOSE (R194): IDLE ns without an access to an open row that the predictor does not keep, and no queued hit. -/
def execPageIdleClose (ch sub bank : Nat) (s : State) : Res :=
  onBank ch sub bank <|
    let k := bankKey ch sub bank
    let b := SMap.get newBank s.chan.banks k
    let keep := if s.flag F.MCX_PCP_FORCE_CLOSE ch then false
      else if s.flag F.MCX_PCP_FORCE_OPEN ch then true
      else decide (s.fld F.MCX_PCP_THRESH ch ≤ b.counter)
    if b.row.isSome ∧ ¬ keep ∧ ¬ s.hitQueued ch sub bank then
      let s := s.reachLocal (b.last + ns (s.fld F.MCX_PCP_IDLE ch))
      .next ({ s with chan := { s.chan with banks := SMap.put newBank s.chan.banks k { b with row := none } } }.emit
        (.precharge ch sub bank))
    else .next s

/-- The next retraining boundary of a subchannel that it has not taken: the first whose step is still to come (R197). -/
def State.nextBoundary (s : State) (sub : Nat) : Nat :=
  let period := 2 ^ (33 + s.fld F.MC_RETRAIN_INTERVAL (sub / 2))
  max (SMap.get 0 s.chan.boundary sub) (ceilDiv (s.time - us (2 * sub)) period)

/-- RETRAIN_BOUNDARY (R197, Table 8.2): the two steps of subchannel j = 2c + s, at its next boundary plus j x 2 us: ZQ
calibration with its latch; `drift` in ps as the DQS oscillator shows it. -/
def execRetrainBoundary (sub drift : Nat) (s : State) : Res :=
  onUnit 0x50 (sub / 2) <|
    let ch := sub / 2
    if s.fld F.MC_STAT_STATE ch ≠ 2 then .next s
    else
      let n := s.nextBoundary sub
      let s := (s.reach (n * 2 ^ (33 + s.fld F.MC_RETRAIN_INTERVAL ch) + us (2 * sub))).count 0x50 ch 7
      let s := { s with chan := { s.chan with boundary := SMap.put 0 s.chan.boundary sub (n + 1) } }.emit
        (.zqCalibration ch (sub % 2))
      if Config.driftRange < drift then .next (s.raise 0x50 ch 1 0x06 (sub % 2))
      else if s.fld F.MCX_RETRAIN_DRIFT ch < drift then
        .next { s with chan := { s.chan with timing := SMap.put 0 s.chan.timing sub drift } }
      else .next s

/-! ## Marks -/

/-- Subchannel-ranks that the population has, and an INDEX settled within it (R223). -/
def State.srExists (s : State) (idx : Nat) : Bool :=
  decide (idx < 128) && decide (idx % 4 < s.fld F.MC_STAT_DPC (idx / 8) * s.fld F.MC_STAT_RANKS (idx / 8))

/-- Set or clear the mark of a subchannel-rank by BZ_MARK (R209). -/
def State.setMark (s : State) (idx dev : Nat) : State :=
  let d := if dev ≤ 9 then dev else 0
  { s with bezel := { s.bezel with marks := SMap.ins s.bezel.marks idx d } }.markEvent 4 idx d 2

def State.clearMark (s : State) (idx : Nat) : State :=
  { s with bezel := { s.bezel with marks := SMap.del s.bezel.marks idx } }.markEvent 5 idx
    ((SMap.look s.bezel.marks idx).getD 15) 0

/-- The INDEX that a command settles on (R223). -/
def State.markIdx (s : State) (idx : Nat) : Nat := if s.srExists idx then idx else 0

/-- MARK_SET (R209, R222, R223). -/
def rowMarkSet (p : Path) (idx dev : Nat) (s : State) : Res :=
  if p.trusted then ends p (.ok, s.setMark (s.markIdx idx) dev) else ends p (.privilege, s)

/-- MARK_CLEAR (R209, R222). -/
def rowMarkClear (p : Path) (idx : Nat) (s : State) : Res :=
  if p.trusted then ends p (.ok, s.clearMark (s.markIdx idx)) else ends p (.privilege, s)

/-- MARK_AUTO_SET (R209, R221): LINES distinct lines of one device corrected within WINDOW seconds. -/
def execMarkAutoSet (idx dev : Nat) (s : State) : Res :=
  if s.flag F.BZX_MARK_AUTO ∧ (SMap.look s.bezel.marks idx).isNone ∧ s.fld F.BZX_MARK_LINES ≤ s.linesSeen idx dev then
    match (s.bezel.seen.filter (fun x => x.sr == idx && x.device == dev)).getLast? with
    | some x =>
      .next ({ s with bezel := { s.bezel with marks := SMap.ins s.bezel.marks idx dev } }.bezelEvent
        4 x.source x.line dev 2)
    | none => .next s
  else .next s

/-! ## Retirement -/

/-- Subchannel-ranks, the spare pool and a bank's segment in 4 KiB units (R217). -/
def State.srCount (s : State) : Nat := 32 * s.fld F.MC_STAT_DPC 0 * s.fld F.MC_STAT_RANKS 0
def State.poolUnits (s : State) : Nat := s.dramBytes / 256 / 4096
def State.bankUnits (s : State) : Nat := if s.srCount = 0 then 0 else s.dramBytes / (32 * s.srCount) / 4096

/-- Free spare pool in 4 KiB units (BZ_SPARE.FREE). -/
def State.spareFree (s : State) : Nat :=
  s.poolUnits - s.bezel.pages.length - s.bezel.bankList.length * s.bankUnits

/-- The record of a retirement goes to the retirement log in the keepsake (R219, Table 16.1). -/
def State.recordRetire (s : State) : State :=
  let n := s.bezel.pages.length + s.bezel.bankList.length - 1
  (s.flashWait (.program (3584 * 65536 + 32 * n) ((List.range 32).map (Config.retireByte n)) .retirement)).kick

/-- Start a retirement (R219, Table 9.4): BUSY once its record is being written, it waits or moves, or its code at once. -/
def State.retire (s : State) (off : Nat) (bank : Bool) (by_ : Option Nat) : Status × State :=
  if s.pow.state = .p2 then (.privilege, s)
  else if s.vault.pmBytes ≤ off then (.windowBounds, s)
  else
    let inBank := s.bezel.bankList.any (fun b => s.sameBank (b / 64) (off / 64))
    let dup := if bank then inBank else inBank || s.bezel.pages.contains (off / 4096)
    let full := if bank then decide (s.spareFree < s.bankUnits) || decide (16 ≤ s.bezel.bankList.length)
      else decide (s.spareFree < 1) || decide (16384 ≤ s.bezel.pages.length)
    if dup then (.alreadyDone, s)
    else if full then (.tierFull, s.raise 0x51 0 2 0x08 off (boolNat bank))
    else
      let total := if bank then s.bankUnits * 64 else 64
      let b := { s.bezel with
        retiring := s.bezel.retiring ++ [⟨bank, off, total, by_, false⟩],
        pages := if bank then s.bezel.pages else s.bezel.pages ++ [off / 4096],
        bankList := if bank then s.bezel.bankList ++ [off] else s.bezel.bankList }
      (.busy, State.recordRetire { s with bezel := b })

/-- A BZ_RETIRE command (R222): its status stands in BZ_RETIRE_RES. -/
def State.retireCmd (s : State) (p : Path) (off : Nat) (bank : Bool) : Status × State :=
  if ¬ p.trusted then (.privilege, s)
  else
    let r := s.retire off bank none
    let t := r.2.setFld F.BZ_RETIRE_RES_STATUS 0 r.1.code
    (.ok, if r.1 = .busy then t.setFld F.BZ_RETIRE_RES_MOVED 0 0 else t)

/-- BZ_RETIRE_PAGE (R218, R219). -/
def rowBzRetirePage (p : Path) (off : Nat) (s : State) : Res :=
  ends p (s.retireCmd p off false)

/-- BZ_RETIRE_BANK (R218, R219). -/
def rowBzRetireBank (p : Path) (off : Nat) (s : State) : Res :=
  ends p (s.retireCmd p off true)

/-- RETIREMENT_DONE (R219, R221): every line of the oldest retirement has moved. -/
def execRetirementDone (s : State) : Res :=
  match s.bezel.retiring with
  | [] => .next s
  | r :: rest =>
    if s.bezel.moved < r.total then .next s
    else
      let s := State.moveNext { s with bezel := { s.bezel with retiring := rest, moved := 0 } }
      let s := s.bezelEvent (if r.bank then 7 else 6) 7 (r.off / 64) 15 7
      match r.by_ with
      | none => .next ((s.setFld F.BZ_RETIRE_RES_STATUS 0 Status.ok.code).setFld F.BZ_RETIRE_RES_MOVED 0 r.total)
      | some q => .next (s.tellLinks (fun n w => if n = q ∧ w = .retire then some .ok else none))

/-- BZ_RETIRE_RES.MOVED: the lines that the last command of BZ_RETIRE has moved so far. -/
def State.movedNow (s : State) : Nat :=
  match (s.bezel.retiring.filter (fun r => r.by_.isNone)).getLast? with
  | some r => if s.bezel.retiring.head? = some r then s.bezel.moved else 0
  | none => s.fld F.BZ_RETIRE_RES_MOVED

/-! ## Scrubber -/

/-- The scrub window period in units of 2^-40 s (R215). -/
def State.scrubPeriod (s : State) : Nat := 2 ^ (36 + s.fld F.BZ_SCRUB_WIN_K)

/-- SCRUB_WINDOW_OPEN (R215): a window opens at a whole multiple of the period; the scrubber goes on. -/
def execScrubWindowOpen (s : State) : Res :=
  if s.flag F.BZ_SCRUB_EN ∧ ¬ s.bezel.window then
    let s := s.reach (ceilDiv s.time s.scrubPeriod * s.scrubPeriod)
    let start := if s.bezel.next = 0 then s.mono else s.bezel.lapStart
    .next { s with bezel := { s.bezel with window := true, lapStart := start } }.scrubNext
  else .next s

/-- SCRUB_WINDOW_CLOSE (R215): WIN_DUTY sixteenths of the period later; never with WIN_DUTY 16. -/
def execScrubWindowClose (s : State) : Res :=
  if s.bezel.window ∧ s.fld F.BZ_SCRUB_WIN_DUTY < 16 then
    let s := s.reach (s.time / s.scrubPeriod * s.scrubPeriod + s.fld F.BZ_SCRUB_WIN_DUTY * (s.scrubPeriod / 16))
    .next { s with bezel := { s.bezel with window := false } }
  else .next s

/-- SCRUB_LAP_END (R216): the scrubber has reached the last line; `secs` is the lap's time in whole seconds. -/
def execScrubLapEnd (secs : Nat) (s : State) : Res :=
  if s.bezel.next * 64 < s.dramBytes ∨ s.bezel.next = 0 then .next s
  else
    let s := (s.setFld F.BZ_LAP_LAST 0 secs).setFld F.BZ_SCRUB_LATE 0 0
    let s := s.setFld F.BZ_STAT_POISONED 0 s.bezel.poisonedNow
    .next { s with bezel := { s.bezel with next := 0, lapStart := s.mono, poisonedNow := 0 } }.scrubNext

/-- SCRUB_LAP_LATE (R216): a lap in progress passes LAP_MAX hours. -/
def execScrubLapLate (s : State) : Res :=
  if s.bezel.next = 0 ∨ s.flag F.BZ_SCRUB_LATE then .next s
  else
    let s := s.reachLocal (s.bezel.lapStart + s.fld F.BZ_SCRUB_LAP_MAX * 3600 * second)
    .next ((s.setFld F.BZ_SCRUB_LATE 0 1).raise 0x51 0 1 0x09 0 s.bezel.next)

/-! ## Injection -/

/-- May an injection name this line: anywhere, but only in the test region while DEPLOYED (R220)? -/
def State.injectOk (s : State) (line : Nat) : Bool :=
  s.life.state != .deployed ||
    (decide (s.fld F.BZX_TEST_BASE * 4096 ≤ line * 64) &&
     decide (line * 64 < (s.fld F.BZX_TEST_BASE + s.fld F.BZX_TEST_SIZE) * 4096))

/-- BZX_INJ.NOW (R220): the line's current content is stored again at once with the armed check change. -/
def State.injectNow (s : State) : Status × State :=
  let line := s.fld F.BZX_INJ_OFFSET
  if s.injectOk line then
    let s := (s.setPmLine line (s.lineNow line)).setChk line s.injection
    (.ok, s.setFld F.BZX_INJ_ARM 0 0)
  else (.privilege, s)

/-- INJECT_NOW (R220, R58). -/
def rowInjectNow (p : Path) (s : State) : Res :=
  if s.expertOk p 0x51 0 then ends p (s.expertUsed 0x51 0).injectNow else ends p (.privilege, s)

end Sys2Proof.Machine
end

