-- ==== Sys2Proof/Machine/Vault.lean ====
section
/-! DEFINITION. The Vault Engine (chapter 10): plates and strands (R227, R237), drive faults (R242), cleaning (R239),
measurement and COVER (R234, R235), the drain (R245), mounting and the fill (R247 to R249), and its commands. -/

namespace Sys2Proof.Machine

/-! ## Strands and plates -/

/-- Payload plates of a strand (R237). -/
def plateRoom : Nat := 445

/-- The open strand, with its SEQ. -/
def State.openStrand (s : State) : Option (Nat × Strand) := s.vault.strands.find? (fun p => p.2.state == 0)

/-- The lowest slot that no strand holds. -/
def State.freeSlot (s : State) : Nat :=
  ((List.range (s.vault.strands.length + 1)).find? (fun i => !s.vault.strands.any (fun p => p.2.slot == i))).getD 0

/-- Drives now lost. -/
def State.lostDrives (s : State) : List Nat :=
  (List.range 8).filter (fun d => match SMap.look s.vault.drives d with | some x => x.lost | none => true)

/-- Open a strand under the active version of the vault slot (R237, R344). -/
def State.newStrand (s : State) : State :=
  let ver := match (s.slot s.vaultSlot).active with | some c => c.ver | none => 0
  let n := s.vault.nextSeq
  let st : Strand := ⟨s.freeSlot, ver, s.epoch, 0, false, false, 0, 0, [], 0, s.mono, s.lostDrives, none⟩
  { s with vault := { s.vault with strands := SMap.ins s.vault.strands n st, nextSeq := n + 1 } }

/-- The drive that holds plate p of a strand in a slot (R237): the chunk on drive (slot mod 8) is parity. -/
def plateDrive (slot p : Nat) : Nat :=
  (((List.range 8).filter (fun d => d != slot % 8))[p % 7]?).getD 0

/-- Bytes written to the drive of a plate (Table 17.2); none to a drive that the strand lacks. -/
def State.wroteDrive (s : State) (x : Strand) (d n : Nat) : State :=
  if n = 0 ∨ x.lacks.contains d then s else s.count 0x60 0 d n

/-- At the close of a strand: the plates with KIND 0, the summary and the parity chunk are written (R237). -/
def State.wroteClose (s : State) (x : Strand) : State :=
  (List.range 8).foldl (fun (t : State) d =>
    if d = x.slot % 8 then t.wroteDrive x d (64 * 4096)
    else
      let done := ((List.range x.plates.length).filter (fun p => plateDrive x.slot p == d)).length
      t.wroteDrive x d ((64 - done) * 4096)) s

/-- n more plates are sealed under version `ver` of the vault slot (R334, R443); none when LIMIT or a reservation stops
them. During a drain or a dormancy entry neither does (Table 14.2). Only the active version counts its USES. -/
def State.sealPlates (s : State) (ver n : Nat) : Option State :=
  let forced := s.vault.draining || s.vault.dormant
  let k := s.slot s.vaultSlot
  let s := ((List.range n).foldl (fun (t : State) _ => t.occupy 3 4096) s).count 0x90 0 6 n
  match k.active with
  | none => if s.holdsVer s.vaultSlot ver then some (s.count 0x90 0 0 n) else none
  | some c =>
    if c.ver ≠ ver then (if s.holdsVer s.vaultSlot ver then some (s.count 0x90 0 0 n) else none)
    else if ¬ forced ∧ (c.limit < c.uses + n ∨ (s.kept s.vaultSlot ∧ s.reserved s.vaultSlot ver < c.uses + n)) then none
    else
      let s := (s.setSlot s.vaultSlot { k with active := some { c with uses := c.uses + n } }).count 0x90 0 0 n
      some (if c.uses / useStep ≠ (c.uses + n) / useStep then s.reserve s.vaultSlot ver (c.uses + n) else s)

/-- The version of the open strand, or the active version, under which a new strand would open (R344). -/
def State.plateVer (s : State) : Nat :=
  match s.openStrand with
  | some (_, x) => x.keyVer
  | none => (match (s.slot s.vaultSlot).active with | some c => c.ver | none => 0)

/-- Is there a slot for the next plate: a strand is open, or a strand slot is free (R236)? -/
def State.slotLeft (s : State) : Bool := s.openStrand.isSome || decide (s.vault.strands.length < s.vault.slots)

/-- Put a plate into the open strand, opening one if there is none; full strands start to close. Answers its SEQ. -/
def State.addPlate (s : State) (p : Plate) : Nat × State :=
  let s := if s.openStrand.isNone then s.newStrand else s
  match s.openStrand with
  | none => (0, s)
  | some (n, x) =>
    let ps := x.plates ++ [p]
    let s := s.wroteDrive x (plateDrive x.slot x.plates.length) 4096
    let x := { x with plates := ps, state := if ps.length < plateRoom then 0 else 1 }
    (n, { s with vault := { s.vault with strands := SMap.ins s.vault.strands n x } })

/-- The latest data plate of a granule among closed strands: the highest SEQ, then the highest position (R247). -/
def State.latestPlate (s : State) (g : Nat) : Option (Nat × Nat × Plate) :=
  s.vault.strands.foldl (fun b p =>
    if p.2.state = 2 then
      p.2.plates.zipIdx.foldl (fun b x => if x.1.kind = 1 ∧ x.1.granule = g then some (p.1, x.2, x.1) else b) b
    else b) none

/-- The latest data plate of a granule among all strands, as the map names it while a newer strand is still open (R239). -/
def State.newestPlate (s : State) (g : Nat) : Option (Nat × Nat) :=
  s.vault.strands.foldl (fun b p =>
    p.2.plates.zipIdx.foldl (fun b x => if x.1.kind = 1 ∧ x.1.granule = g then some (p.1, x.2) else b) b) none

/-- What the engine's read of a line comes to (R227). -/
inductive VaultRead where
  | bytes (data : List Byte)
  | poison (data : List Byte)
  | heal
  deriving DecidableEq, Repr

/-- Read one line for a plate, with device errors `es`. -/
def State.vaultLine (s : State) (line : Nat) (es : List DevErr) : VaultRead × State :=
  if (s.lkLine line).isSome ∨ (s.storeOf line).isSome then (.bytes (s.lineNow line), s)
  else
    let s := s.touchBank line
    let base := s.pmLine line
    let r := decodeBezel (s.markOf line) (syndromes (s.chkOf line) es)
    match r with
    | .clean => (.bytes (s.lineNow line), s)
    | .fixed d _ =>
      let t := (s.corrected 4 line d).repair line base (decodedBytes base es r) (s.chkOf line)
      (.bytes (t.lineNow line), t)
    | .poisoned => (.poison base, s)
    | .bad =>
      let s := s.bezelEvent 1 4 line 15 7
      if s.canHeal then (.heal, s.startHeal line (.vault (granuleOf line) line) true)
      else (.poison base, s.poisonNew line 4)

/-- Read the 64 lines of a granule: bytes by position, poison mask, whether a heal must be waited for. -/
def State.vaultGranule (s : State) (g : Nat) (es : List (Nat × List DevErr)) : List Byte × Nat × Bool × State :=
  (List.range 64).foldl (fun (a : List Byte × Nat × Bool × State) i =>
    let e := (es.filter (fun x => x.1 == i)).flatMap (fun x => x.2)
    match a.2.2.2.vaultLine (64 * g + i) e with
    | (.bytes d, t) => (a.1 ++ d, a.2.1, a.2.2.1, t)
    | (.poison d, t) => (a.1 ++ d, a.2.1 + 2 ^ i, a.2.2.1, t)
    | (.heal, t) => (a.1 ++ List.replicate 64 0, a.2.1, true, t)) ([], 0, false, s)

/-- A data plate. -/
def dataPlate (g epoch poison : Nat) (bs : List Byte) : Plate :=
  ⟨1, g, epoch, poison, (bs.zipIdx.filter (fun x => x.1 != 0)).map (fun x => (x.2, x.1)), []⟩

/-- A channel trains or stands in self-refresh: the engine reads nothing yet (R246, R250). -/
def State.dramResting (s : State) : Bool :=
  s.chan.held || (List.range 16).any (fun c => s.fld F.MC_STAT_STATE c == 1 || s.fld F.MC_STAT_STATE c == 3)

/-- Is a granule of the drain set as fixed at the warning; a dormancy entry vaults every dirty granule (R245, R250)? -/
def State.toDrain (s : State) (g : Nat) : Bool := s.vault.dormant || s.vault.fixed.contains g

/-- May the engine take a dirty granule now: no plate holds it as it stands, and its content is in DRAM? -/
def State.mayVault (s : State) (g : Nat) (d : Dirty) : Bool :=
  (d.since || d.strand.isNone) && !s.vault.unfilled.contains g && (!s.vault.draining || s.toDrain g)

/-- Where a granule stands in the order of R228: granules with UNTWINNED set first, then by VLTX_BUDGET.ORDER. -/
def State.vaultRank (s : State) (p : Nat × Dirty) : Nat × Nat :=
  (if (s.twinCovered || s.vault.draining) && p.2.untwinned != 0 then 0 else 1,
   if s.flag F.VLTX_BUDGET_ORDER then p.1 else p.2.order)

/-- The granule that is vaulted next (R228, Sequence 10.1). -/
def State.nextGranule (s : State) : Option (Nat × Dirty) :=
  (s.vault.dirty.filter (fun p => s.mayVault p.1 p.2)).foldl (fun (b : Option (Nat × Dirty)) p =>
    match b with
    | none => some p
    | some y =>
      let x := s.vaultRank p
      let z := s.vaultRank y
      if x.1 < z.1 ∨ (x.1 = z.1 ∧ x.2 < z.2) then some p else b) none

/-- Below VLTX_BUDGET.HI a plate waits for its share of BG_RATE GB/s; else the drives alone set the rate (R228), and `took` us
pass until they take it. -/
def State.paced (s : State) (took : Nat) : State :=
  if s.vault.draining || s.vault.dormant || s.vaultHigh || s.reverting then s.advance (us took)
  else
    let s := s.reachLocal s.vault.bgNext
    { s with vault := { s.vault with
      bgNext := s.mono + ceilDiv (4096 * second) (1000000000 * max 1 (s.fld F.VLTX_BUDGET_BG_RATE)) } }

/-- Take a granule that has been read: a sealed plate of the open strand holds it. -/
def State.putPlate (s : State) (g : Nat) (d : Dirty) (poison : Nat) (bs : List Byte) : State :=
  match s.sealPlates s.plateVer 1 with
  | none => s
  | some s =>
    let last := match SMap.look s.vault.dirty g with | some d => d.last | none => d.last
    let p := s.addPlate (dataPlate g last poison bs)
    let s := p.2.count 0x60 0 20
    { s with vault := { s.vault with dirty := s.vault.dirty.map (fun x =>
      if x.1 = g then (x.1, { x.2 with since := false, strand := some p.1 }) else x) } }

/-- Does the engine stand still: background vaulting is off or pauses for a measurement, no slot is free, the DRAM rests, or a
heal of its last read is out (R227, R235)? -/
def State.vaultRests (s : State) : Bool :=
  let forced := s.vault.draining || s.vault.dormant
  (!forced && (!s.flag F.VLT_CFG_EN || s.vault.measuring || s.fld F.VLT_STAT_STATE != 3)) || !s.slotLeft || s.dramResting ||
  s.pipe.heals.any (fun p => match p.2.what with | .vault _ _ => true | _ => false)

/-- GRANULE_VAULT (R226 to R228, R237, R238): the dirty granule whose turn it is is read in line order into a plate of the open
strand, once a cipher pipeline takes it (R331). During a drain or a dormancy entry neither a limit nor a reservation of the vault slot holds it back (Table 14.2). -/
def execGranuleVault (took : Nat) (es : List (Nat × List DevErr)) (s : State) : Res :=
  match s.nextGranule with
  | none => .next (s.waitPlate false)
  | some (g, d) =>
    if s.vaultRests then .next s
    else if ¬ s.mayPipe 3 then .next (s.waitPlate true)
    else
      let r := ((s.waitPlate false).paced took).vaultGranule g es
      .next (if r.2.2.1 then r.2.2.2 else r.2.2.2.putPlate g d r.2.1 r.1)

/-- Start to close the open strand (R237). -/
def State.closeStrand (s : State) : State :=
  match s.openStrand with
  | some (n, x) => { s with vault := { s.vault with strands := SMap.ins s.vault.strands n { x with state := 1 } } }
  | none => s

/-- STRAND_CLOSE_TIMEOUT (R237): CLOSE us after a strand opened it closes. -/
def execStrandCloseTimeout (s : State) : Res :=
  match s.openStrand with
  | some (_, x) => .next (s.reachLocal (x.openedAt + us (s.fld F.VLTX_STRAND_CLOSE))).closeStrand
  | none => .next s

/-- DEGRADED clears once no drive is lost and no strand lacks a chunk (Table 10.7). -/
def State.settleDegraded (s : State) : State :=
  if s.lostDrives.isEmpty ∧ s.vault.strands.all (fun p => p.2.lacks.isEmpty) then
    let ds := s.vault.drives.map (fun p => (p.1, { p.2 with rebuilding := false }))
    { s with vault := { s.vault with drives := ds } }.setFld F.VLT_STAT_DEGRADED 0 0
  else s

/-- A strand is closed (R237, R226): its granules become clean where nothing was Placed since; strands cleaned into it
give up their slots. -/
def State.strandClosed (s : State) (n : Nat) (x : Strand) : State :=
  let x := { x with
    state := 2, closeEpoch := s.epoch, closeTime := s.secs, sealedE := s.pipe.sealedE, drain := s.vault.draining }
  let dirty := (s.vault.dirty.filter (fun p => p.2.since || p.2.strand != some n)).map (fun p =>
    if p.2.strand = some n then (p.1, { p.2 with strand := none }) else p)
  let strands := (SMap.ins s.vault.strands n x).filter (fun p => p.2.into != some n)
  ({ s with vault := { s.vault with dirty := dirty, strands := strands } }.count 0x60 0 19).settleDegraded

/-- The oldest strand that is closing. -/
def State.closingStrand (s : State) : Option (Nat × Strand) := s.vault.strands.find? (fun p => p.2.state == 1)

/-- The plates that a strand's close seals: those with KIND 0 and the summary (R237, R334). -/
def Strand.closePlates (x : Strand) : Nat := plateRoom - x.plates.length + 3

/-- A strand closes, its last plates sealed; none while the vault slot refuses them. -/
def State.closeSealed (s : State) (n : Nat) (x : Strand) : Option State :=
  (s.sealPlates x.keyVer x.closePlates).map (fun t => (t.wroteClose x).strandClosed n x)

/-- STRAND_CLOSED (R237): every plate, the parity chunk and the summary have completed. -/
def execStrandClosed (s : State) : Res :=
  match s.closingStrand with
  | some (n, x) => .next (match s.closeSealed n x with | some t => t.serve | none => s)
  | none => .next s

/-- PLATE_WRITE_ERROR (R242): the plate is written again in the open strand; the failing strand keeps it as KIND 0. -/
def execPlateWriteError (pos : Nat) (s : State) : Res :=
  match s.vault.strands.find? (fun p => p.2.state != 2 && decide (pos < p.2.plates.length)) with
  | none => .next s
  | some (n, x) =>
    match x.plates[pos]?, s.sealPlates s.plateVer 1 with
    | none, _ => .next s
    | _, none => .next s
    | some p, some s =>
      let x := { x with plates := x.plates.set pos ⟨0, 0, 0, 0, [], []⟩ }
      let s := { s with vault := { s.vault with strands := SMap.ins s.vault.strands n x } }
      let r := s.addPlate p
      let s := r.2.count 0x60 0 16
      .next { s with vault := { s.vault with dirty := s.vault.dirty.map (fun d =>
        if d.1 = p.granule ∧ p.kind = 1 ∧ d.2.strand = some n then (d.1, { d.2 with strand := some r.1 }) else d) } }

/-! ## Drives and cleaning -/

/-- Go on only with a drive that the part has. -/
def onDrive (d : Nat) (k : Res) : Res := onUnit 0x61 d k

/-- DRIVE_LOST (R242, Table 10.7): DEGRADED and a Critical fault, or a Fatal fault at the second loss. -/
def execDriveLost (d : Nat) (s : State) : Res :=
  onDrive d <|
    match SMap.look s.vault.drives d with
    | none => .next s
    | some x =>
      if x.lost then .next s
      else
        let already := !s.lostDrives.isEmpty
        let s := { s with vault := { s.vault with
          drives := SMap.ins s.vault.drives d { x with lost := true, rebuilding := false },
          strands := s.vault.strands.map (fun (p : Nat × Strand) => (p.1, { p.2 with lacks := addNew p.2.lacks d })) } }
        let s := s.setFld F.VLT_STAT_DEGRADED 0 1
        let s := s.setFld F.VLT_STAT_DRIVES 0 (s.fld F.VLT_STAT_DRIVES &&& (255 - 2 ^ d))
        .next (if already then s.raise 0x60 0 4 0x06 d else s.raise 0x60 0 3 0x05 d)

/-- DRIVE_REPLACED (R242): the replacement is rebuilt by cleaning every strand that lacks its chunk. -/
def execDriveReplaced (d : Nat) (s : State) : Res :=
  onDrive d <|
    match SMap.look s.vault.drives d with
    | none => .next s
    | some x =>
      if x.lost then
        let s := { s with vault := { s.vault with
          drives := SMap.ins s.vault.drives d { x with lost := false, rebuilding := true, sb0 := none, sb1 := none } } }
        .next (s.setFld F.VLT_STAT_DRIVES 0 (s.fld F.VLT_STAT_DRIVES ||| 2 ^ d)).settleDegraded
      else .next s

/-- The floor now (R244). -/
def State.floorNow (s : State) : Nat :=
  epochMax s.vault.floorE ((s.epoch + 2 ^ 40 - s.fld F.VLT_CFG_RETAIN) % 2 ^ 40)

/-- Is a plate of strand n live (R239)? -/
def State.livePlate (s : State) (n t : Nat) (p : Plate) : Bool :=
  match p.kind with
  | 1 => s.newestPlate p.granule == some (n, t)
  | 2 => serialLater 40 p.epoch s.floorNow
  | _ => false

def State.livePlates (s : State) (n : Nat) (x : Strand) : List Plate :=
  (x.plates.zipIdx.filter (fun p => s.livePlate n p.2 p.1)).map (fun p => p.1)

/-- Epochs since a strand closed. -/
def State.closedFor (s : State) (x : Strand) : Nat := (s.epoch + 2 ^ 40 - x.closeEpoch) % 2 ^ 40

/-- The version that the vault slot retires (R344). -/
def State.retiringVer (s : State) : Option Nat :=
  match (s.slot s.vaultSlot).staged with
  | .retiring c => some c.ver
  | _ => none

/-- May the slot of a strand be reused once its live plates are copied (R240): each superseded plate has had its time, and the
plate that supersedes it lies in a closed strand? -/
def State.mayReuse (s : State) (n : Nat) (x : Strand) : Bool :=
  let old := x.plates.zipIdx.filter (fun p => p.1.kind == 1 && !s.livePlate n p.2 p.1)
  (old.isEmpty || decide (max 16 (s.fld F.VLT_CFG_RETAIN) ≤ s.closedFor x)) &&
  old.all (fun p => (s.latestPlate p.1.granule).map (fun y => (y.1, y.2.1)) != some (n, p.2))

/-- CLEANING_START (R239, R240, R242, R344): the live plates of a sparse strand, of one that lacks a chunk of a replaced drive, or
of one sealed under the retiring version of the vault slot, are copied to the open strand with their tags; its slot is given up
when that strand closes. -/
def execCleaningStart (sq : Nat) (s : State) : Res :=
  match SMap.look s.vault.strands sq with
  | none => .next s
  | some x =>
    let live := s.livePlates sq x
    let sparse := decide (live.length * 16 < s.fld F.VLTX_CLEAN_LIVE * plateRoom)
    let rebuild := x.lacks.any (fun d => !s.lostDrives.contains d)
    let rekey := s.retiringVer == some x.keyVer
    if x.state ≠ 2 ∨ x.into.isSome ∨ s.pow.state ≠ .p0 ∨ ¬ s.vault.unfilled.isEmpty ∨ s.vault.draining ∨
        ¬ (sparse || rebuild || rekey) ∨ ¬ s.mayReuse sq x ∨ ¬ s.slotLeft then .next s
    else if live.isEmpty then
      .next { s with vault := { s.vault with strands := SMap.del s.vault.strands sq } }.settleDegraded
    else
      match s.sealPlates s.plateVer live.length with
      | none => .next s
      | some s =>
      let r := live.foldl (fun (a : Nat × State) p =>
        let b := a.2.addPlate p
        (b.1, b.2.count 0x60 0 17)) (0, s)
      let strands := r.2.vault.strands.map (fun p => if p.1 = sq then (p.1, { p.2 with into := some r.1 }) else
        if p.1 = r.1 then (p.1, { p.2 with clean := true }) else p)
      .next { r.2 with vault := { r.2.vault with strands := strands } }

/-! ## Measurement (R234, R235) -/

/-- The least COVER in GiB: 1 + ⌈J ÷ 2^30⌉. -/
def State.coverMin (s : State) : Nat := 1 + ceilDiv (s.journalGranules * 4096) (2 ^ 30)

/-- COVER in GiB for R_m in MB/s (R234). -/
def State.coverFor (s : State) (mbs : Nat) : Nat :=
  let e := s.fld F.VLT_HOLDUP_E_HOLD
  let p := s.fld F.VLT_HOLDUP_P_DRAIN
  min 64 (mbs * 1000000 * (16 * e - 5 * p) / (20 * p * 2 ^ 30))

/-- RATE_MEASUREMENT (R234, R235): a measurement starts. -/
def execRateMeasurement (s : State) : Res :=
  let st := s.fld F.VLT_STAT_STATE
  if st = 0 ∨ 3 < st then .next s
  else
    let s := { s with vault := { s.vault with
      measuring := true, measAt := if s.vault.measuring then s.vault.measAt else s.mono } }
    .next (if st = 3 then s else s.setFld F.VLT_STAT_STATE 0 2)

/-- RATE and COVER as payload bytes 8 to 10 of a refusal (Table 16.6). -/
def State.rateDetail (s : State) : Nat := s.fld F.VLT_HOLDUP_RATE + s.fld F.VLT_HOLDUP_COVER * 65536

/-- Lower LIMIT to COVER, with a Major fault (R234, R235). -/
def State.lowerLimit (s : State) : State :=
  let l := s.fld F.VLT_BUDGET_LIMIT
  let c := s.fld F.VLT_HOLDUP_COVER
  if c < l then (s.setFld F.VLT_BUDGET_LIMIT 0 c).raise 0x60 0 2 0x02 0 (l + c * 256) else s

/-- Boot is refused (R412): STATE 8, the fabric dark, an event record. -/
def State.refuseBoot (s : State) (reason : Nat) : State :=
  (s.fabricDark.setFld F.BT_STAT_STATE 0 8).note 0x02 0 0x01 reason

/-- Service is refused for a vault reason (R234, R236, R417): STATE 7, Critical fault, boot refused. -/
def State.refuseVault (s : State) (reason : Nat) : State :=
  ((s.setFld F.VLT_STAT_STATE 0 7).raise 0x60 0 3 0x01 reason s.rateDetail).refuseBoot (if reason ≤ 3 then 2 else 3)

/-- Once the vault is measured and no restore target is awaited, boot goes on to the fabric (Sequence 18.1, steps 6 and
7). -/
def State.bringUpEnds (s : State) : State :=
  if (s.fld F.BT_STAT_STATE = 4 ∨ s.fld F.BT_STAT_STATE = 5) ∧ s.fld F.VLT_STAT_STATE = 3 ∧ ¬ s.vault.awaiting then
    (s.setFld F.BT_STAT_STATE 0 6).fabricLight
  else s

/-- How long the measurement writes VLTX_MEAS.MIB MiB of strands on every drive at a payload rate in MB/s (R234). -/
def State.measTime (s : State) (mbs : Nat) : Nat :=
  ceilDiv (8 * s.fld F.VLTX_MEAS_MIB * 2 ^ 20 * plateRoom * second) (512 * max 1 mbs * 1000000)

/-- MEASUREMENT_DONE (R234, R235): the sustained payload rate in MB/s, before DERATE. -/
def execMeasurementDone (mbs : Nat) (s : State) : Res :=
  if ¬ s.vault.measuring then .next s
  else
    let s := s.reachLocal (s.vault.measAt + s.measTime mbs)
    let r := mbs * s.fld F.VLTX_MEAS_DERATE / 16
    let s := { s with vault := { s.vault with measuring := false } }
    let s := (s.setFld F.VLT_HOLDUP_RATE 0 (min 65535 (r / 100))).setFld F.VLT_HOLDUP_COVER 0 (s.coverFor r)
    let short := decide (s.fld F.VLT_HOLDUP_COVER < s.coverMin)
    if s.fld F.VLT_STAT_STATE = 2 then
      if r < 48000 then .next (s.refuseVault 1)
      else if short then .next (s.refuseVault 2)
      else if ¬ s.pow.holdupOk then .next (s.refuseVault 3)
      else .next ({ s with vault := { s.vault with zeroed := false } }.lowerLimit.setFld F.VLT_STAT_STATE 0 3).bringUpEnds
    else
      let s := s.lowerLimit
      let s := if r < 48000 then s.raise 0x60 0 3 0x03 0 (s.fld F.VLT_HOLDUP_RATE) else s
      let s := { s with vault := { s.vault with zeroed := short || !s.pow.holdupOk } }
      .next (if short then s.raise 0x60 0 3 0x04 1 else s)

/-- HOLDUP_OK_FALL (R234, R437): during service B_eff becomes 0, with a Critical fault. -/
def execHoldupOkFall (s : State) : Res :=
  let s := { s with pow := { s.pow with holdupOk := false } }
  if s.fld F.VLT_STAT_STATE = 3 then
    .next ({ s with vault := { s.vault with zeroed := true } }.raise 0x60 0 3 0x04 0)
  else .next s

/-- HOLDUP_OK_RISE (R234): the registers follow and B_eff is again the lower of LIMIT and COVER (R231, log entry 31). -/
def execHoldupOkRise (s : State) : Res :=
  .next { s with
    pow := { s.pow with holdupOk := true },
    vault := { s.vault with zeroed := s.vault.zeroed && decide (s.fld F.VLT_HOLDUP_COVER < s.coverMin) } }

/-- A write of VLT_BUDGET.LIMIT (R231, R13): the status of VLT_BUDGET.STATUS follows it. -/
def State.budgetLimit (s : State) (gib : Nat) : State :=
  let gib := if gib = 0 then s.resetOf 0x60 F.VLT_BUDGET_LIMIT 0 else gib
  if s.fld F.VLT_BUDGET_SIGNED_MAX < gib ∨ s.fld F.VLT_HOLDUP_COVER < gib then
    s.setFld F.VLT_BUDGET_STATUS 0 Status.privilege.code
  else (s.setFld F.VLT_BUDGET_LIMIT 0 gib).setFld F.VLT_BUDGET_STATUS 0 0

/-! ## The drain (R245) -/

/-- Nothing that was admitted is still on its way to a channel (R38, R176): no write or atomic waits in line order, no entry,
store, fill or changed resident line is left. -/
def State.pipeEmpty (s : State) : Bool :=
  s.pipe.sb.isEmpty && s.pipe.stores.isEmpty && s.pipe.locket.lines.all (fun p => !p.2.unclean) &&
  s.pipe.locket.victims.all (fun v => !v.unclean) && s.pipe.locket.fills.isEmpty &&
  s.pipe.waits.all (fun w => match w.2 with | .read .. => true | _ => false)

/-- Does any channel hold content: serving, training from a hold, or in self-refresh (R246, Table 15.2)? -/
def State.anyRetained (s : State) : Bool := (List.range 16).any (fun c => s.flag F.MC_STAT_RETAINED c)

/-- Is a channel serving, so that a hold has something to do? -/
def State.anyServing (s : State) : Bool := (List.range 16).any (fun c => s.fld F.MC_STAT_STATE c == 2)

/-- DRAIN_START (R245, R246, Table 10.8): after the flush, and after the cut of every revoke issued (Table 6.6), the drain set is
fixed; cleaning and measurement stop. -/
def execDrainStart (s : State) : Res :=
  if s.pow.warn ∧ ¬ s.vault.draining ∧ s.pipeEmpty ∧ s.wins.revokes.all Revoke.cut ∧ s.fld F.VLT_STAT_STATE ≠ 5 ∧ s.pow.sq = .idle ∧
      (s.fld F.VLT_STAT_STATE ≠ 0 ∨ s.anyRetained ∨ (s.core.inReset ∧ s.anyServing)) then
    let s := match s.pow.warnAt with | some t => s.reachLocal (t + us 10) | none => s
    let fixed := (s.vault.dirty.filter (fun p => s.inDrain p.1)).map (fun p => p.1)
    let s := { s with vault := { s.vault with draining := true, measuring := false, fixed := fixed } }
    .next (s.setFld F.VLT_STAT_STATE 0 4)
  else .next s

/-- The retained cut records as cut plates of one epoch each, at most 56 records a plate (Table 10.5). -/
def cutPlates (rs : List CutRec) : List Plate :=
  ((rs.map CutRec.epoch).dedup).flatMap (fun e =>
    let l := rs.filter (fun r => r.epoch == e)
    (List.range (ceilDiv l.length 56)).map (fun i => ⟨2, 0, e, 0, [], (l.drop (56 * i)).take 56⟩))

/-- Close every strand at once, as the drain and dormancy do. -/
def State.closeAll (s : State) : State :=
  let s := { s with vault := { s.vault with strands := s.vault.strands.map (fun (p : Nat × Strand) =>
    if p.2.state = 0 then (p.1, { p.2 with state := 1 }) else p) } }
  (s.vault.strands.filter (fun (p : Nat × Strand) => p.2.state == 1)).foldl (fun (t : State) p =>
    (t.closeSealed p.1 p.2).getD (t.strandClosed p.1 p.2)) s

/-- The superblock that rules: the highest GENERATION among the copies of drives with the vault's VAULT_ID (R247). -/
def State.rulingSb (s : State) : Option Super :=
  (s.vault.drives.flatMap (fun p => [p.2.sb0, p.2.sb1])).foldl (fun (b : Option Super) x =>
    match b, x with
    | some y, some z => if z.vaultId = s.vault.vaultId ∧ y.generation < z.generation then some z else b
    | none, some z => if z.vaultId = s.vault.vaultId then some z else none
    | b, none => b) none

/-- Write the superblock with a STATE on every drive present (Table 10.3). -/
def State.writeSuper (s : State) (st : Nat) : State :=
  let gen := match s.rulingSb with | some x => x.generation + 1 | none => 1
  let dep := s.twinCovered && decide (s.drainDirty < s.vault.dirty.length)
  let last := s.vault.strands.foldl (fun m p => if p.2.state = 2 then max m p.1 else m) 0
  let at_ := s.vault.atWarn.getD (s.pipe.sealedE, s.fld F.MER_GCUT_CUT)
  let b : Super := ⟨s.vault.vaultId, s.fld F.HT_DEVICE_NUMBER, gen, st, dep, s.vault.slots, s.vault.pmBytes, last,
    s.pipe.highStamp.getD 0, at_.1, s.floorNow, at_.2, s.secs⟩
  let s := (s.vault.drives.filter (fun p => !p.2.lost)).foldl (fun (t : State) p => t.count 0x60 0 p.1 4096) s
  { s with vault := { s.vault with drives := s.vault.drives.map (fun p =>
    if p.2.lost then p
    else (p.1, if gen % 2 = 0 then { p.2 with sb0 := some b } else { p.2 with sb1 := some b })) } }

/-- The end of a drain or of a dormancy entry: cut plates, strands closed, superblock, drives shut (R245, R250). -/
def State.finishVault (s : State) (st : Nat) : State :=
  let rs := s.vault.journal.filter (fun r => serialLater 40 r.epoch s.floorNow)
  let s := (cutPlates rs).foldl (fun t p => (((t.sealPlates t.plateVer 1).getD t).addPlate p).2) s
  (s.closeAll.writeSuper st).setFld F.VLT_STAT_STATE 0 (if st = 2 then 5 else 6)

/-- Is every granule of the drain set in a plate that no write has overtaken? -/
def State.drainReady (s : State) : Bool :=
  s.vault.dirty.all (fun p => !s.toDrain p.1 || (!p.2.since && p.2.strand.isSome))

/-! ## Mount and fill (R247 to R249) -/

/-- Cut records that a restore finds: those of closed strands' cut plates above the floor (R247). -/
def State.cutRecs (s : State) (floor : Nat) : List CutRec :=
  s.vault.strands.flatMap (fun p =>
    if p.2.state = 2 then p.2.plates.flatMap (fun x =>
      if x.kind = 2 ∧ serialLater 40 x.epoch floor then x.records else []) else [])

/-- Granules that have a data plate, ascending. -/
def State.platedGranules (s : State) : List Nat :=
  ((s.vault.strands.flatMap (fun p =>
    if p.2.state = 2 then (p.2.plates.filter (fun x => x.kind == 1)).map Plate.granule else [])).dedup).mergeSort

/-- Is a restore target valid (Table 10.9)? Answers the epoch for targets other than latest. -/
def State.restoreTarget (s : State) (kind e : Nat) : Option (Nat × Nat) :=
  match kind with
  | 0 => some (0, 0)
  | 1 | 2 =>
    let e := if kind = 1 then s.fld F.VLT_CUTINFO_SEALED else e
    if s.flag F.VLT_CFG_CUT_EN && serialLe 40 (s.fld F.VLT_CUTINFO_FLOOR) e && serialLe 40 e (s.fld F.VLT_CUTINFO_LAST)
    then some (kind, e) else none
  | _ => none

/-- Apply a restore target, or wait for one (R249). -/
def State.applyTarget (s : State) (kind e : Nat) : Bool × State :=
  match s.restoreTarget kind e with
  | some t =>
    (true, ({ s with vault := { s.vault with
      awaiting := false, target := t, nonLatest := s.vault.nonLatest || t.1 != 0 } }).setFld F.VLT_RESTORE_RES_STATUS 0 0)
  | none => (false, s.setFld F.VLT_RESTORE_RES_STATUS 0 Status.windowBounds.code)

/-- RESTORE_GO (R249, R251, Table 10.9). -/
def State.restoreGo (s : State) (p : Path) (kind e : Nat) : Status × State :=
  if ¬ p.trusted then (.privilege, s)
  else
    let s := (s.setFld F.VLT_RESTORE_TARGET_KIND 0 kind).setFld F.VLT_RESTORE_EPOCH 0 e
    if s.vault.awaiting then (.ok, (s.applyTarget kind e).2)
    else (.ok, s.setFld F.VLT_RESTORE_RES_STATUS 0 Status.privilege.code)

/-- The cached descriptors and installed slots of rewritten lines (R147, R61). -/
def State.rewritten (s : State) (line n : Nat) : State :=
  let d := s.winBase / 64
  let b := s.libBase / 64
  { s with
    wins := { s.wins with cache := s.wins.cache.filter (fun i => decide (d + i < line ∨ line + n ≤ d + i)) },
    kex := { s.kex with lib := s.kex.lib.map (fun p =>
      if overlaps line n (b + 1024 * p.1) 1024 then (p.1, { p.2 with recheck := true }) else p) } }

/-- Apply the restore target to a filled granule: each line with a record above E takes the image of its lowest-epoch
such record, as a write stamped E (R249). -/
def State.applyCut (s : State) (g : Nat) : State :=
  if s.vault.target.1 = 0 then s
  else
    let e := s.vault.target.2
    let rs := (s.cutRecs (s.fld F.VLT_CUTINFO_FLOOR)).filter (fun r => granuleOf r.line == g && serialLater 40 r.epoch e)
    (rs.map CutRec.line).dedup.foldl (fun (t : State) line =>
      let best := (rs.filter (fun r => r.line == line)).foldl (fun (b : Option CutRec) r =>
        match b with
        | some x => if serialLater 40 x.epoch r.epoch then some r else b
        | none => some r) none
      match best with
      | some r => ((t.setPmLine line r.data).setChk line (if r.poison then poisonDelta else (0, 0))).dirtied g e 0
      | none => t) s

/-- A granule is filled: the accesses to it that waited go on (R248). -/
def State.fillEnds (s : State) (g : Nat) : State :=
  let s := { s with vault := { s.vault with
    unfilled := s.vault.unfilled.filter (fun x => x != g), rescue := s.vault.rescue.erase g } }
  let s := s.rewritten (64 * g) 64
  (List.range 64).foldl (fun (t : State) i => t.drainLine (64 * g + i)) s

/-- Is a plate lost whatever its drive answers: its drive and a second one are gone (Table 10.7)? -/
def State.plateGone (s : State) (sq t : Nat) : Bool :=
  match SMap.look s.vault.strands sq with
  | some x =>
    let gone := (x.lacks ++ s.lostDrives).dedup
    gone.contains (plateDrive x.slot t) && decide (2 ≤ gone.length)
  | none => false

/-- Write a granule's plate into DRAM (R248). -/
def State.writePlate (s : State) (g : Nat) (sq t : Nat) (p : Plate) : State :=
  let s := match SMap.look s.vault.strands sq with
    | some x => s.count 0x60 0 (8 + plateDrive x.slot t) 4096
    | none => s
  let s := { s with pipe := { s.pipe with pm := putBytes 0 s.pipe.pm (4096 * g) (bytesAt p.data 0 0 4096) } }
  (List.range 64).foldl (fun (t : State) i =>
    t.setChk (64 * g + i) (if bitAt p.poison i then poisonDelta else (0, 0))) ((s.count 0x90 0 1).count 0x90 0 7)

/-- The twin is asked for the lines of a granule whose plate is lost (R242, R211). -/
def State.rescueGranule (s : State) (g : Nat) : State :=
  let s := { s with vault := { s.vault with rescue := g :: s.vault.rescue } }.count 0x60 0 18
  (List.range 64).foldl (fun (t : State) i => t.startHeal (64 * g + i) (.restore g (64 * g + i)) true) s

/-- Fill a granule from its latest plate (R248, R242, Table 10.7): `readable` tells whether the plate could be read or
rebuilt from parity. A lost plate's lines come from the twin while the pair is in sync, the granule waiting for them; a line that
no heal brings is poisoned. -/
def State.fillGranule (s : State) (g : Nat) (readable : Bool) : State :=
  if s.vault.rescue.contains g then
    if s.pipe.heals.any (fun p => match p.2.what with | .restore h _ => h == g | _ => false) then s else (s.applyCut g).fillEnds g
  else
    match s.latestPlate g with
    | none => s.fillEnds g
    | some (sq, t, p) =>
      if readable && !s.plateGone sq t then ((s.writePlate g sq t p).applyCut g).fillEnds g
      else if s.canHeal then s.rescueGranule g
      else ((List.range 64).foldl (fun (t : State) i => t.poisonNew (64 * g + i) 4) (s.count 0x60 0 18)).fillEnds g

/-- Does the vault slot hold the version that sealed the granule's latest plate (R344)? -/
def State.fillKey (s : State) (g : Nat) : Bool :=
  match s.latestPlate g with
  | none => true
  | some (n, _, _) => (match SMap.look s.vault.strands n with
    | some x => s.holdsVer s.vaultSlot x.keyVer
    | none => true)

/-- ON_DEMAND_FILL (R248): an access to an unfilled granule fills it and goes on. -/
def execOnDemandFill (g : Nat) (readable : Bool) (s : State) : Res :=
  if s.vault.unfilled.contains g ∧ ¬ s.vault.awaiting ∧ s.fillKey g then
    .next ((s.fillGranule g readable).count 0x60 0 21).serve
  else .next s

/-- BACKGROUND_FILL (R248): the next unfilled granule in ascending order. -/
def execBackgroundFill (readable : Bool) (s : State) : Res :=
  match s.vault.unfilled with
  | g :: _ => if ¬ s.vault.awaiting ∧ s.fillKey g then .next (s.fillGranule g readable).serve else .next s
  | [] => .next s

/-- EPOCH_BOUNDARY (R28, R29, R244): local time reaches the next boundary; records at or below the new floor go. -/
def execEpochBoundary (s : State) : Res :=
  let k := 2 ^ s.fld F.MER_CFG_K
  let s := s.reach ((s.time / k + 1) * k)
  .next (if s.fld F.BT_STAT_STATE = 7 then { s with vault := { s.vault with floorE := s.floorNow } }.dropOld else s)

/-- The highest epoch all of whose writes are in closed strands (VLT_VAULTED.EPOCH). -/
def State.vaultedEpoch (s : State) : Nat :=
  let low (b e : Nat) : Nat := epochMin b ((e + 2 ^ 40 - 1) % 2 ^ 40)
  let x := s.vault.dirty.foldl (fun b p => low b p.2.first) ((s.epoch + 2 ^ 40 - 1) % 2 ^ 40)
  s.pipe.writes.foldl (fun b p => if p.2.placed then b else low b p.2.epoch) x

end Sys2Proof.Machine
end

