-- ==== Sys2Proof/Machine/Meridian.lean ====
section
/-! DEFINITION. The Meridian Unit (chapter 11): time sources and their selection (R257 to R260), residual (R262), sure and
unsure (R264), first lock (R266), the lost reference (R436, R447), the PPS output (R277) and its commands. -/

namespace Sys2Proof.Machine

/-! ## Residual -/

/-- The integer square root of n, bit by bit from bit k - 1 down. -/
def rootFrom : Nat → Nat → Nat → Nat
  | 0, _, r => r
  | k + 1, n, r => rootFrom k n (if (r + 2 ^ k) * (r + 2 ^ k) ≤ n then r + 2 ^ k else r)

/-- The standard deviation of the measured offsets in whole ps (R262; rounded down, log entry 32). -/
def sigmaOf (xs : List Int) : Nat :=
  let n := xs.length
  let sum := xs.foldl (fun a x => a + x) 0
  let sq := xs.foldl (fun a x => a + x * x) 0
  if n = 0 then 0 else rootFrom 40 (((n : Int) * sq - sum * sum).toNat / (n * n)) 0

/-- MER_EST.AGE in ms. -/
def State.merAge (s : State) : Nat := match s.mer.lastMeas with | some t => (s.mono - t) * 1000 / second | none => 0

/-- EST of R262, saturating; all ones before the first measurement. -/
def State.estimate (s : State) : Nat :=
  match s.mer.lastMeas with
  | none => 2 ^ 32 - 1
  | some _ =>
    min (2 ^ 32 - 1) ((signed 32 (s.fld F.MER_RES_OFFSET)).natAbs + 3 * s.fld F.MER_RES_SIGMA +
      s.fld F.MER_HOLD_DRIFT * s.merAge / 1000)

/-- Bring MER_EST up to date. -/
def State.showEst (s : State) : State :=
  (s.setFld F.MER_EST_EST 0 s.estimate).setFld F.MER_EST_AGE 0 (min (2 ^ 32 - 1) s.merAge)

/-! ## Sure and unsure -/

/-- The residual bound of a source in ps (Table 11.1). -/
def sourceBound (code : Nat) : Nat :=
  match code with
  | 1 | 2 => 100 | 3 | 4 => 1000 | 5 | 6 => 100000 | _ => 0

/-- The first condition that makes the controller unsure, numbered as in Table 16.6 (R264, R436). -/
def State.unsureCause (s : State) : Option Nat :=
  if s.fld F.MER_CFG_BOUND < s.fld F.MER_EST_EST then some 0
  else if s.fld F.MER_CFG_BOUND < sourceBound (s.fld F.MER_STAT_SOURCE) then some 1
  else if ¬ s.mer.locked then some 2
  else if s.flag F.MER_CFG_FORCE_UNSURE then some 3
  else if s.mer.refLost then some 4
  else none

/-- May MER_PPSO pulse (R277)? -/
def State.ppsoMay (s : State) : Bool := s.flag F.MER_PPSO_EN && s.fld F.MER_STAT_STATE == 2 && !s.unsure

/-- MER_PPSO goes low. -/
def State.ppsoLow (s : State) : State :=
  if s.mer.ppsHigh.isSome then { s with mer := { s.mer with ppsHigh := none } }.emit (.ppso false) else s

/-- Judge the conditions of R264: entry into unsure at once, the start of the time without any of them. -/
def State.judgeSure (s : State) : State :=
  let s := match s.unsureCause with
    | some c =>
      let s := { s with mer := { s.mer with calmSince := none } }
      if s.unsure then s
      else ((s.setFld F.MER_STAT_UNSURE 0 1).raise 0x07 0 2 0x01 c (s.fld F.MER_EST_EST)).count 0x07 0 5
    | none => { s with mer := { s.mer with calmSince := s.mer.calmSince.or (some s.mono) } }
  if s.ppsoMay then s else s.ppsoLow

/-! ## Sources -/

/-- The source codes in order of preference; 0 ends the list (MER_SRC). -/
def State.sourceList (s : State) : List Nat :=
  [s.fld F.MER_SRC_P0, s.fld F.MER_SRC_P1, s.fld F.MER_SRC_P2, s.fld F.MER_SRC_P3].takeWhile (fun c => c != 0)

/-- Is SyncE there for a high accuracy source (R260)? `mgmt` for the management port. -/
def State.syncE (s : State) (mgmt : Bool) : Bool :=
  s.flag F.MER_SYNCE_EN && (if mgmt then s.flag F.MER_SYNCE_MGMT
    else !s.flag F.MER_SYNCE_MGMT && s.laneUp (s.fld F.MER_SYNCE_LANE))

/-- Can source c be usable at all: PTP enabled for codes 3 to 6, SyncE there for 3 and 4. -/
def State.sourceCan (s : State) (c : Nat) : Bool :=
  match c with
  | 1 | 2 => true
  | 3 => s.flag F.MER_PTP_EN && s.syncE true
  | 4 => s.flag F.MER_PTP_EN && s.syncE false
  | 5 | 6 => s.flag F.MER_PTP_EN
  | _ => false

/-- Set or clear a source's bit in MER_STAT.USABLE. -/
def State.setUsable (s : State) (c : Nat) (on : Bool) : State :=
  let u := s.fld F.MER_STAT_USABLE
  s.setFld F.MER_STAT_USABLE 0 (if on then u ||| 2 ^ (c - 1) else if bitAt u (c - 1) then u - 2 ^ (c - 1) else u)

/-- Choose the source again (R257, R266, R447): the first usable one of the list, a Notice when it changes, STATE; then
judge R264. While MER_REF10M is lost the source stays (R447). -/
def State.settleMer (s : State) : State :=
  let s := [3, 4, 5, 6].foldl (fun (t : State) c => if t.sourceCan c then t else t.setUsable c false) s
  if s.mer.refLost then s.judgeSure
  else
    let u := s.fld F.MER_STAT_USABLE
    let new := (s.sourceList.find? (fun c => bitAt u (c - 1))).getD 0
    let old := s.fld F.MER_STAT_SOURCE
    let s := if new = old then s
      else (((s.setFld F.MER_STAT_SOURCE 0 new).setFld F.MER_STAT_FREQ 0 (boolNat (new == 3 || new == 4))).raise
        0x07 0 0 0x03 (new + old * 256)).count 0x07 0 3
    let s := { s with mer := { s.mer with usableSince := if new = 0 then none else s.mer.usableSince.or (some s.mono) } }
    let s := if s.mer.locked then s.setFld F.MER_STAT_STATE 0 (if new = 0 then 3 else 2)
      else if new = 0 then s else s.setFld F.MER_STAT_STATE 0 1
    s.judgeSure

/-- A measured offset to a source (R262): taken into the estimate when it is the source in use. -/
def State.measured (s : State) (c : Nat) (off : Int) : State :=
  if s.fld F.MER_STAT_SOURCE = c then
    let xs := (s.mer.offsets ++ [off]).drop (s.mer.offsets.length + 1 - 64)
    let s := { s with mer := { s.mer with offsets := xs, lastMeas := some s.mono } }
    let s := (s.setFld F.MER_RES_OFFSET 0 (unsigned 32 off)).setFld F.MER_RES_SIGMA 0 (min 65535 (sigmaOf xs))
    s.showEst.judgeSure
  else s

/-! ## PPS and the return loop -/

/-- The delay in ps applied to a PPS input (R258). -/
def State.ppsDelay (s : State) (input : Nat) : Int :=
  let n := s.mer.loops.length
  if s.flag F.MER_CAL_LOOP_EN ∧ s.fld F.MER_CAL_LOOP_SEL = input ∧ n ≠ 0 then
    ((s.mer.loops.sum / (2 * n) : Nat) : Int) + signed 24 (s.fld F.MER_LOOP_ASYM)
  else (if input = 0 then s.fld F.MER_CAL_DELAY_A else s.fld F.MER_CAL_DELAY_B : Nat)

/-- PPS_EDGE (R257, R258): an edge at the ball of input 0 (A) or 1 (B), `edge` ps after the whole Meridian second; the DPLL predicts it
the cable delay after that second. -/
def execPpsEdge (input : Nat) (edge : Int) (s : State) : Res :=
  if 2 ≤ input then .fault (.noSuchUnit 0x07 input)
  else
    let c := input + 1
    let off := edge - s.ppsDelay input
    let r := SMap.get (0, 0) s.mer.runs input
    let put (s : State) (x : Nat × Nat) : State := { s with mer := { s.mer with runs := SMap.put (0, 0) s.mer.runs input x } }
    if off.natAbs ≤ s.fld F.MERX_PPS_WIN * 1000 then
      let back := decide (r.2 < 3) || decide (7 ≤ r.1)
      let s := put s (if back then (min 8 (r.1 + 1), 0) else (r.1 + 1, 3))
      let s := if back then (s.setUsable c true).settleMer else s
      .next ((s.count 0x07 0 0).measured c off).serve
    else
      let s := put s (0, min 3 (r.2 + 1))
      let s := if r.2 + 1 < 3 then s else (s.setUsable c false).settleMer
      .next (s.count 0x07 0 1).serve

/-- LOOP_TX_EDGE (R258): at the next Meridian half second an edge goes out on MER_LOOP_TX. -/
def execLoopTxEdge (s : State) : Res :=
  let s := s.reach ((s.time + second / 2) / second * second + second / 2)
  .next (if s.flag F.MER_CAL_LOOP_EN then s.emit .loopTx else s)

/-- LOOP_RX_EDGE (R258): a round trip of `rtt` ps. A measurement more than 1 ns of one-way delay from the mean of the last
16 is discarded; 16 discards in a row fail the loop. -/
def execLoopRxEdge (rtt : Nat) (s : State) : Res :=
  if ¬ s.flag F.MER_CAL_LOOP_EN then .next s
  else
    let n := s.mer.loops.length
    let sum := s.mer.loops.sum
    if n = 0 ∨ (n * rtt ≤ sum + 2000 * n ∧ sum ≤ n * rtt + 2000 * n) then
      let xs := (s.mer.loops ++ [rtt]).drop (n + 1 - 16)
      let s := { s with mer := { s.mer with loops := xs, loopBad := 0 } }
      .next ((s.setFld F.MER_LOOP_RTT 0 (xs.sum / xs.length / 4)).setFld F.MER_STAT_LOOP_FAIL 0 0)
    else
      let bad := s.mer.loopBad + 1
      let s := (({ s with mer := { s.mer with loopBad := min 16 bad } }).bump F.MER_LOOP_DISCARDS).count 0x07 0 2
      .next (if bad = 16 then (s.setFld F.MER_STAT_LOOP_FAIL 0 1).raise 0x07 0 1 0x04 (s.fld F.MER_CAL_LOOP_SEL) else s)

/-! ## PTP -/

/-- Is a PTP port there: the management port, or a fabric port that MER_PTP names and that is up? -/
def State.ptpPortUp (s : State) (port : Nat) : Bool :=
  match port with
  | 0 => true
  | 1 => s.fld F.PORT_STAT_STATE (s.fld F.MER_PTP_PORT1) == 2 && !s.fab.dark
  | 2 => s.fld F.PORT_STAT_STATE (s.fld F.MER_PTP_PORT2) == 2 && !s.fab.dark
  | _ => false

/-- Is a PTP message for this clock: PTP enabled, the domain right, its port there (R259)? -/
def State.ptpMine (s : State) (k : Ptp) : Bool :=
  s.flag F.MER_PTP_EN && k.domain == s.fld F.MER_PTP_DOMAIN && s.ptpPortUp k.port

/-- The selected time transmitter of the management port or of the fabric (R259). -/
def State.ptpChosen (s : State) (mgmt : Bool) : Option Transmitter :=
  (s.mer.heard.filter (fun t => (t.port == 0) == mgmt)).foldl (fun (b : Option Transmitter) t =>
    match b with
    | some x => if t.dataset < x.dataset then some t else b
    | none => some t) none

/-- Is a message from the selected time transmitter of its port? -/
def State.ptpFrom (s : State) (k : Ptp) : Bool :=
  match s.ptpChosen (k.port == 0) with
  | some t => s.ptpMine k && t.src == k.src && t.port == k.port
  | none => false

/-- Change the exchange on a port. -/
def State.setExchange (s : State) (port : Nat) (x : Option Exchange) : State :=
  { s with mer := { s.mer with exchanges := s.mer.exchanges.filter (fun e => e.port != port) ++ x.toList } }

def State.exchangeOf (s : State) (port : Nat) : Option Exchange := s.mer.exchanges.find? (fun e => e.port == port)

/-- PTP_SYNC (R259): a Sync from the selected time transmitter begins an exchange; a one-step Sync is complete. -/
def execPtpSync (k : Ptp) (s : State) : Res :=
  if s.ptpFrom k then .next (s.setExchange k.port (some ⟨k.port, k.src, k.sequence, !k.twoStep, false⟩)) else .next s

/-- PTP_FOLLOW_UP (R259): the Follow_Up of a two-step Sync. -/
def execPtpFollowUp (k : Ptp) (s : State) : Res :=
  match s.exchangeOf k.port with
  | some x =>
    if s.ptpFrom k ∧ x.sequence = k.sequence then .next (s.setExchange k.port (some { x with complete := true }))
    else .next s
  | none => .next s

/-- PTP_DELAY_REQ (R259): a Delay_Req for a complete Sync. -/
def execPtpDelayReq (port : Nat) (s : State) : Res :=
  match s.exchangeOf port with
  | some x =>
    if x.complete ∧ ¬ x.requested then
      .next ((s.setExchange port (some { x with requested := true })).emit (.ptpDelayReq port x.sequence))
    else .next s
  | none => .next s

/-- The source code of an exchange on a port (Table 11.1). -/
def State.ptpCode (s : State) (k : Ptp) : Nat :=
  if k.port = 0 then (if k.highAcc && s.syncE true then 3 else 5) else (if k.highAcc && s.syncE false then 4 else 6)

/-- PTP_DELAY_RESP (R257, R259): the exchange is complete and gives an offset, `offset` being the one for equal
delays both ways: MER_PTP.ASYM is added to the path delay. -/
def execPtpDelayResp (k : Ptp) (s : State) : Res :=
  match s.exchangeOf k.port with
  | some x =>
    if s.ptpFrom k ∧ x.requested ∧ x.sequence = k.sequence then
      let c := s.ptpCode k
      let s := (s.setExchange k.port none).count 0x07 0 4
      let s := { s with mer := { s.mer with lastPtp := SMap.ins s.mer.lastPtp c s.mono } }
      .next (((s.setUsable c true).settleMer).measured c (k.offset - signed 24 (s.fld F.MER_PTP_ASYM))).serve
    else .next s
  | none => .next s

/-- PTP_ANNOUNCE (R259): one of up to four time transmitters. -/
def execPtpAnnounce (k : Ptp) (s : State) : Res :=
  if ¬ s.ptpMine k then .next s
  else
    let t : Transmitter := ⟨k.port, k.src, k.dataset, k.highAcc⟩
    let others := s.mer.heard.filter (fun x => x.port != k.port || x.src != k.src)
    if others.length < s.mer.heard.length then .next { s with mer := { s.mer with heard := others ++ [t] } }
    else if 4 ≤ s.mer.heard.length then .next s
    else .next { s with mer := { s.mer with heard := s.mer.heard ++ [t] } }

/-- PTP_SOURCE_TIMEOUT (R257): 2 s without a completed exchange. -/
def execPtpSourceTimeout (code : Nat) (s : State) : Res :=
  match SMap.look s.mer.lastPtp code with
  | some t =>
    let s := s.reachLocal (t + 2 * second)
    .next (({ s with mer := { s.mer with lastPtp := SMap.del s.mer.lastPtp code } }.setUsable code false).settleMer).serve
  | none => .next s

/-- Every lane goes dark (Table 4.3), and with its lane SyncE (R260). -/
def State.lanesDark (s : State) : State := s.fabricDark.settleMer

/-! ## Estimate, lock, reference -/

/-- EST_UPDATE (R262, R264): `ms` milliseconds pass and the estimate follows AGE. -/
def execEstUpdate (n : Nat) (s : State) : Res := .next (s.advance (ms n)).showEst.judgeSure.serve

/-- SURE_HOLD_EXPIRY (R264): no condition has held for SURE_HOLD seconds. -/
def execSureHoldExpiry (s : State) : Res :=
  match s.mer.calmSince, s.unsureCause with
  | some t, none =>
    if s.unsure then
      let s := s.reachLocal (t + s.fld F.MER_CFG_SURE_HOLD * second)
      .next ((s.setFld F.MER_STAT_UNSURE 0 0).raise 0x07 0 0 0x02 0 (s.fld F.MER_EST_EST))
    else .next s
  | _, _ => .next s

/-- FIRST_LOCK (R265, R266): the first source has been usable for 2 s; the counter is set to the source time `t` in one
step, unless START_UNSURE lets service start before. -/
def execFirstLock (t : Nat) (s : State) : Res :=
  match s.mer.usableSince with
  | none => .next s
  | some u =>
    if s.mer.locked ∨ s.mer.refLost then .next s
    else
      let s := s.reachLocal (u + 2 * second)
      let s := if s.flag F.MER_CFG_START_UNSURE then s else { s with time := t % 2 ^ 80 }
      let s := { s with mer := { s.mer with locked := true } }
      .next (s.setFld F.MER_STAT_STATE 0 2).judgeSure.serve

/-- REF10M_LOST (R436, R447): no edge for 1 us; STATE 0, unsure, Critical fault. -/
def execRef10mLost (s : State) : Res :=
  if s.mer.refLost then .next s
  else
    let s := { s with mer := { s.mer with refLost := true } }
    .next ((s.setFld F.MER_STAT_STATE 0 0).raise 0x07 0 3 0x05).judgeSure.serve

/-- REF10M_RESTORED (R447): edges present for 1 s; STATE is 2 when the selected source is usable and 3 otherwise. -/
def execRef10mRestored (s : State) : Res :=
  if s.mer.refLost then
    let s := { s with mer := { s.mer with refLost := false } }
    let src := s.fld F.MER_STAT_SOURCE
    let ok := src != 0 && bitAt (s.fld F.MER_STAT_USABLE) (src - 1)
    .next (s.setFld F.MER_STAT_STATE 0 (if s.mer.locked then (if ok then 2 else 3) else boolNat ok)).settleMer
  else .next s

/-! ## The epoch check (R267) -/

/-- The latest of the superblock's TIME and every CLOSE_TIME, where its STATE is 1 (R267). -/
def State.lastVaultTime (s : State) (b : Super) : Nat :=
  if b.state = 1 then s.vault.strands.foldl (fun m p => max m p.2.closeTime) b.timeS + 5 else b.timeS

/-- Is the current epoch later than every epoch ever stamped (R267)? `retained` for a retained start; a first start has mounted no
superblock to compare with (log entry 72). -/
def State.epochOk (s : State) (retained : Bool) : Bool :=
  (match s.mer.lastK with | some k => k != s.fld F.MER_CFG_K | none => false) ||
  (if retained then (match s.pipe.highStamp with | some h => serialLater 40 s.epoch h | none => true)
   else if s.fld F.BT_STAT_START = 1 then true
   else match s.rulingSb with
     | some b => decide (s.lastVaultTime b < s.secs)
     | none => true)

/-- EPOCH_CHECK_HOLD_TIMEOUT (R267): the check has held service for more than 10 s; it keeps holding. -/
def execEpochCheckHoldTimeout (s : State) : Res :=
  match s.mer.epochHold with
  | some t =>
    let s := s.reachLocal (t + 10 * second)
    .next ({ s with mer := { s.mer with epochHold := none } }.raise 0x07 0 3 0x06 0 (s.pipe.highStamp.getD 0))
  | none => .next s

/-! ## Commands -/

/-- The number under which a path's latches and cursors are kept. -/
def pathKey (p : Path) : Nat := match p with | .mgmt => 0 | .firmware => 1 | .fabric _ => 2 | .chain => 3

/-- Latch the fraction for a path (R255). -/
def State.latchTime (s : State) (p : Path) : State :=
  { s with mer := { s.mer with latched := SMap.ins s.mer.latched (pathKey p) s.frac } }

/-- The latched fraction of a path has been read (R255). -/
def State.unlatchTime (s : State) (p : Path) : State :=
  { s with mer := { s.mer with latched := SMap.del s.mer.latched (pathKey p) } }

/-- MER_TIME_S_READ (R255); units that a fuse has disabled answer PRIVILEGE (Table 2.3). -/
def rowMerTimeSRead (p : Path) (s : State) : Res :=
  if s.core.fusedOff.contains 0x07 then ends p (.privilege, s) else .next ((s.latchTime p).answer p .ok s.secs)

/-- A write of MER_GCUT (R275). -/
def State.gcut (s : State) (v : Nat) : State :=
  s.setFld F.MER_GCUT_CUT 0 (epochMax (s.fld F.MER_GCUT_CUT) (epochMin (v % 2 ^ 40) s.pipe.sealedE))

/-- GCUT_WRITE (R275). -/
def rowGcutWrite (p : Path) (v : Nat) (s : State) : Res :=
  ends p (.ok, s.gcut v)

/-- Clear the suspect record (R273). -/
def State.clearSuspect (s : State) : State :=
  ((s.setFld F.MER_SUSPECT_LO_LO 0 0).setFld F.MER_SUSPECT_HI_HI 0 0).setFld F.MER_SUSPECT_HI_VALID 0 0

/-- SUSPECT_CLEAR (R273). -/
def rowSuspectClear (p : Path) (s : State) : Res :=
  ends p (.ok, s.clearSuspect)

/-- PPSO_RISE (R277): ADVANCE ps before a whole Meridian second. -/
def execPpsoRise (s : State) : Res :=
  if s.ppsoMay ∧ s.mer.ppsHigh.isNone then
    let adv := s.fld F.MER_PPSO_ADVANCE * second / 1000000000000
    let s := s.reach (((s.time + adv) / second + 1) * second - adv)
    .next ({ s with mer := { s.mer with ppsHigh := some s.mono } }.emit (.ppso true))
  else .next s

/-- PPSO_FALL (R277): WIDTH us after it rose. -/
def execPpsoFall (s : State) : Res :=
  match s.mer.ppsHigh with
  | some t => .next (s.reachLocal (t + us (s.fld F.MER_PPSO_WIDTH))).ppsoLow
  | none => .next s

end Sys2Proof.Machine
end

