-- ==== Sys2Proof/Machine/Twin.lean ====
section
/-! DEFINITION. The Twin and clasp unit (chapter 12): the clasp (R288 to R292), pairing (R281), applying forward records
(R284 to R287), resync (R296, R297), self-diagnosis and release (R293 to R295), plane claims (R300, R301). -/

namespace Sys2Proof.Machine

/-! ## The clasp -/

/-- May the member take the clasp (R290)? `assume_` for ASSUME, which a lost sense does not stop (R291). -/
def State.mayTake (s : State) (assume_ : Bool) : Bool :=
  (s.twin.sense == .released || (assume_ && s.twin.sense == .lost)) && !s.twin.holding &&
  s.pow.state != .p2 && s.pow.state != .p3 && s.pow.state != .p4 && !s.life.held

/-- Take the clasp (R290 steps 1 to 3): a new TERM into the journal, CLASP_LINE toggles, 10 us to wait. `assume_` for ASSUME. -/
def State.takeClasp (s : State) (assume_ : Bool := false) : State :=
  let t := (s.twin.term + 1) % 2 ^ 32
  let s := { s with twin := { s.twin with
    term := t, holding := true, handover := false, assumed := assume_, termWaitEnd := none,
    settleEnd := some (s.mono + us (s.fld F.CLASPX_SETTLE)) } }
  (((s.journalize (.term t)).kick).emit (.clasp true)).note 0x22 0 0x04 0 t

/-- Release the clasp: CLASP_LINE low. -/
def State.dropClasp (s : State) : State :=
  if s.twin.holding then
    let s := { s with twin := { s.twin with
      holding := false, leader := false, settleEnd := none, bothSince := none, handover := false } }
    ((((s.emit (.clasp false)).note 0x22 0 0x04 1 s.twin.term).bump F.TWIN_HEALTH_MOVES).count 0x22 0 6)
  else s

/-! ## Pairing -/

/-- The DIGEST registers as bytes. -/
def State.digest (s : State) : List Byte := (List.range 6).flatMap (fun i => leBytes 8 (s.fld F.TWIN_DIGEST 0 i))

/-- JOIN_KIND of this member (R297). -/
def State.joinKindNow (s : State) : Nat :=
  let o := s.kf.journal.outcome
  let behind := match s.twin.peerTerm with | some t => decide (s.twin.term < t) | none => false
  if !s.twin.everHeld || s.vault.nonLatest || ((o == 0 || o == 2) && behind) then 2 else s.twin.joinKind

/-- The HELLO body (Table 12.7). -/
def State.helloBody (s : State) : List Byte :=
  s.digest ++ leBytes 8 (s.fld F.KF_VER_LEVEL + s.joinKindNow * 2 ^ 8 + s.fld F.TWIN_CFG_PREFERRED * 2 ^ 10 +
    boolNat s.twin.holding * 2 ^ 11 + s.kf.journal.outcome % 4 * 2 ^ 12 + s.fld F.HT_DEVICE_NUMBER * 2 ^ 14) ++
  leBytes 8 s.twin.term

/-- Read a HELLO body. -/
def Hello.parse (b : List Byte) : Hello :=
  let w := wordAt b 6
  ⟨b.take 48, bits w 0 8, bits w 8 2, bitAt w 10, bitAt w 11, bits w 12 2, bits w 14 14, wordAt b 7 % 2 ^ 32⟩

/-- Send HELLO on the control QP (R281). -/
def State.sendHello (s : State) : State :=
  let s := (s.sendRecord 8 11 false 0 0 0 s.helloBody .control).2
  { s with twin := { s.twin with sentHello := true } }

/-- Levels that agree (Table 12.1): the lower of the two. -/
def State.agreedLevel (s : State) (h : Hello) : Option Nat :=
  let m := s.fld F.KF_VER_LEVEL
  if m ≤ h.level + 1 ∧ h.level ≤ m + 1 then some (min m h.level) else none

/-- The pair enters IN_SYNC (R297). -/
def State.enterInSync (s : State) : State :=
  { s with twin := { s.twin with state := .inSync, cause := 0, healthSince := some s.mono, everHeld := true } }.sendPairState

/-- The leader enters RESYNC with a member that joins (R297). -/
def State.enterResync (s : State) (joinKind : Nat) : State :=
  let s := if joinKind = 2 then s.markAll else s
  let s := { s with twin := { s.twin with
    state := .resync, cause := 0, copied := [], total := s.regionsLeft, everHeld := true } }
  let s := s.sendPairState
  if s.regionsLeft = 0 then s.enterInSync else s

/-- Set STATE and CAUSE of a refusal (Table 12.1); a leader tells it (R282). Forwards and heals end with a sync (Table 12.2). -/
def State.refuse (s : State) (cause : Nat) : State :=
  let s := if s.twin.state = .resync ∨ s.twin.state = .inSync then s.dropForwards.endHeals else s
  let s := { s with twin := { s.twin with state := .refused, cause := cause, healthSince := none } }
  if s.twin.leader then s.sendPairState else s

/-- Check the peer's HELLO (Table 12.1) once both are exchanged: a leader pairs, a member in REFUSED leaves it (R281). -/
def State.tryPair (s : State) : State :=
  match s.twin.peerHello with
  | none => s
  | some h =>
    if ¬ s.twin.sentHello ∨ ¬ s.twinReady then s
    else if h.digest ≠ s.digest then s.refuse 4
    else match s.agreedLevel h with
      | none => s.refuse 5
      | some l =>
        let s := { s with twin := { s.twin with level := l } }
        if s.twin.state = .resync ∨ s.twin.state = .inSync then s
        else if s.twin.leader then s.enterResync h.joinKind
        else if s.twin.state = .refused then { s with twin := { s.twin with state := .unpaired, cause := 0 } }
        else s

/-- The twin QPs have all become READY: HELLO goes out, but in SINGLE only on command (R281, R283). -/
def State.startPairing (s : State) : State :=
  if s.twinReady ∧ ¬ s.twin.sentHello ∧ s.twin.state ≠ .single then s.sendHello else s

/-- The member comes to lead (R290 step 4, R294): after RESYNC or IN_SYNC in SINGLE with CAUSE 1. -/
def State.lead (s : State) (cause : Nat) : State :=
  let s := { s with twin := { s.twin with leader := true, followed := false, settleEnd := none, endSent := [], endAcked := false } }
  let s := (s.bump F.TWIN_HEALTH_MOVES).count 0x22 0 6
  let s := s.enterSingle cause
  (s.tryPair).serve

/-! ## Sense -/

/-- SENSE_RELEASED (Table 12.6, R294). -/
def execSenseReleased (s : State) : Res :=
  let follows := !s.twin.holding && (s.twin.state == .resync || s.twin.state == .inSync)
  let back := s.twin.holding && s.twin.settleEnd.isNone && s.twin.diagOk && !s.twin.handover
  .next { s with twin := { s.twin with
    sense := .released, releasedSince := some s.mono, bothSince := none, leader := s.twin.leader || back,
    termWaitEnd := if follows then some (s.mono + us (s.fld F.CLASPX_TERM_WAIT)) else none } }

/-- SENSE_HELD (Table 12.6, R289): the member never leads. -/
def execSenseHeld (s : State) : Res :=
  .next { s with twin := { s.twin with
    sense := .held, releasedSince := none, termWaitEnd := none, leader := false,
    bothSince := if s.twin.holding then some s.mono else none } }

/-- SENSE_LOST (Table 12.6, R291): leadership stays, Critical fault. -/
def execSenseLost (s : State) : Res :=
  .next ({ s with twin := { s.twin with
    sense := .lost, releasedSince := none, termWaitEnd := none, bothSince := none } }.raise 0x22 0 3 0x01)

/-- TAKEOVER (R294): TERM_END applied on every slice QP while the sense reads released. -/
def execTakeover (s : State) : Res :=
  let all := (List.range 8).all (fun r => match SMap.look s.twin.rx r with | some x => x.termEnd | none => false)
  if s.twin.termWaitEnd.isSome ∧ all ∧ s.mayTake false then .next s.takeClasp else .next s

/-- TERM_WAIT_EXPIRY (R294): 50 us after the sense turned released. -/
def execTermWaitExpiry (s : State) : Res :=
  match s.twin.termWaitEnd with
  | some t => if s.mayTake false then .next (s.reachLocal t).takeClasp else .next s
  | none => .next s

/-- Does this member take the clasp at a start with HELLO received (Table 12.7b)? -/
def State.startWins (s : State) : Bool :=
  match s.twin.peerHello with
  | some h =>
    let o := s.kf.journal.outcome
    !h.holding && (decide (h.term < s.twin.term) || (h.term == s.twin.term &&
      (if o == 0 && h.outcome != 0 then true
       else if o != 0 && h.outcome == 0 then false
       else s.flag F.TWIN_CFG_PREFERRED)))
  | none => false

/-- CLASP_TAKE (R290, Table 12.7b): a member in UNPAIRED, SINGLE or REFUSED that the HELLOs choose takes the clasp. -/
def execClaspTake (s : State) : Res :=
  if s.startWins ∧ s.mayTake false ∧ s.twin.state ≠ .resync ∧ s.twin.state ≠ .inSync then .next s.takeClasp else .next s

/-- CLASP_SETTLE_EXPIRY (R290 step 4, R291): 10 us after asserting CLASP_LINE; after ASSUME the sense may read lost. -/
def execClaspSettleExpiry (s : State) : Res :=
  match s.twin.settleEnd with
  | none => .next s
  | some t =>
    let s := s.reachLocal t
    if (s.twin.sense = .released ∨ (s.twin.assumed ∧ s.twin.sense = .lost)) ∧ s.twin.diagOk then
      .next (s.lead (if s.twin.assumed then 8 else 1))
    else .next { s with twin := { s.twin with settleEnd := none } }

/-- CLASP_CONTENTION (R290): both hold for 10 us; the lower TERM, or the member that is not preferred, releases. Its sync ends
with CAUSE 7 (clasp lost; log entry 120). -/
def execClaspContention (s : State) : Res :=
  match s.twin.bothSince with
  | none => .next s
  | some t =>
    let s := s.reachLocal (t + us 10)
    let peer := s.twin.peerTerm.getD s.twin.term
    if s.twin.term < peer ∨ (s.twin.term = peer ∧ ¬ s.flag F.TWIN_CFG_PREFERRED) then .next ((s.enterSingle 7).dropClasp).serve
    else .next s

/-- START_CLASP_TIMER (Table 12.7b): no HELLO, OUTCOME 0, and the sense released for 2 s. -/
def execStartClaspTimer (s : State) : Res :=
  match s.twin.releasedSince with
  | some t =>
    if s.twin.peerHello.isNone ∧ s.kf.journal.outcome = 0 ∧ s.mayTake false ∧ s.twin.state ≠ .resync ∧
        s.twin.state ≠ .inSync then .next (s.reachLocal (t + 2 * second)).takeClasp
    else .next s
  | none => .next s

/-! ## Self-diagnosis and release -/

/-- Does a condition of Table 12.8 other than a handover hold? -/
def State.diagBad (s : State) : Bool :=
  s.diagFail || (match s.fab.bothDown with | some t => decide (t + us 20 ≤ s.mono) | none => false) ||
  (List.range 16).any (fun c => s.fld F.MC_STAT_STATE c == 4) || s.pow.warn || s.life.held ||
  s.core.halted || !s.life.halted.isEmpty || s.life.stopped

/-- Heals that a merge or a fill waits for end without a heal: what was admitted is to be Placed now (log entry 114). -/
def State.endLineHeals (s : State) : State :=
  (s.pipe.heals.filter (fun p => match p.2.what with | .merge _ | .fill _ => true | _ => false)).foldl
    (fun (t : State) p => t.noHeal p.1) s

/-- Fill a granule that operations wait for, where the vault slot holds its key (R248). -/
def State.fillWaited (s : State) (g : Nat) : State :=
  if s.vault.unfilled.contains g ∧ ¬ s.vault.awaiting ∧ s.fillKey g then s.fillGranule g true else s

/-- One round of bringing what was admitted to Placed: granules filled, entries closed and merged, lines accepted by their
channels, fills returned, dirty lines written through. -/
def State.placeRound (s : State) : State :=
  let s := ((s.pipe.waits.map (fun w => granuleOf w.1)).dedup).foldl State.fillWaited s
  let s := s.drainAll
  let ls := (s.pipe.sb.map (fun (e : SbEntry) => e.line)).dedup
  let s := ls.foldl State.closeLine s
  let s := ls.foldl (fun (t : State) line =>
    match t.mergeEntry line with | some e => t.mergeReturns line e [] false | none => t) s
  let s := s.pipe.stores.foldl (fun (t : State) x => t.acceptStore x false) s
  let s := s.pipe.locket.fills.foldl (fun (t : State) f => if t.fillReady f.line then t.fillReturns f [] false else t) s
  let dirty := (s.pipe.locket.lines.filter (fun p => p.2.dirty)).map (fun p => p.2.line) ++
    (s.pipe.locket.victims.filter LkLine.dirty).map LkLine.line
  dirty.foldl State.writeThrough s

def State.placeRounds (s : State) : Nat → State
  | 0 => s
  | fuel + 1 => if s.pipeEmpty then s else State.placeRounds s.placeRound fuel

/-- Every admitted write is Placed (R38, R176, R293 step 2, Table 1.3), those that the budget or a fill held among them. -/
def State.placeAll (s : State) : State :=
  let s := s.endLineHeals
  let s := { s with pipe := { s.pipe with forced := true } }
  let t := s.placeRounds (2 * (s.pipe.waits.length + s.pipe.sb.length + s.pipe.locket.lines.length) + 8)
  { t with pipe := { t.pipe with forced := t.pow.warn } }

/-- Send TERM_END on every twin QP that is READY (R293 step 4). -/
def State.sendTermEnd (s : State) : State :=
  ((List.range 9).filter (fun r => (s.qp (s.twinQp r)).st == 2)).foldl (fun (t : State) r =>
    let x := t.sendRecord r 10 false 0 0 0 [] (.forward [] true)
    { x.2 with twin := { x.2.twin with endSent := x.2.twin.endSent ++ [(r, x.1)] } }) s

/-- Record an OUTCOME (R292). -/
def State.setOutcome (s : State) (o : Nat) : State :=
  (({ s with twin := { s.twin with followed := false } }).journalize (.outcome o)).kick

/-- The OUTCOME of a service that the early warning or a loss of power ends (R292): 0 for a leader, 3 for a follower. -/
def State.warnOutcome (s : State) : State :=
  if s.twin.leader then s.setOutcome 0 else if s.twin.followed then s.setOutcome 3 else s

/-- The leader's release (R293): admission stops, admitted writes are Placed and forwarded, TERM_END, clasp released,
OUTCOME 0 after the early warning, 1 for a handover (R295) and 2 otherwise until TERM_END is acknowledged (R292). -/
def State.release (s : State) : State :=
  let o := if s.pow.warn then 0 else if s.twin.handover && s.twin.diagOk then 1 else 2
  ((s.placeAll.sendTermEnd).dropClasp.setOutcome o).serve

/-- SELF_DIAG_FAIL (R293, R295, Table 12.8, Table 12.9): a leader releases, and after a Fatal fault its fabric goes dark only
later, so that forwards and their acknowledgements still pass (Example 12.1); a follower stops acknowledging. A planned
release (HANDOVER) is the last row of Table 12.8. -/
def execSelfDiagFail (s : State) : Res :=
  let s := match s.fab.bothDown with | some t => s.reachLocal (t + us 20) | none => s
  let bad := s.diagBad
  let plan := s.twin.handover && s.twin.leader
  if ¬ bad ∧ ¬ plan then .next s
  else
    let busy := s.fld F.TWIN_RES_STATUS == Status.busy.code
    let s := if busy then s.setFld F.TWIN_RES_STATUS 0 (if bad then Status.aborted.code else 0) else s
    let s := { s with twin := { s.twin with diagOk := s.twin.diagOk && !bad } }
    .next (if s.twin.holding then s.release else if s.diagFail then s.lanesDark else s)

/-- Self-diagnosis is judged again once a condition has gone. -/
def State.judgeDiag (s : State) : State := { s with twin := { s.twin with diagOk := !s.diagBad } }

/-- FAILBACK_TIMER (R295). -/
def execFailbackTimer (s : State) : Res :=
  match s.twin.healthSince with
  | some t =>
    if ¬ s.twin.holding ∧ s.twin.state = .inSync ∧ s.flag F.TWIN_CFG_PREFERRED ∧ s.twin.diagOk then
      let s := s.reachLocal (t + s.fld F.TWIN_CFG_FAILBACK * second)
      .next (s.sendRecord 8 12 false 0 0 0 [] .control).2
    else .next s
  | none => .next s

/-! ## Records -/

/-- The receiving side of a twin QP. -/
def emptyRx : TwinRx := ⟨[], [], 0, 0, none, false⟩
def State.rx (s : State) (r : Nat) : TwinRx := SMap.get emptyRx s.twin.rx r
def State.setRx (s : State) (r : Nat) (x : TwinRx) : State :=
  { s with twin := { s.twin with rx := SMap.put emptyRx s.twin.rx r x } }

/-- The request of a message of records. -/
def State.recOp (s : State) (r msg : Nat) : Option Nat :=
  match (s.qp (s.twinQp r)).rx.find? (fun (m : RxMsg) => m.msg == msg) with
  | some m => m.op
  | none => none

/-- Every record of a message has been applied (R285). -/
def State.msgApplied (s : State) (r msg : Nat) : State :=
  match s.recOp r msg with
  | some i => s.modOp i (fun o => { o with issued := true })
  | none => s

/-- Messages held for MSG order follow once their turn comes (R285). -/
def State.takeHeld (s : State) (r : Nat) : Nat → State
  | 0 => s
  | fuel + 1 =>
    let x := s.rx r
    match x.held.find? (fun p => p.1 == x.nextMsg) with
    | none => s
    | some p =>
      let s := s.setRx r { x with
        held := x.held.filter (fun y => y.1 != p.1), nextMsg := (x.nextMsg + 1) % 2 ^ 32, records := x.records ++ p.2 }
      State.takeHeld (if p.2.isEmpty then s.msgApplied r p.1 else s) r fuel

/-- A message of records has been delivered on a twin QP (R285): its records wait in MSG order. -/
def State.twinDeliver (s : State) (r msg : Nat) (rs : List TwinRec) : State :=
  let x := s.rx r
  let s := s.setRx r { x with held := x.held ++ [(msg, rs)] }
  let s := match rs.getLast? with
    | some y => { s with twin := { s.twin with peerTerm := some y.term } }
    | none => s
  s.takeHeld r (x.held.length + 1)

/-- The front record of a twin QP has been applied or discarded. -/
def State.popRecord (s : State) (r : Nat) (x : TwinRec) : State :=
  let y := s.rx r
  let s := (s.setRx r { y with records := y.records.drop 1 }).count 0x22 0 1
  if x.lastOfMsg then s.msgApplied r x.msg else s

/-- A record that fails its check (R286): the twin QP enters ERROR, the pair's sync ends with CAUSE 6, Major fault. -/
def State.recordFails (s : State) (r : Nat) (x : TwinRec) (st : Status) : State :=
  let s := s.setRx r emptyRx
  let s := s.failQp (s.twinQp r) 6 st.code
  (s.raise 0x22 0 2 0x02 (x.typ + st.code * 256) (64 * x.line)).enterSingle 6

/-- Apply the front record of a twin QP if it has this TYPE; one of a lower TERM is discarded and counts as applied
(R285). -/
def onRecord (r typ : Nat) (s : State) (k : TwinRec → State → State) : Res :=
  if 9 ≤ r then .fault (.noSuchUnit 0x22 r)
  else match (s.rx r).records with
    | [] => .next s
    | x :: _ =>
      if x.typ ≠ typ then .next s
      else if x.term < s.twin.term then .next (s.popRecord r x).serve
      else .next (k x s).serve

/-- Does a line lie in persistent memory? -/
def State.inPm (s : State) (line : Nat) : Bool := decide (64 * line + 64 ≤ s.vault.pmBytes)

/-- The check of a LINE record (R286): persistent memory; then, under its WKEY, generation, bounds and WRITE or ATOMIC.
WKEY 0 names no operation of a window and is checked against the bounds of persistent memory alone (log entry 33). -/
def State.recordCheck (s : State) (x : TwinRec) : Option Status :=
  let d := s.descOf (keyIdx x.wkey)
  if ¬ s.inPm x.line then some .windowBounds
  else if x.wkey = 0 then none
  else if ¬ s.keyOpen x.wkey then some .windowRevoked
  else if ¬ d.ring ∧ (64 * x.line < d.base ∨ d.base + d.len < 64 * x.line + 64) then some .windowBounds
  else if ¬ bitAt d.rights (if x.atom then 2 else 1) then some .windowRights
  else none

/-- Write bytes of a line for a record, stamped with its EPOCH (Table 12.4). -/
def State.recordWrite (s : State) (r : Nat) (x : TwinRec) (p : SMap Byte) : State :=
  match s.recOp r x.msg with
  | none => s
  | some i =>
    if p = [] then s
    else
      let w := s.stampAs i x.line x.epoch
      w.2.lineOp x.line (.write ⟨w.1, p, x.epoch, x.wkey⟩)

/-- The front record of a twin QP at the window check, once the descriptor of its WKEY is on chip (R151): applied, or it fails. -/
def State.checkedRecord (s : State) (r : Nat) (x : TwinRec) (k : State → State) : State :=
  match (if x.wkey = 0 then (true, s) else s.winAsk (keyIdx x.wkey) (.record r)) with
  | (false, s) => s
  | (true, s) => (match s.recordCheck x with | some st => s.recordFails r x st | none => k s)

/-- LINE_FULL (R286, Table 12.4). -/
def execLineFull (r : Nat) (s : State) : Res :=
  onRecord r 1 s (fun x s => s.checkedRecord r x (fun s =>
    ((s.recordWrite r x (patchAt 0 (x.body.take 64))).slotWritten x.line 1).popRecord r x))

/-- LINE_PART (R286, Table 12.4): the bytes that the mask names. -/
def execLinePart (r : Nat) (s : State) : Res :=
  onRecord r 2 s (fun x s => s.checkedRecord r x (fun s =>
    let mask := leNat (x.body.take 8)
    ((s.recordWrite r x ((patchAt 0 ((x.body.drop 8).take 64)).filter (fun p => bitAt mask p.1))).slotWritten x.line 1).popRecord
      r x))

/-- What is on its way to a line reaches its channel, and no copy of the line stays on chip: a write of the whole line follows
(R161). -/
def State.settleLine (s : State) (line : Nat) : State :=
  let busy := s.pipe.sb.any (fun (e : SbEntry) => e.line == line) || s.pipe.stores.any (fun x => x.line == line) ||
    (s.lkLine line).isSome
  if busy then
    let s := s.closeLine line
    let s := match s.mergeEntry line with | some e => s.mergeReturns line e [] false | none => s
    let s := s.writeThrough line
    ((s.pipe.stores.filter (fun x => x.line == line)).foldl (fun (t : State) x => t.acceptStore x false) s).dropResident line
  else s

/-- Store a line with the poison syndrome, in line order (R214, R321, Table 12.4). -/
def State.poisonStore (s : State) (line : Nat) : State :=
  let s := s.settleLine line
  let s := ((s.setChk line poisonDelta).dirtied (granuleOf line) s.epoch 0)
  ((s.bezelEvent 2 2 line 15 2).count 0x51 0 (3 * s.chanAt line + 2)).dropDesc line

/-- POISON_LINE (R286, Table 12.4). -/
def execPoisonLine (r : Nat) (s : State) : Res :=
  onRecord r 3 s (fun x s =>
    if s.inPm x.line then (s.poisonStore x.line).popRecord r x else s.recordFails r x .windowBounds)

/-- FENCE (Table 12.5). -/
def execFence (r : Nat) (s : State) : Res :=
  onRecord r 4 s (fun x s => (s.setRx r { s.rx r with fence := leNat (x.body.take 8) }).popRecord r x)

/-- DESC (R157, Table 12.5): held until the FENCE before it has been applied on all eight slice QPs; then the descriptor
is written and a cached copy leaves. -/
def execDesc (r : Nat) (s : State) : Res :=
  if r < 8 ∧ ¬ (List.range 8).all (fun i => decide ((s.rx r).fence ≤ (s.rx i).fence)) then .next s
  else
    onRecord r 5 s (fun x s =>
      if ¬ s.inPm x.line then s.recordFails r x .windowBounds
      else
        let idx := x.line - s.winBase / 64
        let d := Desc.parse (x.body.take 64)
        (((s.recordWrite r x (patchAt 0 (x.body.take 64))).winDrop idx).cutHandles idx d.gen).popRecord r x)

/-- SEAL_MARK (R287). -/
def execSealMark (r : Nat) (s : State) : Res :=
  onRecord r 6 s (fun x s => (s.setRx r { s.rx r with sealMark := some (leNat (x.body.take 8) % 2 ^ 40) }).popRecord r x)

/-- The answer to a HEAL_REQ (R298): the line as it stands after earlier records, or none where it is poisoned or
uncorrectable. -/
def State.healAnswer (s : State) (line : Nat) (es : List DevErr) : Option (List Byte) × State :=
  if (s.lkLine line).isSome ∨ (s.storeOf line).isSome ∨
      s.pipe.sb.any (fun (e : SbEntry) => e.line == line && e.full) then (some (s.lineNow line), s)
  else
    let base := s.pmLine line
    let r := decodeBezel (s.markOf line) (syndromes (s.chkOf line) es)
    match r with
    | .clean => (some (s.lineNow line), s)
    | .fixed d _ =>
      let t := (s.corrected 0 line d).repair line base (decodedBytes base es r) (s.chkOf line)
      (some (overlay (decodedBytes base es r) (t.sbPatch line)), t)
    | .poisoned => (none, s)
    | .bad => (none, (s.bezelEvent 1 0 line 15 7).poisonNew line 0)

/-- HEAL_REQ (R298): answered with HEAL_RESP on the line's slice QP. -/
def execHealReq (r : Nat) (es : List DevErr) (s : State) : Res :=
  onRecord r 7 s (fun x s =>
    let tag := leNat (x.body.take 8) % 65536
    let a := s.healAnswer x.line es
    let body := match a.1 with
      | some d => leBytes 8 tag ++ d
      | none => leBytes 8 (tag + Status.uncorrectable.code * 65536)
    (((a.2.popRecord r x).sendRecord r 8 false x.line 0 0 body .control).2).count 0x22 0 3)

/-- HEAL_RESP (R211, R298). -/
def execHealResp (r : Nat) (s : State) : Res :=
  onRecord r 8 s (fun x s =>
    let w := leNat (x.body.take 8)
    let s := s.popRecord r x
    if bits w 16 8 = 0 then s.healed (w % 65536) ((x.body.drop 8).take 64) else s.noHeal (w % 65536))

/-- RESYNC_LINE (R286, R297): a library slot that it changes is checked again before its next dispatch (R61), a cached
descriptor leaves (R147). -/
def execResyncLine (r : Nat) (s : State) : Res :=
  onRecord r 9 s (fun x s =>
    if s.inPm x.line then ((s.recordWrite r x (patchAt 0 (x.body.take 64))).rewritten x.line 1).popRecord r x
    else s.recordFails r x .windowBounds)

/-- TERM_END (R294). -/
def execTermEnd (r : Nat) (s : State) : Res :=
  onRecord r 10 s (fun x s => (s.setRx r { s.rx r with termEnd := true }).popRecord r x)

/-- HELLO (R281, Table 12.1): the digests and levels are compared; a member that has not sent its own does, a leader in SINGLE
only on `tresync` or RESYNC (R283). -/
def execHello (r : Nat) (s : State) : Res :=
  onRecord r 11 s (fun x s =>
    let h := Hello.parse x.body
    let s := s.popRecord r x
    let s := { s with twin := { s.twin with peerHello := some h, peerTerm := some h.term } }
    let s := (List.range 6).foldl (fun (t : State) i => t.setFld F.TWIN_PEERDIG 0 (wordAt h.digest i) i) s
    let s := if s.twin.sentHello ∨ ¬ s.twinReady ∨ (s.twin.leader ∧ s.twin.state = .single) then s else s.sendHello
    s.tryPair)

/-- HANDOVER_REQ (R295): a leader in sync starts a planned release. -/
def execHandoverReq (r : Nat) (s : State) : Res :=
  onRecord r 12 s (fun x s =>
    let s := s.popRecord r x
    if s.twin.leader ∧ s.twin.state = .inSync then { s with twin := { s.twin with handover := true } } else s)

/-- PAIR_STATE (R282): a follower's STATE and CAUSE copy the leader's. -/
def execPairState (r : Nat) (s : State) : Res :=
  onRecord r 13 s (fun x s =>
    let w := leNat (x.body.take 8)
    let s := s.popRecord r x
    if s.twin.leader then s
    else
      let st : TwinSt := match bits w 0 3 with
        | 1 => .resync | 2 => .inSync | 3 => .single | 4 => .refused | _ => .unpaired
      let was := s.twin.state
      let s := { s with twin := { s.twin with
        state := st, cause := bits w 8 8,
        everHeld := s.twin.everHeld || st == .inSync,
        followed := s.twin.followed || st == .resync || st == .inSync,
        healthSince := if st = .inSync then s.twin.healthSince.or (some s.mono) else none } }
      if was = .inSync ∧ st ≠ .inSync then s.endHeals else s)

/-- RESERVED_RECORD_TYPE (R286): ILLEGAL_LINK, and the pair's sync ends with CAUSE 6. -/
def execReservedRecordType (r : Nat) (s : State) : Res :=
  if 9 ≤ r then .fault (.noSuchUnit 0x22 r)
  else match (s.rx r).records with
    | [] => .next s
    | x :: _ => if (bodyLen x.typ).isNone then .next (s.recordFails r x .illegalLink).serve else .next s

/-! ## Timers -/

/-- FORWARD_ACK_TIMEOUT (R299): the oldest forward of a twin QP is not acknowledged within ACK_TO. -/
def execForwardAckTimeout (r : Nat) (s : State) : Res :=
  if 9 ≤ r then .fault (.noSuchUnit 0x22 r)
  else match (s.qp (s.twinQp r)).own with
    | [] => .next s
    | m :: _ =>
      if s.forwarding then .next ((s.reachLocal (m.sentAt + us (s.fld F.TWIN_CFG_ACK_TO))).enterSingle 2).serve
      else .next s

/-- HELLO_RETRY (R281): a member in REFUSED sends HELLO again. -/
def execHelloRetry (s : State) : Res :=
  if s.twin.state = .refused ∧ s.twinReady then .next s.sendHello else .next s

/-- PAIR_STATE_TIMER (R282): the leader sends PAIR_STATE at least every 1 s. -/
def execPairStateTimer (s : State) : Res :=
  if s.twin.leader then .next (s.reachLocal (s.twin.pairStateAt + second)).sendPairState else .next s

/-! ## Commands -/

/-- What `tresync` and TWIN_CMD RESYNC come to (R283). -/
def State.tresync (s : State) : Status × State :=
  if ¬ s.twin.leader then (.privilege, s)
  else match s.twin.state with
    | .resync | .inSync => (.alreadyDone, s)
    | .unpaired | .refused => (.privilege, s)
    | .single => if s.twinReady then (.ok, s.sendHello.tryPair) else (.privilege, s)

/-- A command's status stands in its result register. -/
def resultIn (f : Fld) (r : Status × State) : State := r.2.setFld f 0 r.1.code

/-- TWIN_RESYNC (R283, R302). -/
def rowTwinResync (p : Path) (s : State) : Res :=
  if p.trusted then ends p (.ok, (resultIn F.TWIN_RES_STATUS s.tresync).serve) else ends p (.privilege, s)

/-- The planned release by TWIN_CMD (R295, Table 12.9): BUSY until it has come about. -/
def State.handoverCmd (s : State) : Status × State :=
  if s.twin.leader ∧ s.twin.state = .inSync then (.busy, { s with twin := { s.twin with handover := true } })
  else (.privilege, s)

/-- TWIN_HANDOVER (R295, R299, R302). -/
def rowTwinHandover (p : Path) (s : State) : Res :=
  if p.trusted then ends p (.ok, resultIn F.TWIN_RES_STATUS s.handoverCmd) else ends p (.privilege, s)

/-- ASSUME (R291): accepted while the sense reads released or lost; the member leads after the 10 us of R290. -/
def State.assume (s : State) : Status × State :=
  if s.twin.leader then (.alreadyDone, s)
  else if s.mayTake true then (.ok, s.takeClasp true)
  else (.privilege, s)

/-- TWIN_ASSUME (R291, R302): from the management port only. -/
def rowTwinAssume (p : Path) (s : State) : Res :=
  if p = .mgmt then ends p (.ok, resultIn F.TWIN_RES_STATUS s.assume) else ends p (.privilege, s)

/-! ## Resync -/

/-- Clear a region's mark. -/
def State.unmarkRegion (s : State) (g : Nat) : State :=
  if g < s.twin.allFrom then { s with twin := { s.twin with regions := s.twin.regions.filter (fun x => x != g) } }
  else { s with twin := { s.twin with
    regions := s.twin.regions ++ (List.range (g - s.twin.allFrom)).map (fun i => s.twin.allFrom + i), allFrom := g + 1 } }

/-- The next marked region to copy, in ascending offset order (R297). -/
def State.nextRegion (s : State) : Option Nat :=
  let all := s.twin.regions.mergeSort ++
    (List.range (s.regionCount - s.twin.allFrom)).map (fun i => s.twin.allFrom + i)
  all.find? (fun g => !s.twin.copied.contains g)

/-- Send one line of a resync (R297): RESYNC_LINE, or POISON_LINE where it is poisoned or uncorrectable. -/
def State.resyncOne (s : State) (region line : Nat) (es : List DevErr) : State :=
  let a := s.healAnswer line es
  let r := sliceOf line
  match a.1 with
  | some d => (a.2.sendRecord r 9 false line a.2.epoch 0 d (.resync region)).2.count 0x22 0 4
  | none => (a.2.sendRecord r 3 false line a.2.epoch 0 [] (.resync region)).2

/-- A region's last RESYNC_LINE has been acknowledged: its bit clears, and the pair is in sync when none is left. -/
def State.regionDone (s : State) (g : Nat) : State :=
  let out := (List.range 8).any (fun r => (s.qp (s.twinQp r)).own.any (fun (m : OwnMsg) => m.what == .resync g))
  if out ∨ s.twin.state ≠ .resync then s
  else
    let s := s.unmarkRegion g
    let s := { s with twin := { s.twin with copied := s.twin.copied.filter (fun x => x != g) } }
    if s.regionsLeft = 0 then s.enterInSync else s

/-- RESYNC_REGION_COPY (R297): the next marked region, line by line; `es` are the device errors by line of the region. -/
def execResyncRegionCopy (es : List (Nat × List DevErr)) (s : State) : Res :=
  if ¬ (s.twin.leader ∧ s.twin.state = .resync) then .next s
  else match s.nextRegion with
    | none => .next s
    | some g =>
      let s := { s with twin := { s.twin with copied := s.twin.copied ++ [g] } }
      let n := min 32768 (s.vault.pmBytes / 64 - 32768 * g)
      .next ((List.range n).foldl (fun (t : State) i =>
        t.resyncOne g (32768 * g + i) ((es.filter (fun x => x.1 == i)).flatMap (fun x => x.2))) s)

/-! ## Plane claims -/

/-- Entry n of the claim table (R300). -/
def noClaim : Claim := ⟨0, 0, 0, 0, 0, 0, 0, false⟩
def State.claim (s : State) (n : Nat) : Claim := SMap.get noClaim s.claims n
def State.setClaimEntry (s : State) (n : Nat) (c : Claim) : State := { s with claims := SMap.put noClaim s.claims n c }

/-- Entries that have a prefix (CLM_STAT.ENTRIES). -/
def State.claimEntries (s : State) : Nat := (s.claims.filter (fun p => p.2.on_)).length

/-- A claim command's entry in CLM_RES. -/
def State.claimDone (s : State) (entry : Nat) (st : Status) : State :=
  (s.setFld F.CLM_RES_STATUS 0 st.code).setFld F.CLM_RES_ENTRY 0 entry

/-- Go on only with an entry of the claim table. -/
def onEntry (n : Nat) (k : Res) : Res := if n < 4096 then k else .fault (.noSuchUnit 0x22 n)

/-- The effect of SET_PREFIX (R300). -/
def State.setPrefix (s : State) (entry len : Nat) : State :=
  let len := if len ≤ 128 then len else 0
  (s.setClaimEntry entry ⟨s.fld F.CLM_DATA 0 0, s.fld F.CLM_DATA 0 1, len, 0, 0, 0, 0, true⟩).claimDone entry .ok

/-- SET_PREFIX (R300, R302). -/
def rowSetPrefix (p : Path) (entry len : Nat) (s : State) : Res :=
  onEntry entry (if p.trusted then ends p (.ok, s.setPrefix entry len) else ends p (.privilege, s))

/-- May a path set the claim of a plane (R300)? -/
def claimMay (p : Path) (plane : Nat) : Bool :=
  match p with
  | .mgmt | .firmware => true
  | .fabric q => q == plane
  | .chain => false

/-- The effect of SET_CLAIM (R300). -/
def State.putClaim (s : State) (entry plane claim : Nat) : State :=
  let c := s.claim entry
  let v := claim % 65536
  (s.setClaimEntry entry (if plane = 0 then { c with a := v, setA := s.mono } else { c with b := v, setB := s.mono })).claimDone
    entry .ok

/-- SET_CLAIM (R300). -/
def rowSetClaim (p : Path) (entry plane claim : Nat) (s : State) : Res :=
  onEntry entry (if claimMay p plane then ends p (.ok, s.putClaim entry plane claim) else ends p (.privilege, s))

/-- The effect of CLM_CMD QUERY (R302). -/
def State.queryClaim (s : State) (entry : Nat) : State :=
  let c := s.claim entry
  let s := (s.setFld F.CLM_DATA 0 c.pfxHi 0).setFld F.CLM_DATA 0 c.pfxLo 1
  (((s.setFld F.CLM_DATA2_CLAIM_A 0 (s.claimNow c.a c.setA)).setFld F.CLM_DATA2_CLAIM_B 0 (s.claimNow c.b c.setB)).setFld F.CLM_DATA2_LEN 0 c.len).claimDone
    entry .ok

/-- CLM_QUERY (R302). -/
def rowClmQuery (p : Path) (entry : Nat) (s : State) : Res :=
  onEntry entry (if p.trusted then ends p (.ok, s.queryClaim entry) else ends p (.privilege, s))

/-- The effect of CLEAR (R300). -/
def State.clearClaim (s : State) (entry : Nat) : State := (s.setClaimEntry entry noClaim).claimDone entry .ok

/-- CLM_CLEAR (R300, R302). -/
def rowClmClear (p : Path) (entry : Nat) (s : State) : Res :=
  onEntry entry (if p.trusted then ends p (.ok, s.clearClaim entry) else ends p (.privilege, s))

/-- CLAIM_TTL_EXPIRY (R300): a claim not set again for TTL seconds counts as 0. -/
def execClaimTtlExpiry (entry plane : Nat) (s : State) : Res :=
  onEntry entry <|
    let ttl := s.fld F.CLM_CFG_TTL
    if ttl = 0 then .next s
    else
      let c := s.claim entry
      let t := if plane = 0 then c.setA else c.setB
      let s := s.reachLocal (t + ttl * second)
      .next (s.setClaimEntry entry (if plane = 0 then { c with a := 0 } else { c with b := 0 }))

/-- RETURN_HOLD_EXPIRY (R301): RETURN_HOLD ms after the plane came up. -/
def execReturnHoldExpiry (plane : Nat) (s : State) : Res :=
  if 2 ≤ plane then .fault (.noSuchUnit 0x22 plane)
  else match SMap.look s.fab.hold plane with
    | none => .next s
    | some t =>
      let s := s.reachLocal (t + ms (s.fld F.CLM_CFG_RETURN_HOLD))
      .next { s with fab := { s.fab with hold := SMap.del s.fab.hold plane } }

end Sys2Proof.Machine
end

