-- ==== Sys2Proof/Machine/Facet.lean ====
section
/-! DEFINITION. What a Facet operation computes (R303 to R306, Tables 13.1 to 13.3, 13.7): tensors as spans of bytes, the
descriptor of an operation, shapes and pairings, results as bytes. -/

namespace Sys2Proof.Machine

/-! ## Tensors -/

/-- Read a tensor descriptor (Table 13.3); none where a field is out of range (R307). -/
def Tensor.parse (b : List Byte) : Option Tensor :=
  let w0 := wordAt b 0
  let dims := (List.range 4).map (fun i => leNat ((b.drop (16 + 4 * i)).take 4))
  let strides := (List.range 3).map (fun i => wordAt b (4 + i))
  let t : Tensor := ⟨w0 % 2 ^ 32, bits w0 32 4, bits w0 36 2, bitAt w0 38, bitAt w0 39, bits w0 40 16, wordAt b 1, dims, strides⟩
  if t.fmt ≤ 7 ∧ dims.all (fun d => d != 0) ∧ (dims.drop (t.rank + 1)).all (fun d => d == 1) then some t else none

def Tensor.dim (t : Tensor) (i : Nat) : Nat := t.dims.getD i 1
def Tensor.stride (t : Tensor) (i : Nat) : Nat := t.strides.getD (i - 1) 0
def Tensor.esize (t : Tensor) : Nat := fmtBytes t.fmt

/-- Bytes that the dimensions below n span (R307). -/
def Tensor.spanTo (t : Tensor) : Nat → Nat
  | 0 => t.esize
  | 1 => t.dim 0 * t.esize
  | n + 1 => (t.dim n - 1) * (if n ≤ t.rank then t.stride n else 0) + Tensor.spanTo t n

def Tensor.span (t : Tensor) : Nat := t.spanTo 4

/-- The stride rules of R307. -/
def Tensor.stridesOk (t : Tensor) : Bool :=
  (List.range 3).all (fun i =>
    let n := i + 1
    decide (t.rank < n) || (t.stride n % t.esize == 0 && decide (t.spanTo n ≤ t.stride n)))

/-- The byte place of an element within the span. -/
def Tensor.at_ (t : Tensor) (i0 i1 i2 i3 : Nat) : Nat :=
  let s (n i : Nat) : Nat := if n ≤ t.rank then i * t.stride n else 0
  i0 * t.esize + s 1 i1 + s 2 i2 + s 3 i3

/-- The bits of an element. -/
def Tensor.elem (t : Tensor) (data : SMap Byte) (i0 i1 i2 i3 : Nat) : Nat :=
  leNat (bytesAt data 0 (t.at_ i0 i1 i2 i3) t.esize)

/-! ## The descriptor of an operation -/

/-- Fields of an operation descriptor (Table 13.7). -/
structure FxDesc where
  op : Nat
  sub : Nat
  out : Nat
  engines : Nat
  keepOut : Bool
  wantA : Nat
  wantB : Nat
  act : Nat
  a : Nat
  b : Nat
  c : Nat
  hOut : Nat
  fbA : Nat
  fbB : Nat
  wkey : Nat
  off : Nat
  value : Nat
  field : Nat
  width : Nat
  deriving DecidableEq, Repr

def FxDesc.ofWords (w : List Nat) : FxDesc :=
  let g (i : Nat) : Nat := w.getD i 0
  let x := g 0
  ⟨bits x 0 8, bits x 8 4, bits x 12 4, bits x 16 7, bitAt x 23, bits x 24 2, bits x 26 2, bits x 28 3,
    g 1 % 2 ^ 32, bits (g 1) 32 32, g 2 % 2 ^ 32, bits (g 2) 32 32, g 3 % 2 ^ 32, bits (g 3) 32 32, g 4 % 2 ^ 32, g 5, g 6,
    g 7 % 65536, bits (g 7) 16 2⟩

/-- SCALE as a binary32 value. -/
def FxDesc.scale (d : FxDesc) : FVal := fp32.decode (d.value % 2 ^ 32)

/-- Output dimensions (Table 13.2), innermost first. -/
def FxDesc.outDims (d : FxDesc) (a b : Tensor) : List Nat :=
  match d.op with
  | 1 => [b.dim 1, a.dim 1, 1, 1]
  | 3 => if d.sub = 2 then a.dims else [1, a.dim 1, a.dim 2, a.dim 3]
  | 4 => [ceilDiv (a.dim 1) 8, 1, 1, 1]
  | 5 => [a.dim 0, b.dim 0, 1, 1]
  | _ => a.dims

/-- Bytes of the output (R318). -/
def FxDesc.outBytes (d : FxDesc) (a b : Tensor) : Nat := (d.outDims a b).foldl (fun x y => x * y) 1 * fmtBytes d.out

/-- The input pairings of MATMUL (R306). -/
def pairing (x y : Nat) : Bool :=
  let i8 (f : Nat) : Bool := f == 0 || f == 1
  (i8 x && i8 y) || (isFp8 x && isFp8 y) || (x == 4 && y == 4)

/-- The largest K of an integer pairing (R304). -/
def kLimit (x y : Nat) : Nat := if x = 1 ∧ y = 1 then 2 ^ 23 else 2 ^ 24

/-- Descriptor fields in range, shapes and pairing legal (Table 13.8: WINDOW_BOUNDS); `b`, `c` none where unused. -/
def FxDesc.legal (d : FxDesc) (a : Tensor) (b c : Option Tensor) : Bool :=
  decide (d.out ≤ 7 ∧ d.engines ≤ 64 ∧ d.wantA ≤ 2 ∧ d.wantB ≤ 2) &&
  (match d.op, b with
   | 1, some b =>
     decide (d.sub = 0 ∧ d.act ≤ 3) && pairing a.fmt b.fmt && a.dim 0 == b.dim 0 &&
     [a.dim 2, a.dim 3, b.dim 2, b.dim 3].all (fun x => x == 1) &&
     (if isInt a.fmt then decide (a.dim 0 ≤ kLimit a.fmt b.fmt) else true) &&
     (match c with
      | some c => c.dim 0 == b.dim 1 && [c.dim 1, c.dim 2, c.dim 3].all (fun x => x == 1) &&
          c.fmt == (if isInt a.fmt then 6 else 5)
      | none => true)
   | 2, some b =>
     decide (d.sub ≤ 3) && (List.range 4).all (fun i => b.dim i == a.dim i || b.dim i == 1)
   | 3, _ => decide (d.sub ≤ 2)
   | 4, _ =>
     decide (d.sub ≤ 5) && a.fmt == 1 && d.out == 1 && a.dim 2 == 1 && a.dim 3 == 1 &&
     decide (d.field + 2 ^ d.width ≤ a.dim 0)
   | 5, some b =>
     decide (d.sub = 0) && a.dim 2 == 1 && a.dim 3 == 1 && b.fmt == 6 && [b.dim 1, b.dim 2, b.dim 3].all (fun x => x == 1)
   | 6, _ => decide (d.sub = 0)
   | _, _ => false)

/-! ## Results -/

/-- An input as it is read: tensor and bytes by place in the span. -/
structure Arg where
  t : Tensor
  data : SMap Byte
  deriving DecidableEq, Repr

def Arg.int (x : Arg) (i0 i1 i2 i3 : Nat) : Int := elemInt x.t.fmt (x.t.elem x.data i0 i1 i2 i3)
def Arg.float (x : Arg) (i0 i1 i2 i3 : Nat) : FVal := elemFloat x.t.fmt (x.t.elem x.data i0 i1 i2 i3)

/-- A result value that the spec does not fix: GELU, SiLU, softmax (R306). -/
def freeFloat (code : Nat) (xs : List Int) (n : Nat) : FVal := fp32.decode (Config.facetValue code xs n).toNat

/-- A float as a list of integers, the argument of a free value. -/
def FVal.key (v : FVal) : List Int :=
  match v with
  | .nan => [0]
  | .inf n => [1, boolNat n]
  | .fin n m e => [2, boolNat n, m, e]

/-- ACT on a binary32 value (R305). -/
def actFloat (act : Nat) (v : FVal) : FVal :=
  match act with
  | 0 => v
  | 1 => if v.lt (.fin false 0 0) then .fin false 0 0 else v
  | _ => freeFloat act v.key 0

/-- The result of an integer sum after bias: ACT, SCALE, format (R305). -/
def actInt (d : FxDesc) (acc : Int) : Nat :=
  match d.act with
  | 0 => intOut d.out d.scale acc
  | 1 => intOut d.out d.scale (max 0 acc)
  | n => floatOut d.out (mul32 (freeFloat n [acc] 0) d.scale)

/-- One element of a MATMUL: row m of A with row n of B, bias C (R304, R305). -/
def matmulAt (d : FxDesc) (a b : Arg) (c : Option Arg) (m n : Nat) : Nat :=
  let k := a.t.dim 0
  if isInt a.t.fmt then
    let acc := (List.range k).foldl (fun (x : Int) i => x + a.int i m 0 0 * b.int i n 0 0) 0
    actInt d (acc + (match c with | some c => c.int n 0 0 0 | none => 0))
  else
    let acc := sum32 ((List.range k).map (fun i => (a.float i m 0 0).mul (b.float i n 0 0)))
    let acc := match c with | some c => add32 acc (c.float n 0 0 0) | none => acc
    floatOut d.out (mul32 (actFloat d.act acc) d.scale)

/-- One element of an ELTWISE (R306): SUBOP 0 add, 1 multiply, 2 max, 3 min. -/
def eltAt (d : FxDesc) (a b : Arg) (i0 i1 i2 i3 : Nat) : Nat :=
  let j (n i : Nat) : Nat := if b.t.dim n = 1 then 0 else i
  if isInt a.t.fmt ∧ isInt b.t.fmt then
    let x := a.int i0 i1 i2 i3
    let y := b.int (j 0 i0) (j 1 i1) (j 2 i2) (j 3 i3)
    intOut d.out d.scale (clamp40 (match d.sub with | 0 => x + y | 1 => x * y | 2 => max x y | _ => min x y))
  else
    let x := a.float i0 i1 i2 i3
    let y := b.float (j 0 i0) (j 1 i1) (j 2 i2) (j 3 i3)
    floatOut d.out (mul32 (match d.sub with | 0 => add32 x y | 1 => mul32 x y | 2 => x.max y | _ => x.min y) d.scale)

/-- One element of a REDUCE along DIM0 (R306). -/
def reduceAt (d : FxDesc) (a : Arg) (i0 i1 i2 i3 : Nat) : Nat :=
  let k := a.t.dim 0
  if d.sub = 2 then
    floatOut d.out (mul32 (freeFloat 16 ((List.range k).flatMap (fun i => (a.float i i1 i2 i3).key)) i0) d.scale)
  else if isInt a.t.fmt then
    let xs := (List.range k).map (fun i => a.int i i1 i2 i3)
    intOut d.out d.scale (match d.sub with
      | 0 => xs.foldl (fun s x => clamp40 (s + x)) 0
      | _ => xs.foldl max (xs.headD 0))
  else
    let xs := (List.range k).map (fun i => a.float i i1 i2 i3)
    floatOut d.out (mul32 (match d.sub with
      | 0 => sum32 xs
      | _ => xs.foldl FVal.max (xs.headD .nan)) d.scale)

/-- Does record r match (SCAN, Table 13.2)? -/
def scanHit (d : FxDesc) (a : Arg) (r : Nat) : Bool :=
  let n := 2 ^ d.width
  let x := leNat ((List.range n).map (fun i => BitVec.ofNat 8 (a.t.elem a.data (d.field + i) r 0 0)))
  let y := d.value % 2 ^ (8 * n)
  match d.sub with
  | 0 => x == y | 1 => x != y | 2 => decide (x < y) | 3 => decide (x ≤ y) | 4 => decide (y < x) | _ => decide (y ≤ x)

/-- Every index over dimensions, innermost fastest. -/
def indices (dims : List Nat) : List (Nat × Nat × Nat × Nat) :=
  (List.range (dims.getD 3 1)).flatMap (fun i3 => (List.range (dims.getD 2 1)).flatMap (fun i2 =>
    (List.range (dims.getD 1 1)).flatMap (fun i1 => (List.range (dims.getD 0 1)).map (fun i0 => (i0, i1, i2, i3)))))

/-- The output bytes of an operation, or the code with which it ends (GATHER index beyond A's rows). -/
def facetResult (d : FxDesc) (a : Arg) (b c : Option Arg) : Except Status (List Byte) :=
  let bb := b.getD a
  let put (v : Nat) : List Byte := leBytes (fmtBytes d.out) v
  match d.op with
  | 4 =>
    let n := a.t.dim 1
    .ok ((List.range (ceilDiv n 8)).map (fun i => BitVec.ofNat 8 ((List.range 8).foldl (fun x j =>
      if 8 * i + j < n ∧ scanHit d a (8 * i + j) then x + 2 ^ j else x) 0)))
  | 5 =>
    let rows := (List.range (bb.t.dim 0)).map (fun i => bb.int i 0 0 0)
    if rows.any (fun r => decide (r < 0 ∨ (a.t.dim 1 : Int) ≤ r)) then .error .windowBounds
    else .ok (rows.flatMap (fun r => (List.range (a.t.dim 0)).flatMap (fun i =>
      put (if d.out = a.t.fmt then a.t.elem a.data i r.toNat 0 0
        else if isInt a.t.fmt then intOut d.out (.fin false 1 0) (a.int i r.toNat 0 0)
        else floatOut d.out (a.float i r.toNat 0 0)))))
  | _ =>
    .ok ((indices (d.outDims a.t bb.t)).flatMap (fun i =>
      put (match d.op with
        | 1 => matmulAt d a bb c i.2.1 i.1
        | 2 => eltAt d a bb i.1 i.2.1 i.2.2.1 i.2.2.2
        | 3 => reduceAt d a i.1 i.2.1 i.2.2.1 i.2.2.2
        | _ =>
          if isInt a.t.fmt then intOut d.out d.scale (a.int i.1 i.2.1 i.2.2.1 i.2.2.2)
          else floatOut d.out (mul32 (a.float i.1 i.2.1 i.2.2.1 i.2.2.2) d.scale))))

/-- Multiply-accumulates of an operation (Table 17.1). -/
def FxDesc.macs (d : FxDesc) (a b : Tensor) : Nat := if d.op = 1 then a.dim 0 * a.dim 1 * b.dim 1 else 0

end Sys2Proof.Machine
end

