-- ==== Sys2Proof/Machine/Tiers.lean ====
section
/-! DEFINITION. Tensor tiers and Facet operations (chapter 13): handles (R307, R308), promotion and eviction (R311 to
R316), dispatch and results of operations (R318 to R324), neighbours and the lend area (R325 to R327), their commands. -/

namespace Sys2Proof.Machine

/-! ## Handles -/

def State.setHandle (s : State) (i : Nat) (h : Handle) : State :=
  { s with tiers := { s.tiers with handles := SMap.ins s.tiers.handles i h } }

/-- Change handle i, where it is registered. -/
def State.modHandle (s : State) (i : Nat) (f : Handle → Handle) : State :=
  match SMap.look s.tiers.handles i with
  | some h => s.setHandle i (f h)
  | none => s

/-- The use counter of R313 advances. -/
def State.tick (s : State) : State := { s with tiers := { s.tiers with clock := s.tiers.clock + 1 } }

/-- CHECK that index i will be given (R308). -/
def State.nextCheck (s : State) (i : Nat) : Nat := SMap.get 1 s.tiers.checks i

/-- Tell the deferred `tevict` operations of a handle that it has taken effect (R315, R75). -/
def State.tellEvicted (s : State) (ws : List (Nat × Nat × Nat)) : State :=
  { s with kex := { s.kex with seqs := s.kex.seqs.map (fun p =>
    (p.1, { p.2 with asyncs := p.2.asyncs.map (fun (a : AsyncOp) =>
      if ws.contains (p.1, p.2.chain, a.n) then { a with what := .ready .ok } else a) })) } }

/-- Release a handle (R308): the index's CHECK advances, never to 0; a deferred eviction of it has taken effect. -/
def State.releaseHandle (s : State) (i : Nat) : State :=
  let s := s.tellEvicted (match SMap.look s.tiers.handles i with | some h => h.waiters | none => [])
  let c := s.nextCheck i
  { s with tiers := { s.tiers with
    handles := SMap.del s.tiers.handles i, checks := SMap.put 1 s.tiers.checks i (c % 65535 + 1),
    promos := s.tiers.promos.filter (fun (p : Promo) => p.h != i) } }.tellLinks (fun _ w =>
      match w with
      | .promote h _ _ => if h = i then some .windowRevoked else none
      | _ => none)

/-- The handle that a link of a ring names (R308): WINDOW_REVOKED when it is released or its CHECK is wrong, WINDOW_RIGHTS
when it belongs to another ring and is not shared. -/
def State.handleOf (s : State) (v ring : Nat) : Except Status (Nat × Handle) :=
  match SMap.look s.tiers.handles (v % 65536) with
  | none => .error .windowRevoked
  | some h =>
    if h.check ≠ bits v 16 16 then .error .windowRevoked
    else if h.ring ≠ ring ∧ ¬ h.t.shared then .error .windowRights
    else .ok (v % 65536, h)

/-- A promotion in progress. -/
def State.promoOf (s : State) (h tier : Nat) : Option Promo :=
  s.tiers.promos.find? (fun (p : Promo) => p.h == h && p.tier == tier)
def State.promoting (s : State) (h : Nat) : Bool := s.tiers.promos.any (fun (p : Promo) => p.h == h)

/-- Is a girdle promotion of the handle on its way, be it into the neighbour tier? -/
def State.promotingTo (s : State) (h tier : Nat) : Bool :=
  (s.promoOf h tier).isSome || (tier == 1 && (s.promoOf h 2).isSome)

/-- The copy of a handle in a tier. -/
def Handle.copyIn (h : Handle) (tier : Nat) : Option TierCopy :=
  match tier with
  | 0 => h.crown
  | 1 => h.girdle
  | _ => h.neigh

/-- Its copy when it is complete and not stale. -/
def Handle.fresh (h : Handle) (tier : Nat) : Option TierCopy :=
  match h.copyIn tier with
  | some c => if c.stale then none else some c
  | none => none

def Handle.setCopy (h : Handle) (tier : Nat) (c : Option TierCopy) : Handle :=
  match tier with
  | 0 => { h with crown := c }
  | 1 => { h with girdle := c }
  | _ => { h with neigh := c }

def Handle.dropCopies (h : Handle) : Handle := { h with crown := none, girdle := none, neigh := none }

/-- The lowest free handle index from i on (R308). -/
def State.freeHandle (s : State) : Nat → Nat → Option Nat
  | 0, _ => none
  | fuel + 1, i => if (SMap.look s.tiers.handles i).isNone then some i else State.freeHandle s fuel (i + 1)

/-- A link ends with TIER_FULL (TM_MISS.FULL). -/
def State.tierFull (s : State) : State := (s.bump F.TM_MISS_FULL).count 0x81 0 5

/-- `tload` (R307, R309, R312, Table 13.8): status, and the handle. -/
def State.tload (s : State) (ring : Nat) (b : List Byte) : Status × Nat × State :=
  if ¬ s.serves .read then (.privilege, 0, s)
  else if ¬ s.keyOpen (leNat (b.take 4)) then (.windowRevoked, 0, s)
  else match Tensor.parse b with
    | none => (.windowBounds, 0, s)
    | some t =>
      let d := s.descOf (keyIdx t.wkey)
      let track := bitAt t.alloc 4
      if ¬ t.stridesOk ∨ 2 ^ 32 < t.span ∨ s.lenOf d < t.off + t.span then (.windowBounds, 0, s)
      else if ¬ bitAt d.rights 0 ∨ ¬ bitAt d.rights 3 ∨ d.control ∨ d.ring ∨ d.lend then (.windowRights, 0, s)
      else
        let tracked := (s.tiers.handles.filter (fun p => bitAt p.2.t.alloc 4)).length
        match s.freeHandle 65535 1 with
        | none => (.tierFull, 0, s.tierFull)
        | some i =>
          if track ∧ 4096 ≤ tracked then (.tierFull, 0, s.tierFull)
          else
            let words := (List.range 8).map (wordAt b)
            let h : Handle := ⟨s.nextCheck i, words, t, ring, none, none, none, false, false, 0, 0, 0, [], false,
              d.base + t.off, t.span, keyIdx t.wkey, d.gen⟩
            (.ok, i + h.check * 65536, s.setHandle i h)

/-! ## Room -/

/-- Bytes of copies and of promotions under way in a tier. -/
def State.tierUsed (s : State) (tier : Nat) : Nat :=
  s.tiers.handles.foldl (fun n p =>
    n + (if (p.2.copyIn tier).isSome then p.2.span else 0) +
      (if (s.promoOf p.1 tier).isSome then p.2.span else 0)) 0

/-- Capacity for copies (Table 13.5). -/
def State.tierRoom (s : State) (tier : Nat) : Nat :=
  if tier = 0 then s.fld F.TM_CAP_CROWN_MIB * 2 ^ 20 else (72 - s.fld F.TM_CAP_LEND_GIB) * 2 ^ 30

/-- The copy to evict from a tier next (R313): REFS 0, no promotion of its handle, lowest KEEPRANK, least recently used. -/
def State.victim (s : State) (tier : Nat) : Option Nat :=
  let rank (h : Handle) : Nat := bits h.t.alloc 5 2
  let used (h : Handle) : Nat := match h.copyIn tier with | some c => c.used | none => 0
  (s.tiers.handles.foldl (fun (b : Option (Nat × Handle)) p =>
    if (p.2.copyIn tier).isNone ∨ p.2.refs ≠ 0 ∨ s.promoting p.1 then b
    else match b with
      | none => some p
      | some (_, h) =>
        if rank p.2 < rank h ∨ (rank p.2 = rank h ∧ used p.2 < used h) then some p else b) none).map (fun p => p.1)

/-- Make room for n bytes in a tier (R313). -/
def State.makeRoom (s : State) (tier n : Nat) : Nat → Option State
  | 0 => none
  | fuel + 1 =>
    if s.tierUsed tier + n ≤ s.tierRoom tier then some s
    else match s.victim tier with
      | some i => State.makeRoom ((s.modHandle i (fun h => h.setCopy tier none)).count 0x81 0 2) tier n fuel
      | none => none

/-- The places taken in a neighbour's share, by copies and by promotions under way: where each starts and its length. -/
def State.shareTaken (s : State) (m : Nat) : List (Nat × Nat) :=
  s.tiers.handles.foldl (fun (l : List (Nat × Nat)) p =>
    (match p.2.neigh with | some c => if c.at_ = m then [(c.pos, p.2.span)] else [] | none => []) ++
    (match s.promoOf p.1 2 with | some y => if y.at_ = m then [(y.pos, p.2.span)] else [] | none => []) ++ l) []

/-- The lowest place for n bytes in a neighbour's share: its start or the end of what is taken (R326). -/
def State.sharePlace (s : State) (m gib n : Nat) : Option Nat :=
  let taken := s.shareTaken m
  ((0 :: taken.map (fun t => t.1 + t.2)).mergeSort).find? (fun a =>
    decide (a + n ≤ gib * 2 ^ 30) && !taken.any (fun t => overlaps a n t.1 t.2))

/-- A neighbour share with room for n bytes, and the place in it (R326). -/
def State.neighbourFor (s : State) (n : Nat) : Option (Nat × Nat) :=
  s.tiers.neigh.findSome? (fun p =>
    if p.2.valid && p.2.up then (s.sharePlace p.1 p.2.gib n).map (fun a => (p.1, a)) else none)

/-- Room in the neighbour tier, copies there making way as R313 sets. -/
def State.neighbourRoom (s : State) (n : Nat) : Nat → Option (Nat × Nat × State)
  | 0 => none
  | fuel + 1 =>
    match s.neighbourFor n with
    | some x => some (x.1, x.2, s)
    | none => (match s.victim 2 with
      | some i => State.neighbourRoom ((s.modHandle i (fun h => h.setCopy 2 none)).count 0x81 0 2) n fuel
      | none => none)

/-! ## Promotion -/

/-- Does ALLOC of the tensor and of its window permit a tier (R309)? Bits 0 girdle, 1 crown, 2 neighbour. -/
def State.permits (s : State) (h : Handle) (bit : Nat) : Bool :=
  bitAt h.t.alloc bit && bitAt (s.descOf h.idx).alloc bit

/-- Do two handles name the same bytes (R311)? -/
def sameBytes (x y : Handle) : Bool :=
  x.idx == y.idx && x.t.off == y.t.off && x.t.fmt == y.t.fmt && x.t.dims == y.t.dims && x.t.strides == y.t.strides

/-- A complete copy of a handle's bytes in a tier, with the handle that holds it: its own, or another's of the same bytes; one whose
handle is evicting or revoked, or whose neighbour is lost, does not serve (R311, R315, R316, R327). -/
def State.copyIn (s : State) (i : Nat) (h : Handle) (tier : Nat) : Option (Nat × TierCopy) :=
  let serves (x : Handle) : Option TierCopy :=
    if x.evicting || x.revoked then none
    else (x.fresh tier).filter (fun c => tier != 2 || (match SMap.look s.tiers.neigh c.at_ with | some n => n.up | none => false))
  match serves h with
  | some c => some (i, c)
  | none => s.tiers.handles.findSome? (fun p => if sameBytes h p.2 then (serves p.2).map (fun c => (p.1, c)) else none)

/-- The highest tier that holds a complete copy of a handle's bytes (R311): tier, the handle that holds it, the copy. -/
def State.copyFor (s : State) (i : Nat) (h : Handle) : Option (Nat × Nat × TierCopy) :=
  [0, 1, 2].findSome? (fun tier => (s.copyIn i h tier).map (fun c => (tier, c.1, c.2)))

/-- Begin a pavilion read of a span. -/
def State.pavRead (s : State) (src : OpSrc) (base span : Nat) : Nat × State :=
  let r := s.newOp src .read 1 span
  (r.1, (r.2.readWin r.1 base span).modOp r.1 (fun o => { o with issued := true }))

/-- Begin the read of a neighbour's copy (R326). -/
def State.shareRead (s : State) (src : OpSrc) (x : Neighbour) (pos span : Nat) : Nat × State :=
  let r := s.newOp src .read 1 span
  let m := r.2.sendRequest x.qpn 0x02 ⟨x.key, span, pos, 0, 1, 0, 0⟩ [] (.op r.1) false
  (r.1, (m.2.modOp r.1 (fun o => { o with issued := true, reads := 1 })).countUnits 0x81 0 7 64 span)

/-- Begin what a promotion reads (R311): the request and the neighbour it goes to, if any; no request when a copy on this controller
will fill it. -/
def State.promoRead (s : State) (i : Nat) (h : Handle) (tier : Nat) : Option Nat × Option Nat × State :=
  let pav : Option Nat × Option Nat × State :=
    let r := s.pavRead (.promo i tier) h.base h.span
    (some r.1, none, r.2)
  if tier = 0 ∧ s.promotingTo i 1 then (none, none, s)
  else match s.copyFor i h with
    | some (2, _, c) =>
      (match SMap.look s.tiers.neigh c.at_ with
       | some x =>
         let r := s.shareRead (.promo i tier) x c.pos h.span
         (some r.1, some c.at_, r.2)
       | none => pav)
    | some _ => (none, none, s)
    | none => pav

/-- Start a promotion in a tier where room has been made. -/
def State.addPromo (s : State) (i : Nat) (h : Handle) (tier at_ pos : Nat) : State :=
  let r := s.promoRead i h tier
  let p : Promo := ⟨i, tier, .ok, false, 0, r.1, false, false, at_, pos, r.2.1⟩
  let r := r.2
  { r.2 with tiers := { r.2.tiers with promos := r.2.tiers.promos ++ [p] } }.count 0x81 0 0

/-- Start a promotion to the crown (0) or the girdle (1), which may move to the neighbour tier (R313, R314). -/
def State.startPromo (s : State) (i : Nat) (h : Handle) (tier : Nat) : Except Status State :=
  let fuel := s.tiers.handles.length + 1
  match s.makeRoom tier h.span fuel with
  | some t => .ok (t.addPromo i h tier 0 0)
  | none =>
    if tier = 1 ∧ (h.fresh 2).isSome then .error .ok
    else match (if tier = 1 ∧ s.permits h 2 then s.neighbourRoom h.span fuel else none) with
      | some (n, pos, t) => .ok (t.addPromo i h 2 n pos)
      | none => .error .tierFull

/-- What a `tpromote` comes to (R314, Table 13.6): a status at once, or a wait for the promotion, or a wait for the
eviction. `imm` names the tier; policy and fallback are those of a FALLBACK word. -/
inductive PromoteOut where
  | done (st : Status)
  | wait (h tier : Nat)
  | again
  deriving DecidableEq, Repr

def State.tpromote (s : State) (v ring imm : Nat) (fb : Option (Nat × Nat)) : PromoteOut × State :=
  match s.handleOf v ring with
  | .error st => (.done st, s)
  | .ok (i, h) =>
    if h.revoked then (.done .windowRevoked, s)
    else if h.evicting then (.again, s)
    else if 2 ≤ imm then (.done .windowBounds, s)
    else if ¬ s.permits h (1 - imm) then (.done .windowRights, s)
    else
      let s := match fb with
        | some (pol, f) => s.modHandle i (fun h => { h with policy := pol, fallback := f })
        | none => s
      if (h.fresh imm).isSome then (.done .ok, s.tick)
      else if s.promotingTo i imm then (.wait i (if (s.promoOf i imm).isSome then imm else 2), s)
      else match s.startPromo i h imm with
        | .ok t => (.wait i (if (t.promoOf i imm).isSome then imm else 2), t)
        | .error st => (.done st, if st = .tierFull then s.tierFull else s.tick)

/-- A promotion ends: the links that wait for it learn its status. -/
def State.endPromo (s : State) (p : Promo) (st : Status) : State :=
  ({ s with tiers := { s.tiers with promos := s.tiers.promos.filter (fun (x : Promo) => x.h != p.h || x.tier != p.tier) } }).tellLinks
    (fun _ w => match w with | .promote h t _ => if h = p.h ∧ t = p.tier then some st else none | _ => none)

/-- Send the bytes of a neighbour-tier copy as one WRITE message (R326). -/
def State.fillNeighbour (s : State) (p : Promo) (x : Neighbour) (data : SMap Byte) (n : Nat) : State :=
  let r := s.sendRequest x.qpn 0x01 ⟨x.key, n, p.pos, 0, 1, 0, 0⟩ (bytesAt data 0 0 n) (.neighbour p.h) true
  { r.2 with tiers := { r.2.tiers with promos := r.2.tiers.promos.map (fun (y : Promo) =>
    if y.h = p.h ∧ y.tier = p.tier then { y with sent := true } else y) } }

/-- The promotion makes its copy. -/
def State.makeCopy (s : State) (p : Promo) (data : SMap Byte) (n : Nat) : State :=
  let s := s.tick
  (((s.modHandle p.h (fun h => h.setCopy p.tier (some ⟨data, false, p.at_, p.pos, s.tiers.clock⟩))).endPromo p p.status).count
    0x81 0 1).countUnits 0x81 0 6 64 n

/-- PROMOTION_DONE (R311, R312, R314, Table 13.6): the copy is complete. A promotion waits while it pauses or while the
girdle copy it fills from is made, starts again after a tracked write, ends with WINDOW_REVOKED after a revoke cut and
with UNCORRECTABLE on a line that cannot be healed. A girdle copy that it fills from may show a parity error (R213, a free
value): it drops, and the promotion reads from the next tier; a neighbour that fails a read is lost (R327). -/
def execPromotionDone (i tier : Nat) (s : State) : Res :=
  match s.promoOf i tier, SMap.look s.tiers.handles i with
  | some p, some h =>
    let put (t : State) (y : Promo) : State :=
      { t with tiers := { t.tiers with promos := t.tiers.promos.map (fun (x : Promo) =>
        if x.h = i ∧ x.tier = tier then y else x) } }
    if p.revoked ∨ h.revoked then .next (s.endPromo p .windowRevoked)
    else if p.pauses ≠ 0 ∧ ¬ s.flag F.TMX_STREAM_PAUSE ∨ p.sent then .next s
    else if p.restart then
      let s := match p.op with | some o => s.endOp o | none => s
      let r := s.promoRead i h tier
      .next (put r.2.2 { p with op := r.1, src := r.2.1, restart := false })
    else
      let fill (s : State) (p : Promo) (data : SMap Byte) : State :=
        if tier = 2 then
          match SMap.look s.tiers.neigh p.at_ with
          | some x => if x.up then s.fillNeighbour p x data h.span
            else (s.endPromo p .tierFull).tierFull
          | none => (s.endPromo p .tierFull).tierFull
        else s.makeCopy p data h.span
      match p.op with
      | some o =>
        (match s.op? o with
         | none => .next s
         | some x =>
           if x.reads ≠ 0 ∧ ¬ (p.src.isSome ∧ x.status.isFailure) then .next s
           else
             let s := s.endOp o
             if x.status.isFailure then
               match p.src with
               | some n =>
                 let r := (s.loseNeighbour n).promoRead i h tier
                 .next (put r.2.2 { p with op := r.1, src := r.2.1 })
               | none => .next (s.endPromo p .uncorrectable)
             else
               let p := { p with status := p.status.meet x.status }
               .next (fill (put s p) p x.data))
      | none =>
        if tier = 0 ∧ s.promotingTo i 1 then .next s
        else match s.copyFor i h with
          | some (0, _, c) => .next (fill s p c.data)
          | some (1, j, c) =>
            let n := s.draw
            if Config.girdleParity n.1 then
              let t := (n.2.raise 0x81 0 1 0x01).modHandle j (fun x => x.setCopy 1 none)
              let r := t.promoRead i ((SMap.look t.tiers.handles i).getD h) tier
              .next (put r.2.2 { p with op := r.1, src := r.2.1 })
            else .next (fill s p c.data)
          | _ =>
            let r := s.promoRead i h tier
            .next (put r.2.2 { p with op := r.1, src := r.2.1 })
  | _, _ => .next s

/-- A neighbour has taken the bytes of a copy (R326); when it has refused them there is no room there (log entry 122). -/
def State.neighbourFilled (s : State) (i : Nat) (st : Status) : State :=
  match s.promoOf i 2 with
  | some p =>
    if st.isFailure then (s.endPromo p .tierFull).tierFull else s.makeCopy p [] 0
  | none => s

/-- TPROMOTE_DEADLINE (R314): the TIME instant of a `tpromote` of a sequencer passes; the promotion goes on. -/
def execTpromoteDeadline (q : Nat) (s : State) : Res :=
  onUnit 0x70 q <|
    match SMap.look s.kex.seqs q with
    | none => .next s
    | some x =>
      let times := (x.wait.toList.map SeqWait.what ++ x.asyncs.map AsyncOp.what).filterMap (fun w =>
        match w with | .promote _ _ (some t) => some t | _ => none)
      match times with
      | [] => .next s
      | t0 :: rest =>
        let t := rest.foldl min t0
        let s := s.reach t
        let n := (times.filter (fun u => u == t)).length
        .next (((s.tellLinks (fun n w => match w with
          | .promote _ _ (some t1) => if n = q ∧ t1 = t then some .deadlineMiss else none
          | _ => none)).bump F.TM_MISS_DEADLINE 0 n).count 0x81 0 4 n)

/-! ## Eviction -/

/-- The effect of an eviction (R308, R315): copies drop; without KEEP, or when revoked, the handle is released. -/
def State.evictNow (s : State) (i : Nat) (h : Handle) : State :=
  let s := s.count 0x81 0 2
  if h.t.keep ∧ ¬ h.revoked then s.setHandle i { h.dropCopies with evicting := false, waiters := [] }
  else s.releaseHandle i

/-- `tevict` (R315, R316): OK, or DEFERRED with the asynchronous operation (sequencer, chain, number) that the eviction
will complete. -/
def State.tevict (s : State) (v ring : Nat) (who : Nat × Nat × Nat) : Status × State :=
  match s.handleOf v ring with
  | .error _ => (.windowRevoked, s)
  | .ok (i, h) =>
    if h.refs = 0 ∧ ¬ s.promoting i then (.ok, s.evictNow i h)
    else (.deferred, (s.setHandle i { h with evicting := true, waiters := h.waiters ++ [who] }).count 0x81 0 3)

/-- EVICTION_EFFECT (R315): every promotion has completed and REFS is 0. -/
def execEvictionEffect (i : Nat) (s : State) : Res :=
  match SMap.look s.tiers.handles i with
  | some h =>
    if h.evicting ∧ h.refs = 0 ∧ ¬ s.promoting i then .next ((s.evictNow i h).tellEvicted h.waiters) else .next s
  | none => .next s

/-! ## Dispatch -/

/-- The handle numbers that an operation names, with what Table 13.8 says of each. -/
def State.fxHandle (s : State) (v ring : Nat) : Except Status (Option (Nat × Handle)) :=
  if v = 0 then .ok none
  else match s.handleOf v ring with
    | .ok (i, h) => if h.revoked then .error .windowRevoked else .ok (some (i, h))
    | .error st => .error st

/-- The checks of `fx` (R318, R319, Table 13.8), in the order of the table; OK when the operation may be accepted. -/
def State.fxCheck (s : State) (ring : Nat) (d : FxDesc) : Status :=
  let sts := [d.a, d.b, d.c, (if d.keepOut then d.hOut else 0)].map (fun v =>
    match s.fxHandle v ring with | .error st => st | .ok _ => .ok)
  let od := s.descOf (keyIdx d.wkey)
  if ¬ s.serves .write then .privilege
  else if sts.contains .windowRevoked ∨ ¬ s.keyOpen d.wkey then .windowRevoked
  else
    let look (v : Nat) : Option Handle := SMap.look s.tiers.handles (v % 65536)
    match look d.a with
    | none => .windowBounds
    | some a =>
      let b := if d.b = 0 then none else look d.b
      let c := if d.c = 0 then none else look d.c
      if ¬ d.legal a.t (b.map Handle.t) (c.map Handle.t) then .windowBounds
      else
        let n := d.outBytes a.t ((b.map Handle.t).getD a.t)
        let base := od.base + d.off
        let clash := ([some a, b, c].filterMap id).any (fun h => overlaps base n h.base h.span)
        let outOk := if d.keepOut then
            (match look d.hOut with | some h => h.base == base && h.span == n | none => false) else true
        if s.lenOf od < d.off + n ∨ clash ∨ ¬ outOk then .windowBounds
        else if sts.contains .windowRights ∨ ¬ bitAt od.rights 1 ∨ ¬ bitAt od.rights 3 ∨ od.control ∨ od.ring ∨ od.lend then
          .windowRights
        else
          let big (want : Nat) (h : Option Handle) : Bool :=
            want == 2 && (match h with | some h => decide (s.fld F.TM_CAP_CROWN_MIB * 2 ^ 20 < h.span) | none => false)
          if big d.wantA (some a) ∨ big d.wantB b then .tierFull else .ok

/-- Operations accepted and not started (R319). -/
def State.fxQueued (s : State) : Nat := (s.tiers.ops.filter (fun p => p.2.stage == .queued)).length

/-- Tickets of a chain that it has not waited on. -/
def State.fxOpen (s : State) (q chain : Nat) : Nat :=
  (s.tiers.ops.filter (fun p => p.2.q == q && p.2.chain == chain && !p.2.waited)).length

/-- The first `fx` that names a tensor with PREFETCH starts a girdle promotion (Table 13.4). -/
def State.prefetch (s : State) (v : Nat) : State :=
  match SMap.look s.tiers.handles (v % 65536) with
  | some h =>
    let s := s.setHandle (v % 65536) { h with named := true }
    if v ≠ 0 ∧ ¬ h.named ∧ bitAt h.t.alloc 3 ∧ s.flag F.TM_CFG_PREFETCH_EN ∧ s.permits h 0 ∧ (h.fresh 1).isNone ∧
        ¬ s.promotingTo (v % 65536) 1 then
      (match s.startPromo (v % 65536) { h with named := true } 1 with | .ok t => t | .error _ => s)
    else s
  | none => s

/-- Accept an operation (R319): its ticket. -/
def State.fxAccept (s : State) (q chain ring level : Nat) (words : List Nat) (deadline : Option Nat)
    (policy fb : Nat) : Nat × State :=
  let d := FxDesc.ofWords words
  let tk := s.tiers.nextTk
  let snaps := [d.a, d.b, d.c].filterMap (fun v =>
    (SMap.look s.tiers.handles (v % 65536)).map (fun (h : Handle) => (v, { h.dropCopies with refs := 0, waiters := [] })))
  let o : FxOp := ⟨q, chain, ring, s.fld F.RING_CFG_PRIO ring, words, level, deadline, policy, fb,
    s.fld F.RING_PROFILE_FALLBACK ring, snaps, .queued, .ok, [], 0, 0, [],
    [], none, false⟩
  let s := { s with tiers := { s.tiers with ops := SMap.ins s.tiers.ops tk o, nextTk := tk + 1 } }
  (tk, ((s.prefetch d.a).prefetch d.b).prefetch d.c)

/-- Is the Facet rail up, as FE_STAT.STATE shows it (Table 13.10)? -/
def State.facetOn (s : State) : Bool :=
  (s.pow.state == .p0 || s.pow.state == .p4) ||
  (match SMap.look s.pow.rails 11 with | some r => r.st == .inWindow | none => false)

/-- Engines that can take work now (R329, R324). -/
def State.freeEngines (s : State) : List Nat :=
  (List.range 64).filter (fun e => s.flag F.FE_CTL_EN e && s.fld F.FE_STAT_STATE e == 0 && !s.tiers.leaving.contains e)

def State.enabledEngines (s : State) : List Nat :=
  (List.range 64).filter (fun e => s.flag F.FE_CTL_EN e && s.fld F.FE_STAT_STATE e < 2 && !s.tiers.leaving.contains e)

/-- The engines an operation would run on: ENGINES of the free ones, or every enabled one; none while too few are free. -/
def State.enginesFor (s : State) (n : Nat) : Option (List Nat) :=
  let all := s.enabledEngines.length
  let want := if n = 0 then all else min n all
  let free := s.freeEngines
  if want = 0 ∨ free.length < want then none else some (free.take want)

/-- The handle that a value names, where it is still registered. -/
def State.live (s : State) (v : Nat) : Option Handle :=
  (SMap.look s.tiers.handles (v % 65536)).filter (fun h => h.check == bits v 16 16)

/-- Is an input ready (R320)? One whose handle has been released waits for nothing. -/
def State.inputReady (s : State) (v want : Nat) : Bool :=
  match s.live v with
  | none => true
  | some h =>
    v == 0 || want == 0 || (h.fresh 0).isSome || (want == 1 && ((h.fresh 1).isSome || (h.fresh 2).isSome))

/-- Does the input wait for a promotion of it that is in progress? -/
def State.inputWaits (s : State) (v want : Nat) : Bool :=
  !s.inputReady v want && s.promoting (v % 65536)

/-- May an operation start now (R319, R320)? -/
def State.fxReady (s : State) (o : FxOp) : Bool :=
  let d := FxDesc.ofWords o.words
  o.stage == .queued && (s.enginesFor d.engines).isSome && (o.parities != 0 ||
  match o.deadline with
   | none => !s.inputWaits d.a d.wantA && !s.inputWaits d.b d.wantB
   | some t => decide (t ≤ s.time) || (s.inputReady d.a d.wantA && s.inputReady d.b d.wantB))

/-- Is it this ticket's turn: no operation of a higher priority, or accepted before it in its own, could start? -/
def State.fxTurn (s : State) (tk : Nat) (o : FxOp) : Bool :=
  s.fxReady o && !(s.tiers.ops.any (fun p =>
    s.fxReady p.2 && (decide (o.prio < p.2.prio) || (p.2.prio == o.prio && decide (p.1 < tk)))))

/-- How an operation reads an input (R320, R311): the highest tier that holds a complete copy of its bytes, else the pavilion. An
operation on an evicting handle reads the pavilion (R315), as does one after a parity error (R213). -/
def State.readFrom (s : State) (tk role i : Nat) (h : Handle) (pav : Bool) : FxInput × State :=
  let mk (j : Nat) (f : InputFrom) (tier : Nat) : FxInput := ⟨role, j, h.t, h.base, h.span, f, tier, false, i⟩
  let use (s : State) (j tier : Nat) : State :=
    (s.tick).modHandle j (fun h => h.setCopy tier ((h.copyIn tier).map (fun c => { c with used := s.tiers.clock })))
  let fromPm : FxInput × State :=
    let r := s.pavRead (.facet tk) h.base h.span
    (mk i (.pavilion r.1) 3, r.2)
  if pav ∨ h.evicting then fromPm
  else match s.copyFor i h with
    | some (2, j, c) =>
      (match SMap.look s.tiers.neigh c.at_ with
       | some x =>
         let r := s.shareRead (.facet tk) x c.pos h.span
         (mk j (.neighbour c.at_ r.1) 2, use r.2 j 2)
       | none => fromPm)
    | some (tier, j, c) => (mk j (.copy c.data) tier, use s j tier)
    | none => fromPm

/-- The fallback tensor in an input's place (R320, policy 2), if there is a legal one. -/
def State.fallbackFor (s : State) (o : FxOp) (d : FxDesc) (role : Nat) (h : Handle) : Option (Nat × Handle) :=
  let cand := if role = 1 then [o.fbHandle, d.fbB, h.fallback] else [d.fbA, h.fallback]
  let snap (v : Nat) : Option Tensor := ((s.live v).or (SMap.look o.snaps v)).map Handle.t
  match cand.find? (fun v => v != 0) with
  | none => none
  | some v =>
    match s.fxHandle v o.ring with
    | .ok (some (i, f)) =>
      let legal : Bool := match (if role = 0 then some f.t else snap d.a) with
        | some a => d.legal a (if role = 1 then some f.t else snap d.b) (snap d.c)
        | none => false
      if f.t.dims = h.t.dims ∧ legal = true ∧ s.inputReady v (if role = 1 then d.wantB else d.wantA) then some (i, f) else none
    | _ => none

/-- Take one input of an operation that starts (R320): the input, whether the cheaper path was taken. The policy is that of the
`fx`, else the one that `tpromote` recorded on the handle (R314), else the ring's. A promotion of an input that is streamed
pauses. An input whose handle has been released since is read from the pavilion. -/
def State.takeInput (s : State) (tk : Nat) (o : FxOp) (role v want : Nat) : Option (FxInput × Bool × State) :=
  match (s.live v).or (SMap.look o.snaps v) with
  | none => none
  | some h =>
    let i := v % 65536
    let ready : Bool := s.inputReady v want
    let miss := !ready && o.deadline.isSome && o.parities == 0
    let policy := if o.policy ≠ 0 then o.policy else if h.policy ≠ 0 then h.policy else o.profile
    match (if miss ∧ policy = 2 then s.fallbackFor o (FxDesc.ofWords o.words) role h else none) with
      | some (j, f) =>
        let r := s.readFrom tk role j f false
        some (r.1, true, r.2)
      | none =>
        let r := s.readFrom tk role i h (o.parities != 0)
        let pausing := (s.live v).isSome && s.promoting i && r.1.tier != 0 && !(ready && want != 0)
        let t := if pausing then
            { r.2 with tiers := { r.2.tiers with promos := r.2.tiers.promos.map (fun (p : Promo) =>
              if p.h = i then { p with pauses := p.pauses + 1 } else p) } }
          else r.2
        some ({ r.1 with pausing := pausing }, miss, t)

def State.setFxOp (s : State) (tk : Nat) (o : FxOp) : State :=
  { s with tiers := { s.tiers with ops := SMap.ins s.tiers.ops tk o } }

/-- Start a queued operation on engines (R319, R320). -/
def State.fxStart (s : State) (tk : Nat) (o : FxOp) (es : List Nat) : State :=
  let d := FxDesc.ofWords o.words
  let step (a : List FxInput × Bool × State) (x : Nat × Nat × Nat) : List FxInput × Bool × State :=
    if x.2.1 = 0 then a
    else match a.2.2.takeInput tk o x.1 x.2.1 x.2.2 with
      | some (i, m, t) => (a.1 ++ [i], a.2.1 || m, t)
      | none => a
  let r := [(0, d.a, d.wantA), (1, d.b, d.wantB), (2, d.c, 0)].foldl step ([], false, s)
  let s := r.2.2
  let s := es.foldl (fun (t : State) e => ((t.setFld F.FE_STAT_STATE e 1).setFld F.FE_STAT_RING e o.ring).count 0x80 e 0) s
  let s := if r.2.1 then (s.bump F.TM_MISS_DEADLINE).count 0x81 0 4 else s
  let refs := ((r.1.filter (fun (i : FxInput) => decide (i.tier < 3))).map FxInput.h).dedup
  let s := refs.foldl (fun (t : State) i => t.modHandle i (fun h => { h with refs := h.refs + 1 })) s
  s.setFxOp tk { o with
    stage := .running, engines := es, inputs := r.1, refs := refs,
    status := if r.2.1 then o.status.meet .deadlineMiss else o.status }

/-- FACET_OP_START (R319, R320). -/
def execFacetOpStart (tk : Nat) (s : State) : Res :=
  match SMap.look s.tiers.ops tk with
  | some o =>
    (match s.enginesFor (FxDesc.ofWords o.words).engines with
     | some es => if s.fxTurn tk o then .next (s.fxStart tk o es) else .next s
     | none => .next s)
  | none => .next s

/-- FX_DEADLINE (R320): the TIME instant of a queued operation passes; it starts if its engines are free. -/
def execFxDeadline (tk : Nat) (s : State) : Res :=
  match SMap.look s.tiers.ops tk with
  | some o =>
    (match o.deadline with
     | some t =>
       if o.stage = .queued then
         let s := s.reach t
         match s.enginesFor (FxDesc.ofWords o.words).engines with
         | some es => if s.fxTurn tk o then .next (s.fxStart tk o es) else .next s
         | none => .next s
       else .next s
     | none => .next s)
  | none => .next s

/-! ## Results -/

/-- The engines of an operation become idle; a pending EN = 0 takes effect (R329). -/
def State.freeThese (s : State) (es : List Nat) : State :=
  es.foldl (fun (t : State) e =>
    let t := if t.fld F.FE_STAT_STATE e = 1 then t.setFld F.FE_STAT_STATE e 0 else t
    if t.tiers.leaving.contains e then
      { t with tiers := { t.tiers with leaving := t.tiers.leaving.filter (fun x => x != e) } }.setFld F.FE_CTL_EN e 0
    else t) s

/-- An operation lets go of its inputs: references, pauses, reads (R315, R312, R316). -/
def State.dropInputs (s : State) (o : FxOp) : State :=
  let s := o.refs.foldl (fun (t : State) i => t.modHandle i (fun h =>
    let h := { h with refs := h.refs - 1 }
    if h.refs ≠ 0 then h
    else if h.revoked then h.dropCopies
    else
      let keep (c : Option TierCopy) : Option TierCopy := match c with | some x => if x.stale then none else c | none => none
      { h with crown := keep h.crown, girdle := keep h.girdle, neigh := keep h.neigh })) s
  o.inputs.foldl (fun (t : State) (x : FxInput) =>
    let t := match x.from_ with | .pavilion i => t.endOp i | .neighbour _ i => t.endOp i | .copy _ => t
    if x.pausing then
      { t with tiers := { t.tiers with promos := t.tiers.promos.map (fun (p : Promo) =>
        if p.h = x.inp then { p with pauses := p.pauses - 1 } else p) } }
    else t) s

/-- An operation is over without a result (R322). -/
def State.fxEnd (s : State) (tk : Nat) (o : FxOp) (st : Status) : State :=
  ((s.dropInputs o).freeThese o.engines).setFxOp tk { o with
    stage := .done, status := o.status.meet st, engines := [], inputs := [], refs := [] }

/-- An operation starts again from its beginning on the engines it has left, or waits in the queue for some (R213, R324). -/
def State.fxRestart (s : State) (tk : Nat) (o : FxOp) : State :=
  let s := (s.dropInputs o).freeThese o.engines
  let o := { o with stage := .queued, inputs := [], refs := [], engines := [] }
  let s := s.setFxOp tk o
  match s.enginesFor (FxDesc.ofWords o.words).engines with
  | some es =>
    let s := (es.take 1).foldl (fun (t : State) e => (t.bump F.FE_ERR_RESTARTS e).count 0x80 e 3) s
    s.fxStart tk o es
  | none => s

/-- An engine of the operation has withdrawn (R324): it starts again, once. -/
def State.fxWithdraw (s : State) (tk : Nat) (o : FxOp) : State :=
  if o.withdrawals ≠ 0 then s.fxEnd tk o .internal else s.fxRestart tk { o with withdrawals := 1 }

/-- Is an input read in full? A failed neighbour read goes to the pavilion (R327). -/
def State.inputDone (s : State) (x : FxInput) : Option (Status × SMap Byte) :=
  match x.from_ with
  | .copy d => some (.ok, d)
  | .pavilion i => (match s.op? i with | some o => if o.reads = 0 then some (o.status, o.data) else none | none => none)
  | .neighbour _ i => (match s.op? i with
    | some o => if o.reads = 0 ∧ ¬ o.status.isFailure then some (.ok, o.data) else none
    | none => none)

/-- Inputs whose neighbour is lost are read from the pavilion instead (R327). -/
def State.rereadLost (s : State) (tk : Nat) (o : FxOp) : State :=
  let r := o.inputs.foldl (fun (a : List FxInput × State) (x : FxInput) =>
    match x.from_ with
    | .neighbour n i =>
      let bad := match a.2.op? i with | some p => p.status.isFailure | none => true
      if bad then
        let t := (a.2.endOp i).loseNeighbour n
        let r := t.pavRead (.facet tk) x.base x.span
        (a.1 ++ [{ x with from_ := .pavilion r.1 }], r.2)
      else (a.1 ++ [x], a.2)
    | _ => (a.1 ++ [x], a.2)) ([], s)
  r.2.setFxOp tk { o with inputs := r.1 }

/-- Store the whole output range with the poison syndrome, in line order (R321). -/
def State.poisonRange (s : State) (off n : Nat) : State :=
  (splitLines off n).foldl (fun (t : State) p =>
    let t := t.poisonStore p.1
    if t.forwarding then (t.sendRecord (sliceOf p.1) 3 false p.1 t.epoch 0 [] (.forward [] false)).2 else t) s

/-- The crown copy of HANDLE_OUT that KEEP_OUT fills (R321). -/
def State.keepOut (s : State) (d : FxDesc) (bs : List Byte) : State :=
  let i := d.hOut % 65536
  match SMap.look s.tiers.handles i with
  | some h =>
    if d.keepOut ∧ s.permits h 1 ∧ ¬ h.revoked ∧ ¬ h.evicting then
      match s.makeRoom 0 h.span (s.tiers.handles.length + 1) with
      | some t =>
        let t := t.tick
        t.modHandle i (fun h => { h with crown := some ⟨patchAt 0 bs, false, 0, 0, t.tiers.clock⟩ })
      | none => s
    else s
  | none => s

/-- A result is written (R321): window check, stamps, level; or the code with which the range is refused. -/
def State.fxWrite (s : State) (tk : Nat) (o : FxOp) (d : FxDesc) (bs : List Byte) (st : Status) : State :=
  let v := s.winCheck .chain .write d.wkey d.off bs.length
  let s := s.winTold v
  match v with
  | .ok (_, .mem off) =>
    let r := s.newOp (.facet tk) .write o.level bs.length
    let t := r.2.writeRange r.1 off bs d.wkey
    let t := (t.modOp r.1 (fun x => { x with issued := true })).keepOut d bs
    ((t.dropInputs o).freeThese o.engines).setFxOp tk { o with
      stage := .writing, status := o.status.meet st, engines := [], inputs := [], refs := [], op := some r.1 }
  | .ok _ => s.fxEnd tk o .windowRights
  | .error e => s.fxEnd tk o e

/-- The descriptor's output length for the inputs that an operation reads. -/
def FxOp.argOf (s : State) (o : FxOp) (role : Nat) : Option Arg :=
  (o.inputs.find? (fun (x : FxInput) => x.role == role)).bind (fun x =>
    (s.inputDone x).map (fun y => ⟨x.t, y.2⟩))

/-- FACET_OP_END (R213, R304 to R306, R321, R322): the operation finishes computing; `parity` names an input whose copy
shows a parity error and, for a crown copy, the engine that holds the byte. -/
def execFacetOpEnd (tk : Nat) (parity : Option (Nat × Nat)) (s : State) : Res :=
  match SMap.look s.tiers.ops tk with
  | none => .next s
  | some o =>
    if o.stage ≠ .running then .next s
    else
      let bad := parity.bind (fun p => o.inputs.find? (fun (x : FxInput) => x.role == p.1 && decide (x.tier < 2)))
      match bad, parity with
      | some x, some p =>
        let e := p.2 % 64
        let s := if x.tier = 0 then
            ((s.bump F.FE_ERR_PARITY e).count 0x80 e 4).raise 0x80 e 1 0x01
          else s.raise 0x81 0 1 0x01
        let s := s.modHandle x.h (fun h => h.setCopy x.tier none)
        if o.parities ≠ 0 then .next (s.fxEnd tk o .internal)
        else .next (s.fxRestart tk { o with parities := 1 })
      | _, _ =>
        if o.engines.any (fun e => s.fld F.FE_STAT_STATE e == 3) then .next (s.fxWithdraw tk o)
        else
        let lost := o.inputs.any (fun (x : FxInput) =>
          match x.from_ with
          | .neighbour _ i => (match s.op? i with | some p => p.status.isFailure | none => true)
          | _ => false)
        if lost then .next (s.rereadLost tk o)
        else if o.inputs.any (fun x => (s.inputDone x).isNone) then .next s
        else
          let d := FxDesc.ofWords o.words
          let st := o.inputs.foldl (fun (m : Status) x => m.meet ((s.inputDone x).map (fun y => y.1) |>.getD .ok)) .ok
          match o.argOf s 0 with
          | none => .next s
          | some a =>
            let b := o.argOf s 1
            let c := o.argOf s 2
            let n := d.outBytes a.t ((b.map Arg.t).getD a.t)
            if st.isFailure then
              let v := s.winCheck .chain .write d.wkey d.off n
              let s := s.winTold v
              let s := (match v with
                | .ok (_, .mem off) => s.poisonRange off n
                | _ => s)
              .next (s.fxEnd tk o .uncorrectable)
            else
              let s := (o.engines.take 1).foldl (fun (t : State) e =>
                (t.countUnits 0x80 e 1 1024 (d.macs a.t ((b.map Arg.t).getD a.t))).countUnits 0x80 e 2 64
                  ((o.inputs.map FxInput.span).sum)) s
              match facetResult d a b c with
              | .error e => .next (s.fxEnd tk o e)
              | .ok bs => .next (s.fxWrite tk o d bs st).serve

/-- The final status of a ticket, once its output lines have reached their level (R321, R322). -/
def State.fxStatus (s : State) (o : FxOp) : Option Status :=
  match o.stage with
  | .done => some o.status
  | .writing =>
    (match o.op.bind s.op? with
     | some x => (match s.opLevel x with | .done st _ => some (o.status.meet st) | .waiting => none)
     | none => some o.status)
  | _ => none

/-- ENGINE_WITHDRAW (R324): Critical fault, STATE 3; the operation on the engine restarts once on the others. -/
def execEngineWithdraw (e : Nat) (s : State) : Res :=
  onUnit 0x80 e <|
    let s := ((s.setFld F.FE_STAT_STATE e 3).raise 0x80 e 3 0x02)
    match s.tiers.ops.find? (fun p => p.2.stage == .running && p.2.engines.contains e) with
    | none => .next s
    | some (tk, o) => .next (s.fxWithdraw tk o)

/-- Every operation of a chain that has not ended ends with ABORTED (R322, Table 13.6). -/
def State.fxAbort (s : State) (hit : FxOp → Bool) : State :=
  s.tiers.ops.foldl (fun (t : State) p => if p.2.stage ≠ .done ∧ hit p.2 then t.fxEnd p.1 p.2 .aborted else t) s

/-- Early warning, entry into P2 and reset (Table 13.6, R308): operations end ABORTED, promotions stop, copies are lost,
handles are released. -/
def State.tiersStop (s : State) : State :=
  let s := s.fxAbort (fun _ => true)
  let s := s.tellLinks (fun _ w => match w with | .promote .. => some .aborted | _ => none)
  s.tiers.handles.foldl (fun (t : State) p => t.releaseHandle p.1) s

/-! ## Neighbours and commands -/

/-- The requests that read copies at neighbour n: those of Facet operations and of promotions. -/
def State.shareReads (s : State) (n : Nat) : List Nat :=
  s.tiers.ops.flatMap (fun p => p.2.inputs.filterMap (fun (x : FxInput) =>
    match x.from_ with | .neighbour m i => if m = n then some i else none | _ => none)) ++
  s.tiers.promos.filterMap (fun (p : Promo) => if p.src = some n then p.op else none)

/-- When the first of these reads that has no response yet was sent. -/
def State.shareSince (s : State) (n qpn : Nat) : Option Nat :=
  let ids := s.shareReads n
  (s.qp qpn).own.foldl (fun (b : Option Nat) (m : OwnMsg) =>
    match m.what with
    | .op i => if ids.contains i then some (min m.sentAt (b.getD m.sentAt)) else b
    | _ => b) none

/-- NEIGHBOUR_READ_TIMEOUT (R327): 4 x RTO without a response to a read; every read from that neighbour ends. -/
def execNeighbourReadTimeout (n : Nat) (s : State) : Res :=
  if 4 ≤ n then .fault (.noSuchUnit 0x81 n)
  else match SMap.look s.tiers.neigh n with
    | none => .next s
    | some x =>
      match s.shareSince n x.qpn with
      | none => .next s
      | some t =>
        let ids := s.shareReads n
        let s := (s.reachLocal (t + 4 * us (s.qp x.qpn).rto)).loseNeighbour n
        .next (ids.foldl (fun (t : State) i => t.opMeets i .internal) s)

/-- QUERY (R328): descriptor and state of a handle. -/
def State.tmQuery (s : State) (v : Nat) : Status × State :=
  match SMap.look s.tiers.handles (v % 65536) with
  | some h =>
    if h.check ≠ bits v 16 16 then (.windowRevoked, s)
    else
      let i := v % 65536
      let s := (List.range 8).foldl (fun (t : State) k => t.setFld F.TM_DATA 0 (h.words.getD k 0) k) s
      let s := [(F.TM_HSTAT_CROWN, boolNat (h.fresh 0).isSome), (F.TM_HSTAT_GIRDLE, boolNat (h.fresh 1).isSome),
        (F.TM_HSTAT_NEIGH, boolNat (h.fresh 2).isSome), (F.TM_HSTAT_PROMOTING, boolNat (s.promoting i)),
        (F.TM_HSTAT_EVICTING, boolNat h.evicting), (F.TM_HSTAT_REVOKED, boolNat h.revoked),
        (F.TM_HSTAT_SHARED, boolNat h.t.shared), (F.TM_HSTAT_REFS, h.refs), (F.TM_HSTAT_RING, h.ring)].foldl
        (fun (t : State) x => t.setFld x.1 0 x.2) s
      (.ok, s)
  | none => (.windowRevoked, s)

/-- TM_QUERY (R328). -/
def rowTmQuery (p : Path) (v : Nat) (s : State) : Res :=
  if p.trusted then ends p (.ok, resultIn F.TM_RES_STATUS (s.tmQuery v)) else ends p (.privilege, s)

/-- Release every handle (R308). -/
def State.dropAll (s : State) : State := s.tiers.handles.foldl (fun (t : State) p => t.releaseHandle p.1) s

/-- DROP_ALL (R308, R328). -/
def rowDropAll (p : Path) (s : State) : Res :=
  if p.trusted then ends p (.ok, resultIn F.TM_RES_STATUS (.ok, s.dropAll)) else ends p (.privilege, s)

/-- RECLAIM (R325): every lend window is revoked at one cut; BUSY until the revokes are over. -/
def State.reclaim (s : State) : Status × State :=
  if ¬ s.serves .write then (.privilege, s)
  else
    let idxs := (List.range 1048576).filter (fun i =>
      s.descReadable i && (s.descOf i).state == 1 && (s.descOf i).lend)
    let s := idxs.foldl (fun (t : State) i => (t.revoke (mkKey i (t.descOf i).gen) .lend).2) s
    let mine := s.wins.revokes.filter (fun (r : Revoke) => r.by_ == .lend && !r.cut)
    let s := mine.foldl (fun (t : State) r => t.makeCut r) s
    (if mine.isEmpty then .ok else .busy, s)

/-- RECLAIM (R325, R328). -/
def rowReclaim (p : Path) (s : State) : Res :=
  if p.trusted then ends p (.ok, resultIn F.TM_RES_STATUS s.reclaim) else ends p (.privilege, s)

/-- Copies at a neighbour entry drop when the entry is written anew (log entry 122). -/
def State.dropShare (s : State) (n : Nat) : State :=
  { s with tiers := { s.tiers with handles := s.tiers.handles.map (fun p => (p.1, { p.2 with
    neigh := p.2.neigh.filter (fun c => c.at_ != n) })) } }

/-- A write of TM_NEIGH (R326 to R328): the selected entry. -/
def State.setNeigh (s : State) (v : Nat) : Status × State :=
  let valid := bitAt v 14
  if valid ∧ ¬ s.flag F.TM_CFG_NEIGH_EN then (.privilege, s)
  else
    let i := s.fld F.TM_NEIGH_SEL_INDEX
    let qpn := bits v 16 20
    let key := match SMap.look s.tiers.neigh i with | some x => x.key | none => 0
    let up := valid && (s.qp qpn).st == 2 && (s.qp qpn).kind == 2
    let s := s.dropShare i
    (.ok, { s with tiers := { s.tiers with
      neigh := SMap.ins s.tiers.neigh i ⟨bits v 0 14, valid, up, qpn, bits v 36 7, key⟩ } })

/-- A write of TM_NEIGH_KEY (R326). -/
def State.setNeighKey (s : State) (v : Nat) : State :=
  let i := s.fld F.TM_NEIGH_SEL_INDEX
  let s := s.dropShare i
  let x := (SMap.look s.tiers.neigh i).getD ⟨0, false, false, 0, 0, 0⟩
  { s with tiers := { s.tiers with neigh := SMap.ins s.tiers.neigh i { x with key := v % 2 ^ 32 } } }

/-- TM_NEIGH_WRITE (R326, R328). -/
def rowTmNeighWrite (p : Path) (v : W64) (s : State) : Res :=
  if p.trusted then ends p (s.setNeigh v.toNat) else ends p (.privilege, s)

/-- A write of FE_CTL.EN (R329): EN = 0 takes effect when the engine's operation ends. -/
def State.engineEnable (s : State) (e : Nat) (on : Bool) : State :=
  if on then { s with tiers := { s.tiers with leaving := s.tiers.leaving.filter (fun x => x != e) } }.setFld F.FE_CTL_EN e 1
  else if s.fld F.FE_STAT_STATE e = 1 then { s with tiers := { s.tiers with leaving := addNew s.tiers.leaving e } }
  else s.setFld F.FE_CTL_EN e 0

/-- FE_DISABLE (R329). -/
def rowFeDisable (p : Path) (e : Nat) (s : State) : Res :=
  onUnit 0x80 e ((if pathMay p 0x80 then ends p (.ok, s.engineEnable e false) else ends p (.privilege, s)))

end Sys2Proof.Machine
end

