-- ==== Sys2Proof/Machine/Operands.lean ====
section
/-! DEFINITION. Operand forms of Kexiut links: setting words (R65, Table 3.3), register pairs (R69), what makes a link
illegal by its words alone (R90), the ring privileges it needs (R71), the check of an image (R62, R63), and the registers
and the local store of a sequencer (R67, R70). -/

namespace Sys2Proof.Machine

/-! ## Setting words -/

/-- What the setting words of a link say (Table 3.3). -/
structure Sets where
  hasMode : Bool
  level : Nat
  async : Bool
  fence : Bool
  ctrl : Bool
  len : Option Nat
  time : Option Nat
  slot : Nat
  sealMode : Nat
  fallback : Option (Nat × Nat)
  remote : Option Nat
  deriving DecidableEq, Repr

/-- The basic form: no setting word (R73). -/
def noSets : Sets := ⟨false, 0, false, false, false, none, none, 0, 0, none, none⟩

/-- The KINDs that Table 3.3 allows with an opcode. -/
def kindsFor (op : Nat) : List Nat :=
  match op with
  | 0x40 | 0x41 | 0x42 => [0, 1, 3, 5]
  | 0x43 => [0, 1]
  | 0x44 => [0, 5]
  | 0x71 => [2]
  | 0x69 | 0x6B => [2, 4]
  | _ => []

/-- Bits of the payload that Table 3.3 names, by KIND. -/
def payloadBits (kind : Nat) : Nat := match kind with | 3 => 18 | 4 => 7 | 5 => 14 | _ => 5

/-- Take one setting word of KIND k and payload p. -/
def Sets.take (t : Sets) (k p : Nat) : Sets :=
  match k with
  | 0 => { t with hasMode := true, level := bits p 0 2, async := bitAt p 2, fence := bitAt p 3, ctrl := bitAt p 4 }
  | 1 => { t with len := some (bits p 0 5) }
  | 2 => { t with time := some (bits p 0 5) }
  | 3 => { t with slot := bits p 0 16, sealMode := bits p 16 2 }
  | 4 => { t with fallback := some (bits p 0 2, bits p 2 5) }
  | _ => { t with remote := some (bits p 0 14) }

/-- An even register from w2 to w30 (R69). -/
def isPair (r : Nat) : Bool := r % 2 == 0 && decide (2 ≤ r)

/-- The SEAL modes that Table 3.3 allows with an opcode. -/
def sealModeOk (op m : Nat) : Bool :=
  match op with
  | 0x40 => m == 1
  | 0x41 => m == 2
  | _ => m == 1 || m == 2

/-- Is setting word number i, of KIND k and payload p, bad (R65, Table 3.3, R69), with the KINDs seen before it? -/
def badSet (op i k p : Nat) (seen : List Nat) : Bool :=
  decide (4 < i) || !(kindsFor op).contains k || seen.contains k || decide (2 ^ payloadBits k ≤ p) ||
  (k == 0 && bitAt p 4 && decide (0x42 ≤ op)) || (k == 2 && !isPair (bits p 0 5)) ||
  (k == 3 && !sealModeOk op (bits p 16 2))

/-- Read setting words from number i of the link on (R65): the number of the first bad one, and what the others say. -/
def readSets (op : Nat) : List (BitVec 39) → Nat → List Nat → Sets → Option Nat × Sets
  | [], _, _, t => (none, t)
  | e :: rest, i, seen, t =>
    let k := bits e.toNat 36 3
    let p := bits e.toNat 0 36
    if badSet op i k p seen then (some i, (readSets op rest (i + 1) (k :: seen) t).2)
    else readSets op rest (i + 1) (k :: seen) (t.take k p)

/-- The number of the first bad setting word of a link, and its settings. The words of `ldk` are raw (R65). -/
def linkSets (l : Link) (op : Nat) : Option Nat × Sets :=
  if op = 0x17 then
    match l.ext with
    | _ :: w :: rest =>
      (if bits w.toNat 25 14 ≠ 0 then some 2 else if rest.isEmpty then none else some 3, noSets)
    | _ => (none, noSets)
  else readSets op l.ext 1 [] noSets

/-- The settings of a link. -/
def settings (l : Link) (op : Nat) : Sets := (linkSets l op).2

/-! ## Operands -/

/-- The immediate as a number, and with its sign (R70). -/
def immN (l : Link) : Nat := l.imm.toNat
def immZ (l : Link) : Int := l.imm.toInt

/-- Is the opcode a branch whose target is in imm17? -/
def isBranch (op : Nat) : Bool := decide (0x20 ≤ op ∧ op ≤ 0x27)

/-- The word a branch at word i leads to (R66). -/
def branchTo (i : Nat) (l : Link) : Int := (i : Int) + immZ l

/-- Is a word index marked in the link-start map? -/
def marked (starts : List Nat) (t : Int) : Bool := decide (0 ≤ t) && starts.contains t.toNat

/-- The words of the link break R65, R66, R68, R69, R70 or R72 in its first word (R90). -/
def badFirst (starts : List Nat) (i op : Nat) (l : Link) (t : Sets) : Bool :=
  let a := l.a.toNat
  let b := l.b.toNat
  let imm := immN l
  let dataLink := op == 0x40 || op == 0x41
  (linkInstr 0 (BitVec.ofNat 7 op) l).isNone ||
  (dataLink && t.ctrl && t.len.isNone && !(imm % 8 == 0 && decide (8 ≤ imm ∧ imm ≤ 512))) ||
  (dataLink && !t.ctrl && (!isPair a || (t.len.isNone && !decide (1 ≤ imm ∧ imm ≤ 65536)))) ||
  ((op == 0x42 || op == 0x43) && t.len.isNone && imm == 0) ||
  ([0x42, 0x43, 0x44, 0x60, 0x61].contains op && !isPair a) ||
  ([0x45, 0x7A].contains op && a != 0 && !isPair a) ||
  (op == 0x42 && !isPair b) ||
  (op == 0x44 && (decide (7 < imm % 16) || (imm % 16 == 2 && !isPair b))) ||
  (op == 0x18 && decide (3 < imm)) ||
  (isBranch op && !marked starts (branchTo i l))

/-- The first bad word of the link at word i, if its words make it illegal (R90). -/
def badWord (starts : List Nat) (i op : Nat) (l : Link) : Option Nat :=
  let r := linkSets l op
  if badFirst starts i op l r.2 then some i else r.1.map (fun k => i + k)

/-- The ring privileges that a link needs, as bits of RING_CFG.PRIV (Tables 3.5 and 3.6, R71). -/
def privsOf (op : Nat) (t : Sets) : Nat :=
  (if 0x50 ≤ op ∧ op ≤ 0x52 then 2 else if op = 0x59 then 4 else if 0x68 ≤ op ∧ op ≤ 0x6C then 8
    else if 0x70 ≤ op ∧ op ≤ 0x72 then 16 else if 0x78 ≤ op ∧ op ≤ 0x7B then 32 else 0) +
  boolNat t.ctrl + (if t.remote.isSome then 64 else 0)

/-! ## Images -/

/-- The link-start map (R63): word 0, and every word after one without bit 39. -/
def linkStarts : Nat → Bool → List W40 → List Nat
  | _, _, [] => []
  | i, more, w :: ws => if more then linkStarts (i + 1) (moreWords w) ws else i :: linkStarts (i + 1) (moreWords w) ws

/-- Check the links of an image in order (R63): the privileges they need, or the first bad word. A link whose setting words
run past the image's end is named by its first word (DESIGN CHOICE, log entry 109). -/
def checkLinks (words : List W40) (starts : List Nat) : List Nat → Except Nat Nat
  | [] => .ok 0
  | i :: rest =>
    match decodeLink (words.drop i) with
    | none => .error i
    | some (op, l, _) =>
      match badWord starts i op.toNat l with
      | some k => .error k
      | none =>
        match checkLinks words starts rest with
        | .ok p => .ok (p ||| privsOf op.toNat (settings l op.toNat))
        | .error k => .error k

/-- The words of an image (R62). -/
def imageWords (bs : List Byte) : Nat → List W40
  | 0 => []
  | n + 1 => BitVec.ofNat 40 (leNat (bs.take 5)) :: imageWords (bs.drop 5) n

/-- A checked image. -/
structure Image where
  words : List W40
  starts : List Nat
  privs : Nat
  entry : Nat
  deriving DecidableEq, Repr

/-- Check the bytes of a library slot (R62, R63): the image, or what BAD_LINK names. -/
def checkImage (bs : List Byte) : Except Nat Image :=
  let h := leNat (bs.take 8)
  let n := bits h 32 16
  let e := bits h 48 16
  if bits h 0 32 ≠ 0x4B584331 ∨ n = 0 ∨ 13104 < n ∨ leNat ((bs.drop 8).take 8) ≠ 0 then .error 0xFFFF
  else
    let ws := imageWords (bs.drop 16) n
    let st := linkStarts 0 false ws
    match checkLinks ws st st with
    | .error k => .error k
    | .ok p => if st.contains e then .ok ⟨ws, st, p, e⟩ else .error e

/-! ## Registers and local store -/

/-- Register r of a sequencer, 64 bits; w0 reads as zero (R67). -/
def Seq.r (x : Seq) (r : Nat) : Nat := if r = 0 then 0 else SMap.get 0 x.w r % 2 ^ 64

/-- Write register r; w0 ignores it (R67). -/
def Seq.setR (x : Seq) (r v : Nat) : Seq := if r = 0 then x else { x with w := SMap.put 0 x.w r (v % 2 ^ 64) }

/-- The bytes of the local store. -/
def storeSize : Nat := 262144

/-- n bytes of the local store. -/
def Seq.bytes (x : Seq) (a n : Nat) : List Byte := bytesAt x.store 0 a n

def Seq.putBytes (x : Seq) (a : Nat) (bs : List Byte) : Seq := { x with store := Machine.putBytes 0 x.store a bs }

/-- Does an access lie in the local store? -/
def inStore (a n : Nat) : Bool := decide (a + n ≤ storeSize)

/-- Is the instant in a pair of registers, seconds and fraction (Table 3.3)? -/
def Seq.instant (x : Seq) (p : Nat) : Nat := x.r p % 2 ^ 40 * 2 ^ 40 + x.r (p + 1) % 2 ^ 40

/-- The window key and offset in a pair (R69). -/
def Seq.key (x : Seq) (p : Nat) : Nat := x.r p % 2 ^ 32
def Seq.off (x : Seq) (p : Nat) : Nat := x.r (p + 1)

end Sys2Proof.Machine
end

