-- ==== Sys2Proof/Machine/Rings.lean ====
section
/-! DEFINITION. Command rings, the chain library and the life of a chain (chapter 3): install (R63), submission,
dispatch and completion (R81 to R87), abort (R88, R89), the end of a chain (R77, R83, R87, R90). -/

namespace Sys2Proof.Machine

/-! ## Sequencers -/

/-- The chain on sequencer q, if there is one. -/
def State.seq? (s : State) (q : Nat) : Option Seq := SMap.look s.kex.seqs q

def State.setSeq (s : State) (q : Nat) (x : Seq) : State :=
  { s with kex := { s.kex with seqs := SMap.ins s.kex.seqs q x } }

/-- Change the chain on sequencer q. -/
def State.modSeq (s : State) (q : Nat) (f : Seq → Seq) : State :=
  match s.seq? q with
  | some x => s.setSeq q (f x)
  | none => s

/-- Does a breakpoint stop sequencer q before the link at which its chain stands (R20: D2)? -/
def State.atBreak (s : State) (q : Nat) (x : Seq) : Bool :=
  decide (2 ≤ s.life.level) && s.flag F.SEQX_BREAK_EN q && s.fld F.SEQX_BREAK q == x.pc && x.wait.isNone

/-- Is sequencer q stopped by the halt or breakpoint controls of level D2 (R20, R353)? -/
def State.debugStops (s : State) (q : Nat) (x : Seq) : Bool := s.life.halted.contains q || s.atBreak q x

/-- SEQ_STATE.STATE (Table 3.1). -/
def State.seqState (s : State) (q : Nat) : Nat :=
  match s.seq? q with
  | none => if s.life.halted.contains q then 4 else 0
  | some x => if s.debugStops q x then 4 else if x.wait.isSome then 3 else 2

/-- What the machinery owes to sequencer q no longer has a chain to go to (R89): windows, keys, retirements and
snapshots under way go on without it. Number 32 stands for no sequencer. -/
def State.detach (s : State) (q : Nat) : State :=
  let by_ (b : WinBy) : WinBy := if b = .link q then .link 32 else b
  let sq (o : Option Nat) : Option Nat := if o = some q then some 32 else o
  { s with
    wins := { s.wins with
      waiting := s.wins.waiting.filter (fun w => w.2 != .link q),
      revokes := s.wins.revokes.map (fun (r : Revoke) => { r with by_ := by_ r.by_ }),
      openings := s.wins.openings.map (fun (o : Opening) => { o with by_ := by_ o.by_ }) },
    bezel := { s.bezel with retiring := s.bezel.retiring.map (fun (r : Retire) => { r with by_ := sq r.by_ }) },
    keys := { s.keys with slots := s.keys.slots.map (fun p => (p.1, { p.2 with
      swapAt := p.2.swapAt.map (fun x => (x.1, sq x.2)), parked := p.2.parked.map (fun x => (x.1, sq x.2)) })) },
    loupe := { s.loupe with snapWait := s.loupe.snapWait.filter (fun n => n != q) } }

/-- Requests of sequencer q belong to no chain any more. -/
def State.orphanOps (s : State) (q : Nat) : State :=
  { s with pipe := { s.pipe with ops := s.pipe.ops.map (fun p =>
    match p.2.src with
    | .link n _ => if n = q then (p.1, { p.2 with src := .ring 0 }) else p
    | _ => p) } }

/-! ## Rings -/

/-- Entries submitted and not dispatched (RING_STAT.QUEUED). -/
def State.queued (s : State) (r : Nat) : Nat :=
  (s.fld F.RING_SQ_TAIL_IDX r + s.ringSize r - s.fld F.RING_SQ_HEAD_IDX r) % s.ringSize r

/-- Chains of a ring now on sequencers (RING_STAT.RUNNING). -/
def State.running (s : State) (r : Nat) : Nat := (s.kex.seqs.filter (fun p => p.2.ring == r)).length

/-- Completions posted and not consumed. -/
def State.unconsumed (s : State) (r : Nat) : Nat :=
  (s.fld F.RING_CQ_TAIL_IDX r + s.ringSize r - s.fld F.RING_CQ_HEAD_IDX r) % s.ringSize r

/-- Is a completion slot free (R84)? Running chains and entries on their way to Placed hold one each. -/
def State.slotFree (s : State) (r : Nat) : Bool :=
  decide (s.unconsumed r + (s.ringSt r).posts.length + s.running r < s.ringSize r - 1)

/-- A submission entry (R82). -/
structure Entry where
  slot : Nat
  tag : Nat
  level : Nat
  fence : Bool
  args : List Nat
  user : Nat
  deriving DecidableEq, Repr

/-- Entry i of the submission queue of a ring. -/
def State.entry (s : State) (r i : Nat) : Entry :=
  let b := s.viewBytes (s.sqBase r + 64 * i) 64
  let h := wordAt b 0
  ⟨bits h 0 12, bits h 16 16, bits h 32 2, bitAt h 34, (List.range 6).map (fun k => wordAt b (k + 1)), wordAt b 7⟩

/-- Post a completion entry (R83, R85) into the next place of the queue, with the PHASE that the place will have; CQ_TAIL
advances past it once it is Placed. -/
def State.post (s : State) (r : Nat) (st : Status) (tag link q level result user : Nat) (epoch : Option Nat) : State :=
  let x := s.ringSt r
  let t := s.fld F.RING_CQ_TAIL_IDX r + x.posts.length
  let wrapped := s.ringSize r ≤ t
  let ph := if wrapped then 1 - s.fld F.RING_CQ_TAIL_PHASE r else s.fld F.RING_CQ_TAIL_PHASE r
  let b := leBytes 8 (ph + st.code * 2 ^ 8 + tag % 2 ^ 16 * 2 ^ 16 + link % 2 ^ 16 * 2 ^ 32 + q % 32 * 2 ^ 48 +
      level % 8 * 2 ^ 53) ++ leBytes 8 result ++ leBytes 8 user ++
    leBytes 8 (match epoch with | some e => e % 2 ^ 40 + 2 ^ 40 | none => 0)
  let w := s.writeEntry r (s.cqBase r + 32 * (if wrapped then t - s.ringSize r else t)) b
  w.2.setRingSt r { x with posts := x.posts ++ [w.1] }

/-- The completion of an entry whose chain ran no link: RESULT is ARG1, which w1 would have taken; the spec states no
FAULT_LINK and no SQ for it, so both are free. -/
def State.postUnrun (s : State) (r : Nat) (e : Entry) (st : Status) : State :=
  let f := s.draw
  let w := (Config.freeWord f.1).toNat
  f.2.post r st e.tag (w % 2 ^ 16) (w / 2 ^ 16 % 32) 0 (e.args.getD 0 0) e.user none

/-- An abort of a TAG resolves (R86, R88). -/
def State.abortDone (s : State) (r tag : Nat) (st : Status) : State :=
  let x := s.ringSt r
  ((s.setRingSt r { x with abort := if x.abort = some tag then none else x.abort }).setFld F.RING_ABORT_RES_STATUS r
    st.code).setFld F.RING_ABORT_RES_TAG r tag

/-- Move SQ_HEAD over entries that an abort has ended. -/
def State.skipDead (s : State) (r : Nat) : Nat → State
  | 0 => s
  | fuel + 1 =>
    let h := s.fld F.RING_SQ_HEAD_IDX r
    let x := s.ringSt r
    if s.queued r ≠ 0 ∧ x.dead.contains h ∧ ¬ x.owed.contains h then
      State.skipDead ((s.setRingSt r { x with dead := x.dead.filter (fun i => i != h) }).setFld F.RING_SQ_HEAD_IDX r
        ((h + 1) % s.ringSize r)) r fuel
    else s

/-- Post the completions of aborted entries that waited for a slot, oldest first. -/
def State.payOwed (s : State) (r : Nat) : List Nat → State
  | [] => s.skipDead r (s.ringSize r)
  | i :: rest =>
    if s.slotFree r then
      let x := s.ringSt r
      let e := s.entry r i
      let s := (s.setRingSt r { x with owed := rest }).postUnrun r e .aborted
      State.payOwed (s.abortDone r e.tag .ok) r rest
    else s.skipDead r (s.ringSize r)

def State.settleRing (s : State) (r : Nat) : State := s.payOwed r (s.ringSt r).owed

/-! ## The end of a chain -/

/-- What the chain's writes reached (R83): the lowest level, 0 when none counts. A write that failed does not count; one of
an aborted chain that is still on its way counts as Placed. -/
def State.levelReached (s : State) (x : Seq) : Nat :=
  let ls := x.wrote.filterMap (fun (w : Wrote) =>
    match s.op? w.op with
    | none => none
    | some o =>
      if o.status.isFailure then none
      else if o.kind = .control then some o.level
      else match o.hiEpoch with
        | none => none
        | some e =>
          if o.toPlace ≠ 0 ∨ s.single then some 1
          else if s.isSealed e then some 3
          else if o.toTwin = 0 then some 2 else some 1)
  match ls with
  | [] => 0
  | l :: rest => rest.foldl min l

/-- The highest epoch stamped on a write of the chain (R83). -/
def State.highEpoch (s : State) (x : Seq) : Option Nat :=
  x.wrote.foldl (fun (b : Option Nat) (w : Wrote) =>
    match s.op? w.op with
    | some o => latest b o.hiEpoch
    | none => b) none

/-- A chain ends with a status (R77, R83): its completion is posted and the sequencer is idle. -/
def State.chainEnd (s : State) (q : Nat) (x : Seq) (st : Status) : State :=
  let level := s.levelReached x
  let epoch := s.highEpoch x
  let s := { s with kex := { s.kex with seqs := SMap.del s.kex.seqs q } }
  let s := { s with wins := { s.wins with waiting := s.wins.waiting.filter (fun (w : Nat × WinWait) => w.2 != WinWait.link q) } }.waitBlob q false
  let s := ((s.detach q).orphanOps q).count 0x70 q 1
  let s := s.post x.ring st x.tag x.pc q level (x.r 1) x.user epoch
  let s := if x.aborted then s.abortDone x.ring x.tag .ok else s
  (s.settleRing x.ring).serve

/-- The Notice of Table 16.6 about the link at which a chain stands. -/
def State.linkNotice (s : State) (q : Nat) (x : Seq) (code detail : Nat) : State :=
  s.raise 0x70 q 0 code (x.ring + x.tag * 2 ^ 16 + x.pc * 2 ^ 32) detail

/-- An illegal link ends the chain (R90); `op` is its opcode. -/
def State.illegalLink (s : State) (q : Nat) (x : Seq) (op : Nat) : State :=
  ((s.linkNotice q x 0x01 op).count 0x70 q 2).chainEnd q x .illegalLink

/-- The opcode of a word. -/
def opcodeOf (w : W40) : Nat := (w.extractLsb' 32 7).toNat

/-! ## The library -/

/-- The bytes of a library slot. -/
def State.slotBytes (s : State) (n : Nat) : List Byte := s.viewBytes (s.libBase + 65536 * n) 65536

/-- Start the check of a slot (R63). -/
def State.install (s : State) (slot : Nat) : State :=
  { s with kex := { s.kex with installing := some slot } }.setFld F.SEQ_INSTALL_STATUS 0 Status.busy.code

/-- SEQ_INSTALL (R63): a write with GO = 1. -/
def rowSeqInstall (p : Path) (slot : Nat) (s : State) : Res :=
  if slot < 4096 then
    (if pathMay p 0x70 then ends p (.ok, s.install slot) else ends p (.privilege, s))
  else .fault (.noSuchUnit 0x70 slot)

/-- INSTALL_CHECK_DONE (R63): link-start map and privilege summary, or the first bad word. -/
def execInstallCheckDone (s : State) : Res :=
  match s.kex.installing with
  | none => .next s
  | some n =>
    let s := { s with kex := { s.kex with installing := none } }
    match checkImage (s.slotBytes n) with
    | .ok im =>
      .next (({ s with kex := { s.kex with lib := SMap.ins s.kex.lib n ⟨im.starts, im.privs, false⟩ } }.setFld
        F.SEQ_INSTALL_STATUS 0 Status.ok.code).setFld F.SEQ_INSTALL_BAD_LINK 0 0)
    | .error k =>
      .next (({ s with kex := { s.kex with lib := SMap.del s.kex.lib n } }.setFld
        F.SEQ_INSTALL_STATUS 0 Status.illegalLink.code).setFld F.SEQ_INSTALL_BAD_LINK 0 k)

/-- The image of an installed slot: with the map and the summary of its install, or with those of the repeated check where
its lines were rewritten (R61); none when it is not installed or fails. -/
def State.imageOf (s : State) (n : Nat) : Option Image :=
  match SMap.look s.kex.lib n with
  | none => none
  | some x => match checkImage (s.slotBytes n) with
    | .ok im => some (if x.recheck then im else { im with starts := x.starts, privs := x.privs })
    | .error _ => none

/-! ## Submission and dispatch -/

/-- A write of RING_SQ_TAIL.IDX (R81). -/
def State.sqTail (s : State) (r i : Nat) : Status × State :=
  if s.ringSize r ≤ i then (.privilege, s) else (.ok, (s.setFld F.RING_SQ_TAIL_IDX r i).settleRing r)

/-- RING_SQ_TAIL_WRITE (R81). -/
def rowRingSqTailWrite (p : Path) (r i : Nat) (s : State) : Res := onUnit 0x71 r ((ends p (s.sqTail r i)))

/-- A write of RING_CQ_HEAD.IDX (R81): never past CQ_TAIL. -/
def State.cqHead (s : State) (r i : Nat) : Status × State :=
  let n := s.ringSize r
  let h := s.fld F.RING_CQ_HEAD_IDX r
  if n ≤ i ∨ s.unconsumed r < (i + n - h) % n then (.privilege, s)
  else (.ok, (s.setFld F.RING_CQ_HEAD_IDX r i).settleRing r)

/-- RING_CQ_HEAD_WRITE (R81, R86). -/
def rowRingCqHeadWrite (p : Path) (r i : Nat) (s : State) : Res := onUnit 0x71 r ((ends p (s.cqHead r i)))

/-- The pending entries of a ring from its head on. -/
def State.pendingEntries (s : State) (r : Nat) : List Nat :=
  (List.range (s.queued r)).map (fun k => (s.fld F.RING_SQ_HEAD_IDX r + k) % s.ringSize r)

/-- A write of RING_ABORT with GO = 1 (R88, Table 3.9): running chains are older than pending entries; a chain or an entry
that an earlier abort has hit counts until its completion is posted. -/
def State.abortTag (s : State) (r tag : Nat) : State :=
  let run := s.kex.seqs.filter (fun p => p.2.ring == r && p.2.tag == tag)
  let oldest := run.foldl (fun (b : Option (Nat × Seq)) p =>
    match b with | some c => if p.2.chain < c.2.chain then some p else b | none => some p) none
  match oldest with
  | some (q, x) =>
    let s := s.setSeq q { x with aborted := true }
    (s.setRingSt r { s.ringSt r with abort := some tag }).setFld F.RING_ABORT_RES_STATUS r Status.busy.code
  | none =>
    let x := s.ringSt r
    match (s.pendingEntries r).find? (fun i => (s.entry r i).tag == tag && (!x.dead.contains i || x.owed.contains i)) with
    | some i =>
      let s := s.setRingSt r (if x.dead.contains i then { x with abort := some tag }
        else { x with dead := x.dead ++ [i], owed := x.owed ++ [i], abort := some tag })
      (s.setFld F.RING_ABORT_RES_STATUS r Status.busy.code).settleRing r
    | none => s.abortDone r tag .alreadyDone

/-- RING_ABORT (R88). -/
def rowRingAbort (p : Path) (r tag : Nat) (s : State) : Res :=
  onUnit 0x71 r ((ends p (.ok, (s.abortTag r (tag % 65536)).serve)))

/-- May the head entry of a ring be dispatched now (R82, R84, R92)? FENCE waits until every earlier entry has completed. -/
def State.mayDispatch (s : State) (r : Nat) : Bool :=
  let h := s.fld F.RING_SQ_HEAD_IDX r
  !s.life.held && s.flag F.RING_CFG_EN r && s.queued r != 0 && !(s.ringSt r).dead.contains h && s.slotFree r &&
  (!s.flag F.RING_CFG_SERIAL r || s.running r == 0) &&
  (!(s.entry r h).fence || (s.running r == 0 && (s.ringSt r).posts.isEmpty))

/-- Is the ring the one that the dispatcher serves next: the highest priority, round-robin among equals (R84)? -/
def State.ringTurn (s : State) (r : Nat) : Bool :=
  let pr := s.fld F.RING_CFG_PRIO r
  let last := SMap.get 0 s.kex.turn pr
  let rings := (List.range 4096).filter s.mayDispatch
  rings.all (fun x => decide (s.fld F.RING_CFG_PRIO x ≤ pr)) &&
  (rings.filter (fun x => s.fld F.RING_CFG_PRIO x == pr)).all (fun x =>
    decide ((r + 4096 - (last + 1) % 4096) % 4096 ≤ (x + 4096 - (last + 1) % 4096) % 4096))

/-- May any chain run: power state P0 and no early warning (R91, R92)? -/
def State.chainsRun (s : State) : Bool := s.pow.state == .p0 && !s.pow.warn

/-- The registers with which a chain starts (R67). -/
def argRegs (e : Entry) : SMap Nat :=
  (e.args.zipIdx.foldl (fun (m : SMap Nat) a => SMap.put 0 m (a.2 + 1) a.1) []) ++ (if e.tag = 0 then [] else [(7, e.tag)])

/-- CHAIN_DISPATCH (R67, R71, R84): the head entry of a ring goes to an idle sequencer, or completes at once when its slot
is not installed or needs a privilege that the ring lacks. -/
def execChainDispatch (r q : Nat) (s : State) : Res :=
  onUnit 0x71 r <| onUnit 0x70 q <|
    if ¬ (s.chainsRun ∧ s.mayDispatch r ∧ s.ringTurn r ∧ (s.seq? q).isNone ∧ q ∉ s.life.halted) then .next s
    else
      let h := s.fld F.RING_SQ_HEAD_IDX r
      let e := s.entry r h
      let s := s.setFld F.RING_SQ_HEAD_IDX r ((h + 1) % s.ringSize r)
      let s := { s with kex := { s.kex with turn := SMap.put 0 s.kex.turn (s.fld F.RING_CFG_PRIO r) r } }
      match s.imageOf e.slot with
      | none =>
        let s := { s with kex := { s.kex with lib := SMap.del s.kex.lib e.slot } }
        .next ((s.postUnrun r e .illegalLink).settleRing r)
      | some im =>
        let s := { s with kex := { s.kex with lib := SMap.ins s.kex.lib e.slot ⟨im.starts, im.privs, false⟩ } }
        if im.privs &&& s.fld F.RING_CFG_PRIV r ≠ im.privs then .next ((s.postUnrun r e .privilege).settleRing r)
        else
          let x : Seq := ⟨r, e.tag, e.user, s.kex.nextChain, e.slot,
            if e.level = 0 then s.fld F.RING_PROFILE_LEVEL r else e.level, im.words, im.starts, im.entry, argRegs e, [],
            0, false, 0, none, [], 0, [], false, false, []⟩
          let s := { s with kex := { s.kex with nextChain := s.kex.nextChain + 1 } }
          .next ((s.setSeq q x).settleRing r)

/-- CHAIN_ABORT_AT_BOUNDARY (R88, R89): an aborted chain ends; its Facet dispatches end with it. -/
def execChainAbortAtBoundary (q : Nat) (s : State) : Res :=
  onUnit 0x70 q <|
    match s.seq? q with
    | some x =>
      if x.aborted ∧ ¬ x.stopped then
        let s := s.fxAbort (fun o => o.q == q && o.chain == x.chain)
        .next (s.chainEnd q x .aborted)
      else .next s
    | none => .next s

/-- Links that a chain may execute: 2^LIMIT (R87). -/
def State.linkLimit (s : State) (x : Seq) : Nat := 2 ^ s.fld F.RING_PROFILE_LIMIT x.ring

/-- The earliest armed link of a chain. -/
def Seq.nextArmed (x : Seq) : Option ArmedLink :=
  x.armed.foldl (fun (b : Option ArmedLink) a =>
    match b with | some c => if a.at_ < c.at_ then some a else b | none => some a) none

/-- The link that a chain would execute next: the one at which it stands, or, while it waits, the earliest armed link. -/
def Seq.nextLink (x : Seq) : Option Nat := if x.wait.isNone then some x.pc else x.nextArmed.map ArmedLink.pc

/-- LINK_BUDGET_EXHAUSTED (R87): FAULT_LINK names the link that was next. -/
def execLinkBudgetExhausted (q : Nat) (s : State) : Res :=
  onUnit 0x70 q <|
    match s.seq? q with
    | some x =>
      match x.nextLink with
      | some pc =>
        if s.linkLimit x ≤ x.count ∧ ¬ x.stopped then
          let x := { x with pc := pc }
          .next ((s.linkNotice q x 0x02 0).chainEnd q x .aborted)
        else .next s
      | none => .next s
    | none => .next s

end Sys2Proof.Machine
end

