-- ==== Sys2Proof/Machine/Keepsake.lean ====
section
/-! DEFINITION. The keepsake flash and the event recorder (chapter 16): the command sequence (R378, R379, R384), the ends
of programs and erases (R373 to R380), cursors (R389, R390); local faults as commands (R399 to R401). -/

namespace Sys2Proof.Machine

/-! ## Flash bytes -/

/-- A flash byte: an erased one reads 0xFF; what a torn block and the copies of the journal hold is free. -/
def State.flashByte (s : State) (a : Nat) : Byte :=
  let b := a / 65536
  if s.kf.torn.contains b then Config.tornByte (SMap.get 0 s.kf.journal.erases b) a
  else if (journalBlocks 0).contains b || (journalBlocks 1).contains b then Config.journalByte s.kf.journal.sq a
  else SMap.get 0xFF#8 s.kf.flash a

/-- n flash bytes from an address. -/
def State.flashBytes (s : State) (a n : Nat) : List Byte := (List.range n).map (fun i => s.flashByte (a + i))

/-- A program clears bits only (R373). -/
def programBytes : SMap Byte → Nat → List Byte → SMap Byte
  | m, _, [] => m
  | m, a, b :: bs => programBytes (SMap.put 0xFF#8 m a (SMap.get 0xFF#8 m a &&& b)) (a + 1) bs

/-- An erase sets every byte of a block (R373). -/
def eraseBytes (m : SMap Byte) (block : Nat) : SMap Byte := m.filter (fun p => p.1 / 65536 != block)

/-- Blocks of the command path (Table 16.1). -/
def commandBlock (b : Nat) : Bool :=
  decide ((8 ≤ b ∧ b ≤ 15) ∨ (1032 ≤ b ∧ b ≤ 1039) ∨ (16 ≤ b ∧ b ≤ 783) ∨ (1040 ≤ b ∧ b ≤ 1807) ∨ (3608 ≤ b ∧ b ≤ 4095))

/-- The image slot that a block belongs to: 0 A, 1 B, 2 C0, 3 C1; 4 none (R384). -/
def imageSlot (b : Nat) : Nat :=
  if 16 ≤ b ∧ b ≤ 783 then 0 else if 1040 ≤ b ∧ b ≤ 1807 then 1 else if 8 ≤ b ∧ b ≤ 15 then 2
  else if 1032 ≤ b ∧ b ≤ 1039 then 3 else 4

/-- Blocks of the identity and envelope areas, which no path reads (R376). -/
def secretBlock (b : Nat) : Bool := [0, 1024, 1, 2, 1025, 1026].contains b

/-- Blocks of Table 16.1; the others are reserved (R375). -/
def knownBlock (b : Nat) : Bool :=
  commandBlock b || decide (b ≤ 4) || decide (1024 ≤ b ∧ b ≤ 1028) || decide (2048 ≤ b ∧ b ≤ 2567) ||
  decide (3072 ≤ b ∧ b ≤ 3607)

/-! ## The command sequence (R378, R379) -/

/-- A sequence ends without its operation: KF_RES reads the status. -/
def State.kfAbandon (s : State) (st : Status) : State :=
  { s with kf := { s.kf with sequence := none } }.setFld F.KF_RES_STATUS 0 st.code

/-- The next step of a sequence by its owner, in time; otherwise PRIVILEGE, or the sequence is abandoned. -/
def State.kfStep (s : State) (p : Path) (stage : Nat) (k : KfSeq → Status × State) : Status × State :=
  match s.kf.sequence with
  | none => (.privilege, s)
  | some x =>
    if ¬ p.trusted ∨ x.owner ≠ p then (.privilege, s)
    else if x.stage ≠ stage ∨ x.last + us 100 < s.mono then (.ok, s.kfAbandon .privilege)
    else k x

def State.setKfSeq (s : State) (x : KfSeq) : State :=
  { s with kf := { s.kf with sequence := some { x with last := s.mono } } }

/-- A write of KF_UNLOCK. -/
def State.kfUnlock (s : State) (p : Path) (key : Nat) : Status × State :=
  match s.kf.sequence with
  | none =>
    if ¬ p.trusted ∨ s.pow.warn then (.privilege, s)
    else if key = 0x4B454550 then (.ok, s.setKfSeq ⟨1, p, s.mono, 0, 0, []⟩) else (.privilege, s)
  | some _ =>
    s.kfStep p 1 (fun x => if key = 0x53414B45 then (.ok, s.setKfSeq { x with stage := 2 }) else (.ok, s.kfAbandon .privilege))

/-- A write of KF_CMD: the data registers become all ones. -/
def State.kfCmd (s : State) (p : Path) (op : Nat) : Status × State :=
  s.kfStep p 2 (fun x => (.ok, s.setKfSeq { x with stage := 3, op := op, data := [] }))

/-- The operation of the command path starts: its sequence is over and KF_RES reads BUSY. -/
def State.kfStart (s : State) (block : Nat) : State :=
  ({ s with kf := { s.kf with
      sequence := none, active := some block, verified := s.kf.verified.filter (fun i => i != imageSlot block) } }.setFld
    F.KF_RES_STATUS 0 Status.busy.code).setFld F.KF_RES_BLOCK 0 block

/-- An image slot's status of VERIFY (R384). -/
def State.kfVerify (s : State) (slot : Nat) (ok : Bool) : State :=
  let s := { s with kf := { s.kf with sequence := none } }
  if ok then ({ s with kf := { s.kf with verified := addNew s.kf.verified slot } }).setFld F.KF_RES_STATUS 0 0
  else ({ s with kf := { s.kf with verified := s.kf.verified.filter (fun i => i != slot) } }).setFld F.KF_RES_STATUS 0
    Status.privilege.code

/-- The bytes of a selector record (Table 16.3a). -/
def selectorBytes (sq fw try_ cfg : Nat) : List Byte :=
  let b := leBytes 8 (0x4B534C31 + sq % 2 ^ 32 * 2 ^ 32) ++ leBytes 8 (fw + 2 * try_ + 4 * cfg) ++ List.replicate 44 0
  b ++ leBytes 4 (crc32c b)

/-- Append a selector record to copy 0 and then to copy 1; when they are full, one is erased and written before the other
is erased (R384). -/
def State.appendSelector (s : State) (fw try_ cfg : Nat) : State :=
  let sq := s.fld F.KF_SEL_SEQ + 1
  let i := (sq - 1) % 1024
  let b := selectorBytes sq fw try_ cfg
  let full : Bool := i = 0 ∧ sq ≠ 1
  let copy (s : State) (block : Nat) : State :=
    (if full then s.requestErase block .selector else s).flashWait (.program (block * 65536 + 64 * i) b .selector)
  (copy (copy s 3) 1027).kick

/-- SELECT and CONFIRM start: they end with the program of copy 1. -/
def State.kfSelecting (s : State) : State :=
  ({ s with kf := { s.kf with sequence := none, active := some 1027 } }.setFld F.KF_RES_STATUS 0
    Status.busy.code).setFld F.KF_RES_BLOCK 0 1027

/-- SELECT of a slot (R384): PRIVILEGE unless it has passed VERIFY. -/
def State.kfSelect (s : State) (slot : Nat) : State :=
  if s.kf.verified.contains slot then
    let s := s.kfSelecting
    if slot < 2 then s.appendSelector slot 1 (s.fld F.KF_SEL_CFG)
    else s.appendSelector (s.fld F.KF_SEL_FW) (s.fld F.KF_SEL_TRY) (slot - 2)
  else s.kfAbandon .privilege

/-- CONFIRM (R384). -/
def State.kfConfirm (s : State) : State :=
  let s := s.kfSelecting
  s.appendSelector (s.fld F.KF_SEL_FW) 0 (s.fld F.KF_SEL_CFG)

/-- ERASE of a block (R376, R379, R380). -/
def State.kfErase (s : State) (addr : Nat) : State :=
  let b := addr / 65536
  if addr % 65536 ≠ 0 ∨ ¬ commandBlock b then s.kfAbandon .privilege
  else ((s.kfStart b).requestErase b .command).kick

/-- A write of KF_ADDR: it starts ERASE, VERIFY, SELECT and CONFIRM, and names the page of a PROGRAM. -/
def State.kfAddr (s : State) (p : Path) (addr : Nat) (imageOk : Bool) : Status × State :=
  s.kfStep p 3 (fun x =>
    match x.op with
    | 1 =>
      if addr % 256 ≠ 0 ∨ ¬ commandBlock (addr / 65536) then (.ok, s.kfAbandon .privilege)
      else (.ok, s.setKfSeq { x with stage := 4, addr := addr })
    | 2 => (.ok, s.kfErase addr)
    | 3 => (.ok, s.kfVerify (addr % 4) imageOk)
    | 4 => (.ok, s.kfSelect (addr % 4))
    | 5 => (.ok, s.kfConfirm)
    | _ => (.ok, s.kfAbandon .privilege))

/-- A write of KF_DATAi; that of KF_DATA31 starts the program, unless its block is torn (R378, R380). -/
def State.kfData (s : State) (p : Path) (i v : Nat) : Status × State :=
  s.kfStep p 4 (fun x =>
    let d := SMap.ins x.data i v
    if i = 31 then
      let b := x.addr / 65536
      if s.kf.torn.contains b then (.ok, s.kfAbandon .privilege)
      else
        let bytes := (List.range 32).flatMap (fun j => leBytes 8 (SMap.get (2 ^ 64 - 1) d j))
        (.ok, ((s.kfStart b).flashWait (.program x.addr bytes .command)).kick)
    else (.ok, s.setKfSeq { x with data := d }))

/-- KF_UNLOCK (R378). -/
def rowKfUnlock (p : Path) (key : Nat) (s : State) : Res :=
  ends p (s.kfUnlock p key)

/-- KF_PROGRAM (R378): the write of KF_DATA31. -/
def rowKfProgram (p : Path) (v : W64) (s : State) : Res :=
  ends p (s.kfData p 31 v.toNat)

/-- The KF_ADDR write of a sequence whose KF_CMD named operation `op`. -/
def State.kfAddrAs (s : State) (p : Path) (op addr : Nat) (imageOk : Bool) : Status × State :=
  match s.kf.sequence with
  | some x => if x.op = op ∨ x.stage ≠ 3 then s.kfAddr p addr imageOk else (.ok, s)
  | none => s.kfAddr p addr imageOk

/-- KF_ERASE (R378, R380). -/
def rowKfErase (p : Path) (addr : Nat) (s : State) : Res :=
  ends p (s.kfAddrAs p 2 addr false)

/-- KF_VERIFY (R384): `sigOk` tells whether the image in the slot passes R350. -/
def rowKfVerify (p : Path) (slot : Nat) (sigOk : Bool) (s : State) : Res :=
  ends p (s.kfAddrAs p 3 slot sigOk)

/-- KF_SELECT (R384). -/
def rowKfSelect (p : Path) (slot : Nat) (s : State) : Res :=
  ends p (s.kfAddrAs p 4 slot false)

/-- KF_CONFIRM (R384). -/
def rowKfConfirm (p : Path) (addr : Nat) (s : State) : Res :=
  ends p (s.kfAddrAs p 5 addr false)

/-- KF_SEQUENCE_TIMEOUT (R379): a step is later than 100 us. -/
def execKfSequenceTimeout (s : State) : Res :=
  match s.kf.sequence with
  | some x => .next ((s.reachLocal (x.last + us 100 + 1)).kfAbandon .privilege)
  | none => .next s

/-- From T_W on a sequence that has not started its operation ends with ABORTED (R379). -/
def State.kfWarned (s : State) : State := match s.kf.sequence with | some _ => s.kfAbandon .aborted | none => s

/-! ## Ends of flash operations -/

/-- A command-path operation on a block has ended. -/
def State.kfDone (s : State) (block : Nat) : State :=
  if s.kf.active = some block then { s with kf := { s.kf with active := none } }.setFld F.KF_RES_STATUS 0 0 else s

/-- The erase of a block whose erase-start entry has been programmed may begin (R380). -/
def readyErase (block : Nat) (ops : List FlashOp) : List FlashOp :=
  ops.map (fun (x : FlashOp) => match x with
    | .erase b false src => if b = block then .erase b true src else x
    | _ => x)

/-- A copy of the state journal that has become full is erased, block by block (R377). -/
def State.journalSpace (s : State) (c : Nat) : State :=
  if s.kf.journal.full c ∧ ¬ s.kf.waiting.any (fun x => match x with | .erase b _ _ => (journalBlocks c).contains b | _ => false) then
    (journalBlocks c).foldl (fun (t : State) b => t.requestErase b .island) s
  else s

/-- An entry of the state journal has been programmed into copy c (R377, R380, R443). -/
def State.journalled (s : State) (c : Nat) (x : JItem) : State :=
  let j := { s.kf.journal with
    sq := s.kf.journal.sq + 1,
    used0 := if c = 0 then s.kf.journal.used0 + 1 else s.kf.journal.used0,
    used1 := if c = 0 then s.kf.journal.used1 else s.kf.journal.used1 + 1 }
  match x with
  | .eraseStart b =>
    let n := SMap.get 0 j.erases b + 1
    let s := { s with kf := { s.kf with
      journal := { j with erases := SMap.put 0 j.erases b n, torn := addNew j.torn b }, waiting := readyErase b s.kf.waiting } }
    if n = 90000 then s.raise 0x04 0 1 0x01 b n else s
  | .marker b => { s with kf := { s.kf with
      journal := { j with torn := j.torn.filter (fun i => i != b) }, torn := s.kf.torn.filter (fun i => i != b) } }
  | .term t => { s with kf := { s.kf with journal := { j with term := t } } }
  | .outcome o => { s with kf := { s.kf with journal := { j with outcome := o } } }
  | .cycles n => { s with kf := { s.kf with journal := { j with cycles := n } } }
  | .opSecs n => { s with kf := { s.kf with journal := { j with opSecs := n } } }
  | .uses slot ver n => { s with kf := { s.kf with journal := { j with uses := SMap.put 0 j.uses (slot * 2 ^ 32 + ver) n } } }

/-- A copy of an envelope has been programmed (R341, R382): from its first copy on the keepsake holds it, and with the second the
loads of the slot that have been made end. -/
def State.envelopeDone (s : State) (e : Env) (copy : Nat) : State :=
  if copy = 0 then (s.keepEnv e).flashWait (.envelope e 1)
  else if s.saving e.slot ∨ (s.slot e.slot).parked.isSome then s
  else (s.ksEnds e.slot .ok).tellLinks (fun _ w => if w = WaitFor.kload e.slot then some .ok else none)

/-- A program of bytes has ended: who asked for it goes on (R366, R384, R388, R219). -/
def State.programmed (s : State) (a : Nat) (d : List Byte) (src : FlashBy) : State :=
  let s := { s with kf := { s.kf with flash := programBytes s.kf.flash a d } }
  match src with
  | .command => s.kfDone (a / 65536)
  | .recorder =>
    match s.ev.queue with
    | r :: rest => { s with ev := { s.ev with queue := rest, done := r.sq } }
    | [] => s
  | .supervisor =>
    let w := leNat (d.take 8)
    ((((s.setFld F.PS_LAST_KIND 0 (bits w 32 4)).setFld F.PS_LAST_RAIL 0 (bits w 36 4)).setFld F.PS_LAST_DIR 0
      (bits w 40 1)).setFld F.PS_LAST_TIME_S 0 (leNat ((d.drop 8).take 8))).bump F.PS_REC_WRITTEN
  | .selector =>
    let f := leNat ((d.drop 8).take 1)
    let s := (((s.setFld F.KF_SEL_SEQ 0 (leNat ((d.drop 4).take 4))).setFld F.KF_SEL_FW 0 (bits f 0 1)).setFld F.KF_SEL_TRY 0
      (bits f 1 1)).setFld F.KF_SEL_CFG 0 (bits f 2 1)
    s.kfDone (a / 65536)
  | .retirement => s.retireRecorded
  | .island => s

/-- FLASH_PROGRAM_DONE (R373): the bank is idle and the keepsake goes on. -/
def State.flashDone (s : State) (bank : Nat) : State :=
  match SMap.look s.kf.banks bank with
  | some (.program a d src) =>
    (({ s with kf := { s.kf with banks := SMap.del s.kf.banks bank } }).programmed a d src).kick.serve
  | some (.journal x) =>
    ((({ s with kf := { s.kf with banks := SMap.del s.kf.banks bank } }).journalled (bank - 2) x).journalSpace (bank - 2)).kick.serve
  | some (.envelope e copy) =>
    (({ s with kf := { s.kf with banks := SMap.del s.kf.banks bank } }).envelopeDone e copy).kick.serve
  | some (.identity copy) =>
    let s := { s with kf := { s.kf with banks := SMap.del s.kf.banks bank } }
    (if copy = 0 then s.flashWait (.identity 1) else s).kick.serve
  | _ => s

def execFlashProgramDone (bank : Nat) (s : State) : Res :=
  if bank < 4 then .next (s.flashDone bank) else .fault (.noSuchUnit 0x04 bank)

/-- Which part of a program an interruption leaves: bits that were to be cleared may be or may not (R382). -/
def halfBytes (k a : Nat) (d : List Byte) : List Byte := d.zipIdx.map (fun x => x.1 ||| Config.tornByte k (a + x.2))

/-- VAON has been gone (R368, R382): the power record completed; every other operation in progress is interrupted and nothing waits
any more; what the island queue and the open record held is lost, and a record cut short keeps its place in the ring. -/
def State.kfCut (s : State) : State :=
  let rec_ (x : FlashOp) : Bool := match x with | .program _ _ .supervisor => true | _ => false
  let cutRec := s.kf.banks.any (fun p => match p.2 with | .program _ _ .recorder => true | _ => false)
  let n := s.draw
  let one (m : SMap Byte) (x : FlashOp) : SMap Byte :=
    match x with
    | .program a d src => programBytes m a (if src = .supervisor then d else halfBytes n.1 a d)
    | _ => m
  let s := n.2
  let all := s.kf.banks.map (fun p => p.2) ++ s.kf.waiting.filter rec_
  let done := if cutRec then s.ev.done + 1 else s.ev.done
  { s with
    kf := { s.kf with banks := [], waiting := [], active := none, sequence := none, flash := all.foldl one s.kf.flash },
    ev := { s.ev with newest := none, queue := [], lost := 0, done := done, head := done } }

/-- Torn blocks of the areas whose writer erases them again before using them (R382). -/
def ownTorn (b : Nat) : Bool :=
  [3, 1027, 4, 1028].contains b || decide (2048 ≤ b ∧ b ≤ 2567) || decide (3072 ≤ b ∧ b ≤ 3607)

/-- Boot finds torn blocks (R380, R382): KF_EC.TORN, an event record, and a new erase by the writer of the area. -/
def State.findTorn (s : State) : State :=
  (s.kf.journal.torn.filter (fun b => !s.kf.torn.contains b)).foldl (fun (t : State) b =>
    let t := { t with kf := { t.kf with torn := addNew t.kf.torn b } }.note 0x04 0 0x02 b
    if ownTorn b then (t.requestErase b .island).kick else t) s

/-- USES_RESERVATION_PROGRAMMED (R443): the reservation of a slot that is being programmed stands, and the sealing
invocations that waited for it go on. -/
def execUsesReservationProgrammed (slot : Nat) (s : State) : Res :=
  let hit (b : Nat) : Bool := match SMap.look s.kf.banks b with | some (.journal (.uses n _ _)) => n == slot | _ => false
  match [2, 3].find? hit with
  | some b =>
    let s := s.flashDone b
    .next ((s.tr.qps.map (fun p => p.1)).foldl (fun (t : State) n => if (t.qp n).keySlot = slot then t.pump n else t) s)
  | none => .next s

/-- FLASH_ERASE_DONE (R380): every byte 0xFF; the island programs the block's marker. -/
def execFlashEraseDone (bank : Nat) (s : State) : Res :=
  if bank < 4 then
    match SMap.look s.kf.banks bank with
    | some (.erase b _ _) =>
      let s := { s with kf := { s.kf with banks := SMap.del s.kf.banks bank, flash := eraseBytes s.kf.flash b } }
      let s := if b = 4 then { s with pow := { s.pow with w0 := 0 } }
        else if b = 1028 then { s with pow := { s.pow with w1 := 0 } }
        else if b = 2567 then { s with kf := { s.kf with journal := { s.kf.journal with used0 := 0 } } }
        else if b = 3607 then { s with kf := { s.kf with journal := { s.kf.journal with used1 := 0 } } } else s
      .next ((s.kfDone b).journalize (.marker b)).kick
    | _ => .next s
  else .fault (.noSuchUnit 0x04 bank)

/-! ## Event records -/

/-- EVENT_RECORD_TIMEOUT (R387): 60 s after it opened. -/
def execEventRecordTimeout (s : State) : Res :=
  match s.ev.newest with
  | some (_, t) => .next (s.reachLocal (t + 60 * second)).closeEvent
  | none => .next s

/-- The cursor of a path (R389). -/
def State.cursorOf (s : State) (p : Path) : Nat :=
  match p with | .mgmt => s.ev.curM | .firmware => s.ev.curFw | _ => s.ev.curF

/-- A write of EV_CURSOR (R389). -/
def State.setCursor (s : State) (p : Path) (sq : Nat) : Status × State :=
  match p with
  | .mgmt => (.ok, { s with ev := { s.ev with curM := sq % 2 ^ 48 } })
  | .firmware => (.ok, { s with ev := { s.ev with curFw := sq % 2 ^ 48 } })
  | .fabric _ => (.ok, { s with ev := { s.ev with curF := sq % 2 ^ 48 } })
  | .chain => (.privilege, s)

/-- EV_CURSOR_WRITE (R389). -/
def rowEvCursorWrite (p : Path) (sq : Nat) (s : State) : Res :=
  ends p (s.setCursor p sq)

/-- The bytes of record SEQ as a reader sees them (R389): open, in the island queue, or in the ring. -/
def State.recordBytes (s : State) (sq : Nat) : List Byte :=
  match s.ev.newest with
  | some (r, _) => if r.sq = sq then r.bytes else
    (match s.ev.queue.find? (fun r => r.sq == sq) with
     | some r => r.bytes
     | none => s.flashBytes (ringAddr sq) 64)
  | none =>
    match s.ev.queue.find? (fun r => r.sq == sq) with
    | some r => r.bytes
    | none => s.flashBytes (ringAddr sq) 64

/-- EV_CSTAT of a cursor (R389). -/
def State.cursorState (s : State) (c : Nat) : Nat := if c < s.ev.tail then 2 else if s.ev.head < c then 1 else 0

/-- `evread` (R390): status, the cursor after it, the bytes copied. -/
def State.evRead (s : State) (c n : Nat) : Status × Nat × List Byte :=
  if c < s.ev.tail ∨ s.ev.head + 1 < c then (.windowBounds, s.ev.tail, [])
  else
    let k := min n (s.ev.head + 1 - c)
    (.ok, c + k, (List.range k).flatMap (fun i => s.recordBytes (c + i)))

/-! ## Local faults as commands -/

/-- FAULT_RAISE (R399): native class 7 stands for an event that is no fault. -/
def execFaultRaise (k : Raise) (s : State) : Res :=
  onCommon k.cls k.u <|
    if k.native ≤ 4 then .next (s.raise k.cls k.u k.native k.code k.ident k.detail)
    else .next (s.note k.cls k.u k.code k.ident k.detail)

/-- FAULT_ACK (R400): from the management port and firmware only. -/
def rowFaultAck (p : Path) (cls u : Nat) (s : State) : Res :=
  onCommon cls u ((if p.trusted then ends p (.ok, s.ackFault cls u) else ends p (.privilege, s)))

/-- `fack` (R400). -/
def State.fack (s : State) (cls u : Nat) : Status × State :=
  if unitCount cls ≤ u ∨ cls = 0x01 then (.windowBounds, s)
  else if s.fldOf cls F.BLK_FSTAT_UNACK u = 0 then (.alreadyDone, s)
  else (.ok, s.ackFault cls u)

/-- QUIET_PERIOD_END (R401). -/
def execQuietPeriodEnd (cls u : Nat) (s : State) : Res :=
  onCommon cls u <|
    match SMap.look s.quiet (unitKey cls u) with
    | some t => .next ((s.reachLocal t).endQuiet cls u)
    | none => .next s

end Sys2Proof.Machine
end

