-- ==== Sys2Proof/Machine/Loupe.lean ====
section
/-! DEFINITION. The Loupe's commands (R394 to R398): snapshots, freezes, clears, event selection. -/

namespace Sys2Proof.Machine

/-- A snapshot of every bank that LPX.BANK_OFF leaves in (R395); links that wait for one return OK. -/
def State.takeSnap (s : State) : State :=
  let off := s.fld F.LPX_BANK_OFF
  let skip (i : Nat) : Bool := match bankOfCounter i with | some (_, b) => bitAt off b | none => true
  let kept := s.loupe.snap.filter (fun p => skip p.1)
  let fresh := s.loupe.ctr.filter (fun p => !skip p.1)
  { s with loupe := { s.loupe with
    snap := fresh.foldl (fun (m : SMap Nat) p => SMap.put 0 m p.1 p.2) kept, snapAt := s.time,
    status := if s.loupe.armed.isSome then s.loupe.status else .ok } }

/-- Sequencers whose `snap` waits learn a status. -/
def State.tellSnap (s : State) (st : Status) : State :=
  let who := s.loupe.snapWait
  ({ s with loupe := { s.loupe with snapWait := [] } }).tellLinks
    (fun q w => if who.contains q ∧ w = WaitFor.snap then some st else none)

/-- The armed snapshot is taken (R395, R397). -/
def State.fireSnap (s : State) : State :=
  (({ s with loupe := { s.loupe with armed := none } }).takeSnap).tellSnap .ok

/-- Arm a snapshot (R397); an instant already past takes effect at once (R268). `q` is the sequencer of a `snap`. -/
def State.armSnap (s : State) (t : Nat) (q : Option Nat) : State :=
  let s := if s.loupe.armed.isSome then s.tellSnap .aborted else s
  let s := { s with loupe := { s.loupe with armed := some t, status := .busy, snapWait := q.toList } }
  if t ≤ s.time then s.fireSnap else s

/-- The instant in LP_SNAP_S and LP_SNAP_F, and in LP_FRZ_S and LP_FRZ_F. -/
def State.snapInstant (s : State) : Nat := s.fld F.LP_SNAP_S_SECONDS * 2 ^ 40 + s.fld F.LP_SNAP_F_FRACTION
def State.freezeInstant (s : State) : Nat := s.fld F.LP_FRZ_S_SECONDS * 2 ^ 40 + s.fld F.LP_FRZ_F_FRACTION

/-- Freeze every counter (R396). -/
def State.freezeNow (s : State) : State := { s with loupe := { s.loupe with frozen := true, freezeArmed := none } }

/-- LP_SNAP_ARM (R397, R398). -/
def rowLpSnapArm (p : Path) (s : State) : Res :=
  if p.trusted then ends p (.ok, s.armSnap s.snapInstant none) else ends p (.privilege, s)

/-- LP_SNAP_NOW (R395, R398). -/
def rowLpSnapNow (p : Path) (s : State) : Res :=
  if p.trusted then ends p (.ok, s.takeSnap) else ends p (.privilege, s)

/-- SNAPSHOT_INSTANT (R395, R397): a freeze armed for an earlier instant takes effect before it (R396). -/
def execSnapshotInstant (s : State) : Res :=
  match s.loupe.armed with
  | some t =>
    let s := match s.loupe.freezeArmed with | some f => if f < t then (s.reach f).freezeNow else s | none => s
    .next (s.reach t).fireSnap
  | none => .next s

/-- Arm a freeze (R396, R397). -/
def State.armFreeze (s : State) : State :=
  if s.freezeInstant ≤ s.time then s.freezeNow
  else { s with loupe := { s.loupe with freezeArmed := some s.freezeInstant } }

/-- Thaw, or drop an armed freeze (R396, Table 17.5). -/
def State.thaw (s : State) : State := { s with loupe := { s.loupe with frozen := false, freezeArmed := none } }

/-- LP_FREEZE_ARM (R396, R398). -/
def rowLpFreezeArm (p : Path) (s : State) : Res :=
  if p.trusted then ends p (.ok, s.armFreeze) else ends p (.privilege, s)

/-- LP_FREEZE_NOW (R396, R398). -/
def rowLpFreezeNow (p : Path) (s : State) : Res :=
  if p.trusted then ends p (.ok, s.freezeNow) else ends p (.privilege, s)

/-- LP_THAW (R396, R398). -/
def rowLpThaw (p : Path) (s : State) : Res :=
  if p.trusted then ends p (.ok, s.thaw) else ends p (.privilege, s)

/-- FREEZE_INSTANT (R396): a snapshot armed for the same or an earlier instant is taken first (Table 17.2). -/
def execFreezeInstant (s : State) : Res :=
  match s.loupe.freezeArmed with
  | some t =>
    let s := match s.loupe.armed with | some a => if a ≤ t then (s.reach a).fireSnap else s | none => s
    .next (s.reach t).freezeNow
  | none => .next s

/-- Zero every counter of a bank (R406). -/
def State.clearBank (s : State) (b : Nat) : State :=
  { s with loupe := { s.loupe with ctr := s.loupe.ctr.filter (fun p =>
    match bankOfCounter p.1 with | some (_, n) => n != b | none => true) } }

/-- LP_CLEAR (R398, R406). -/
def rowLpClear (p : Path) (bank : Nat) (s : State) : Res :=
  if p.trusted then ends p (.ok, s.clearBank bank) else ends p (.privilege, s)

/-- Select the event of counter i (R394): an absent code counts as the reset value, and the counter becomes zero. -/
def State.setEvsel (s : State) (i v : Nat) : State :=
  let code := v % 64
  let n := match bankOfCounter i with | some (b, _) => b.events | none => 0
  let code := if code < n then code else evselReset i % 64
  let x := code + (if bitAt v 6 then 64 else 0)
  { s with loupe := { s.loupe with
    ctr := SMap.put 0 s.loupe.ctr i 0,
    sel := if x = evselReset i then SMap.del s.loupe.sel i else SMap.ins s.loupe.sel i x } }

/-- LP_EVSEL_WRITE (R394, R398). -/
def rowLpEvselWrite (p : Path) (i v : Nat) (s : State) : Res :=
  if i < 1024 then (if p.trusted then ends p (.ok, s.setEvsel i v) else ends p (.privilege, s))
  else .fault (.noSuchUnit 0x06 i)

end Sys2Proof.Machine
end

