-- ==== Sys2Proof/Machine/KeyCmds.lean ====
section
/-! DEFINITION. Key Store commands and key events (chapter 14): KS_CMD (R338, R341, R342, R345, R355), timed swaps, grace,
limits (R334), what an erased slot ends (R92, R345). -/

namespace Sys2Proof.Machine

/-! ## Erasing -/

/-- Does a waiting link use slot n: a SEAL word, a load or a timed swap (R92, R345)? -/
def usesSlot (n : Nat) (w : WaitFor) : Bool :=
  match w with
  | .op _ (some k) => k.1 == n
  | .get _ _ _ (some k) => k == n
  | .copy j => j.mode != 0 && j.slot == n
  | .kload k => k == n
  | .kswap k => k == n
  | _ => false

/-- Zeroize a slot with everything that follows (R345): links, commands and QPs that used it. -/
def State.eraseKeys (s : State) (n : Nat) : State :=
  ((s.eraseSlot n).tellLinks (fun _ w => if usesSlot n w then some .keyErased else none)).ksEnds n .keyErased

/-- Every slot that holds a copy is zeroized (R39, R349, R353). -/
def State.eraseAll (s : State) : State := (s.keys.slots.map (fun p => p.1)).foldl State.eraseKeys s

/-- Envelopes of some slots that wait to be written to the keepsake are not written any more; a copy that is being programmed is
deleted when its program ends. -/
def State.unsave (s : State) (slots : Nat → Bool) : State :=
  { s with kf := { s.kf with
    waiting := s.kf.waiting.filter (fun x => match x with | .envelope e _ => !slots e.slot | _ => true),
    banks := s.kf.banks.map (fun p => (p.1, match p.2 with
      | .envelope e c => if slots e.slot then .identity 1 else .envelope e c
      | x => x)) } }

/-- Delete the envelopes of a slot from the keepsake (R345). -/
def State.deleteEnvs (s : State) (n : Nat) : State :=
  { s with keys := { s.keys with envs := SMap.del (SMap.del s.keys.envs (2 * n)) (2 * n + 1) } }.unsave (fun k => k == n)

/-! ## KS_CMD -/

/-- The slot of the last command (KS_RES.SLOT). -/
def State.ksSlot (s : State) (n : Nat) : State := s.setFld F.KS_RES_SLOT 0 n

/-- The envelope in KS_ENV0 to KS_ENV15. -/
def State.ksEnv (s : State) : List Byte := (List.range 16).flatMap (fun i => leBytes 8 (s.fld F.KS_ENV 0 i))

/-- LOAD (R340, R341): BUSY while the staged position is retiring, or while the envelope goes to the keepsake. -/
def State.ksLoad (s : State) (n : Nat) (tagOk : Bool) : Status × State :=
  let s := s.ksSlot n
  match s.loadCheck n s.ksEnv tagOk with
  | .error st => (st, s.loadFailed n s.ksEnv tagOk st)
  | .ok e =>
    let r := s.envOpened.load e none
    if r.1 then (.ok, r.2) else (.busy, { r.2 with keys := { r.2.keys with busy := some n } })

/-- The controller leaves the held state once LC_ALARM reads zero and the vault slot is loaded (R348). -/
def State.judgeHeld (s : State) : State :=
  if s.life.held ∧ s.life.latched = 0 ∧ (s.slot s.vaultSlot).active.isSome then
    { s with life := { s.life with held := false } }.judgeDiag
  else s

/-- SWAP (R342). -/
def State.ksSwap (s : State) (n : Nat) : Status × State :=
  let r := (s.ksSlot n).swap n
  (if r.1 then .ok else .alreadyDone, r.2.kick.judgeHeld)

/-- QUERY (R355). -/
def State.ksQuery (s : State) (n : Nat) : Status × State :=
  let k := s.slot n
  let staged : Nat × Nat := match k.staged with | .empty => (0, 0) | .loaded c => (1, c.ver) | .retiring c => (2, c.ver)
  let a : KeyCopy := k.active.getD ⟨0, 0, 0⟩
  (.ok, [(F.KS_SLOT_MODE, if k.isEmpty then 0 else k.mode), (F.KS_SLOT_STAGED, staged.1),
    (F.KS_SLOT_ACTIVE, boolNat k.active.isSome), (F.KS_SLOT_NEAR, boolNat k.near), (F.KS_SLOT_SPENT, boolNat k.spent),
    (F.KS_SLOT_PERSIST, boolNat k.persist), (F.KS_SLOT_SWAP_ARMED, boolNat k.swapAt.isSome),
    (F.KS_SLOT_ACTIVE_VER, a.ver), (F.KS_SLOT_VER_STAGED_VER, staged.2), (F.KS_SLOT_USE_USES, a.uses),
    (F.KS_SLOT_LIM_LIMIT, a.limit)].foldl (fun (t : State) x => t.setFld x.1 0 x.2) (s.ksSlot n))

/-- May a path give KS_CMD (R355)? PURGE only the management port. -/
def ksMay (p : Path) (purge : Bool) : Bool := if purge then p == .mgmt else p.trusted

/-- A Key Store command on a slot, its status in KS_RES. -/
def ksRow (p : Path) (purge : Bool) (n : Nat) (s : State) (k : State → Status × State) : Res :=
  if 65536 ≤ n then .fault (.noSuchUnit 0x91 n)
  else (if ksMay p purge then ends p (.ok, resultIn F.KS_RES_STATUS (k s)) else ends p (.privilege, s))

/-- KS_LOAD (R340, R341). -/
def rowKsLoad (p : Path) (slot : Nat) (tagOk : Bool) (s : State) : Res := ksRow p false slot s (fun s => s.ksLoad slot tagOk)

/-- KS_SWAP (R342). -/
def rowKsSwap (p : Path) (slot : Nat) (s : State) : Res := ksRow p false slot s (fun s => s.ksSwap slot)

/-- KS_ERASE (R345). -/
def rowKsErase (p : Path) (slot : Nat) (s : State) : Res :=
  ksRow p false slot s (fun s => (.ok, (s.ksSlot slot).eraseKeys slot))

/-- KS_QUERY (R355). -/
def rowKsQuery (p : Path) (slot : Nat) (s : State) : Res := ksRow p false slot s (fun s => s.ksQuery slot)

/-- RELOAD (R338, R443). -/
def State.ksReload (s : State) : Status × State := (.ok, s.reloadAll.kick.judgeHeld)

/-- KS_RELOAD (R338, R355). -/
def rowKsReload (p : Path) (s : State) : Res := ksRow p false 0 s State.ksReload

/-- KS_PURGE (R345, R355). -/
def rowKsPurge (p : Path) (slot : Nat) (s : State) : Res :=
  ksRow p true slot s (fun s => (.ok, ((s.ksSlot slot).eraseKeys slot).deleteEnvs slot))

/-! ## Key events -/

/-- TIMED_KSWAP (R342, Table 14.5): the armed swap takes effect. -/
def execTimedKswap (slot : Nat) (s : State) : Res :=
  match (s.slot slot).swapAt with
  | none => .next s
  | some (t, q) =>
    let s := s.reach t
    let r := (s.setSlot slot { s.slot slot with swapAt := none }).swap slot
    .next (r.2.kick.tellLinks (fun n w =>
      if q = some n ∧ w = WaitFor.kswap slot then some (if r.1 then .ok else .alreadyDone) else none))

/-- Has a link in progress captured version v of slot n (R343)? -/
def holdsCopy (n v : Nat) (w : WaitFor) : Bool :=
  match w with
  | .op _ (some k) => k == (n, v)
  | .copy j => j.mode != 0 && j.slot == n && j.ver == some v
  | _ => false

/-- Has some operation captured version `v` of slot n and not ended (R342, R343)? For the vault slot: is there a closed
strand sealed under it (R344)? -/
def State.captured (s : State) (n v : Nat) : Bool :=
  if n = s.vaultSlot then s.vault.strands.any (fun p => p.2.keyVer % 65536 == v % 65536)
  else
    s.tr.qps.any (fun p => p.2.keySlot == n && p.2.kind != 3 &&
      (p.2.rx.any (fun (m : RxMsg) => m.ver == v) || p.2.sent.any (fun (x : SentPkt) => x.ver == v))) ||
    s.kex.seqs.any (fun p => p.2.wait.any (fun w => holdsCopy n v w.what) || p.2.asyncs.any (fun a => holdsCopy n v a.what))

/-- A load that waited for the staged position is made (R341); with it every load that waited there before and that it has
replaced. -/
def State.unpark (s : State) (n : Nat) : State :=
  match (s.slot n).parked with
  | none => s
  | some (e, _) =>
    let s := (s.setSlot n { s.slot n with parked := none }).stage e
    if s.keeps e then s
    else (s.ksEnds n .ok).tellLinks (fun _ w => if w = WaitFor.kload n then some .ok else none)

/-- GRACE_ZEROIZE (R342, R344): the retiring copy goes once its grace and every operation that captured it have ended. -/
def execGraceZeroize (slot : Nat) (s : State) : Res :=
  let k := s.slot slot
  match k.staged with
  | .retiring c =>
    if s.captured slot c.ver then .next s
    else
      let s := (match k.graceEnd with | some t => (if slot = s.vaultSlot then s else s.reachLocal t) | none => s)
      let s := s.setSlot slot { k with staged := .empty, graceEnd := none }
      let s := if slot = s.vaultSlot then
          { s with keys := { s.keys with envs := SMap.del s.keys.envs (2 * slot + 1) } } else s
      .next (s.unpark slot)
  | _ => .next s

/-- KEY_NEAR_LIMIT (R334): USES has reached 7/8 of LIMIT. -/
def execKeyNearLimit (slot : Nat) (s : State) : Res :=
  let k := s.slot slot
  match k.active with
  | some c =>
    if 7 * c.limit ≤ 8 * c.uses ∧ ¬ k.near then
      .next ((s.setSlot slot { k with near := true }).raise 0x91 0 (if slot = s.vaultSlot then 2 else 0) 0x01 slot c.ver)
    else .next s
  | none => .next s

/-- SLOT_SPENT (R334, Table 14.2): for the vault slot in P0 a Critical fault in the Vault Engine. -/
def execSlotSpent (slot : Nat) (s : State) : Res :=
  let k := s.slot slot
  if k.spent ∧ ¬ k.told then
    let s := s.setSlot slot { k with told := true }
    .next (if slot = s.vaultSlot ∧ s.pow.state = .p0 then s.raise 0x60 0 3 0x09 else s)
  else .next s

end Sys2Proof.Machine
end

