-- ==== Sys2Proof/Machine/Resets.lean ====
section
/-! DEFINITION. What a reset clears and what survives it (R408 to R410, Table 18.2), the loss of the DRAM (R199, R296),
and the early warning (R37, R38, R362, Table 1.3). -/

namespace Sys2Proof.Machine

/-! ## Registers over a reset -/

/-- The field whose value lies at a key of `State.regs`, if there is one. -/
def fieldAt (k : Nat) : Option Fld :=
  (classFields (k / 2 ^ 46)).find? (fun f =>
    let off := k / 64 % 2 ^ 24 * 8
    decide (f.off ≤ off ∧ off < f.off + 8 * f.n) && f.lo == k % 64)

/-- Does a register value survive a reset (Table 18.2)? What the keepsake holds always does. A warm reset also keeps the
RWL fields (those of Table 3.8 only in a ring whose LOCK is set: log entry 56), a watchdog time that its lock fixes, the fault counters, the state of the
memory channels, and the registers of the units that lie in the always-on island: the Power Supervisor and the
Meridian Unit. -/
def State.survives (s : State) (warm : Bool) (k : Nat) : Bool :=
  let cls := k / 2 ^ 46
  match fieldAt k with
  | none => false
  | some f =>
    f.kind == .flash || (warm && (
      (f.acc == .rwl && (cls != 0x71 || f.cls == 0 || s.flag F.RING_CFG_LOCK (k / 2 ^ 30 % 65536))) || (f.lock == .wdt && s.flag F.BT_WDT_LOCK) ||
      (f.cls == 0 && f.off == F.BLK_FSTAT_RAISED.off && (f.lo == F.BLK_FSTAT_RAISED.lo || f.lo == F.BLK_FSTAT_RECOVERIES.lo)) ||
      ((cls == 3 || cls == 7) && f.cls != 0) || (cls == 0x50 && f.off == F.MC_STAT_STATE.off)))

/-! ## What a reset leaves -/

/-- The vault after a reset: what lies on the drives; with the DRAM also the map, the dirty table and the cut journal.
Strands that were not closed are lost and their granules are read again. -/
def Vault.afterReset (v : Vault) (dram : Bool) : Vault :=
  let strands := (v.strands.filter (fun (p : Nat × Strand) => p.2.state == 2)).map (fun p => (p.1, { p.2 with into := none }))
  if dram then
    { v with
      strands := strands,
      dirty := v.dirty.map (fun (p : Nat × Dirty) => (p.1, { p.2 with untwinned := 0, since := true, strand := none })),
      measuring := false, zeroed := false, draining := false, dormant := false, fixed := [], bgNext := 0, rescue := [],
      atWarn := none, linksUp := false }
  else { State.reset.vault with
    strands := strands, nextSeq := v.nextSeq, drives := v.drives, vaultId := v.vaultId, slots := v.slots }

/-- The twin unit after a reset: the sense, and TERM, which the island keeps; the region bitmap with the DRAM (R296). -/
def Twin.afterReset (t : Twin) (dram : Bool) (term : Nat) : Twin :=
  { State.reset.twin with
    sense := t.sense, releasedSince := t.releasedSince, term := term, everHeld := t.everHeld, joinKind := t.joinKind,
    regions := if dram then t.regions else [], allFrom := if dram then t.allFrom else 0 }

/-- Lifecycle after a reset (R348, R351, R352): debug level D0, a new nonce; the alarms are kept over a warm reset and
latched again from the conditions still present after a cold one. -/
def Lifecycle.afterReset (l : Lifecycle) (warm : Bool) (n : Nat) : Lifecycle :=
  let latched := if warm then l.latched else l.present
  { l with
    level := 0, nonce := Config.nonce n % 2 ^ 64, buf := [], halted := [], steps := [], stopped := false,
    latched := latched, held := if warm then l.held else decide (latched ≠ 0) }

/-- The pipeline after a reset: the DRAM where it is held, the highest stamped epoch and the sealed epoch. -/
def Pipe.afterReset (p : Pipe) (dram : Bool) : Pipe :=
  if dram then { State.reset.pipe with pm := p.pm, chk := p.chk, highStamp := p.highStamp, sealedE := p.sealedE }
  else State.reset.pipe

/-- Every block outside the always-on island is reset (R408 step 5, R410): `warm` for a warm reset, which keeps what the
channels hold; otherwise the DRAM is lost. `time` tells whether the Meridian count is kept (R253). -/
def State.blocksReset (s : State) (warm time : Bool) : State :=
  let s := { s with ev := { s.ev.close with curM := 0, curFw := 0, curF := 0, dropped := 0 } }
  let n := s.draw
  let s := n.2
  { State.reset with
    regs := s.regs.filter (fun p => s.survives warm p.1),
    time := if time then s.time else 0,
    mono := s.mono, ev := s.ev, free := s.free, out := s.out, pending := s.pending,
    kf := { s.kf with sequence := none, active := none },
    core := { s.core with imageLock := warm && s.core.imageLock, wdtEnd := none, inReset := true, halted := false,
                          cfgOff := [], image := [], rewriteEnd := none },
    loupe := { State.reset.loupe with
      status := if s.loupe.armed.isSome then .aborted else State.reset.loupe.status },
    keys := { s.keys with slots := [], busy := none },
    life := s.life.afterReset warm n.1,
    pow := s.pow,
    pipe := s.pipe.afterReset warm,
    chan := { State.reset.chan with held := warm && s.chan.held, trained := warm && s.chan.trained,
                                    timing := if warm then s.chan.timing else [] },
    bezel := { State.reset.bezel with pages := s.bezel.pages, bankList := s.bezel.bankList,
                                      retiring := if warm then s.bezel.retiring.map (fun (r : Retire) => { r with by_ := some 32 }) else [],
                                      moved := if warm then s.bezel.moved else 0 },
    vault := s.vault.afterReset warm,
    twin := s.twin.afterReset warm s.kf.journal.term,
    mer := if time then { s.mer with latched := [], ppsHigh := none, epochHold := none }
      else { State.reset.mer with lastK := s.mer.lastK },
    kex := { State.reset.kex with lib := if warm then s.kex.lib.map (fun (p : Nat × LibSlot) => (p.1, { p.2 with recheck := true })) else [],
                                  nextChain := s.kex.nextChain } }.kick

/-- The content of the DRAM is lost (R199, R296): RETAINED clears on every channel, the bitmap is set entirely. -/
def State.loseDram (s : State) : State :=
  let s := (List.range 16).foldl (fun (t : State) c => (t.setFld F.MC_STAT_RETAINED c 0).setFld F.MC_STAT_STATE c 0) s
  { s with
    pipe := { s.pipe with pm := [], chk := [], sb := [], stores := [], locket := State.reset.pipe.locket },
    chan := { s.chan with held := false, trained := false, banks := [], wq := [], draining := [] },
    vault := s.vault.afterReset false,
    twin := { s.twin with regions := [], allFrom := 0 },
    bezel := { s.bezel with moved := 0, retiring := [] } }

/-- The channels leave self-refresh and train (R199). -/
def State.unholdChannels (s : State) : State :=
  let s := { s with chan := { s.chan with held := false } }
  (List.range 16).foldl (fun (t : State) c =>
    if t.fld F.MC_STAT_STATE c = 3 then t.setFld F.MC_STAT_STATE c 1 else t) s

/-- The channels enter the hold of R198: the write queues empty, each subchannel of a channel that serves issues all-bank refresh
and self-refresh entry, and the island holds it with its content. -/
def State.holdChannels (s : State) : State :=
  let s := s.emptyQueues
  let s := { s with chan := { s.chan with held := true, banks := [] } }
  (List.range 16).foldl (fun (t : State) c =>
    if t.fld F.MC_STAT_STATE c = 2 then
      let t := (t.setFld F.MC_STAT_STATE c 3).setFld F.MC_STAT_RETAINED c 1
      let t := (((t.emit (.refreshAll c 0)).emit (.selfRefresh c 0)).emit (.refreshAll c 1)).emit (.selfRefresh c 1)
      t.count 0x50 c 4 2
    else t) s

/-- Admission to the window check stops, as on a self-diagnosis failure (R293): a member that holds the clasp releases
it, and every admitted write is Placed. -/
def State.stopService (s : State) : State :=
  let s := { s with pipe := { s.pipe with taking := false } }
  if s.twin.holding then s.release else s.placeAll.serve

/-! ## Warm reset (R408) -/

/-- A warm reset: 1 pin, 2 watchdog, 3 command. -/
def State.warmReset (s : State) (kind : Nat) : State :=
  let led := s.twin.leader
  let acked := s.twin.endAcked
  let s := { s with pipe := { s.pipe with taking := false } }
  let s := if kind = 3 then (if s.twin.holding then s.release else s)
    else if s.twin.holding then s.dropClasp else s
  let s := if led then s.setOutcome (if acked then 1 else 2) else if s.twin.followed then s.setOutcome 3 else s
  let s := s.lanesDark.ppsoLow.placeAll
  let n := s.fld F.BT_STAT_WARM
  let s := { s with core := { s.core with holdDone := !s.anyServing } }
  let s := { s with chan := { s.chan with held := s.chan.held || s.anyServing } }
  let s := s.blocksReset true true
  let s := (s.setFld F.BT_STAT_LAST_RESET 0 kind).setFld F.BT_STAT_WARM 0 (n + 1)
  s.note 0x02 0 3 kind

/-! ## Debug ceilings -/

/-- The highest debug level by lifecycle and power state (Table 14.9); `none` in P4. -/
def debugCeiling (l : Life) (p : PState) : Option Nat :=
  match p, l with
  | .p4, _ => none
  | _, .scrapped => some 0
  | .p2, _ | .p3, _ => some 1
  | _, .deployed => some 2
  | _, _ => some 3

/-- Set the debug level (R352, R353): below D2 every halted core runs again. -/
def State.setLevel (s : State) (n : Nat) : State :=
  if n = s.life.level then s
  else
    let s := { s with
      life := { s.life with
        level := n, halted := (if n < 2 then [] else s.life.halted), steps := (if n < 2 then [] else s.life.steps) },
      core := { s.core with halted := s.core.halted && decide (2 ≤ n) } }
    (s.note 0x08 0 8 n).judgeDiag

/-- A change of lifecycle or power state that lowers the ceiling lowers the level with it (R352). -/
def State.clampLevel (s : State) : State :=
  s.setLevel (min s.life.level ((debugCeiling s.life.state s.pow.state).getD 0))

/-! ## The early warning -/

/-- The first failing rail and what its record will say (R366, Table 15.3), fixed at detection. -/
def State.powerRecord (s : State) (kind rail dir : Nat) : PRec × State :=
  let r := (SMap.look s.pow.rails rail).getD ⟨.off, 0, 0, 0, 0, 0, []⟩
  let snap := decide (4 ≤ kind ∧ kind ≠ 8) && [3, 8, 9, 11].contains rail
  let lack := 32 - r.ring.length
  let old := (List.range lack).map (fun i => (Config.freeWord (s.free + i)).toNat % 65536)
  let st := match s.pow.state with | .p0 => 0 | .p1 => 1 | .p2 => 2 | .p3 => 3 | .p4 => 4
  (⟨kind, rail, dir, st, snap, if s.mer.locked then s.secs else 0, if s.mer.locked then s.frac else 0,
    if snap then (List.range 12).map (fun i => match SMap.look s.pow.rails i with | some x => x.mv | none => 0) else [],
    if snap then old ++ r.ring.drop (r.ring.length - 32) else [],
    if snap then r.amps else 0, if snap then r.temp else 0, if snap then r.sw else 0⟩,
   if snap then { s with free := s.free + lack } else s)

/-- The bytes of a power record (Table 15.3). -/
def State.recordOf (s : State) (r : PRec) : List Byte :=
  let w := 0x50575231 + r.kind % 16 * 2 ^ 32 + r.rail % 16 * 2 ^ 36 + r.dir % 2 * 2 ^ 40 + r.pstate % 8 * 2 ^ 41 +
    boolNat r.snapshot * 2 ^ 44 + boolNat s.pow.drainDone * 2 ^ 45
  let pad (n : Nat) (l : List Nat) : List Byte := (List.range n).flatMap (fun i => leBytes 2 (l.getD i 0))
  let b := leBytes 8 w ++ leBytes 8 r.timeS ++ leBytes 8 r.timeF ++ leBytes 8 (s.kf.journal.cycles % 2 ^ 32) ++
    leBytes 8 (s.opSecs % 2 ^ 40) ++ pad 12 r.mvs ++ pad 32 r.samples ++
    leBytes 8 (r.amps % 65536 + r.temp % 256 * 2 ^ 16 + r.sw % 65536 * 2 ^ 24) ++ List.replicate 116 0
  b ++ leBytes 4 (crc32c b)

/-- Program a power record into the block that runs no erase and has a free slot; a block that is full is erased while the
other has room (R367). -/
def State.writeRecord (s : State) (r : PRec) : State :=
  let use0 := decide (s.pow.w0 < 256) && !s.kf.erasing 0
  let b := s.recordOf r
  let s := s.flashWait (.program (if use0 then 4 * 65536 + 256 * s.pow.w0 else 1028 * 65536 + 256 * s.pow.w1) b .supervisor)
  let s : State := { s with pow := { s.pow with
    w0 := if use0 then s.pow.w0 + 1 else s.pow.w0, w1 := if use0 then s.pow.w1 else s.pow.w1 + 1 } }
  let s := if s.pow.w0 = 256 ∧ s.pow.w1 < 256 then s.requestErase 4 .supervisor
    else if s.pow.w1 = 256 ∧ s.pow.w0 < 256 then s.requestErase 1028 .supervisor else s
  s.kick

/-- The locket cache is invalid after the flush of the early warning (R176). -/
def State.lkInvalidate (s : State) : State :=
  { s with pipe := { s.pipe with locket := { s.pipe.locket with
    lines := s.pipe.locket.lines.filter (fun p => p.2.unclean),
    victims := s.pipe.locket.victims.filter LkLine.unclean } } }

/-- A packet that is discarded undelivered counts as delivered for R128 and is not marked received any more: ACK_PSN cannot pass it
(R135). -/
def Qp.unmark (q : Qp) (psn : Nat) : Qp :=
  let back := (q.rcvNxt + 2 ^ 32 - psn % 2 ^ 32) % 2 ^ 32
  let q := { q with lost := if q.lost.contains psn then q.lost else psn :: q.lost }
  if 0 < back ∧ back ≤ 4096 then
    { q with rcvNxt := psn, rcvd := (List.range (back - 1)).map (fun i => (psn + 1 + i) % 2 ^ 32) ++ q.rcvd }
  else { q with rcvd := q.rcvd.erase psn }

/-- Requests other than reads that have not reached the window check are discarded at the warning (R135). -/
def State.warnDiscards (s : State) : State :=
  let goes (k : Pkt) : Bool := k.typ == 0x02
  let s := s.wins.waiting.foldl (fun (t : State) w =>
    match w.2 with
    | .nrt k => if goes k then t else t.modQp (k.dqp % 2 ^ 20) (fun q => q.unmark k.psn)
    | _ => t) s
  let s := { s with wins := { s.wins with waiting := s.wins.waiting.filter (fun w =>
    match w.2 with | .nrt k => goes k | _ => true) } }
  s.tr.qps.foldl (fun (t : State) p => t.modQp p.1 (fun q =>
    { (q.orderq.filter (fun k => !goes k)).foldl (fun (q : Qp) k => q.unmark k.psn) q with
      orderq := q.orderq.filter goes })) s

/-- Latch the early warning (R37, R38, R362, Table 1.3): the cut is made, sequencers and Facet dispatches stop, a command
of the supervisor ends with ABORTED, and the Facet and HBM rails go off. The channels leave a hold, for the drain
(R246). Self-diagnosis fails with it: SELF_DIAG_FAIL releases the clasp. -/
def State.latchWarn (s : State) (k : PRec) : State :=
  if s.pow.warn then s
  else
    let fromHold := s.pow.state = .p1 ∨ s.core.inReset
    let s := { s with pow := { s.pow with
      warn := true, warnAt := some s.mono, rcd := some k, drainDone := false,
      sq := if s.pow.sq = PSeq.checkpoint then .idle else s.pow.sq,
      state := match s.pow.state with | .p0 | .p1 => .p2 | x => x,
      graceEnd := if s.life.held ∨ k.kind = 4 then some (s.mono + ms (s.fld F.PS_TIMING_GRACE)) else s.pow.graceEnd } }
    let s := match s.pow.cmd with
      | some _ => { s with pow := { s.pow with cmd := none, todo := [], plan := .none, sq := .idle } }.setFld
          F.PS_RES_STATUS 0 Status.aborted.code
      | none => s
    let s := { s with
      twin := { s.twin with ledAtWarn := s.twin.leader },
      kex := { s.kex with seqs := s.kex.seqs.map (fun (p : Nat × Seq) => (p.1, { p.2 with stopped := true })) },
      pipe := { s.pipe with forced := true },
      vault := { s.vault with dormant := false, atWarn := some (s.pipe.sealedE, s.fld F.MER_GCUT_CUT) } }
    let s := (s.tiersStop.kfWarned.warnOutcome.endHeals).closeEvent.warnDiscards
    let s := if fromHold then s.unholdChannels.reloadSlot s.vaultSlot else s
    (s.clampLevel.placeAll.lkInvalidate.judgeDiag).serve

/-- Does a drain follow the warning (R246, Table 15.2, Table 18.7)? -/
def State.drains (s : State) : Bool :=
  s.anyRetained || s.fld F.BT_STAT_STATE == 7 || s.vault.draining || (s.core.inReset && s.anyServing)

end Sys2Proof.Machine
end

