-- ==== Sys2Proof/Machine/Power.lean ====
section
/-! DEFINITION. The Power Supervisor (chapter 15): rails and their sequences (R356 to R361), requests during a sequence
(R362, R363), rail faults and power records (R364 to R367), power states and PS_CMD (R369, R370), rail limits (R371),
the die's thermal throttle (R438). -/

namespace Sys2Proof.Machine

/-! ## Rails -/

def offRail : Rail := ⟨.off, 0, 0, 0, 0, 0, []⟩

def State.rail (s : State) (n : Nat) : Rail := SMap.get offRail s.pow.rails n

def State.setRail (s : State) (n : Nat) (r : Rail) : State :=
  { s with pow := { s.pow with rails := SMap.put offRail s.pow.rails n r } }

/-- A sensed voltage goes into the ring of the last 32 samples (R356). -/
def Rail.sense (r : Rail) (mv : Nat) : Rail :=
  { r with mv := mv, ring := (r.ring ++ [mv]).drop (r.ring.length + 1 - 32) }

/-- A command that names a rail of Table 15.1. -/
def onRail (n : Nat) (k : Res) : Res := if n < 12 then k else .fault (.noSuchUnit 0x03 n)

/-- REG_EN[n] is asserted and the rail rises (R358). -/
def State.raiseRail (s : State) (n : Nat) : State :=
  ({ s with pow := { s.pow with stepAt := s.mono } }.setRail n { s.rail n with st := .rising }).emit (.regEn n true)

/-- REG_EN[n] is deasserted and the rail falls (R360). -/
def State.dropRail (s : State) (n : Nat) : State :=
  ({ s with pow := { s.pow with stepAt := s.mono } }.setRail n { s.rail n with st := .falling }).emit (.regEn n false)

/-- The rails that are on or moving, in power-down order. -/
def State.railsOn (s : State) : List Nat := ((List.range 12).reverse).filter (fun n => n != 0 && (s.rail n).st != .off)

/-- Start a sequence over rails: its first rail rises or falls. -/
def State.startSeq (s : State) (sq : PSeq) (plan : PPlan) (todo : List Nat) : State :=
  let s := { s with pow := { s.pow with sq := sq, plan := plan, todo := todo } }
  match todo with
  | n :: _ => if sq = .up then s.raiseRail n else s.dropRail n
  | [] => s

/-- Power-down to P4 starts (R360): the record of the event is written, then rails fall in descending order. -/
def State.startDown (s : State) : State :=
  let s := match s.pow.rcd with
    | some r => { s.writeRecord r with pow := { (s.writeRecord r).pow with rcd := none } }
    | none => s
  let s := { s with pow := { s.pow with graceEnd := none }, core := { s.core with inReset := true } }
  s.startSeq .down .off s.railsOn

/-- Power-down to P4 runs. -/
def State.goingOff (s : State) : Bool := s.pow.sq == .down && s.pow.plan == .off

/-- A warning and what follows it: the drain, or power-down at once where nothing is held (Table 15.2, R250). -/
def State.warn (s : State) (kind rail dir : Nat) : State :=
  if s.pow.warn then s
  else
    let r := s.powerRecord kind rail dir
    let drain := s.drains && !(s.pow.state == .p3 || s.pow.state == .p4)
    let s := r.2.latchWarn r.1
    if drain then s.startSeq .idle .drainRails (s.railsOn.filter (fun n => [11, 10, 9].contains n)) else s.startDown

/-- What stops working as a rail goes off: engines, HBM, SerDes, DIMMs, core (R199, R254, Table 18.2). -/
def State.railGone (s : State) (n : Nat) : State :=
  match n with
  | 7 => s.lanesDark
  | 8 => s.loseDram
  | 3 =>
    let s := { s.journalize (.opSecs s.opSecs) with pow := { s.pow with coreUp := none } }
    s.blocksReset false true
  | _ => s

/-- The last rail of a power-down is off: P4, the Meridian count is lost, the minimum off time runs (R253, R360,
R361). -/
def State.enterOff (s : State) : State :=
  let s := s.blocksReset false false
  { s with pow := { s.pow with
    state := .p4, sq := .minOff, plan := .none, todo := [], warn := false, warnAt := none, drainDone := false,
    cmd := none, offUntil := some (s.mono + ms (s.fld F.PS_TIMING_MIN_OFF)) } }

/-- A running PS_CMD ends (R370). -/
def State.psDone (s : State) (st : Status) : State :=
  match s.pow.cmd with
  | some _ => { s with pow := { s.pow with cmd := none } }.setFld F.PS_RES_STATUS 0 st.code
  | none => s

/-- A sequence of falling rails has ended. In P3 the management core runs on the island and serves the management port
(Table 15.4), under slot 0 as the keepsake holds it (log entry 104). -/
def State.downDone (s : State) : State :=
  match s.pow.plan with
  | .standby => ({ s with pow := { s.pow with state := .p1, sq := .idle, plan := .none, todo := [] } }).psDone .ok
  | .dormant =>
    let s := { s with
      pow := { s.pow with state := .p3, sq := .idle, plan := .none, todo := [] }, core := { s.core with inReset := false } }
    (s.reloadSlot 0).clampLevel.psDone .ok
  | .drainRails => { s with pow := { s.pow with plan := .none, todo := [] } }
  | _ => s.enterOff

/-- The head rail of a falling sequence is done; the next one is disabled. -/
def State.nextDown (s : State) : State :=
  match s.pow.todo with
  | _ :: n :: rest => { s with pow := { s.pow with todo := n :: rest } }.dropRail n
  | _ => s.downDone

/-- The rails-stable checkpoint (R358, R372): P0, the cycle count, boot may start; a request that fell meanwhile leads
to an orderly power-down at once (Table 15.2). -/
def State.checkpoint (s : State) : State :=
  let s := { s with pow := { s.pow with
    state := .p0, sq := .checkpoint, plan := .none, todo := [], retryUsed := false } }
  let s := (s.journalize (.cycles (s.kf.journal.cycles + 1))).kick
  match s.pow.rcd with
  | some _ => s.startDown
  | none => { s with core := { s.core with inReset := false } }

/-- A sequence of rising rails has ended (R358, R370). -/
def State.upDone (s : State) : State :=
  match s.pow.plan with
  | .wakeStandby =>
    let s := { s with pow := { s.pow with state := .p0, sq := .idle, plan := .none, todo := [] } }
    let s := s.unholdChannels
    if s.core.inReset || s.fld F.BT_STAT_STATE < 4 then s.psDone .ok
    else ((s.setFld F.BT_STAT_STATE 0 6).fabricLight).psDone .ok
  | _ => s.checkpoint.psDone .ok

/-! ## Events on the rails -/

/-- RAIL_STABLE (R358): 100 us in the window with REG_PG high; the next rail is enabled. -/
def execRailStable (n mv : Nat) (s : State) : Res :=
  onRail n <|
    if s.pow.sq = .up ∧ s.pow.todo.head? = some n then
      let s := (s.reachLocal (s.pow.stepAt + us 100)).setRail n { (s.rail n).sense mv with st := .inWindow }
      let s := if n = 3 then { s with pow := { s.pow with coreUp := some s.mono } } else s
      match s.pow.todo with
      | _ :: m :: rest => .next ({ s with pow := { s.pow with todo := m :: rest } }.raiseRail m)
      | _ => .next s.upDone
    else .next s

/-- RAIL_RISE_TIMEOUT (R359): a record of KIND 6, power-down from that rail, one more try; after the second failure in a
row a Fatal fault and no further attempt. -/
def execRailRiseTimeout (n : Nat) (s : State) : Res :=
  onRail n <|
    if s.pow.sq = .up ∧ s.pow.todo.head? = some n then
      let s := s.reachLocal (s.pow.stepAt + ms (s.fld F.PS_TIMING_RISE_TO))
      let r := s.powerRecord 6 n 0
      let s := { r.2 with pow := { r.2.pow with rcd := some r.1 } }.psDone .aborted
      let s := if s.pow.retryUsed then
          { s with pow := { s.pow with retryUsed := false, upAllowed := false } }.raise 0x03 0 4 0x01 n
        else { s with pow := { s.pow with retryUsed := true } }
      .next s.startDown
    else .next s

/-- RAIL_FALLEN (R360): a rail is below its off threshold; the next one is disabled. -/
def execRailFallen (n mv : Nat) (s : State) : Res :=
  onRail n <|
    if s.pow.sq ≠ .up ∧ s.pow.todo.head? = some n then
      .next ((s.setRail n { (s.rail n).sense mv with st := .off }).railGone n).nextDown
    else .next s

/-- RAIL_FALL_TIMEOUT (R360): a record of KIND 7, and the sequence goes on. -/
def execRailFallTimeout (n : Nat) (s : State) : Res :=
  onRail n <|
    if s.pow.sq ≠ .up ∧ s.pow.todo.head? = some n then
      let s := s.reachLocal (s.pow.stepAt + ms (s.fld F.PS_TIMING_FALL_TO))
      let r := s.powerRecord 7 n 1
      .next ((r.2.writeRecord r.1).railGone n).nextDown
    else .next s

/-- MIN_OFF_END (R361). -/
def execMinOffEnd (s : State) : Res :=
  match s.pow.offUntil with
  | some t =>
    let s := s.reachLocal t
    .next { s with pow := { s.pow with sq := .idle, offUntil := none } }
  | none => .next s

/-- POWER_UP_START (R357, R359): that it comes says that VAON has been within its window for 10 ms; where it had left it, what
the keepsake was doing was interrupted (R382). -/
def execPowerUpStart (s : State) : Res :=
  if s.pow.state = .p4 ∧ s.pow.sq = .idle ∧ s.pow.pwrReq ∧ s.pow.pfWarnN ∧ s.pow.upAllowed then
    let s := if (s.rail 0).st = .outOfWindow then s.kfCut else s
    let s := { s with pow := { s.pow with latchOn := false } }.setRail 0 { s.rail 0 with st := .inWindow }
    .next (s.startSeq .up .boot [1, 2, 3, 4, 5, 6, 7, 8, 9, 10, 11])
  else .next s

/-- The DIMM rail drops below its window during the hold: the DRAM content is lost (R199). -/
def State.holdFails (s : State) (n : Nat) (high : Bool) : State := if n = 8 ∧ s.chan.held ∧ ¬ high then s.loseDram else s

/-- RAIL_WINDOW_EXIT (R364, R199): the warning with KIND 4 and the GRACE timer. -/
def execRailWindowExit (n mv : Nat) (high : Bool) (s : State) : Res :=
  onRail n <|
    if (s.rail n).st = .inWindow ∧ n ≠ 0 then
      let r := (s.rail n).sense mv
      let s := (s.setRail n { r with st := .outOfWindow, faults := (r.faults + 1) % 65536 }).holdFails n high
      if s.goingOff then .next s
      else
        let s := { s with pow := { s.pow with
          graceEnd := if s.pow.graceEnd.isSome then s.pow.graceEnd
            else some (s.mono + ms (s.fld F.PS_TIMING_GRACE)) } }
        .next (s.warn 4 n (boolNat high))
    else .next s

/-- Power-down at once, the warning latched and no drain (R365); a record that still waits is written before that of this fault
(R366). -/
def State.hardDown (s : State) (kind rail dir : Nat) : State :=
  let r := s.powerRecord kind rail dir
  let s := r.2
  let s := if s.pow.warn then
      let s := (match s.pow.rcd with | some old => s.writeRecord old | none => s)
      { s with pow := { s.pow with rcd := some r.1 } }
    else s.latchWarn r.1
  s.startDown

/-- RAIL_HARD_LIMIT (R365, R199). -/
def execRailHardLimit (n mv : Nat) (high : Bool) (s : State) : Res :=
  onRail n <|
    if n ≠ 0 ∧ (s.rail n).st ≠ .off ∧ (s.rail n).st ≠ .falling ∧ ¬ s.goingOff then
      .next (((s.setRail n { (s.rail n).sense mv with st := .outOfWindow }).holdFails n high).hardDown 5 n (boolNat high))
    else .next s

/-- VAON_LOST (R365, R368). -/
def execVaonLost (mv : Nat) (high : Bool) (s : State) : Res :=
  let r := (s.rail 0).sense mv
  let s := s.setRail 0 { r with st := .outOfWindow, faults := (r.faults + 1) % 65536 }
  if s.goingOff ∨ (s.pow.state = .p4 ∧ s.pow.sq ≠ .up) then .next s
  else .next (s.hardDown 8 0 (boolNat high))

/-- GRACE_EXPIRY (R364, R348): power-down begins and a drain still running is cut short. -/
def execGraceExpiry (s : State) : Res :=
  match s.pow.graceEnd with
  | some t => if s.pow.warn ∧ ¬ s.goingOff then .next (s.reachLocal t).startDown else .next s
  | none => .next s

/-- DRAIN_END (R245, R250): the drain set is in plates: cut plates, strands closed, superblocks, then power-down; a
dormancy entry ends here as well, with STATE 3 and the rails down to 3. -/
def execDrainEnd (s : State) : Res :=
  if s.goingOff ∨ ¬ s.drainReady then .next s
  else if s.vault.draining ∧ s.pow.warn then
    let s := s.finishVault 2
    .next ({ s with
      pow := { s.pow with drainDone := true }, vault := { s.vault with draining := false } }.startDown).serve
  else if s.vault.dormant ∧ s.pipeEmpty then
    let s := s.finishVault 3
    let s := { s with vault := { s.vault with dormant := false } }
    .next ((s.lanesDark.ppsoLow).startSeq .down .dormant (s.railsOn.filter (fun n => decide (3 ≤ n)))).serve
  else .next s

/-- PMBUS_POLL (R356). -/
def execPmbusPoll (n amps temp sw : Nat) (s : State) : Res :=
  onRail n <|
    if n = 0 then .next s
    else .next (s.setRail n { s.rail n with amps := amps % 65536, temp := temp % 256, sw := sw % 65536 })

/-! ## Inputs (R362, R363) -/

/-- PWR_REQ_RISE (Table 15.2, R359). -/
def execPwrReqRise (s : State) : Res :=
  let busy := s.pow.warn || s.goingOff
  let rested := match s.pow.lowSince with | some t => decide (t + ms (s.fld F.PS_TIMING_MIN_OFF) ≤ s.mono) | none => false
  .next { s with pow := { s.pow with
    pwrReq := true, lowSince := none, latchOn := s.pow.latchOn || (busy && !s.pow.pwrReq),
    upAllowed := s.pow.upAllowed || rested } }

/-- An input falls before the checkpoint: power-up goes on to it and an orderly power-down follows (Table 15.2). -/
def State.foretell (s : State) (kind : Nat) : State :=
  if s.pow.rcd.isSome then s
  else let r := s.powerRecord kind 15 0; { r.2 with pow := { r.2.pow with rcd := some r.1 } }

/-- PWR_REQ_FALL (R362, Table 15.2): the warning in P0, P1 and P2; in P3 power-down at once. -/
def execPwrReqFall (s : State) : Res :=
  let s := { s with pow := { s.pow with pwrReq := false, latchOn := false, lowSince := some s.mono } }
  if s.pow.warn ∨ s.goingOff then .next s
  else if s.pow.sq = .up ∧ s.pow.plan ≠ .wakeStandby then .next (s.foretell 1)
  else if s.pow.state = .p4 then .next s
  else if s.pow.state = .p3 then .next (s.foretell 1).startDown
  else .next (s.warn 1 15 0)

/-- PF_WARN_FALL (R362, Table 15.2). -/
def execPfWarnFall (s : State) : Res :=
  let s := { s with pow := { s.pow with pfWarnN := false } }
  if s.pow.warn ∨ s.goingOff then .next s
  else if s.pow.sq = .up ∧ s.pow.plan ≠ .wakeStandby then .next (s.foretell 2)
  else if s.pow.state = .p4 then .next s
  else .next (s.warn 2 15 0)

/-- PF_WARN_RISE (R362, Table 15.2): nothing is withdrawn; the record becomes a brownout return. -/
def execPfWarnRise (s : State) : Res :=
  .next { s with pow := { s.pow with
    pfWarnN := true,
    rcd := if s.pow.warn then s.pow.rcd.map (fun (r : PRec) => if r.kind = 2 then { r with kind := 3 } else r)
      else s.pow.rcd } }

/-! ## PS_CMD (R370) -/

/-- A sequence, a drain or another command is in progress. -/
def State.psBusy (s : State) : Bool :=
  s.pow.sq != .idle || s.pow.plan != .none || s.pow.warn || s.pow.cmd.isSome

/-- A command is refused or starts: its status is in PS_RES. -/
def State.psRes (s : State) (st : Status) : State := s.setFld F.PS_RES_STATUS 0 st.code

/-- The standby path of Table 15.5: admission stops, admitted writes are Placed, the fabric goes dark, and the channels
enter the hold; with no channel serving the hold is complete at once. -/
def State.standbyPath (s : State) : State :=
  let s := s.stopService
  let s := s.lanesDark.ppsoLow.tiersStop
  let s := { s with pow := { s.pow with plan := .standby } }
  if s.anyServing then { s with chan := { s.chan with held := true } }
  else s.startSeq .down .standby (s.railsOn.filter (fun n => [11, 10, 9, 7, 6].contains n))

/-- SELF_REFRESH_HOLD_DONE (R198): the DIMMs are in self-refresh; a warm reset may go on (R409), a standby entry switches
its rails. -/
def execSelfRefreshHoldDone (s : State) : Res :=
  if s.chan.held ∧ s.anyServing ∧ (s.pipeEmpty : Bool) then
    let s := s.holdChannels
    if s.core.inReset then .next { s with core := { s.core with holdDone := true } }
    else if s.pow.plan = .standby ∧ s.pow.sq = .idle then
      .next (s.startSeq .down .standby (s.railsOn.filter (fun n => [11, 10, 9, 7, 6].contains n)))
    else .next s
  else .next s

def State.psStandby (s : State) : State :=
  if s.psBusy ∨ s.pow.state ≠ .p0 then s.psRes .privilege
  else { s with pow := { s.pow with cmd := some 1 } }.psRes .busy |>.standbyPath

/-- DORMANT (R250): new writes are refused and the whole dirty set is vaulted. -/
def State.psDormant (s : State) : State :=
  if s.psBusy ∨ (s.pow.state ≠ .p0 ∧ s.pow.state ≠ .p1) then s.psRes .privilege
  else
    let s := { s with pow := { s.pow with cmd := some 2 } }.psRes .busy
    let s := s.stopService
    let s := if s.pow.state = .p1 then s.unholdChannels else s
    { s with vault := { s.vault with dormant := true } }

def State.psWake (s : State) : State :=
  if s.psBusy ∨ s.life.held then s.psRes .privilege
  else match s.pow.state with
    | .p1 => ({ s with pow := { s.pow with cmd := some 3 } }.psRes .busy).startSeq .up .wakeStandby [6, 7, 9, 10, 11]
    | .p3 => ({ s with pow := { s.pow with cmd := some 3 } }.psRes .busy).startSeq .up .wakeDormant
        [3, 4, 5, 6, 7, 8, 9, 10, 11]
    | _ => s.psRes .privilege

def rowPsStandby (p : Path) (s : State) : Res :=
  if p.trusted then ends p (.ok, s.psStandby) else ends p (.privilege, s)
def rowPsDormant (p : Path) (s : State) : Res :=
  if p.trusted then ends p (.ok, s.psDormant) else ends p (.privilege, s)
def rowPsWake (p : Path) (s : State) : Res :=
  if p.trusted then ends p (.ok, s.psWake) else ends p (.privilege, s)

/-! ## Limits and heat -/

/-- An attempt of firmware against a fence of Table 14.10 (row 1 to 6): a Minor fault in the Lifecycle unit (R354). -/
def State.fenceHit (s : State) (p : Path) (row : Nat) : State :=
  if p = .firmware then s.raise 0x08 0 1 0x06 row else s

/-- Does a voltage lie within the fused limits of a rail (R371)? -/
def State.setMay (s : State) (rail mv : Nat) : Bool :=
  let l := s.life.rails.getD rail ⟨0, 0, 0, 0⟩
  decide (l.setMin ≤ mv ∧ mv ≤ l.setMax)

/-- A PMBus write goes out; what PSX_PMB.STATUS then shows the spec does not say: a free value. -/
def State.pmbGoes (s : State) (cmd : Nat) : State :=
  let n := s.draw
  (n.2.emit (.pmbus (s.fld F.PSX_PMB_ADDR) (s.fld F.PSX_PMB_DATA) cmd)).setFld F.PSX_PMB_STATUS 0
    ((Config.freeWord n.1).toNat % 2 ^ 32)

/-- A PMBus write through PSX_PMB (chapter 15, R60): one that would set a regulator outside the fused limits is refused. -/
def State.pmbWrite (s : State) (p : Path) (cmd : Nat) : Status × State :=
  match Config.pmbSets (s.fld F.PSX_PMB_ADDR) (s.fld F.PSX_PMB_DATA) cmd with
  | some (rail, mv) => if s.setMay rail mv then (.ok, s.pmbGoes cmd) else (.privilege, s.fenceHit p 4)
  | none => (.ok, s.pmbGoes cmd)

/-- A write of PS_RAIL.SET_MV (R371, R372): VDD_CORE only, within the fused limits. -/
def State.setRailMv (s : State) (p : Path) (mv : Nat) : Status × State :=
  if ¬ pathMay p 0x03 then (.privilege, s)
  else if s.fld F.PS_RAIL_SEL_INDEX ≠ 3 then (.ok, s)
  else
    if s.setMay 3 mv then (.ok, s.setFld F.PS_RAIL_SET_MV 0 mv) else (.privilege, s.fenceHit p 4)

def rowRailSetWrite (p : Path) (mv : Nat) (s : State) : Res :=
  ends p (s.setRailMv p mv)

/-- DIE_THERMAL_THROTTLE and DIE_THERMAL_RECOVERY (R438). -/
def execDieThermalThrottle (s : State) : Res := .next { s with pow := { s.pow with facetHalf := true, thermN := true } }
def execDieThermalRecovery (s : State) : Res := .next { s with pow := { s.pow with facetHalf := false, thermN := false } }

end Sys2Proof.Machine
end

