-- ==== Sys2Proof/Machine/Life.lean ====
section
/-! DEFINITION. Security alarms (R39, R347, R348), the lifecycle and its tokens (R349, R351), the debug levels (R352,
R353), LC_CMD (R355). -/

namespace Sys2Proof.Machine

/-! ## Alarms -/

/-- The expert registers of every unit close (R59). -/
def State.closeExperts (s : State) : State :=
  s.xlast.foldl (fun (t : State) x =>
    let cls := x.1 / 65536
    let u := x.1 % 65536
    (t.setFldOf cls F.BLK_XACC_OPEN u 0).setFldOf cls F.BLK_XACC_HOLDER u 0) { s with xlast := [] }

/-- A running WAKE does not reach P0 (R39): the rails it has raised are switched off again, and the command ends with
ABORTED (log entry 105). -/
def State.wakeBack (s : State) : State :=
  if s.pow.sq ≠ .up then s
  else match s.pow.plan with
    | .wakeStandby => (s.psDone .aborted).startSeq .down .standby (s.railsOn.filter (fun n => [11, 10, 9, 7, 6].contains n))
    | .wakeDormant => (s.psDone .aborted).startSeq .down .dormant (s.railsOn.filter (fun n => decide (3 ≤ n)))
    | _ => s

/-- Where an alarm takes the power state (R39): P0 to P1 by the standby path. -/
def State.alarmPath (s : State) : State :=
  if s.pow.state = .p0 ∧ ¬ s.pow.warn ∧ s.pow.sq ≠ .down ∧ s.pow.plan ≠ .standby then s.standbyPath else s.wakeBack

/-- SECURITY_ALARM (R39, R347, R59): every slot is zeroized, the level falls to D0, the controller is held, and from P0 it
takes the standby path; the bit latches with a Critical fault. -/
def execSecurityAlarm (bit : Nat) (s : State) : Res :=
  if 5 ≤ bit then .fault (.noSuchUnit 0x08 bit)
  else
    let s := s.eraseAll.closeExperts.setLevel 0
    let s := { s with life := { s.life with
      latched := s.life.latched ||| 2 ^ bit, present := s.life.present ||| 2 ^ bit, held := true } }
    .next (s.raise 0x08 0 3 (bit + 1) bit).judgeDiag.alarmPath

/-- ALARM_AUTO_RELOAD (R348): every latched condition has been absent for 1 s; slot 0 and the vault slot reload. -/
def execAlarmAutoReload (s : State) : Res :=
  if s.life.held then
    let s := { s with life := { s.life with present := 0 } }.advance second
    .next (((s.reloadSlot 0).reloadSlot s.vaultSlot).kick.judgeHeld).serve
  else .next s

/-- A W1C write of LC_ALARM (R348): a bit whose condition is still present stays. -/
def State.alarmClear (s : State) (mask : Nat) : State :=
  let l := s.life.latched
  let gone := mask % 32 &&& (31 - s.life.present % 32)
  { s with life := { s.life with latched := l - (l &&& gone) } }.judgeHeld

def rowLcAlarmClear (p : Path) (mask : Nat) (s : State) : Res :=
  if pathMay p 0x08 then ends p (.ok, s.alarmClear mask) else ends p (.privilege, s)

/-! ## LC_CMD -/

/-- n bytes of LC_BUF at an offset. -/
def State.lcBytes (s : State) (off n : Nat) : List Byte := bytesAt s.life.buf 0 off n

/-- A command ends: LC_RES shows its status, and LC_BUF is cleared (Table 14.13). -/
def lcEnds (r : Status × State) : State :=
  ({ r.2 with life := { r.2.life with buf := [] } }).setFld F.LC_RES_STATUS 0 r.1.code

/-- LC_CMD from a path (R349, R355): only the management port gives it. -/
def lcRow (p : Path) (s : State) (r : Status × State) : Res :=
  if p = .mgmt then ends p (.ok, lcEnds r) else ends p (.privilege, s)

/-- A transition of the lifecycle, fused and written to the event ring (R349); its ceiling holds at once (R352). -/
def State.enterLife (s : State) (op : Nat) (l : Life) : State :=
  let n := match l with | .blank => 0 | .provisioned => 1 | .deployed => 2 | .returned => 3 | .scrapped => 4
  ({ s with life := { s.life with state := l } }.note 0x08 0 7 (op + n * 256)).clampLevel

/-- The token in LC_BUF serves a use on this die, now (R351); `sigOk` tells whether its trailer passes R350. -/
def State.tokenOk (s : State) (use : Nat) (sigOk : Bool) : Bool :=
  sigOk && leNat (s.lcBytes 0 4) == 0x544B4E31 && leNat (s.lcBytes 4 1) == use &&
  leNat (s.lcBytes 8 8) == s.life.dieId % 2 ^ 64 && leNat (s.lcBytes 16 8) == s.life.nonce &&
  leNat (s.lcBytes 24 8) == 0

/-- A token has been used: LC_NONCE takes a new value (R351). -/
def State.tokenUsed (s : State) : State :=
  let n := s.draw
  { n.2 with life := { n.2.life with nonce := Config.nonce n.1 % 2 ^ 64 } }

/-- Nominal voltages of Table 15.1 in mV. -/
def nominalMv : List Nat := [800, 1800, 1800, 750, 800, 750, 750, 1200, 12000, 1100, 400, 720]

/-- The rail limits of the provisioning data (R371). -/
def State.lcRails (s : State) : List RailLimit :=
  (List.range 12).map (fun n =>
    let f (i : Nat) : Nat := leNat (s.lcBytes (128 + 8 * n + 2 * i) 2)
    ⟨f 0, f 1, f 2, f 3⟩)

/-- Are rail limits acceptable (R371)? -/
def railsOk (l : List RailLimit) : Bool :=
  (l.zip (vendorRails.zip nominalMv)).all (fun x =>
    decide (x.2.1.hardLo ≤ x.1.hardLo ∧ x.1.hardHi ≤ x.2.1.hardHi ∧ x.1.setMin ≤ x.2.2 ∧ x.2.2 ≤ x.1.setMax))

/-- PROVISION (R349, R371). -/
def State.lcProvision (s : State) : Status × State :=
  let rails := s.lcRails
  if s.life.state ≠ .blank ∨ 2 ≤ s.life.level ∨ ¬ railsOk rails then (.privilege, s)
  else
    let svn := leNat (s.lcBytes 256 8)
    let s := { s with life := { s.life with
      ecdsa := s.lcBytes 32 48, mldsa := s.lcBytes 80 48, rails := rails, svnFw := bits svn 0 6, svnCfg := bits svn 8 6,
      owk := true } }
    (.ok, ((s.flashWait (.identity 0)).kick).enterLife 1 .provisioned)

/-- DEPLOY. -/
def State.lcDeploy (s : State) : Status × State :=
  if s.life.state = .provisioned ∧ s.life.signedImage ∧ s.life.level < 2 then (.ok, s.enterLife 2 .deployed)
  else (.privilege, s)

/-- RETURN: every slot is zeroized, OWK and every envelope go. -/
def State.lcReturn (s : State) (sigOk : Bool) : Status × State :=
  if (s.life.state = .provisioned ∨ s.life.state = .deployed) ∧ s.life.level < 2 ∧ s.tokenOk 3 sigOk then
    let s := s.tokenUsed.eraseAll
    let s := ({ s with life := { s.life with owk := false }, keys := { s.keys with envs := [] } }.unsave (fun _ => true)).flashWait (.identity 0)
    (.ok, s.kick.enterLife 3 .returned)
  else (.privilege, s)

/-- SCRAP: every slot is zeroized, the device-unique key fuses are blown, and service ends (Table 0.6). -/
def State.lcScrap (s : State) (sigOk : Bool) : Status × State :=
  let free := s.life.state == .returned
  if s.life.state ≠ .scrapped ∧ s.life.level < 2 ∧ (free ∨ s.tokenOk 4 sigOk) then
    let s := if free then s else s.tokenUsed
    (.ok, ({ s.eraseAll with life := { s.eraseAll.life with keyBlown := true } }.enterLife 4 .scrapped).stopService)
  else (.privilege, s)

/-- SVN_BUMP: the floor of one image kind rises by one step. -/
def State.lcSvnBump (s : State) (sigOk : Bool) : Status × State :=
  let kind := leNat (s.lcBytes 5 1)
  if (s.life.state = .provisioned ∨ s.life.state = .deployed) ∧ s.life.level < 2 ∧ s.tokenOk 5 sigOk ∧
      (kind = 1 ∨ kind = 2) then
    let s := s.tokenUsed
    (.ok, { s with life := { s.life with
      svnFw := if kind = 1 then min 63 (s.life.svnFw + 1) else s.life.svnFw,
      svnCfg := if kind = 2 then min 63 (s.life.svnCfg + 1) else s.life.svnCfg } }.note 0x08 0 7
        (5 + 256 * (match s.life.state with | .provisioned => 1 | _ => 2)))
  else (.privilege, s)

/-- DEBUG (R352, R353): a lower level at any time; a higher one within the ceiling, to D2 and D3 with a token but in
BLANK; entering D3 zeroizes every slot and stops service. -/
def State.lcDebug (s : State) (level : Nat) (sigOk : Bool) : Status × State :=
  if level < s.life.level then (.ok, s.setLevel level)
  else
    match debugCeiling s.life.state s.pow.state with
    | none => (.privilege, s)
    | some c =>
      let token := decide (2 ≤ level) && s.life.state != .blank
      if c < level ∨ 2 ≤ s.life.level ∨ (token ∧ ¬ s.tokenOk (level - 1) sigOk) then (.privilege, s)
      else
        let s := if token then s.tokenUsed else s
        let s := s.setLevel level
        if level = 3 then
          let s := { s.eraseAll with
            life := { s.eraseAll.life with stopped := true }, pipe := { s.eraseAll.pipe with taking := false } }
          (.ok, s.judgeDiag)
        else (.ok, s)

def rowLcProvision (p : Path) (s : State) : Res := lcRow p s s.lcProvision
def rowLcDeploy (p : Path) (s : State) : Res := lcRow p s s.lcDeploy
def rowLcReturn (p : Path) (sigOk : Bool) (s : State) : Res := lcRow p s (s.lcReturn sigOk)
def rowLcScrap (p : Path) (sigOk : Bool) (s : State) : Res := lcRow p s (s.lcScrap sigOk)
def rowLcSvnBump (p : Path) (sigOk : Bool) (s : State) : Res := lcRow p s (s.lcSvnBump sigOk)
def rowLcDebug (p : Path) (level : Nat) (sigOk : Bool) (s : State) : Res :=
  if 4 ≤ level then .fault (.noSuchUnit 0x08 level) else lcRow p s (s.lcDebug level sigOk)

/-- DEBUG_HALT (R352, R353): at D2 a sequencer (0 to 31) or the management core (32) is halted. -/
def execDebugHalt (core : Nat) (s : State) : Res :=
  if 33 ≤ core then .fault (.noSuchUnit 0x70 core)
  else if s.life.level < 2 then .next s
  else if core = 32 then .next { s with core := { s.core with halted := true } }.judgeDiag
  else .next { s with life := { s.life with halted := addNew s.life.halted core } }.judgeDiag

end Sys2Proof.Machine
end

