-- ==== Sys2Proof/Machine/Ports.lean ====
section
/-! DEFINITION. The commands of the fabric ports (chapter 4): calibration boundaries (R100 to R105), port bring-up and
loss (R97 to R99, R112), ARP, neighbour discovery, echo and frame discards (R106, R107). -/

namespace Sys2Proof.Machine

/-- A command that names a quad of lanes. -/
def onQuad (q : Nat) (k : Res) : Res := if q < 16 then k else .fault (.noSuchUnit 0x10 (4 * q))

/-- Every packet outstanding on a QP that used plane p goes again at once, on the other plane; no retry is counted
(R136). -/
def State.failOver (s : State) (p : Nat) : State :=
  s.tr.qps.foldl (fun (t : State) q =>
    if q.2.st = 2 ∧ q.2.plane = p then q.2.sent.foldl (fun (t : State) x => t.resend q.1 x false) t else t) s

/-- A port is lost (R99), with its lane SyncE (R260), and with the last port of its plane the plane (R136). -/
def State.portGone (s : State) (u cause : Nat) : State :=
  let p := planeOf u
  let was := s.planeUp p
  let s := (s.portLost u cause).settleMer
  if was && !s.planeUp p && s.planeUp (1 - p) then s.failOver p else s

/-- Ports of the lanes that have failed by their quality go down with cause 5 (R105, R99); the lane shows it (R109). -/
def State.dropFailed (s : State) (lanes : List Nat) : State :=
  lanes.foldl (fun (t : State) n =>
    if t.laneFailed n then
      let t := match t.portOfLane n with | some u => t.portGone u 5 | none => t
      let t := if t.fld F.LANE_STAT_STATE n = 0 ∧ (t.portOfLane n).isSome then t else t.setFld F.LANE_STAT_STATE n 4
      { t with fab := { t.fab with fail := SMap.del t.fab.fail n } }
    else t) s

/-- CAL_BOUNDARY (R100 to R105): the takeover or return of the quad's chord slice, then the quality figures of its lanes. -/
def execCalBoundary (quad : Nat) (k : Cal) (s : State) : Res :=
  onQuad quad <|
    let p := s.calPeriod quad
    let s := s.reach ((s.time / p + 1) * p)
    let b := s.time / p % 2 ^ 40
    let s := s.calStep quad (s.calPass quad k)
    let lanes := (List.range 4).map (fun i => 4 * quad + i)
    let s := (lanes.zip k.qual).foldl (fun (t : State) x => t.refreshQual x.1 b x.2) s
    .next (s.dropFailed lanes).judgeDiag.serve

/-- CHORD_HOLD_LIMIT (R102): the hold has lasted MAX_HOLD intervals: Minor fault, full calibration of the own slice. -/
def execChordHoldLimit (quad : Nat) (s : State) : Res :=
  onQuad quad <|
    let c := s.chord quad
    if c.active ∧ ¬ c.recal ∧ s.maxHold quad ≤ c.held then
      .next ((s.setChord quad { c with recal := true }).raise 0x10 (4 * quad + c.lane) 1 0x02 0 c.held)
    else .next s

/-- A write of PORT_CFG.EN = 1 (R98). -/
def State.portEnable (s : State) (u : Nat) : State :=
  let s := s.setFld F.PORT_CFG_EN u 1
  if s.fld F.PORT_STAT_STATE u = 0 then s.bringUp u else s

/-- A write of PORT_CFG.EN = 0 (R112): dark with cause 6. -/
def State.portDisable (s : State) (u : Nat) : State :=
  let s := s.setFld F.PORT_CFG_EN u 0
  if ¬ s.isPort u then s
  else if s.fld F.PORT_STAT_STATE u = 2 then (s.portGone u 6).judgeDiag.serve
  else (s.portDark u).setFld F.PORT_STAT_LAST_CAUSE u 6

def rowPortEnable (p : Path) (port : Nat) (s : State) : Res :=
  onUnit 0x11 port ((if pathMay p 0x11 then ends p (.ok, s.portEnable port) else ends p (.privilege, s)))

def rowPortDisable (p : Path) (port : Nat) (s : State) : Res :=
  onUnit 0x11 port ((if pathMay p 0x11 then ends p (.ok, s.portDisable port) else ends p (.privilege, s)))

/-- The local instant at which the bring-up attempt or the dark wait of a port ends, `d` after its start (R98). -/
def State.attemptEnd (s : State) (u d : Nat) : Nat := (SMap.look s.fab.since u).getD s.mono + d

/-- May the bring-up of a port finish now: within 5 s of its start (R98), every lane at or above FAIL (R105)? -/
def State.mayComeUp (s : State) (u : Nat) : Bool :=
  s.isPort u && s.fld F.PORT_STAT_STATE u == 1 && decide (s.mono ≤ s.attemptEnd u (5 * second)) &&
  (s.portLanes u).all (fun n => decide (s.failAt n ≤ s.fld F.LANE_QUAL_SNR n))

/-- The causes by which a bring-up attempt fails (Table 4.9): negotiation only where it runs (PORT_CFG.AN). -/
def State.bringUpCause (s : State) (u cause : Nat) : Bool :=
  decide (1 ≤ cause ∧ cause ≤ 5) && (cause != 2 || s.flag F.PORT_CFG_AN u)

/-- PORT_UP (R98, R301): bring-up has finished; a plane that comes up with it is held back for RETURN_HOLD. -/
def execPortUp (port : Nat) (s : State) : Res :=
  onUnit 0x11 port <|
    if ¬ s.mayComeUp port then .next s
    else
      let p := planeOf port
      let first := !s.planeUp p
      let lanes := s.portLanes port
      let s := lanes.foldl (fun (t : State) n =>
        ((t.setFld F.LANE_STAT_STATE n 2).setFld F.LANE_STAT_SIGNAL n 1).setFld F.LANE_STAT_LOCK n 1) s
      let prbs := lanes.any (fun n => s.fld F.LANE_CTL_PRBS n != 0)
      let s := ((s.setFld F.PORT_STAT_STATE port 2).setFld F.PORT_STAT_IN_SET port (boolNat (!prbs))).setFld
        F.PORT_STAT_UP_SINCE port s.secs
      let s := { s with fab := { s.fab with
        bothDown := none, hold := if first then SMap.ins s.fab.hold p s.mono else s.fab.hold,
        low := lanes.foldl SMap.del s.fab.low, good := lanes.foldl SMap.del s.fab.good,
        fail := lanes.foldl SMap.del s.fab.fail } }
      .next s.judgeDiag.serve

/-- PORT_BRINGUP_TIMEOUT (R98): 5 s after its start the attempt has failed; the port waits dark, with a Notice. -/
def execPortBringupTimeout (port cause : Nat) (s : State) : Res :=
  onUnit 0x11 port <|
    if s.fld F.PORT_STAT_STATE port ≠ 1 ∨ ¬ s.bringUpCause port cause then .next s
    else
      let s := s.reachLocal (s.attemptEnd port (5 * second))
      let s := (((s.portDark port).setFld F.PORT_STAT_STATE port 3).setFld F.PORT_STAT_LAST_CAUSE port cause).sinceNow port
      .next (s.raise 0x11 port 0 0x01 cause)

/-- PORT_RETRY_WAIT_END (R98): 1 s after the port went dark. -/
def execPortRetryWaitEnd (port : Nat) (s : State) : Res :=
  onUnit 0x11 port <|
    if s.fld F.PORT_STAT_STATE port ≠ 3 then .next s
    else .next (((s.reachLocal (s.attemptEnd port second)).setFld F.PORT_STAT_STATE port 0).bringUp port)

/-- PORT_DOWN (R99): signal, alignment or FEC lock, or the quality of a lane is lost (causes 1, 4 and 5 of Table 4.9). -/
def execPortDown (port cause : Nat) (s : State) : Res :=
  onUnit 0x11 port <|
    if s.fld F.PORT_STAT_STATE port ≠ 2 ∨ ¬ (cause = 1 ∨ cause = 4 ∨ cause = 5) then .next s else .next (s.portGone port cause).judgeDiag.serve

/-! ## Frames (R106, Table 4.6) -/

/-- A frame received on a port that is up; others are not heard. One that breaks a rule of Table 4.6 is discarded for its
cause. -/
def onFrame (f : Frame) (s : State) (k : State → State) : Res :=
  onUnit 0x11 f.port (
    if ¬ s.hearsFrame f then .next s
    else
      let s := s.countFrame f
      .next (match s.frameCause f with
        | some e => s.frameGone f.port e
        | none => k s))

/-- ARP_REQUEST (R106): answered for the plane's IPv4 address. -/
def execArpRequest (f : Frame) (ip : Nat) (s : State) : Res :=
  onFrame { f with etype := 0x0806 } s (fun s =>
    if ip ≠ 0 ∧ ip = s.fld F.PLANE_IP4_ADDR (planeUnit f.port) then
      let g := s.frameFor f.port 0x0806 28
      s.sends g (.arp g ip)
    else s.frameGone f.port 13)

/-- NEIGHBOUR_SOLICITATION (R106): answered for the plane's IPv6 address. -/
def execNeighbourSolicitation (f : Frame) (ipHi ipLo : Nat) (s : State) : Res :=
  onFrame { f with etype := 0x86DD, proto := 58 } s (fun s =>
    if ipHi = s.fld F.PLANE_IP6_HI (planeUnit f.port) ∧ ipLo = s.fld F.PLANE_IP6_LO (planeUnit f.port) then
      let g := s.ipFrame f.port false f.src (s.fld F.PORT_DSCP_HOST f.port) 58 32
      s.sends g (.neighbour g ipHi ipLo)
    else s.frameGone f.port 13)

/-- Answer an echo request of a plane, at most 1,000 in one second of local time. -/
def State.echoAnswer (s : State) (f : Frame) (ident : Nat) (data : List Byte) : State :=
  let p := planeOf f.port
  let sec := s.mono / second
  let e := SMap.get (0, 0) s.fab.echo p
  let n := if e.1 = sec then e.2 else 0
  if 1000 ≤ n then s.count 0x11 f.port 7
  else
    let g := s.ipFrame f.port (f.etype == 0x0800) f.src (s.fld F.PORT_DSCP_HOST f.port) f.proto (8 + data.length)
    { s with fab := { s.fab with echo := SMap.put (0, 0) s.fab.echo p (sec, n + 1) } }.sends g (.echo g ident data)

/-- ECHO_REQUEST (R106): to the plane address; the answer repeats identifier and sequence number (`ident`) and data. -/
def execEchoRequest (f : Frame) (ident : Nat) (data : List Byte) (s : State) : Res :=
  let six : Bool := f.etype == 0x86DD
  let f := { f with etype := if six then 0x86DD else 0x0800, proto := if six then 58 else 1 }
  onFrame f s (fun s => if !six || f.dst == s.planeIp6 f.port then s.echoAnswer f ident data else s.frameGone f.port 13)

/-- Does Table 4.6 have a use for a frame that meets its rules: PTP, UDP, an ARP request, an echo request, a neighbour
solicitation (`kind` is the operation of an ARP message, the type of an ICMP message)? Commands of their own take these further. -/
def frameHasUse (f : Frame) (kind : Nat) : Bool :=
  f.etype == 0x88F7 || (f.etype == 0x0806 && kind == 1) || (f.etype != 0x0806 && f.proto == 17) ||
  (f.etype == 0x0800 && f.proto == 1 && kind == 8) || (f.etype == 0x86DD && f.proto == 58 && (kind == 128 || kind == 135))

/-- FRAME_DISCARD (R106): a frame that breaks a rule of Table 4.6, or for which it has no use (another ICMP or ARP message). -/
def execFrameDiscard (f : Frame) (kind : Nat) (s : State) : Res :=
  onFrame f s (fun s => if frameHasUse f kind then s else s.frameGone f.port 13)

end Sys2Proof.Machine
end

