-- ==== Sys2Proof/Machine/QpCmds.lean ====
section
/-! DEFINITION. Queue pairs as the management host sees them: the context (Table 5.7), the context cache (R131), the
commands of TR_QP_CMD (R119, R120, R144, R145). -/

namespace Sys2Proof.Machine

/-! ## The context cache (R131) -/

/-- Does a QP keep an extension map (R127): is a PSN above RCV_NXT + 512 marked received? -/
def Qp.extended (q : Qp) : Bool := q.rcvd.any (fun p => decide (512 < (p + 2 ^ 32 - q.rcvNxt) % 2 ^ 32))

/-- Is the context pinned, or kept as if it were (R127, Table 5.7)? -/
def State.ctxPinned (s : State) (n : Nat) : Bool := (s.qp n).st != 0 && ((s.qp n).pin || (s.qp n).extended)

/-- Has QP n a packet in the pipeline (R131)? -/
def State.qpBusy (s : State) (n : Nat) : Bool :=
  s.pipe.ops.any (fun p => match p.2.src with
    | .nrt qp _ => qp == n && (p.2.toPlace != 0 || p.2.reads != 0)
    | .roce qp _ => qp == n && (p.2.toPlace != 0 || p.2.reads != 0)
    | _ => false) ||
  s.winBehind n || s.cipher.rx.any (fun k => k.dqp % 2 ^ 20 == n)

/-- Cached contexts on chip. -/
def ctxRoom : Nat := 16384

/-- Use a context on chip: it becomes the most recently used one; when there is no room the least recently used one that
is not pinned and has no packet in the pipeline leaves (R131). -/
def State.ctxTouch (s : State) (n : Nat) : State :=
  let rest := s.tr.cache.filter (fun i => i != n)
  let rest := if ctxRoom ≤ rest.length then
      match rest.reverse.find? (fun i => !s.ctxPinned i && !s.qpBusy i) with
      | some i => rest.erase i
      | none => rest
    else rest
  { s with tr := { s.tr with cache := n :: rest } }

/-- Contexts pinned (TR_CACHE.PINNED). -/
def State.pinnedQps (s : State) : Nat := (s.tr.qps.filter (fun p => p.2.st != 0 && p.2.pin)).length

/-! ## The context as memory -/

/-- The creation descriptor in TR_QP_DATA0 to TR_QP_DATA7, on a context otherwise at its start in INIT (R117, R123,
R124). -/
def State.descriptorQp (s : State) : Qp :=
  let d (i : Nat) : Nat := s.fld F.TR_QP_DATA 0 i
  let w := bits (d 1) 32 16
  { emptyQp with
    st := 1, pin := bitAt (d 0) 3, kind := bits (d 0) 4 2, ipv4 := bitAt (d 0) 6, level := bits (d 0) 8 2,
    retry := bits (d 0) 10 3, peerQp := bits (d 0) 16 20, pmtu := bits (d 0) 40 6,
    keySlot := bits (d 1) 0 16, rto := bits (d 1) 16 16, credInit := w, credMax := bits (d 1) 48 16,
    ipA := d 2 + d 3 * 2 ^ 64, ipB := d 4 + d 5 * 2 ^ 64,
    udpSrc := bits (d 6) 0 16, immRing := bits (d 6) 16 12, immChain := bits (d 6) 28 12, cookie := d 7,
    credGrant := w, credPeer := w, w := w, growAt := s.mono, progressAt := s.mono }

/-- Reserved bits of the creation descriptor (Table 5.7). -/
def State.descriptorReserved (s : State) : Bool :=
  let d (i : Nat) : Nat := s.fld F.TR_QP_DATA 0 i
  bitAt (d 0) 7 || bits (d 0) 13 3 != 0 || bits (d 0) 36 4 != 0 || bits (d 0) 46 18 != 0 || bits (d 6) 40 24 != 0

/-- Are the fields in their ranges (R144, R139), the payload of a RoCEv2 QP being one of R138? -/
def Qp.legal (q : Qp) : Bool :=
  decide (1 ≤ q.retry ∧ 4 ≤ q.rto ∧ 32 ≤ q.credInit ∧ q.credInit ≤ q.credMax) && !(q.kind == 3 && q.level == 3) &&
  !(q.kind == 3 && q.pmtu != 0 && decide (q.pmtu < 4))

/-- The eight words of a quarter of a context (R122, Table 5.7). -/
def Qp.quarter (q : Qp) : Nat → List Nat
  | 0 =>
    [q.st + boolNat q.pin * 2 ^ 3 + q.kind * 2 ^ 4 + boolNat q.ipv4 * 2 ^ 6 + q.level * 2 ^ 8 + q.retry * 2 ^ 10 +
        q.peerQp * 2 ^ 16 + q.pmtu * 2 ^ 40,
      q.keySlot + q.rto * 2 ^ 16 + q.credInit * 2 ^ 32 + q.credMax * 2 ^ 48,
      q.ipA % 2 ^ 64, q.ipA / 2 ^ 64, q.ipB % 2 ^ 64, q.ipB / 2 ^ 64,
      q.udpSrc + q.immRing * 2 ^ 16 + q.immChain * 2 ^ 28, q.cookie]
  | 1 =>
    [q.sndNxt + q.sndUna * 2 ^ 32, q.rcvNxt + q.rcvMsg * 2 ^ 32, q.credGrant + q.credSeen * 2 ^ 32,
      q.credPeer + q.credUsed * 2 ^ 32, q.txCtr, q.sndMsg + q.w * 2 ^ 32,
      q.errCause + q.errWhy * 2 ^ 8 + q.plane * 2 ^ 11 + q.backoff * 2 ^ 12, q.errTime]
  | 2 => (List.range 8).map (fun i => bits q.sackMap (64 * i) 64)
  | _ => [q.rxCtr, 0, 0, 0, 0, 0, 0, 0]

/-! ## Commands -/

/-- A command for QP n ends with a status in TR_QP_RES. -/
def State.qpRes (s : State) (n : Nat) (st : Status) : State :=
  (s.setFld F.TR_QP_RES_STATUS 0 st.code).setFld F.TR_QP_RES_QPN 0 n

/-- Is a descriptor that of a twin QP at its place: QP_BASE to QP_BASE + 8, under the twin key slot (R280)? -/
def State.twinPlace (s : State) (n : Nat) (q : Qp) : Bool :=
  decide (s.twinQp 0 ≤ n ∧ n ≤ s.twinQp 8) && q.keySlot == s.fld F.TWIN_CFG_KEY_SLOT

/-- CREATE (R144, R145, R280). -/
def State.qpCreate (s : State) (n : Nat) : State :=
  let q := s.qp n
  let d := s.descriptorQp
  if q.st ≠ 0 ∨ q.resetting ∨ s.descriptorReserved ∨ ¬ d.legal ∨ (d.pin ∧ 1024 ≤ s.pinnedQps) ∨
      (d.kind = 1 ∧ ¬ s.twinPlace n d) then s.qpRes n .privilege
  else ((s.setQp n d).ctxTouch n).qpRes n .ok

/-- READY (Table 5.6); the last of the nine twin QPs starts pairing (R281). -/
def State.qpReady (s : State) (n : Nat) : State :=
  if (s.qp n).st ≠ 1 then s.qpRes n .privilege
  else (s.modQp n (fun q => { q with st := 2, growAt := s.mono, progressAt := s.mono })).startPairing.qpRes n .ok

/-- ERROR (R120). -/
def State.qpFail (s : State) (n : Nat) : State :=
  if (s.qp n).st ≠ 2 then s.qpRes n .privilege
  else (((s.failQp n 0 Status.qpFlushed.code).settleTwin).serve).qpRes n .ok

/-- The work of QP n that has not reached the pipeline leaves the engine. -/
def State.qpLeaves (s : State) (n : Nat) : State :=
  { s with
    tr := { s.tr with
      fetches := s.tr.fetches.filter (fun i => i != n), parked := s.tr.parked.filter (fun k => k.dqp % 2 ^ 20 != n),
      parkedRoce := s.tr.parkedRoce.filter (fun k => k.qp % 2 ^ 20 != n), timers := s.tr.timers.filter (fun t => t.1 != n) },
    cipher := { s.cipher with rx := s.cipher.rx.filter (fun k => k.dqp % 2 ^ 20 != n) },
    wins := { s.wins with waiting := s.wins.waiting.filter (fun w => w.2.qp != some n) } }

/-- RESET (R119, R120): nothing more is taken or sent; the context shows its state, and TR_QP_RES reads BUSY, until its packets have
left the pipeline. -/
def State.qpReset (s : State) (n : Nat) : State :=
  let q := s.qp n
  let s := ((s.flushOwn n none).setQp n { q with
    st := 0, stWas := if q.resetting then q.stWas else q.st, resetting := true, sent := [], sendq := [], waitSince := none, own := [], rx := [],
    orderq := [], ce := { q.ce with open_ := [], cur := none, imms := [] } }).qpLeaves n
  (s.checkNeighbours.settleTwin.serve).qpRes n .busy

/-- QUERY (R144). A QP under RESET shows the state that it had until the flush is over (R119). -/
def State.qpQuery (s : State) (n quarter : Nat) : State :=
  let q := s.qp n
  ((({ q with st := if q.resetting then q.stWas else q.st } : Qp).quarter quarter).zipIdx.foldl (fun (t : State) p => t.setFld F.TR_QP_DATA 0 p.1 p.2) s).qpRes n .ok

/-- MODIFY (R145); values out of range are refused as at CREATE (DESIGN CHOICE, log entry 40). -/
def State.qpModify (s : State) (n : Nat) : State :=
  let q := s.qp n
  let d := s.descriptorQp
  let q' := { q with ipA := d.ipA, ipB := d.ipB, rto := d.rto, credMax := d.credMax, level := d.level }
  if q.st ≠ 2 ∨ ¬ q'.legal then s.qpRes n .privilege else (s.setQp n q').qpRes n .ok

/-- TR_QP_CMD with GO = 1 (Table 5.10). Codes 0 and 7 are no command. -/
def State.qpCommand (s : State) (op n quarter : Nat) : State :=
  match op with
  | 1 => s.qpCreate n
  | 2 => s.qpReady n
  | 3 => s.qpFail n
  | 4 => s.qpReset n
  | 5 => s.qpQuery n quarter
  | 6 => s.qpModify n
  | _ => s

/-- A row of TR_QP_CMD: QP numbers have 20 bits; only the management port and firmware may write it (R144). -/
def qpRow (p : Path) (n : Nat) (s : State) (k : State → State) : Res :=
  if n < 2 ^ 20 then (if p.trusted then ends p (.ok, k s) else ends p (.privilege, s))
  else .fault (.noSuchUnit 0x20 n)

/-- QP_CREATE (R144). -/
def rowQpCreate (p : Path) (n : Nat) (s : State) : Res := qpRow p n s (fun t => t.qpCommand 1 n 0)

/-- QP_READY (R144). -/
def rowQpReady (p : Path) (n : Nat) (s : State) : Res := qpRow p n s (fun t => t.qpCommand 2 n 0)

/-- QP_ERROR (R120). -/
def rowQpError (p : Path) (n : Nat) (s : State) : Res := qpRow p n s (fun t => t.qpCommand 3 n 0)

/-- QP_RESET (R120). -/
def rowQpReset (p : Path) (n : Nat) (s : State) : Res := qpRow p n s (fun t => t.qpCommand 4 n 0)

/-- QP_RESET_FLUSH_DONE (R120): every packet of the QP has left the pipeline. -/
def execQpResetFlushDone (n : Nat) (s : State) : Res :=
  if (s.qp n).resetting ∧ ¬ s.qpBusy n then
    let s := s.setQp n emptyQp
    let s := { s with tr := { s.tr with cache := s.tr.cache.filter (fun i => i != n) } }
    .next (s.setFld F.TR_QP_RES_STATUS 0
      (if s.fld F.TR_QP_RES_QPN = n then Status.ok.code else s.fld F.TR_QP_RES_STATUS))
  else .next s

/-- QP_QUERY (R144). -/
def rowQpQuery (p : Path) (n quarter : Nat) (s : State) : Res :=
  qpRow p n s (fun t => t.qpCommand 5 n (quarter % 4))

/-- QP_MODIFY (R145). -/
def rowQpModify (p : Path) (n : Nat) (s : State) : Res := qpRow p n s (fun t => t.qpCommand 6 n 0)

end Sys2Proof.Machine
end

