-- ==== Sys2Proof/Machine/WinCmds.lean ====
section
/-! DEFINITION. WIN_CMD (R153, R155, R159, R444), the cut of a revoke and its completion (R155). -/

namespace Sys2Proof.Machine

/-- A row of WIN_CMD: keys have 32 bits; only the management port and firmware may write it (R159). -/
def winRow (p : Path) (s : State) (k : State → State) : Res :=
  if p.trusted then ends p (.ok, k s) else ends p (.privilege, s)

/-- WIN_OPEN (R153). -/
def rowWinOpen (p : Path) (s : State) : Res := winRow p s (fun t => (t.winCommand p 1 0).serve)

/-- WIN_REVOKE (R155). -/
def rowWinRevoke (p : Path) (key : Nat) (s : State) : Res := winRow p s (fun t => t.winCommand p 2 (key % 2 ^ 32))

/-- WIN_QUERY (R153). -/
def rowWinQuery (p : Path) (key : Nat) (s : State) : Res := winRow p s (fun t => t.winCommand p 3 (key % 2 ^ 32))

/-- WIN_RECYCLE (R444). -/
def rowWinRecycle (p : Path) (idx : Nat) (s : State) : Res :=
  if idx < 2 ^ 20 then winRow p s (fun t => (t.winCommand p 4 idx).serve) else .fault (.noSuchUnit 0x30 idx)

/-- REVOKE_CUT (R155): the first check of the index against its new generation. -/
def execRevokeCut (idx : Nat) (s : State) : Res :=
  match s.wins.revokes.find? (fun r => r.idx == idx && !r.cut) with
  | some r => .next (s.makeCut r).serve
  | none => .next s

/-- A revoke is over: who waits for it learns so. -/
def State.revokeEnds (s : State) (r : Revoke) : State :=
  let s := { s with wins := { s.wins with revokes := s.wins.revokes.erase r } }
  match r.by_ with
  | .command => s.winRes .ok r.key
  | .link q => s.tellLinks (fun n w => if n = q ∧ w = .wrevoke then some .ok else none)
  | .lend =>
    if s.wins.revokes.any (fun x => x.by_ == .lend) then s else s.setFld F.TM_RES_STATUS 0 Status.ok.code

/-- REVOKE_COMPLETE (R155): cut made, every write checked before it Placed, the descriptor update ended. -/
def execRevokeComplete (idx : Nat) (s : State) : Res :=
  match s.wins.revokes.find? (fun r => r.idx == idx && s.revokeOver r) with
  | some r => .next (s.revokeEnds r)
  | none => .next s

end Sys2Proof.Machine
end

