-- ==== Sys2Proof/Machine/Views.lean ====
section
/-! DEFINITION. What the read-only fields read as that show a state held elsewhere: the Hallmark Table (R44, R45,
Tables 2.1 to 2.4) and the status registers of every class. -/

namespace Sys2Proof.Machine

/-! ## The Hallmark Table -/

/-- FLAGS of an entry (Table 2.3): PRESENT, FUSED_OFF, CFG_OFF, PATH_FABRIC, PATH_CHAIN, SECRET. -/
def State.hallFlags (s : State) (b : Blk) : Nat :=
  1 + boolNat (s.core.fusedOff.contains b.cls) * 2 + boolNat (s.core.cfgOff.contains b.cls) * 4 + boolNat b.fabric * 8 + boolNat b.chain * 16 +
    boolNat (b.cls == 0x91) * 32

/-- The four words of an entry (Table 2.2). -/
def State.hallEntry (s : State) (b : Blk) : List Nat :=
  [b.cls + 1 * 2 ^ 40, b.base + b.size * 2 ^ 32, b.count + b.expert * 2 ^ 32, s.hallFlags b]

/-- The stored word of a register: every field at its place. -/
def State.plainWord (s : State) (cls u off : Nat) : Nat :=
  (fieldsAt cls u off).foldl (fun n fi =>
    n + (if fi.1.acc = .wo then 0 else s.fldOf cls fi.1 u fi.2 * 2 ^ fi.1.lo)) 0

/-- The words of the table with CRC taken as zero (Table 2.1). -/
def State.hallWords (s : State) : List Nat :=
  [s.plainWord 0x01 0 0, s.plainWord 0x01 0 8, s.plainWord 0x01 0 16, 0] ++ blocks.flatMap s.hallEntry

/-- Is the table being rewritten (R45)? -/
def State.rewriting (s : State) : Bool := match s.core.rewriteEnd with | some t => decide (s.mono < t) | none => false

/-- Word i of the table: the header with its CRC, then the entries. SIGNATURE reads zero during the rewrite (R45). -/
def State.hallWord (s : State) (i : Nat) : Nat :=
  if i = 3 then crc32 (s.hallWords.flatMap (leBytes 8))
  else
    let w := s.hallWords.getD i 0
    if i = 0 ∧ s.rewriting then w / 2 ^ 32 * 2 ^ 32 else w

/-! ## Status registers -/

/-- How a field reads: class, unit, which of its registers, path. -/
abbrev Reader := State → Path → Nat → Nat → Nat → Nat

/-- Seconds left in the quiet period of a unit (BLK_FSTAT.QUIET_LEFT). -/
def State.quietLeft (s : State) (cls u : Nat) : Nat :=
  match SMap.look s.quiet (unitKey cls u) with
  | some t => min 255 (ceilDiv (t - s.mono) second)
  | none => 0

/-- The common registers (Tables 2.6, 17.3). -/
def views0 : List (Fld × Reader) :=
  [(F.BLK_ID_CLASS, fun _ _ cls _ _ => cls), (F.BLK_ID_UNIT, fun _ _ _ u _ => u),
   (F.BLK_ID_VER_MINOR, fun _ _ _ _ _ => 0), (F.BLK_ID_VER_MAJOR, fun _ _ _ _ _ => 1),
   (F.BLK_FSTAT_QUIET_LEFT, fun s _ cls u _ => s.quietLeft cls u)]

/-- Chain sequencers and command rings (Tables 3.1, 3.8). -/
def seqOr (s : State) (q d : Nat) (f : Seq → Nat) : Nat := match s.seq? q with | some x => f x | none => d

def viewsChain : List (Fld × Reader) :=
  [(F.SEQ_STATE_STATE, fun s _ _ u _ => s.seqState u),
   (F.SEQ_STATE_RING, fun s _ _ u _ => seqOr s u 0 Seq.ring), (F.SEQ_STATE_TAG, fun s _ _ u _ => seqOr s u 0 Seq.tag),
   (F.SEQ_STATE_LINK, fun s _ _ u _ => seqOr s u 0 Seq.pc),
   (F.RING_STAT_RUNNING, fun s _ _ u _ => s.running u), (F.RING_STAT_QUEUED, fun s _ _ u _ => s.queued u),
   (F.RING_STAT_CQ_WAIT, fun s _ _ u _ => boolNat (s.queued u != 0 && !s.slotFree u))]

/-- Lanes and ports (Tables 4.7 to 4.9). -/
def viewsFabric : List (Fld × Reader) :=
  [(F.LCAL_STAT_LANE, fun s _ _ u _ => (s.chord (u / 4)).lane),
   (F.LCAL_STAT_SHADOWING, fun s _ _ u _ => boolNat (s.chord (u / 4)).shadowing),
   (F.LCAL_STAT_ACTIVE, fun s _ _ u _ => boolNat (s.chord (u / 4)).active),
   (F.LCAL_STAT_BOUNDARY, fun s _ _ u _ => (s.time / s.calPeriod (u / 4) + 1) % 2 ^ 40),
   (F.PORT_CFG_MODE, fun s _ _ u _ => if s.isPort u then s.octetMode u else 0), (F.PORT_STAT_PLANE, fun _ _ _ u _ => planeOf u)]

/-- Packets parked and their KiB (TR_PARK). -/
def State.parkedBytes (s : State) : Nat :=
  (s.tr.parked.map (fun (k : Pkt) => k.data.length)).sum + (s.tr.parkedRoce.map (fun (k : Roce) => k.data.length)).sum

/-- Transport Engine and Window Unit (Tables 5.10, 6.7). -/
def viewsTransport : List (Fld × Reader) :=
  [(F.TR_PARK_PKTS, fun s _ _ _ _ => s.tr.parked.length + s.tr.parkedRoce.length),
   (F.TR_PARK_KIB, fun s _ _ _ _ => ceilDiv s.parkedBytes 1024),
   (F.TR_CACHE_CACHED, fun s _ _ _ _ => s.tr.cache.length), (F.TR_CACHE_PINNED, fun s _ _ _ _ => s.pinnedQps),
   (F.WIN_STAT_OPEN, fun s _ _ _ _ => s.openCount), (F.WIN_STAT_CACHED, fun s _ _ _ _ => s.wins.cache.length)]

/-- Pipeline slices, setting buffer, locket cache (Table 7.6). -/
def viewsPipe : List (Fld × Reader) :=
  [(F.PIPE_STAT_HELD, fun s _ _ u _ => (s.pipe.waits.filter (fun w => sliceOf w.1 == u && s.heldOp w)).length),
   (F.PIPE_STAT_SB_OPEN, fun s _ _ u _ => (s.openEntries u).length),
   (F.PIPE_STAMP_EPOCH, fun s _ _ u _ => SMap.get 0 s.pipe.stamp u),
   (F.PIPE_SEAL_SEALED, fun s _ _ _ _ => s.pipe.sealedE), (F.PIPE_SEAL_UNSURE, fun s _ _ _ _ => boolNat (s.unsure && !s.core.inReset)),
   (F.PIPE_SEAL_SINGLE, fun s _ _ _ _ => boolNat s.single),
   (F.PIPE_OPEN_OLDEST, fun s _ _ _ _ => s.oldestOpen.getD 0),
   (F.PIPE_OPEN_EMPTY, fun s _ _ _ _ => boolNat s.oldestOpen.isNone),
   (F.PIPE_PEND_WRITES, fun s _ _ _ _ => (s.pipe.openEpochs.map (fun p => p.2)).sum),
   (F.SB_STAT_OPEN, fun s _ _ _ _ => (s.pipe.sb.filter (fun e => !e.closing)).length),
   (F.SB_STAT_CLOSING, fun s _ _ _ _ => (s.pipe.sb.filter (fun e => e.closing)).length),
   (F.LK_STAT_STATE, fun s _ _ _ _ => if s.pipe.locket.flushing then 2 else s.fld F.LK_CTL_EN),
   (F.LK_STAT_DIRTY, fun s _ _ _ _ => (s.pipe.locket.lines.filter (fun p => p.2.unclean)).length),
   (F.LK_STAT_VICTIMS, fun s _ _ _ _ => s.pipe.locket.victims.length)]

/-- Memory channels and Bezel unit (Tables 8.4, 9.6). A channel that is off has no next boundary. -/
def viewsMemory : List (Fld × Reader) :=
  [(F.MC_RETRAIN_NEXT, fun s _ _ u _ =>
    if s.fld F.MC_STAT_STATE u = 0 then 0 else (s.time / 2 ^ (33 + s.fld F.MC_RETRAIN_INTERVAL u) + 1) % 2 ^ 40),
   (F.MC_PANIC_FAB, fun s _ _ u _ => s.panic u .fab), (F.MC_PANIC_TWIN, fun s _ _ u _ => s.panic u .twin),
   (F.MC_PANIC_VAULT, fun s _ _ u _ => s.panic u .vault), (F.MC_PANIC_FACET, fun s _ _ u _ => s.panic u .facet),
   (F.MC_QUEUE_READS, fun s _ _ u _ => min 255 ((s.queuedReads u 0).length + (s.queuedReads u 1).length)),
   (F.MC_QUEUE_WRITES, fun s _ _ u _ => min 255 (s.chan.wq.filter (fun w => s.chanAt w.line == u)).length),
   (F.BZ_RETIRE_RES_MOVED, fun s _ _ _ _ => s.movedNow),
   (F.BZ_SCRUB_RUNNING, fun s _ _ _ _ => boolNat s.scrubbing), (F.BZ_LAP_CUR, fun s _ _ _ _ => s.bezel.next),
   (F.BZ_SPARE_FREE, fun s _ _ _ _ => s.spareFree), (F.BZ_SPARE_PAGES, fun s _ _ _ _ => s.bezel.pages.length),
   (F.BZ_SPARE_BANKS, fun s _ _ _ _ => s.bezel.bankList.length),
   (F.BZ_MARK_DEVICE, fun s _ _ _ _ => (SMap.look s.bezel.marks (s.fld F.BZ_MARK_SEL_INDEX)).getD 0),
   (F.BZ_MARK_VALID, fun s _ _ _ _ => boolNat (SMap.look s.bezel.marks (s.fld F.BZ_MARK_SEL_INDEX)).isSome),
   (F.BZ_MARK_LINES, fun s _ _ _ _ =>
     ((List.range 10).map (s.linesSeen (s.fld F.BZ_MARK_SEL_INDEX))).foldl max 0)]

/-- Free strand slots (VLT_SPACE.FREE). -/
def State.freeSlots (s : State) : Nat := s.vault.slots - s.vault.strands.length

/-- Vault Engine and PCIe root ports (Table 10.10). Until service starts CUTINFO shows the outage. -/
def viewsVault : List (Fld × Reader) :=
  [(F.VLT_BUDGET_EFFECTIVE, fun s _ _ _ _ => s.budgetGib),
   (F.VLT_DIRTY_GRANULES, fun s _ _ _ _ => s.vault.dirty.length), (F.VLT_DIRTY_DRAIN_SET, fun s _ _ _ _ => s.drainSet),
   (F.VLT_HOLDUP_HOLDUP_OK, fun s _ _ _ _ => boolNat s.pow.holdupOk),
   (F.VLT_STAT_THROTTLING, fun s _ _ _ _ => boolNat (s.pipe.waits.any s.heldOp)),
   (F.VLT_STAT_REVERTING, fun s _ _ _ _ => boolNat s.reverting),
   (F.VLT_VAULTED_EPOCH, fun s _ _ _ _ => s.vaultedEpoch), 
   (F.VLT_CUTINFO_FLOOR, fun s _ _ _ _ =>
     if s.fld F.BT_STAT_STATE = 7 then s.vault.floorE else s.fld F.VLT_CUTINFO_FLOOR),
   (F.VLT_FILL_FILLED, fun s _ _ _ _ => s.vault.total - s.vault.unfilled.length),
   (F.VLT_FILL_TOTAL, fun s _ _ _ _ => s.vault.total),
   (F.VLT_SPACE_FREE, fun s _ _ _ _ => s.freeSlots), (F.VLT_SPACE_SLOTS, fun s _ _ _ _ => s.vault.slots),
   (F.PCI_LINK_UP, fun s _ _ u _ => boolNat (match SMap.look s.vault.drives u with | some d => !d.lost | none => false)),
   (F.PCI_SPEED, fun _ _ _ u _ => bits (Config.pcieLink u) 0 4),
   (F.PCI_WIDTH, fun _ _ _ u _ => bits (Config.pcieLink u) 4 5),
   (F.PCI_NVME_QUEUES, fun _ _ _ u _ => bits (Config.pcieLink u) 9 5)]

/-- Meridian Unit, Twin and clasp (Tables 11.6, 12.10). -/
def viewsTwin : List (Fld × Reader) :=
  [(F.MER_TIME_S_SECONDS, fun s _ _ _ _ => s.secs),
   (F.MER_TIME_F_FRACTION, fun s p _ _ _ => (SMap.look s.mer.latched (pathKey p)).getD s.frac),
   (F.MER_EPOCH_CURRENT, fun s _ _ _ _ => s.epoch),
   (F.TWIN_STAT_STATE, fun s _ _ _ _ => match s.twin.state with
     | .unpaired => 0 | .resync => 1 | .inSync => 2 | .single => 3 | .refused => 4),
   (F.TWIN_STAT_LEADER, fun s _ _ _ _ => boolNat (s.twin.leader && !s.twin.handover && s.twin.diagOk)),
   (F.TWIN_STAT_SENSE, fun s _ _ _ _ => match s.twin.sense with | .released => 0 | .held => 1 | .lost => 2),
   (F.TWIN_STAT_HOLDING, fun s _ _ _ _ => boolNat s.twin.holding),
   (F.TWIN_STAT_DIAG_OK, fun s _ _ _ _ => boolNat s.twin.diagOk), (F.TWIN_STAT_CAUSE, fun s _ _ _ _ => s.twin.cause),
   (F.TWIN_STAT_LEVEL, fun s _ _ _ _ => s.twin.level),
   (F.TWIN_STAT_PREFERRED, fun s _ _ _ _ => s.fld F.TWIN_CFG_PREFERRED),
   (F.TWIN_STAT_HANDOVER, fun s _ _ _ _ => boolNat s.twin.handover), (F.TWIN_STAT_TERM, fun s _ _ _ _ => s.twin.term),
   (F.TWIN_RESYNC_LEFT, fun s _ _ _ _ => s.regionsLeft), (F.TWIN_RESYNC_TOTAL, fun s _ _ _ _ => s.twin.total),
   (F.TWIN_HEALTH_SECONDS, fun s _ _ _ _ =>
     match s.twin.healthSince with | some t => min 65535 ((s.mono - t) / second) | none => 0),
   (F.CLM_STAT_ENTRIES, fun s _ _ _ _ => s.claimEntries), (F.CLM_STAT_A_UP, fun s _ _ _ _ => boolNat (s.planeUp 0)),
   (F.CLM_STAT_B_UP, fun s _ _ _ _ => boolNat (s.planeUp 1))]

/-- Units of 64 KiB of crown copies that lie on engine e (R310). -/
def State.crownUnits (s : State) (e : Nat) : Nat :=
  s.tiers.handles.foldl (fun n p =>
    if (p.2.copyIn 0).isSome then
      let k := ceilDiv p.2.span 65536
      n + k / 64 + (if e < k % 64 then 1 else 0)
    else n) 0

/-- MiB of a tier in use (TM_USE). -/
def State.mibUsed (s : State) (tier : Nat) : Nat := ceilDiv (s.tierUsed tier) (2 ^ 20)

/-- Neighbour entry selected by TM_NEIGH_SEL. -/
def State.neighSel (s : State) : Neighbour :=
  (SMap.look s.tiers.neigh (s.fld F.TM_NEIGH_SEL_INDEX)).getD ⟨0, false, false, 0, 0, 0⟩

/-- Facet Engines and tier manager (Tables 13.9, 13.10). -/
def viewsTiers : List (Fld × Reader) :=
  [(F.TM_CAP_GIRDLE_MIB, fun s _ _ _ _ => (72 - s.fld F.TM_CAP_LEND_GIB) * 1024),
   (F.TM_USE_CROWN, fun s _ _ _ _ => s.mibUsed 0), (F.TM_USE_GIRDLE, fun s _ _ _ _ => s.mibUsed 1),
   (F.TM_USE_NEIGH, fun s _ _ _ _ => s.mibUsed 2), (F.TM_HANDLES_LIVE, fun s _ _ _ _ => s.tiers.handles.length),
   (F.TM_HANDLES_EVICTING, fun s _ _ _ _ => (s.tiers.handles.filter (fun p => p.2.evicting)).length),
   (F.TM_NEIGH_DEV, fun s _ _ _ _ => s.neighSel.dev), (F.TM_NEIGH_VALID, fun s _ _ _ _ => boolNat s.neighSel.valid),
   (F.TM_NEIGH_UP, fun s _ _ _ _ => boolNat s.neighSel.up), (F.TM_NEIGH_QPN, fun s _ _ _ _ => s.neighSel.qpn),
   (F.TM_NEIGH_GIB, fun s _ _ _ _ => s.neighSel.gib), (F.TM_NEIGH_KEY_KEY, fun s _ _ _ _ => s.neighSel.key),
   (F.FE_STAT_STATE, fun s _ _ u _ => if s.facetOn then s.fld F.FE_STAT_STATE u else 2),
   (F.FE_CROWN_TENSOR_KIB, fun s _ _ u _ => 64 * s.crownUnits u)]

/-- Cipher Engine, Key Store, Lifecycle (Tables 14.11 to 14.13). -/
def viewsSecurity : List (Fld × Reader) :=
  [(F.CE_STAT_PIPES, fun s _ _ _ _ => s.pipesIn),
   (F.KS_STAT_ACTIVE, fun s _ _ _ _ => s.activeSlots), (F.KS_STAT_ERASES, fun s _ _ _ _ => s.keys.erases),
   (F.LC_STAT_STATE, fun s _ _ _ _ => match s.life.state with
     | .blank => 0 | .provisioned => 1 | .deployed => 2 | .returned => 3 | .scrapped => 4),
   (F.LC_STAT_DEBUG, fun s _ _ _ _ => s.life.level), (F.LC_STAT_HELD, fun s _ _ _ _ => boolNat s.life.held),
   (F.LC_ALARM_LATCHED, fun s _ _ _ _ => s.life.latched), (F.LC_ALARM_PRESENT, fun s _ _ _ _ => s.life.present),
   (F.LC_NONCE_VALUE, fun s _ _ _ _ => s.life.nonce), (F.LC_DIE_ID_VALUE, fun s _ _ _ _ => s.life.dieId),
   (F.LC_SVN_FW, fun s _ _ _ _ => s.life.svnFw), (F.LC_SVN_CFG, fun s _ _ _ _ => s.life.svnCfg),
   (F.LC_BUF, fun s _ _ _ i => leNat (s.lcBytes (8 * i) 8))]

/-- The rail that PS_RAIL_SEL names. -/
def State.railSel (s : State) : Rail := s.rail (s.fld F.PS_RAIL_SEL_INDEX)

/-- Power Supervisor (Table 15.6). -/
def viewsPower : List (Fld × Reader) :=
  [(F.PS_STAT_STATE, fun s _ _ _ _ => match s.pow.state with | .p0 => 0 | .p1 => 1 | .p2 => 2 | .p3 => 3 | .p4 => 4),
   (F.PS_STAT_SEQ, fun s _ _ _ _ => match s.pow.sq with
     | .idle => 0 | .up => 1 | .checkpoint => 2 | .down => 3 | .minOff => 4),
   (F.PS_STAT_LATCH_ON, fun s _ _ _ _ => boolNat s.pow.latchOn), (F.PS_STAT_WARN, fun s _ _ _ _ => boolNat s.pow.warn),
   (F.PS_STAT_PWR_REQ, fun s _ _ _ _ => boolNat s.pow.pwrReq),
   (F.PS_STAT_PF_WARN_N, fun s _ _ _ _ => boolNat s.pow.pfWarnN),
   (F.PS_STAT_HOLDUP_OK, fun s _ _ _ _ => boolNat s.pow.holdupOk),
   (F.PS_STAT_CYCLES, fun s _ _ _ _ => s.kf.journal.cycles),
   (F.PS_RAIL_SET_MV, fun s _ _ _ _ => if s.fld F.PS_RAIL_SEL_INDEX = 3 then s.fld F.PS_RAIL_SET_MV else 0),
   (F.PS_RAIL_MV, fun s _ _ _ _ => s.railSel.mv),
   (F.PS_RAIL_STATE, fun s _ _ _ _ => match s.railSel.st with
     | .off => 0 | .rising => 1 | .inWindow => 2 | .outOfWindow => 3 | .falling => 4),
   (F.PS_RAIL_FAULTS, fun s _ _ _ _ => s.railSel.faults),
   (F.PS_REC_FREE, fun s _ _ _ _ => 512 - s.pow.w0 - s.pow.w1),
   (F.PSX_RING_DATA, fun s _ _ _ i => (s.rail (s.fld F.PSX_RING_RAIL)).ring.getD i 0)]

/-- Does a bank of the keepsake run an operation (KF_RES.BANK_BUSY)? -/
def State.bankBusy (s : State) : Nat :=
  (List.range 4).foldl (fun n b => n + boolNat (!s.kf.idle b) * 2 ^ b) 0

/-- What the read aperture gives at word i (R374, R376). -/
def State.kfRead (s : State) (i : Nat) : Nat :=
  let a := s.fld F.KF_RWIN_ADDR * 4096 + 8 * i
  if !s.kf.idle (kfBank (a / 65536)) || secretBlock (a / 65536) then 0 else leNat (s.flashBytes a 8)

/-- Items of the state journal as KFX.JRNL_SEL names them (log entry 3). -/
def State.journalItem (s : State) (i : Nat) : Nat :=
  match i with
  | 0 => s.kf.journal.sq
  | 1 => s.kf.journal.term
  | 2 => s.kf.journal.outcome
  | 3 => s.kf.journal.cycles
  | 4 => s.kf.journal.opSecs
  | _ => 0

/-- The record at the cursor of a path (R389). -/
def State.cursorWord (s : State) (p : Path) (i : Nat) : Nat :=
  let c := s.cursorOf p
  if s.cursorState c = 0 then wordAt (s.recordBytes c) i else 0

/-- Keepsake flash and event recorder (Tables 16.3, 16.5). -/
def viewsKeepsake : List (Fld × Reader) :=
  [(F.KF_RES_BANK_BUSY, fun s _ _ _ _ => s.bankBusy),
   (F.KF_EC_COUNT, fun s _ _ _ _ => SMap.get 0 s.kf.journal.erases (s.fld F.KF_EC_SEL_BLOCK)),
   (F.KF_EC_TORN, fun s _ _ _ _ => boolNat (s.kf.torn.contains (s.fld F.KF_EC_SEL_BLOCK))),
   (F.KF_EC_WORN, fun s _ _ _ _ => boolNat (decide (90000 ≤ SMap.get 0 s.kf.journal.erases (s.fld F.KF_EC_SEL_BLOCK)))),
   (F.KF_READ, fun s _ _ _ i => s.kfRead i), (F.KFX_BANK, fun s _ _ _ _ => s.bankBusy),
   (F.KFX_JRNL_DATA, fun s _ _ _ _ => s.journalItem (s.fld F.KFX_JRNL_SEL)),
   (F.EV_HEAD_SEQ, fun s _ _ _ _ => s.ev.head), (F.EV_TAIL_SEQ, fun s _ _ _ _ => s.ev.tail),
   (F.EV_CURSOR_SEQ, fun s p _ _ _ => s.cursorOf p), (F.EV_CSTAT_STATE, fun s p _ _ _ => s.cursorState (s.cursorOf p)),
   (F.EV_CSTAT_OPEN, fun s p _ _ _ =>
     boolNat (match s.ev.newest with | some (r, _) => r.sq == s.cursorOf p | none => false)),
   (F.EV_REC, fun s p _ _ i => s.cursorWord p i), (F.EV_STAT_DROPPED, fun s _ _ _ _ => s.ev.dropped),
   (F.EV_STAT_QUEUED, fun s _ _ _ _ => s.ev.queue.length)]

/-- CLASS of a unit's fault state. -/
def State.faultClass (s : State) (cls u : Nat) : Nat := s.fldOf cls F.BLK_FSTAT_CLASS u

/-- Units that hold a fault state, in the order of class code and unit number (R404). -/
def faultUnits : List (Nat × Nat) :=
  (blocks.filter (fun b => b.cls != 0x01)).flatMap (fun b => (List.range b.count).map (fun u => (b.cls, u)))

/-- The first unit at or after LP_FCUR that has a fault (LP_FNEXT). -/
def State.nextFault (s : State) : Option (Nat × Nat) :=
  let c := s.fld F.LP_FCUR_CLASS
  let u := s.fld F.LP_FCUR_UNIT
  faultUnits.find? (fun x => (decide (c < x.1) || (x.1 == c && decide (u ≤ x.2))) && s.faultClass x.1 x.2 != 7)

/-- Units whose CLASS is c, saturating at a width (LP_FSUM). -/
def State.faultSum (s : State) (c width : Nat) : Nat :=
  min (2 ^ width - 1) (faultUnits.filter (fun x => s.faultClass x.1 x.2 == c)).length

/-- Loupe (Table 17.5). -/
def viewsLoupe : List (Fld × Reader) :=
  [(F.LP_SNAP_ARMED, fun s _ _ _ _ => boolNat s.loupe.armed.isSome),
   (F.LP_SNAP_STATUS, fun s _ _ _ _ => s.loupe.status.code),
   (F.LP_SNAPT_S_SECONDS, fun s _ _ _ _ => s.loupe.snapAt / 2 ^ 40),
   (F.LP_SNAPT_F_FRACTION, fun s _ _ _ _ => s.loupe.snapAt % 2 ^ 40),
   (F.LP_FREEZE_FROZEN, fun s _ _ _ _ => boolNat s.loupe.frozen),
   (F.LP_FREEZE_ARMED, fun s _ _ _ _ => boolNat s.loupe.freezeArmed.isSome),
   (F.LP_FNEXT_CLASS, fun s _ _ _ _ => match s.nextFault with | some x => x.1 | none => 0),
   (F.LP_FNEXT_UNIT, fun s _ _ _ _ => match s.nextFault with | some x => x.2 | none => 0),
   (F.LP_FNEXT_FCLASS, fun s _ _ _ _ => match s.nextFault with | some x => s.faultClass x.1 x.2 | none => 7),
   (F.LP_FNEXT_FOUND, fun s _ _ _ _ => boolNat s.nextFault.isSome),
   (F.LP_FSUM_NOTICE, fun s _ _ _ _ => s.faultSum 0 13), (F.LP_FSUM_MINOR, fun s _ _ _ _ => s.faultSum 1 13),
   (F.LP_FSUM_MAJOR, fun s _ _ _ _ => s.faultSum 2 13), (F.LP_FSUM_CRITICAL, fun s _ _ _ _ => s.faultSum 3 13),
   (F.LP_FSUM_FATAL, fun s _ _ _ _ => s.faultSum 4 12),
   (F.LP_CTR, fun s _ _ _ i => SMap.get 0 s.loupe.ctr i), (F.LP_SNAPCTR, fun s _ _ _ i => SMap.get 0 s.loupe.snap i),
   (F.LP_EVSEL_EVENT, fun s _ _ _ i => s.loupe.evsel i % 64), (F.LP_EVSEL_EN, fun s _ _ _ i => s.loupe.evsel i / 64)]

/-- The readers of the fields of a class; a field without one reads as it is stored. -/
def viewsOf (cls : Nat) : List (Fld × Reader) :=
  views0 ++ (match cls with
    | 0x03 => viewsPower
    | 0x04 | 0x05 => viewsKeepsake
    | 0x06 => viewsLoupe
    | 0x07 | 0x22 => viewsTwin
    | 0x08 | 0x90 | 0x91 => viewsSecurity
    | 0x10 | 0x11 => viewsFabric
    | 0x20 | 0x30 => viewsTransport
    | 0x40 | 0x41 | 0x42 => viewsPipe
    | 0x50 | 0x51 => viewsMemory
    | 0x60 | 0x61 => viewsVault
    | 0x70 | 0x71 => viewsChain
    | 0x80 | 0x81 => viewsTiers
    | _ => [])

/-- What a field of a unit reads as on a path (Table 0.2). -/
def State.readField (s : State) (p : Path) (cls u : Nat) (f : Fld) (i : Nat) : Nat :=
  if f.acc = .wo then 0
  else match (viewsOf cls).find? (fun v => v.1 == f) with
    | some v => v.2 s p cls u i % 2 ^ f.width
    | none => s.fldOf cls f u i

/-- What the register at an offset of a unit reads as. -/
def State.readReg (s : State) (p : Path) (cls u off : Nat) : Nat :=
  if cls = 0x01 then s.hallWord (off / 8)
  else (fieldsAt cls u off).foldl (fun n fi => n + s.readField p cls u fi.1 fi.2 * 2 ^ fi.1.lo) 0

end Sys2Proof.Machine
end

