-- ==== Sys2Proof/Machine/Control.lean ====
section
/-! DEFINITION. Control space (chapter 2): a read and a write of one register by a path, with the registers that do something
when written, the management datagrams (R52 to R54), the expert access register (R58, R59) and the plain register commands. -/

namespace Sys2Proof.Machine

/-! ## What some registers do when written -/

/-- A command that only the management port and firmware may give. -/
def trustedOnly (p : Path) (s : State) (r : Status × State) : Status × State := if p.trusted then r else (.privilege, s)

/-- Does the register at an offset hold a field that a write may change? -/
def writable (cls u off : Nat) : Bool := (fieldsAt cls u off).any (fun fi => fi.1.acc != .ro)

/-- BLK_XACC (R58). -/
def State.xacc (s : State) (p : Path) (cls u v : Nat) : Status × State :=
  if ¬ p.trusted then (.privilege, s)
  else
    let lock := s.fldOf cls F.BLK_XACC_LOCK u
    let locked (t : State) : State := if bitAt v 1 then t.setFldOf cls F.BLK_XACC_LOCK u 1 else t
    if ¬ bitAt v 0 then
      (.ok, locked ((s.setFldOf cls F.BLK_XACC_OPEN u 0).setFldOf cls F.BLK_XACC_HOLDER u 0))
    else if bits v 8 32 = 0x4B585041 ∧ lock = 0 then
      (.ok, locked (((s.setFldOf cls F.BLK_XACC_OPEN u 1).setFldOf cls F.BLK_XACC_HOLDER u
        (if p = .mgmt then 1 else 2)).expertUsed cls u))
    else (.privilege, s)

/-- BLK_FCTL (R400, Table 17.3): an acknowledgement from another path than the management port and firmware is refused. -/
def State.fctl (s : State) (p : Path) (cls u v : Nat) : Status × State :=
  if bitAt v 0 ∧ ¬ p.trusted then (.privilege, s)
  else
    let s := s.writePlain cls u 0x18 v
    (.ok, if bitAt v 0 then s.ackFault cls u else s)

/-- Once VLT_RESTORE has named a valid target, boot goes on from WAIT_RESTORE to the fabric (R249, Sequence 18.1). -/
def State.restoreCmd (s : State) (p : Path) (kind e : Nat) : Status × State :=
  let r := s.restoreGo p kind e
  if s.fld F.BT_STAT_STATE = 5 ∧ s.vault.awaiting ∧ ¬ r.2.vault.awaiting then
    (r.1, (r.2.setFld F.BT_STAT_STATE 0 4).bringUpEnds)
  else r

/-- VLT_BUDGET (R231, R251); a refusal to firmware is an attempt against a fence (R354, Table 14.10). -/
def State.budgetCmd (s : State) (p : Path) (gib : Nat) : Status × State :=
  if ¬ p.trusted then (.privilege, s)
  else
    let t := s.budgetLimit gib
    if t.fld F.VLT_BUDGET_STATUS = 0 then (.ok, t.serve) else (.privilege, t.fenceHit p 6)

/-- The management core's registers that act (R422). -/
def State.coreWrite (s : State) (p : Path) (off v : Nat) : Option (Status × State) :=
  if off = 0x30 then
    some (if p ≠ .mgmt then (.privilege, s)
      else (.ok, if bitAt v 0 ∧ bits v 16 32 = 0x5253544E ∧ (s.pow.state = .p0 ∨ s.pow.state = .p1) then s.warmReset 3
        else s))
  else if off = 0x38 then if p = .firmware then none else some (.privilege, s)
  else if off = 0x40 then
    some (if p ≠ .firmware then (.privilege, s)
      else (.ok, if bits v 0 32 = 0x4B49434B ∧ s.core.wdtEnd.isSome then
          { s with core := { s.core with wdtEnd := some (s.mono + ms (s.fld F.BT_WDT_TIMEOUT)) } }
        else s))
  else none

/-- The Power Supervisor's (Table 15.6). -/
def State.powerWrite (s : State) (p : Path) (off v : Nat) : Option (Status × State) :=
  if off = 0x28 then
    some (.ok, if bitAt v 3 then
        (match bits v 0 3 with
         | 1 => s.psStandby
         | 2 => s.psDormant
         | 3 => s.psWake
         | _ => s)
      else s)
  else if off = 0x40 then some (s.setRailMv p (bits v 0 16))
  else if off = 0x8030 then some (s.pmbWrite p (bits v 0 32))
  else none

/-- Does the image slot that KF_ADDR names pass R350? A fact of its bytes and of keys that the model does not hold (log entry
5): the bytes that are listed, each after its address. -/
def State.slotOk (s : State) (slot : Nat) : Bool :=
  Config.tagOk ((s.kf.flash.filter (fun p => imageSlot (p.1 / 65536) == slot)).flatMap (fun p => leBytes 4 p.1 ++ [p.2]))

/-- The keepsake's and the event recorder's (Tables 16.3, 16.5). -/
def State.keepWrite (s : State) (p : Path) (cls off v : Nat) : Option (Status × State) :=
  if cls = 0x05 then (if off = 0x30 then some (s.setCursor p (bits v 0 48)) else none)
  else if off = 0x20 then some (s.kfUnlock p (bits v 0 32))
  else if off = 0x28 then some (s.kfCmd p (bits v 0 3))
  else if off = 0x30 then some (s.kfAddr p (bits v 0 28) (s.slotOk (bits v 0 28 % 4)))
  else if 0x100 ≤ off ∧ off < 0x200 then some (s.kfData p ((off - 0x100) / 8) v)
  else none

/-- The Loupe's (R398, Table 17.5): no write from a fabric window or a chain. -/
def State.loupeWrite (s : State) (p : Path) (off v : Nat) : Option (Status × State) :=
  if ¬ p.trusted then (if writable 0x06 0 off then some (.privilege, s) else none)
  else if off = 0x20 then
    some (.ok, let s := if bitAt v 1 then s.takeSnap else s; if bitAt v 0 then s.armSnap s.snapInstant none else s)
  else if off = 0x48 then
    some (.ok,
      let s := if bitAt v 2 then s.thaw else s
      let s := if bitAt v 1 then s.freezeNow else s
      if bitAt v 0 then s.armFreeze else s)
  else if off = 0x68 then some (.ok, if bitAt v 4 then s.clearBank (bits v 0 4) else s)
  else if 0x5000 ≤ off ∧ off < 0x7000 then some (.ok, s.setEvsel ((off - 0x5000) / 8) (bits v 0 7))
  else none

/-- The Meridian Unit's (R275, R278). -/
def State.merWrite (s : State) (p : Path) (off v : Nat) : Option (Status × State) :=
  if off = 0x88 then some (.ok, s.gcut v)
  else if off = 0x98 then some (.ok, if bitAt v 41 then s.clearSuspect else s)
  else if ¬ p.trusted ∧ writable 0x07 0 off then some (.privilege, s)
  else some (.ok, (s.writePlain 0x07 0 off v).settleMer.serve)

/-- Lifecycle and debug (R355, Table 14.13). -/
def State.lifeWrite (s : State) (p : Path) (off v : Nat) : Option (Status × State) :=
  if off = 0x28 then some (.ok, s.alarmClear (bits v 0 5))
  else if off = 0x30 then
    some (if p ≠ .mgmt then (.privilege, s)
      else (.ok, if ¬ bitAt v 3 then s
        else
          let ok := Config.tagOk (s.lcBytes 0 16384)
          match bits v 0 3 with
          | 1 => lcEnds s.lcProvision
          | 2 => lcEnds s.lcDeploy
          | 3 => lcEnds (s.lcReturn ok)
          | 4 => lcEnds (s.lcScrap ok)
          | 5 => lcEnds (s.lcSvnBump ok)
          | 6 => lcEnds (s.lcDebug (bits v 4 2) ok)
          | _ => s))
  else if 0x1000 ≤ off ∧ off < 0x5000 then
    some (.ok, { s with life := { s.life with buf := putBytes 0 s.life.buf (off - 0x1000) (leBytes 8 v) } })
  else none

/-- LANE_CTL (Table 4.7): a lane that is switched off takes its port dark (Table 4.3), one that is switched on may let it
come up, and a test pattern takes its port out of the egress set. -/
def State.laneWrite (s : State) (u off v : Nat) : Option (Status × State) :=
  if off ≠ 0x20 then none
  else
    let s := s.writePlain 0x10 u off v
    some (.ok, match s.portOfLane u with
      | none => s
      | some q =>
        let on_ := s.flag F.LANE_CTL_EN u
        if s.fld F.PORT_STAT_STATE q = 0 then (if on_ then s.bringUp q else s)
        else if s.fld F.PORT_STAT_STATE q ≠ 2 then
          (if on_ then s else (s.portDark q).setFld F.PORT_STAT_LAST_CAUSE q 6)
        else if ¬ on_ then (s.portGone q 6).judgeDiag.serve
        else
          let prbs := (s.portLanes q).any (fun n => s.fld F.LANE_CTL_PRBS n != 0)
          s.setFld F.PORT_STAT_IN_SET q (boolNat (!prbs)))

/-- PORT_CFG (R112). -/
def State.portWrite (s : State) (u off v : Nat) : Option (Status × State) :=
  if off ≠ 0x20 then none
  else
    let s := s.writePlain 0x11 u off v
    some (.ok, if s.flag F.PORT_CFG_EN u then s.portEnable u else s.portDisable u)

/-- CLM_CMD (R300, R302). -/
def State.claimCmd (s : State) (p : Path) (v : Nat) : Status × State :=
  if ¬ bitAt v 3 then (.ok, s)
  else
    let e := bits v 16 12
    match bits v 0 3 with
    | 1 => trustedOnly p s (.ok, s.setPrefix e (bits v 48 8))
    | 2 => if claimMay p (bits v 4 1) then (.ok, s.putClaim e (bits v 4 1) (bits v 32 16)) else (.privilege, s)
    | 3 => trustedOnly p s (.ok, s.queryClaim e)
    | 4 => trustedOnly p s (.ok, s.clearClaim e)
    | _ => trustedOnly p s (.ok, s)

/-- Twin and clasp (R302). -/
def State.twinWrite (s : State) (p : Path) (off v : Nat) : Option (Status × State) :=
  if off = 0x38 then
    some (if ¬ bitAt v 3 then (.ok, s)
      else match bits v 0 3 with
        | 1 => trustedOnly p s (.ok, (resultIn F.TWIN_RES_STATUS s.tresync).serve)
        | 2 => trustedOnly p s (.ok, resultIn F.TWIN_RES_STATUS s.handoverCmd)
        | 3 => if p = .mgmt then (.ok, (resultIn F.TWIN_RES_STATUS s.assume).serve) else (.privilege, s)
        | _ => trustedOnly p s (.ok, s))
  else if off = 0xC8 then some (s.claimCmd p v)
  else if off = 0x20 ∨ off = 0x28 ∨ (0xC0 ≤ off ∧ off ≤ 0xF8) then
    if p.trusted ∨ ¬ writable 0x22 0 off then none else some (.privilege, s)
  else none

/-- Three thresholds of one port that do not rise strictly take their reset values, all three (R201). -/
def State.risingOr (s : State) (ch : Nat) (a b c : Fld) : State :=
  if s.fld a ch < s.fld b ch ∧ s.fld b ch < s.fld c ch then s
  else ((s.setFld a ch a.reset).setFld b ch b.reset).setFld c ch c.reset

/-- The groups of expert fields of a memory channel that stand or fall together (R201): a group that breaks its order
takes its reset values. -/
def State.settleSched (s : State) (u off : Nat) : State :=
  if off = 0x8030 then
    let s := s.risingOr u F.MCX_PANIC_L1_FAB F.MCX_PANIC_L2_FAB F.MCX_PANIC_L3_FAB
    let s := s.risingOr u F.MCX_PANIC_L1_TWIN F.MCX_PANIC_L2_TWIN F.MCX_PANIC_L3_TWIN
    let s := s.risingOr u F.MCX_PANIC_L1_VAULT F.MCX_PANIC_L2_VAULT F.MCX_PANIC_L3_VAULT
    s.risingOr u F.MCX_PANIC_L1_FACET F.MCX_PANIC_L2_FACET F.MCX_PANIC_L3_FACET
  else if off = 0x8020 ∧ s.fld F.MCX_SCHED_WQ_HI u ≤ s.fld F.MCX_SCHED_WQ_LO u then
    (s.setFld F.MCX_SCHED_WQ_HI u F.MCX_SCHED_WQ_HI.reset).setFld F.MCX_SCHED_WQ_LO u F.MCX_SCHED_WQ_LO.reset
  else s

/-- Memory channels (R190, R201). -/
def State.channelWrite (s : State) (u off v : Nat) : Option (Status × State) :=
  if off = 0x8058 then
    let isWrite := bitAt v 0
    let target := bits (s.fld F.MCX_SB_ADDR u) 0 16
    let reg := bits (s.fld F.MCX_SB_ADDR u) 16 16
    let value := s.fld F.MCX_SB_DATA u
    if isWrite then some (s.sideband u ⟨target, reg, true, value, Config.pmicOutside target reg value⟩)
    else
      let n := s.draw
      some (n.2.sideband u ⟨target, reg, false, (Config.freeWord n.1).toNat % 2 ^ 32, false⟩)
  else if off = 0x30 then some (.ok, (s.writePlain 0x50 u off v).judgeTemp u)
  else if off = 0x8030 ∨ off = 0x8020 then some (.ok, (s.writePlain 0x50 u off v).settleSched u off)
  else none

/-- Bezel ECC and Scrubber (R222, R220). -/
def State.bezelWrite (s : State) (p : Path) (off v : Nat) : Option (Status × State) :=
  if off = 0x38 then
    some (if ¬ p.trusted then (.privilege, s)
      else if bitAt v 2 ∧ bits v 0 2 < 2 then s.retireCmd p (64 * bits v 6 44) (bits v 0 2 == 1)
      else (.ok, s))
  else if off = 0x48 then
    let s := s.writePlain 0x51 0 off v
    some (.ok, if s.srExists (s.fld F.BZ_MARK_SEL_INDEX) then s else s.setFld F.BZ_MARK_SEL_INDEX 0 0)
  else if off = 0x50 then
    some (trustedOnly p s (.ok,
      let i := s.markIdx (s.fld F.BZ_MARK_SEL_INDEX)
      if bitAt v 4 then s.setMark i (F.BZ_MARK_DEVICE.settle (bits v 0 4)) else s.clearMark i))
  else if off = 0x8028 then
    let t := s.writePlain 0x51 0 off v
    some (if ¬ t.injectOk (t.fld F.BZX_INJ_OFFSET) then (.privilege, s)
      else if bitAt v 57 then t.injectNow else (.ok, t))
  else none

/-- Chain sequencers (R60 to R63, R20, R352): at debug level D2 and above SEQX_HALT holds a sequencer, and SEQX_STEP lets
one that is stopped issue one link. -/
def State.seqWrite (s : State) (u off v : Nat) : Option (Status × State) :=
  if off = 0x38 ∧ u = 0 then some (.ok, if bitAt v 12 then s.install (bits v 0 12) else s)
  else if off = 0x8020 then
    if s.life.level < 2 then some (.ok, s)
    else
      let s := s.writePlain 0x70 u off v
      let s := { s with life := { s.life with
        halted := if bitAt v 0 then addNew s.life.halted u else s.life.halted.filter (fun x => x != u) } }
      let stands := match s.seq? u with | some x => s.debugStops u x | none => false
      some (.ok, ({ s with life := { s.life with
        steps := if bitAt v 1 && stands then addNew s.life.steps u else s.life.steps } }).judgeDiag)
  else none

/-- Command rings (R80, Table 3.8). -/
def State.ringWrite (s : State) (p : Path) (u off v : Nat) : Option (Status × State) :=
  if off = 0x30 then some (s.sqTail u (bits v 0 16))
  else if off = 0x48 then some (s.cqHead u (bits v 0 16))
  else if off = 0x60 then some (.ok, if bitAt v 16 then (s.abortTag u (bits v 0 16)).serve else s)
  else if off = 0x20 ∨ off = 0x28 ∨ off = 0x40 ∨ off = 0x58 then
    if p.trusted then some (.ok, (s.writePlain 0x71 u off v).serve) else some (.privilege, s)
  else none

/-- Tier manager (R328). -/
def State.tierWrite (s : State) (p : Path) (off v : Nat) : Option (Status × State) :=
  if ¬ p.trusted ∧ writable 0x81 0 off then some (.privilege, s)
  else if off = 0x48 then some (s.setNeigh v)
  else if off = 0x50 then some (.ok, s.setNeighKey (bits v 0 32))
  else if off = 0x58 then
    some (.ok, if ¬ bitAt v 3 then s
      else match bits v 0 3 with
        | 1 => resultIn F.TM_RES_STATUS (s.tmQuery (bits v 32 32))
        | 2 => (s.dropAll.setFld F.TM_RES_STATUS 0 0).serve
        | 3 => (resultIn F.TM_RES_STATUS s.reclaim).serve
        | _ => s)
  else none

/-- Key Store (R355, Table 14.12). KS_ENV is held for the next LOAD and reads zero. -/
def State.keyWrite (s : State) (p : Path) (off v : Nat) : Option (Status × State) :=
  if off = 0x28 then
    let n := bits v 16 16
    some (if ¬ bitAt v 3 then (.ok, s)
      else match bits v 0 3 with
        | 1 => (.ok, resultIn F.KS_RES_STATUS (s.ksLoad n (Config.tagOk s.ksEnv)))
        | 2 => (.ok, resultIn F.KS_RES_STATUS (s.ksSwap n))
        | 3 => (.ok, resultIn F.KS_RES_STATUS (.ok, (s.ksSlot n).eraseKeys n))
        | 4 => (.ok, resultIn F.KS_RES_STATUS (s.ksQuery n))
        | 5 => (.ok, resultIn F.KS_RES_STATUS s.ksReload)
        | 6 => if p = .mgmt then (.ok, resultIn F.KS_RES_STATUS (.ok, ((s.ksSlot n).eraseKeys n).deleteEnvs n))
               else (.privilege, s)
        | _ => (.ok, s))
  else if 0x38 ≤ off ∧ off < 0xB8 then
    some (.ok, s.setFld F.KS_ENV 0 v ((off - 0x38) / 8))
  else none

/-- Window Unit (R159): WIN_CMD, and the expert flush of the descriptor cache. -/
def State.windowWrite (s : State) (p : Path) (off v : Nat) : Option (Status × State) :=
  if off = 0x28 then
    some (trustedOnly p s (.ok, if bitAt v 3 then (s.winCommand p (bits v 0 3) (bits v 32 32)).serve else s))
  else if off = 0x80020 then
    let s := s.writePlain 0x30 0 off v
    some (.ok, if bitAt v 33 then { s with wins := { s.wins with cache := [] } } else s)
  else none

/-- CEX.KAT_RUN (R332, R355): the known-answer tests run again; whether one fails is a free value. -/
def State.katRun (s : State) : State :=
  let n := s.draw
  match Config.katFail n.1 with
  | some t => (n.2.setFld F.CE_STAT_KAT_OK 0 0).raise 0x90 0 4 0x01 (t % 256)
  | none => n.2.setFld F.CE_STAT_KAT_OK 0 1

/-- What a write of a register that acts does; none for a plain register. -/
def State.special (s : State) (p : Path) (cls u off v : Nat) : Option (Status × State) :=
  match cls with
  | 0x02 => s.coreWrite p off v
  | 0x03 => s.powerWrite p off v
  | 0x04 | 0x05 => s.keepWrite p cls off v
  | 0x06 => s.loupeWrite p off v
  | 0x07 => s.merWrite p off v
  | 0x08 => s.lifeWrite p off v
  | 0x10 => s.laneWrite u off v
  | 0x11 => s.portWrite u off v
  | 0x20 => if off = 0x40 then
      some (trustedOnly p s (.ok, if bitAt v 3 then (s.qpCommand (bits v 0 3) (bits v 4 20) (bits v 24 2)).serve else s))
    else none
  | 0x22 => s.twinWrite p off v
  | 0x30 => s.windowWrite p off v
  | 0x42 => if off = 0x20 then some (.ok, (s.lkEnable (bitAt v 0)).serve) else none
  | 0x50 => s.channelWrite u off v
  | 0x51 => s.bezelWrite p off v
  | 0x60 => if off = 0x28 then some (s.budgetCmd p (bits v 0 7))
    else if off = 0x50 then
      some (if ¬ p.trusted then (.privilege, s)
        else if bitAt v 2 then s.restoreCmd p (s.settleFld 0x60 F.VLT_RESTORE_TARGET_KIND 0 (bits v 0 2)) (bits v 24 40)
        else (.ok, s.writePlain 0x60 0 off v))
    else none
  | 0x70 => s.seqWrite u off v
  | 0x71 => s.ringWrite p u off v
  | 0x80 => if off = 0x20 then some (.ok, (s.engineEnable u (bitAt v 0)).serve) else none
  | 0x81 => s.tierWrite p off v
  | 0x90 => if off = 0x80028 then some (.ok, if bitAt v 0 then s.katRun else s) else none
  | 0x91 => s.keyWrite p off v
  | _ => none

/-! ## One access -/

/-- The status of an access that is not whole and aligned (R10), by path. -/
def misaligned (p : Path) : Status :=
  match p with
  | .mgmt => .illegalLink
  | .firmware => .privilege
  | .fabric _ => .windowBounds
  | .chain => .illegalLink

/-- The unit and offset that a path reaches at an address, and whether it is an expert register that this path may use now
(R49, R50, R55, R56, R58). -/
def State.reach? (s : State) (p : Path) (addr : Nat) : Except Status (Blk × Nat × Nat × Bool) :=
  if addr % 8 ≠ 0 then .error (misaligned p)
  else match locate addr with
    | none => .error .privilege
    | some (b, u, off) =>
      if ¬ pathMay p b.cls ∨ s.core.fusedOff.contains b.cls then .error .privilege
      else if b.expert ≠ 0 ∧ b.expert ≤ off then
        if s.expertOk p b.cls u then .ok (b, u, off, true) else .error .privilege
      else .ok (b, u, off, false)

/-- A write of one register (R50, R51). A class that the image has switched off takes none (Table 2.3). -/
def State.ctlWrite (s : State) (p : Path) (addr v : Nat) : Status × State :=
  match s.reach? p addr with
  | .error st => (st, s)
  | .ok (b, u, off, expert) =>
    let s := if expert then s.expertUsed b.cls u else s
    if s.core.cfgOff.contains b.cls then (.privilege, s)
    else if b.cls = 0x01 then (.ok, s)
    else if off = 0x08 then s.xacc p b.cls u v
    else if off = 0x18 then s.fctl p b.cls u v
    else match s.special p b.cls u off v with
      | some r => r
      | none => (.ok, s.writePlain b.cls u off v)

/-- May a path read this Loupe counter (R398)? -/
def State.counterMay (s : State) (p : Path) (off : Nat) : Bool :=
  if 0x1000 ≤ off ∧ off < 0x5000 then
    match bankOfCounter ((off - 0x1000) / 8 % 1024), p with
    | some (_, b), .fabric _ => bitAt (s.fld F.LP_PERM_BANKS) (2 * b)
    | some (_, b), .chain => bitAt (s.fld F.LP_PERM_BANKS) (2 * b + 1)
    | _, _ => true
  else true

/-- A read of one register (R50): no side effect but the latch of MER_TIME_S, which the next read of
MER_TIME_F on its path takes (R255), and the restart of the 10 s (R59). -/
def State.ctlRead (s : State) (p : Path) (addr : Nat) : Status × Nat × State :=
  match s.reach? p addr with
  | .error st => (st, 0, s)
  | .ok (b, u, off, expert) =>
    let s := if expert then s.expertUsed b.cls u else s
    if b.cls = 0x06 ∧ ¬ s.counterMay p off then (.privilege, 0, s)
    else if b.cls = 0x04 ∧ 0x1000 ≤ off ∧ off < 0x2000 ∧
        ¬ s.kf.idle (kfBank ((s.fld F.KF_RWIN_ADDR * 4096 + (off - 0x1000)) / 65536)) then (.busy, 0, s)
    else
      let v := s.readReg p b.cls u off
      let s := if b.cls = 0x07 ∧ off = 0x20 then s.latchTime p
        else if b.cls = 0x07 ∧ off = 0x28 then s.unlatchTime p else s
      (.ok, v, s)

/-! ## Register commands -/

/-- BLK_XACC_WRITE (R58). The Hallmark Table has no such register: what lies there is RO, and a write of it is ignored
(R44, R57). -/
def rowBlkXaccWrite (p : Path) (cls u : Nat) (v : W64) (s : State) : Res :=
  onUnit cls u <|
    (if cls = 0x01 then ends p (.ok, s)
     else if pathMay p cls then ends p (s.xacc p cls u v.toNat) else ends p (.privilege, s))

/-- EXPERT_IDLE_CLOSE (R59). -/
def execExpertIdleClose (cls u : Nat) (s : State) : Res :=
  onCommon cls u <|
    match SMap.look s.xlast (unitKey cls u) with
    | none => .next s
    | some t =>
      let s := s.reachLocal (t + 10 * second)
      let s := (s.setFldOf cls F.BLK_XACC_OPEN u 0).setFldOf cls F.BLK_XACC_HOLDER u 0
      .next { s with xlast := SMap.del s.xlast (unitKey cls u) }

/-- BUDGET_LIMIT_WRITE (R231). -/
def rowBudgetLimitWrite (p : Path) (gib : Nat) (s : State) : Res :=
  ends p (s.budgetCmd p (gib % 128))

/-- RESTORE_GO (R249, R251, Table 10.9). -/
def rowRestoreGo (p : Path) (kind e : Nat) (s : State) : Res :=
  ends p (s.restoreCmd p (s.settleFld 0x60 F.VLT_RESTORE_TARGET_KIND 0 kind) e)

/-! ## Management datagrams (R52 to R54) -/

/-- Classes that an unsealed datagram reaches in BLANK, and any datagram in ROM_RECOVERY (R53, R413). -/
def openClasses : List Nat := [0x01, 0x02, 0x04, 0x08]

/-- Is the management port powered and served? -/
def State.mgmtLive (s : State) : Bool := !s.core.inReset && s.pow.state != .p4

/-- Is a datagram taken (R53)? From PROVISIONED on, only a sealed one that verifies under slot 0. -/
def State.mgmtTakes (s : State) (m : Mgmt) : Bool :=
  if m.sealing then m.tagOk && (s.slot 0).active.isSome else s.life.state == .blank

/-- Is an address open to this datagram (R53, R413)? -/
def State.mgmtMay (s : State) (m : Mgmt) (addr : Nat) : Bool :=
  if m.sealing ∧ s.fld F.BT_STAT_STATE ≠ 1 then true
  else match locate addr with
    | some (b, _, _) => openClasses.contains b.cls
    | none => false

/-- Answer a datagram: the response is sealed as the request was, kept for a repeat of its TAG, and sent unless the port has
fallen silent. -/
def State.mgmtAnswer (s : State) (m : Mgmt) (st : Status) (n : Nat) (data : List Nat) : State :=
  if ¬ s.mgmtLive then s
  else
    let s := if m.sealing then (s.sealUse 0).2 else s
    let r : MgmtResp := ⟨m.tag, m.addr, st, n, data⟩
    ({ s with replay := (r :: s.replay).take 64 }).emit (.mgmt m.tag m.addr st.code n data)

/-! ## Accesses over several registers (R51) -/

/-- The path of such an access. -/
def CtlBy.path (b : CtlBy) : Path := match b with | .datagram _ => .mgmt | .request p _ _ => p

/-- The access ends with a status: the datagram is answered, the request has no register left to wait for. -/
def State.jobEnds (s : State) (j : CtlJob) (st : Status) : State :=
  match j.by_ with
  | .datagram m => s.mgmtAnswer m st j.done j.got.reverse
  | .request _ i _ => (if st = .ok then s else s.opMeets i st).modOp i (fun o => { o with reads := o.reads - 1 })

/-- May the access reach its next register? -/
def State.jobMay (s : State) (j : CtlJob) : Bool := match j.by_ with | .datagram m => s.mgmtMay m j.addr | _ => true

/-- A register is done; the access goes on, or ends with its last one. -/
def State.jobNext (s : State) (j : CtlJob) (n : Nat) : State × Option CtlJob :=
  let j := { j with addr := j.addr + 8, left := n, vals := j.vals.drop 1, done := j.done + 1 }
  if n = 0 then (s.jobEnds j .ok, none) else (s, some j)

/-- The next register of an access (R51); the first that fails ends it (R52). -/
def State.jobStep (s : State) (j : CtlJob) : State × Option CtlJob :=
  match j.left with
  | 0 => (s.jobEnds j .ok, none)
  | n + 1 =>
    if ¬ s.jobMay j then (s.jobEnds j .privilege, none)
    else if j.wr then
      match s.ctlWrite j.by_.path j.addr (j.vals.headD 0) with
      | (.ok, s) => s.jobNext j n
      | (st, s) => (s.jobEnds j st, none)
    else match s.ctlRead j.by_.path j.addr with
      | (.ok, v, s) =>
        match j.by_ with
        | .datagram _ => s.jobNext { j with got := v :: j.got } n
        | .request _ i at_ =>
          (s.modOp i (fun o => { o with data := overPatch o.data (patchAt (at_ + 8 * j.done) (leBytes 8 v)) })).jobNext j n
      | (st, _, s) => (s.jobEnds j st, none)

/-- An access that is not over waits for its next turn, unless a reset has ended it. -/
def State.jobWaits (r : State × Option CtlJob) : State :=
  match r with
  | (s, some j) => if s.mgmtLive then { s with jobs := s.jobs ++ [j] } else s
  | (s, none) => s

/-- The rest of an access, register by register. -/
def State.jobRest : Nat → State → CtlJob → State
  | 0, s, _ => s
  | n + 1, s, j => match s.jobStep j with
    | (s, some j) => State.jobRest n s j
    | (s, none) => s

/-- Accesses of a path take effect in the order in which it issued them (R51): those under way end before a new one. -/
def State.finishPath (s : State) (p : Path) : State :=
  if s.jobs.all (fun j => !j.by_.path.same p) then s
  else
    (s.jobs.filter (fun j => j.by_.path.same p)).foldl (fun (t : State) j => State.jobRest j.left t j)
      { s with jobs := s.jobs.filter (fun j => !j.by_.path.same p) }

/-- An access starts: it takes its first register, and the others one at a time as the arbiter gives them turns, so that
accesses of other paths may come between (log entry 106). -/
def State.startJob (s : State) (j : CtlJob) : State := State.jobWaits ((s.finishPath j.by_.path).jobStep j)

/-- The arbiter's next turn: the access that has waited longest takes one register. -/
def State.jobTurn (s : State) : State :=
  match s.jobs with
  | [] => s
  | j :: rest => (State.jobWaits ({ s with jobs := rest }.jobStep j)).serve

/-- Registers written or read by a request of the fabric or of a chain (R55, R72). -/
def State.ctlWrites (s : State) (p : Path) (i : Nat) (bs : List Byte) (addr n : Nat) : State :=
  (s.modOp i (fun o => { o with reads := o.reads + 1 })).startJob
    ⟨.request p i 0, true, addr, n, (chunks 8 bs).map leNat, [], 0⟩
def State.ctlReads (s : State) (p : Path) (i pos addr n : Nat) : State :=
  (s.modOp i (fun o => { o with reads := o.reads + 1 })).startJob ⟨.request p i pos, false, addr, n, [], [], 0⟩

/-! ## Datagrams -/

/-- A datagram arrives: discarded, answered from the store, or performed. A TAG that repeats keeps its place among the 64
(log entry 107). -/
def State.mgmtRun (s : State) (m : Mgmt) (k : State → State) : State :=
  if ¬ (s.mgmtLive && s.mgmtTakes m) then s
  else
    let s := s.finishPath .mgmt
    match s.replay.find? (fun r => r.tag == m.tag) with
    | some r => (if m.sealing then (s.sealUse 0).2 else s).emit (.mgmt m.tag r.addr r.status.code r.count r.data)
    | none => k s

/-- Is the request well formed (R52)? -/
def badDatagram (m : Mgmt) : Bool := m.count == 0 || decide (64 < m.count) || m.addr % 8 != 0

/-- MGMT_READ (R52). -/
def execMgmtRead (m : Mgmt) (s : State) : Res :=
  .next (s.mgmtRun m (fun s =>
    if badDatagram m then s.mgmtAnswer m .illegalLink 0 []
    else s.startJob ⟨.datagram m, false, m.addr, m.count, [], [], 0⟩))

/-- MGMT_WRITE (R52). A datagram whose data do not make up COUNT registers is answered like one with a wrong COUNT (DESIGN
CHOICE, log entry 108). -/
def execMgmtWrite (m : Mgmt) (s : State) : Res :=
  .next (s.mgmtRun m (fun s =>
    if badDatagram m || m.data.length != m.count then s.mgmtAnswer m .illegalLink 0 []
    else s.startJob ⟨.datagram m, true, m.addr, m.count, m.data.map BitVec.toNat, [], 0⟩))

/-- MGMT_DATAGRAM_MALFORMED (R52): another OP, a COUNT of 0 or above 64, a misaligned address. -/
def execMgmtDatagramMalformed (op : Nat) (m : Mgmt) (s : State) : Res :=
  if (op = 1 ∨ op = 2) ∧ ¬ badDatagram m then .next s else .next (s.mgmtRun m (fun s => s.mgmtAnswer m .illegalLink 0 []))

/-! ## A command that names a register (R51) -/

/-- REG_WRITE (R50). -/
def execRegWrite (p : Path) (addr : Nat) (v : W64) (s : State) : Res :=
  ends p ((s.finishPath p).ctlWrite p addr v.toNat)

/-- A path reaches a class with a register command: earlier accesses of the path end first (R51), and units that are
switched off answer PRIVILEGE (Table 2.3). -/
def State.access (s : State) (cls : Nat) (p : Path) (k : State → Res) : Res :=
  let s := s.finishPath p
  if s.barred cls then ends p (.privilege, s) else k s

end Sys2Proof.Machine
end

