-- ==== Sys2Proof/Machine/Access.lean ====
section
/-! DEFINITION. What a request does with the range that its window names (R55, R152, R325): persistent memory, control space,
a command ring, the lend area. -/

namespace Sys2Proof.Machine

/-- The register of a ring unit behind a register offset of a ring window (Table 6.4). -/
def ringReg (off : Nat) : Option Nat :=
  match off with
  | 0x000 => some 0x30
  | 0x008 => some 0x38
  | 0x010 => some 0x48
  | 0x018 => some 0x50
  | 0x020 => some 0x60
  | 0x028 => some 0x68
  | _ => none

/-- The part of [a, a + n) that lies in [lo, hi): where it starts and its length. -/
def meetRange (a n lo hi : Nat) : Nat × Nat :=
  let b := max a lo
  (b, min (a + n) hi - b)

/-- Write bytes of a ring window (R152). -/
def State.ringPut (s : State) (p : Path) (i r off : Nat) (bs : List Byte) (key : Nat) : State :=
  match ringReg off with
  | some reg =>
    let x := s.ringWrite p r reg (leNat (bs.take 8))
    (match x with
     | some (.ok, s) => s
     | some (st, s) => s.opMeets i st
     | none => s)
  | none => s.writeRange i (s.sqBase r + (off - 0x1000)) bs key

/-- Read bytes of a ring window (R152); padding and reserved offsets read zero. -/
def State.ringGet (s : State) (p : Path) (i r off len pos : Nat) : State :=
  if off < 0x1000 then
    match ringReg off with
    | some reg => s.modOp i (fun o => { o with data := overPatch o.data (patchAt pos (leBytes 8 (s.readReg p 0x71 r reg))) })
    | none => s
  else
    let n := s.ringSize r
    let a := meetRange off len 0x1000 (0x1000 + 64 * n)
    let c0 := 0x1000 + s.ringS r
    let b := meetRange off len c0 (c0 + 32 * n)
    let s := if 0 < a.2 then s.readRange i (s.sqBase r + (a.1 - 0x1000)) a.2 (pos + (a.1 - off)) else s
    if 0 < b.2 then s.readRange i (s.cqBase r + (b.1 - c0)) b.2 (pos + (b.1 - off)) else s

/-- Write bytes at a place of a target, for request i under a window key. -/
def State.putTarget (s : State) (p : Path) (i : Nat) (t : Target) (at_ : Nat) (bs : List Byte) (key : Nat) : State :=
  match t with
  | .mem off => s.writeRange i (off + at_) bs key
  | .control addr => s.ctlWrites p i bs (addr + at_) (bs.length / 8)
  | .ring r off => s.ringPut p i r (off + at_) bs key
  | .lend off => { s with tiers := { s.tiers with lend := putBytes 0 s.tiers.lend (off + at_) bs } }

/-- Read len bytes of a target into the result of request i, from position pos. A parity error of the lend area is a free value
(R325). -/
def State.getTarget (s : State) (p : Path) (i : Nat) (t : Target) (len : Nat) (pos : Nat := 0) : State :=
  match t with
  | .mem off => s.readWin i off len pos
  | .control addr => s.ctlReads p i pos addr (len / 8)
  | .ring r off => s.ringGet p i r off len pos
  | .lend off =>
    let n := s.draw
    if Config.girdleParity n.1 then (n.2.opMeets i .uncorrectable).raise 0x81 0 1 0x01
    else s.modOp i (fun o => { o with data := overPatch o.data (patchAt pos (bytesAt s.tiers.lend 0 off len)) })

/-- The kind of request that a target makes of a read or a write: one that touches no persistent memory waits for nothing. -/
def Target.kindOf (t : Target) (k : OpKind) : OpKind :=
  match t with
  | .mem _ => k
  | .ring _ _ => k
  | _ => .control

/-- The level a request waits for: its own, else its QP's, else Twinned (Tables 5.2, 5.7). -/
def Qp.levelFor (q : Qp) (l : Nat) : Nat := if l ≠ 0 then l else if q.level ≠ 0 then q.level else 2

end Sys2Proof.Machine
end

