-- ==== Sys2Proof/Machine/Receive.lean ====
section
/-! DEFINITION. The receiving side of NRT (chapter 5): the checks of a packet, context cache and park buffer (R131, R132),
selective repeat (R126, R127), credits (R123 to R125), acknowledgements (R129, R130), delivery of requests (R128, R149), the
responses to the controller's own requests, and the timers. -/

namespace Sys2Proof.Machine

/-! ## Requests of the peer -/

/-- The message of a request packet on QP n, noted when its first packet is delivered. -/
def State.noteMsg (s : State) (n : Nat) (k : Pkt) (ver : Nat) : State :=
  let q := s.qp n
  if q.rx.any (fun (m : RxMsg) => m.msg == k.msg) ∨ serialLater 32 q.rcvMsg k.msg then s
  else
    let x := k.reqx.getD ⟨0, 0, 0, 0, 0, 0, 0⟩
    s.setQp n { q with rx := q.rx ++ [⟨k.msg, k.typ, none, k.signal, false, none, ver, q.levelFor x.level, x.length⟩] }

/-- Change a message of QP n. -/
def State.modRx (s : State) (n msg : Nat) (f : RxMsg → RxMsg) : State :=
  s.modQp n (fun q => { q with rx := q.rx.map (fun (m : RxMsg) => if m.msg = msg then f m else m) })

/-- A message other than WRITE ends at once with a status: its response waits for MSG order. -/
def State.endsNow (s : State) (n msg : Nat) (st : Status) : State :=
  s.modRx n msg (fun m => { m with ended := true, resp := some (st, 0, 0, []) })

/-- The request of a WRITE message, made with its first packet; a packet of a message that has already ended has one of its
own. -/
def State.msgOp (s : State) (n msg len level : Nat) : Nat × State :=
  match (s.qp n).rx.find? (fun (m : RxMsg) => m.msg == msg) with
  | some m =>
    (match m.op with
     | some i => (i, s)
     | none =>
       let r := s.newOp (.nrt n msg) .write level len
       (r.1, r.2.modRx n msg (fun m => { m with op := some r.1 })))
  | none => s.newOp (.nrt n msg) .write level len

/-- Bytes of a WRITE message have been handed over: the whole message, or a failure, leaves nothing to come. -/
def State.gotBytes (s : State) (i n len : Nat) : State :=
  s.modOp i (fun o => let g := o.got + n; { o with got := g, issued := o.issued || decide (len ≤ g) || o.status.isFailure })

/-- A WRITE packet at the window stage (R115, R149, R150). -/
def State.runWrite (s : State) (n : Nat) (k : Pkt) (x : ReqX) : State :=
  let q := s.qp n
  let r := s.msgOp n k.msg x.length (q.levelFor x.level)
  let i := r.1
  let s := r.2
  let v := s.winCheck (.host q.kind q.keySlot) .write x.wkey x.offset x.length
  let s := s.winTold v
  match v with
  | .error .windowRevoked => s.failQp n 1 Status.windowRevoked.code
  | .error st => (s.opMeets i st).gotBytes i k.data.length x.length
  | .ok (_, t) =>
    if x.length < x.moff + k.data.length then (s.opMeets i .windowBounds).gotBytes i k.data.length x.length
    else
      let s := s.modOp i (fun o => { o with kind := t.kindOf .write })
      (s.putTarget (.fabric k.plane) i t x.moff k.data x.wkey).gotBytes i k.data.length x.length

/-- A READ_REQ at the window stage (R128). -/
def State.runRead (s : State) (n : Nat) (k : Pkt) (x : ReqX) : State :=
  let q := s.qp n
  let v := s.winCheck (.host q.kind q.keySlot) .read x.wkey x.offset x.length
  let s := s.winTold v
  match v with
  | .error .windowRevoked => s.failQp n 1 Status.windowRevoked.code
  | .error st => s.endsNow n k.msg st
  | .ok (_, t) =>
    let r := s.newOp (.nrt n k.msg) (match t with | .mem _ => .read | .ring _ _ => .read | _ => .control) 1 x.length
    let s := r.2.modRx n k.msg (fun m => { m with op := some r.1 })
    (s.getTarget (.fabric k.plane) r.1 t x.length).modOp r.1 (fun o => { o with issued := true })

/-- An ATOMIC at the window stage (R177): 8 bytes at its OFFSET. -/
def State.runAtomic (s : State) (n : Nat) (k : Pkt) (x : ReqX) : State :=
  let q := s.qp n
  if 8 ≤ x.atop then s.endsNow n k.msg .illegalLink
  else
    let v := s.winCheck (.host q.kind q.keySlot) .atomic x.wkey x.offset (max 8 x.length)
    let s := s.winTold v
    match v with
    | .error .windowRevoked => s.failQp n 1 Status.windowRevoked.code
    | .error st => s.endsNow n k.msg st
    | .ok (_, .mem off) =>
      let r := s.newOp (.nrt n k.msg) .atomic (q.levelFor x.level) 8
      let s := r.2.modRx n k.msg (fun m => { m with op := some r.1 })
      (s.atomicAt r.1 off x.atop (leNat (k.data.take 8)) (leNat ((k.data.drop 8).take 8)) x.wkey n).modOp r.1
        (fun o => { o with issued := true })
    | .ok _ => s.endsNow n k.msg .windowRights

/-- A PERSIST at the transport stage (R114). -/
def State.runPersist (s : State) (n : Nat) (k : Pkt) (x : ReqX) : State :=
  if x.wkey ≠ 0 ∨ x.offset ≠ 0 ∨ x.length ≠ 0 then s.endsNow n k.msg .windowBounds else s

/-- The request extension of a packet. -/
def extOf (k : Pkt) : ReqX := k.reqx.getD ⟨0, 0, 0, 0, 0, 0, 0⟩

/-- A request of QP n whose window check is made now; from the early warning on only reads go on (R135). -/
def State.windowStage (s : State) (n : Nat) (k : Pkt) : State :=
  let x := extOf k
  let s := s.winTouch (keyIdx x.wkey)
  if (s.qp n).st ≠ 2 ∨ (s.pow.warn ∧ k.typ ≠ 0x02) then s
  else if k.typ = 0x01 then s.runWrite n k x
  else if k.typ = 0x02 then s.runRead n k x
  else s.runAtomic n k x

/-- A delivered request of QP n at its window stage. One whose descriptor is not cached waits for it (R151), and later ones of the
QP wait behind it (R164). -/
def State.runRequest (s : State) (n : Nat) (k : Pkt) : State :=
  let x := extOf k
  let idx := keyIdx x.wkey
  if (s.qp n).st ≠ 2 ∨ (s.pow.warn ∧ k.typ ≠ 0x02) then s
  else if k.typ = 0x04 then s.runPersist n k x
  else if k.typ = 0x03 ∧ 8 ≤ x.atop then s.endsNow n k.msg .illegalLink
  else if s.winBehind n ∨ ¬ s.winReady idx then s.winWait idx (.nrt k)
  else s.windowStage n k

/-- A WRITE packet of a twin QP: its records wait for MSG order (R284, R285). -/
def State.runRecords (s : State) (n : Nat) (k : Pkt) : State :=
  match s.roleOf n with
  | none => s
  | some r =>
    let x := s.newOp (.record r k.msg) .write 1 k.data.length
    let s := x.2.modRx n k.msg (fun m => { m with op := some x.1 })
    s.twinDeliver r k.msg (recordsOf k.msg k.data)

/-- A request is delivered. -/
def State.deliver (s : State) (n : Nat) (k : Pkt) : State :=
  if (s.qp n).kind = 1 then s.runRecords n k else s.runRequest n k

/-! ## Selective repeat (R126 to R128) -/

/-- How far a PSN lies above RCV_NXT. -/
def Qp.ahead (q : Qp) (psn : Nat) : Nat := (psn + 2 ^ 32 - q.rcvNxt % 2 ^ 32) % 2 ^ 32

/-- Has every lower PSN been delivered, those discarded at the early warning counting as delivered (R128, R135)? -/
def Qp.allBelow (q : Qp) (psn : Nat) : Bool :=
  let d := q.ahead psn
  decide (2 ^ 31 ≤ d) || (List.range d).all (fun i =>
    let p := (q.rcvNxt + i) % 2 ^ 32
    q.rcvd.contains p || q.lost.contains p)

/-- May a request that waits for lower PSNs be delivered now: none of its kind with a lower PSN still waits either? -/
def Qp.mayDeliver (q : Qp) (psn : Nat) : Bool :=
  q.allBelow psn && !q.orderq.any (fun (k : Pkt) => serialLater 32 psn k.psn)

/-- RCV_NXT passes every contiguous received PSN. -/
def advanceRcv : Nat → Nat → List Nat → Nat × List Nat
  | 0, p, l => (p, l)
  | fuel + 1, p, l => if l.contains p then advanceRcv fuel ((p + 1) % 2 ^ 32) (l.erase p) else (p, l)

/-- Mark a PSN received (R126, R129): true when the packet came out of order or filled a hole. -/
def Qp.mark (q : Qp) (psn now : Nat) : Bool × Qp :=
  let odd := psn ≠ q.rcvNxt ∨ ¬ q.rcvd.isEmpty
  let r := advanceRcv (q.rcvd.length + 2) q.rcvNxt (psn :: q.rcvd)
  (odd, { q with rcvNxt := r.1, rcvd := r.2, ackCount := q.ackCount + 1, ackSince := q.ackSince.or (some now) })

/-- Requests in the order queue, over all QPs (R128). -/
def State.orderUsed (s : State) : Nat := s.tr.qps.foldl (fun n p => n + p.2.orderq.length) 0

/-- Extension maps in use (R127). -/
def State.extMaps (s : State) : Nat := (s.tr.qps.filter (fun p => p.2.extended)).length

/-! ## Credits (R123 to R125) -/

/-- Credit units of a request packet (Table 5.4). -/
def pktCost (k : Pkt) : Nat := if k.typ = 0x01 then ceilDiv k.data.length 256 else 1

/-- Bytes that the dirty budget holds. -/
def State.heldBytes (s : State) : Nat :=
  ((s.pipe.waits.filter s.heldOp).map (fun w => w.2.size)).sum

/-- Units of the ingress buffer that packets occupy: those parked, at the cipher stage, at the window stage, in the order queue and
held for the budget (R124, log entry 39). -/
def State.ingressUsed (s : State) : Nat :=
  ((s.tr.parked ++ s.cipher.rx).map pktCost).sum +
    s.wins.waiting.foldl (fun n w => match w.2 with | .nrt k => n + pktCost k | _ => n) 0 +
    s.tr.qps.foldl (fun n p => p.2.orderq.foldl (fun n (k : Pkt) => n + pktCost k) n) 0 + ceilDiv s.heldBytes 256

/-- Units of the ingress buffer: 32 MiB. -/
def ingressUnits : Nat := 131072

/-- Grants outstanding over all READY QPs. -/
def State.grantsOut (s : State) : Nat :=
  s.tr.qps.foldl (fun n p => if p.2.st = 2 then n + (p.2.credGrant + 2 ^ 32 - p.2.credSeen) % 2 ^ 32 else n) 0

/-- Grant credit to QP n up to its window W (R124): beyond the initial grant only while the grants fit in the free part of the
ingress buffer, and none while credit is withheld (R125). -/
def State.grant (s : State) (n : Nat) : State :=
  let q := s.qp n
  let t := (q.credSeen + q.w) % 2 ^ 32
  let more := (t + 2 ^ 32 - q.credGrant % 2 ^ 32) % 2 ^ 32
  if s.withheld n ∨ ¬ serialLater 32 t q.credGrant then s
  else if s.grantsOut + more + s.ingressUsed ≤ ingressUnits then s.setQp n { q with credGrant := t }
  else s

/-- A CE-marked packet (R124, R129): told to the peer; W halves, down to 32 units, at most once per RTO. -/
def State.congested (s : State) (n : Nat) : State :=
  let s := s.count 0x20 0 11
  s.modQp n (fun q =>
    let due := match q.halvedAt with | some t => decide (t + us q.rto ≤ s.mono) | none => true
    { q with ceSeen := true, growAt := s.mono,
             w := if due then max 32 (q.w / 2) else q.w, halvedAt := if due then some s.mono else q.halvedAt })

/-! ## Acknowledgements received (R129, R130, R133) -/

/-- Does a SACK mark PSN p received? -/
def sackHas (x : AckX) (p : Nat) : Bool :=
  let d := (p + 2 ^ 32 - x.ackPsn % 2 ^ 32) % 2 ^ 32
  decide (1 ≤ d ∧ d ≤ 8 * x.sackLen) && bitAt x.sack (d - 1)

/-- Does a SACK mark a PSN above p received? -/
def sackAbove (x : AckX) (p : Nat) : Bool :=
  (List.range (8 * x.sackLen)).any (fun i => bitAt x.sack i && serialLater 32 (x.ackPsn + 1 + i) p)

/-- What the controller's own messages served is done once the peer has ended them (R179, R292, R297). A request whose
response is still to come waits for it. -/
def State.ownDone (s : State) (n : Nat) (r : Option Nat) (m : OwnMsg) : State :=
  match m.what with
  | .forward ws termEnd =>
    let s := s.ackWrites ws
    if termEnd then
      match r with
      | some r =>
        let left := s.twin.endSent.filter (fun x => !(x.1 == r && x.2 == m.msg))
        let s := { s with twin := { s.twin with endSent := left } }
        if left.isEmpty ∧ ¬ s.twin.endAcked then ({ s with twin := { s.twin with endAcked := true } }).setOutcome 1 else s
      | none => s
    else s
  | .resync g => s.regionDone g
  | _ => let _ := n; s

/-- Does a message wait for its response rather than for CMPL_MSG? -/
def OwnMsg.awaits (m : OwnMsg) : Bool := match m.what with | .op _ => true | .neighbour _ => true | _ => false

/-- An acknowledgement extension of a verified packet of QP n. -/
def State.acked (s : State) (n : Nat) (x : AckX) : State :=
  let q := s.qp n
  let passed := serialLater 32 x.ackPsn q.sndUna && serialLe 32 x.ackPsn q.sndNxt
  let una := if passed then x.ackPsn else q.sndUna
  let q := { q with
    sndUna := una, backoff := if passed then 0 else q.backoff, progressAt := if passed then s.mono else q.progressAt,
    sent := q.sent.filter (fun (p : SentPkt) => serialLe 32 una p.psn && !sackHas x p.psn),
    credPeer := if serialLater 32 x.creditLimit q.credPeer then x.creditLimit else q.credPeer,
    waitSince := if x.hold then q.waitSince.map (fun _ => s.mono) else q.waitSince }
  let s := s.setQp n q
  let holes := q.sent.filter (fun (p : SentPkt) => sackAbove x p.psn &&
    (match p.fastAt with | some t => decide (t + us q.rto ≤ s.mono) | none => true))
  let s := holes.foldl (fun (t : State) p => (t.count 0x20 0 3).resend n p true) s
  let gone (m : OwnMsg) : Bool := serialLater 32 x.cmplMsg m.msg && !m.awaits
  let done := (s.qp n).own.filter gone
  let s := s.modQp n (fun q => { q with own := q.own.filter (fun m => !gone m) })
  let s := done.foldl (fun (t : State) m => t.ownDone n (s.roleOf n) m) s
  s.pump n

/-- An acknowledgement that goes out at once; a follower whose self-diagnosis fails sends none to its twin (Table 12.9). -/
def State.ackNow (s : State) (n : Nat) : State :=
  if (s.qp n).kind = 1 ∧ ¬ (s.twin.diagOk ∨ s.twin.holding) then s else s.sendAck n

/-! ## Responses received on outbound QPs -/

/-- A response to one of the controller's own requests. -/
def State.takeResponse (s : State) (n : Nat) (k : Pkt) : State :=
  match (s.qp n).own.find? (fun (m : OwnMsg) => m.msg == k.msg) with
  | none => s
  | some m =>
    let st := (Status.ofCode k.status).getD .internal
    let got := m.got + k.data.length
    let last := if k.typ = 0x10 then st.isFailure || decide (m.len ≤ got) else true
    let s := s.modQp n (fun q => { q with own := q.own.filterMap (fun (y : OwnMsg) =>
      if y.msg = k.msg then (if last then none else some { y with got := got }) else some y) })
    match m.what with
    | .op i =>
      s.modOp i (fun o =>
        let o := { o with status := o.status.meet st }
        let o := if k.typ = 0x10 then { o with data := overPatch o.data (patchAt k.roff k.data) }
          else if k.typ = 0x11 then { o with data := overPatch o.data (patchAt 0 (k.data.take 8)) }
          else
            let w := leNat (k.data.take 8)
            { o with hiEpoch := if bits w 40 2 = 0 then none else some (bits w 0 40), level := bits w 40 2 }
        if last then { o with reads := 0, issued := true } else o)
    | .neighbour i => if last then s.neighbourFilled i st else s
    | _ => s

/-! ## A packet of a cached context -/

/-- Has the PSN of a packet been received before (R126)? -/
def Qp.duplicate (q : Qp) (psn : Nat) : Bool := decide (2 ^ 31 ≤ q.ahead psn) || q.rcvd.contains psn

/-- Does a PSN lie outside what the receiver can mark (R126, R127)? -/
def State.outOfWindow (s : State) (n psn : Nat) : Bool :=
  let q := s.qp n
  !q.duplicate psn &&
  decide (4096 ≤ q.ahead psn ∨ (512 < q.ahead psn ∧ q.extended = false ∧ 4096 ≤ s.extMaps))

/-- Is there no credit for a request packet (Table 1.2): has the peer more than it was granted? -/
def Qp.overdrawn (q : Qp) (k : Pkt) : Bool :=
  !isResponse k.typ && !q.duplicate k.psn && !serialLe 32 (q.credSeen + pktCost k) q.credGrant

/-- A PERSIST whose WKEY, OFFSET or LENGTH is not 0 (R114): it waits for nothing. -/
def badPersist (k : Pkt) : Bool := k.typ == 0x04 && ((extOf k).wkey != 0 || (extOf k).offset != 0 || (extOf k).length != 0)

/-- A PSN-bearing packet of a READY QP (R126 to R128, R135): true when an acknowledgement goes at once. -/
def State.takePsn (s : State) (n : Nat) (k : Pkt) (ver : Nat) : Bool × State :=
  let q := s.qp n
  let req := !isResponse k.typ
  if q.duplicate k.psn then (true, s.count 0x20 0 5)
  else if s.outOfWindow n k.psn then (false, s.count 0x20 0 6)
  else if q.overdrawn k then (false, s)
  else if req ∧ s.pow.warn ∧ k.typ ≠ 0x02 then
    (false, s.setQp n { q with lost := if q.lost.contains k.psn then q.lost else k.psn :: q.lost })
  else if req ∧ ingressUnits < s.ingressUsed + pktCost k then (false, s.count 0x20 0 17)
  else
    let now := k.typ = 0x01 ∨ ¬ req ∨ badPersist k ∨ q.mayDeliver k.psn
    if ¬ now ∧ 16384 ≤ s.orderUsed then (false, s.count 0x20 0 10)
    else
      let r := q.mark k.psn s.mono
      let q := if req then { r.2 with credSeen := (r.2.credSeen + pktCost k) % 2 ^ 32 } else r.2
      let q := if now then q else { q with orderq := q.orderq ++ [k] }
      let s := s.setQp n q
      let s := if req then (s.grant n).noteMsg n k ver else s
      (r.1, if ¬ req then s.takeResponse n k else if now then s.deliver n k else s)

/-- The types that a QP of a kind takes (Table 5.4, R117, R284). -/
def Qp.takes (q : Qp) (typ : Nat) : Bool :=
  match q.kind with
  | 0 => decide (1 ≤ typ ∧ typ ≤ 4)
  | 1 => typ == 1
  | 2 => isResponse typ
  | _ => false

/-- A verified packet of a READY QP. -/
def State.takeVerified (s : State) (n : Nat) (k : Pkt) (ver : Nat) : Bool × State :=
  let old := (s.qp n).rxCtr
  let fresh := old < k.nonce
  let s := s.modQp n (fun q => { q with rxCtr := max q.rxCtr k.nonce })
  let s := if k.ce then s.congested n else s
  if k.typ = 0x14 then
    if fresh then (false, (s.failQp n 5 k.status).settleTwin) else (false, s.count 0x20 0 16)
  else
    let s := match k.ackx with | some x => s.acked n x | none => s
    if k.typ = 0x13 then (false, s)
    else if (s.qp n).takes k.typ then s.takePsn n k ver
    else (false, s.count 0x20 0 16)

/-- A packet of QP n at the cipher stage (Table 1.2 stage 3, R343): it waits in line for a pipeline (R331), `line` telling whether
it has yet to join the line. True when an acknowledgement goes at once. -/
def State.cipherStage (s : State) (n : Nat) (k : Pkt) (line : Bool) : Bool × State :=
  let q := s.qp n
  if q.st ≠ 2 then (false, s)
  else if k.keySlot ≠ q.keySlot then (false, s.count 0x20 0 7)
  else match s.openWith k.keySlot k.keyVer with
    | .pending => (false, (s.bump F.CE_USE_STAGE).count 0x90 0 5)
    | .unknown => (false, s.count 0x20 0 7)
    | .ok ver =>
      if s.payload q < k.plen then (false, s.count 0x20 0 16)
      else if (line ∧ ¬ s.cipher.rx.isEmpty) ∨ ¬ s.mayPipe 0 then
        (false, { s with cipher := { s.cipher with rx := s.cipher.rx ++ [k] } })
      else
        let s := s.occupy 0 k.plen
        if k.tagOk then (s.count 0x90 0 1).takeVerified n k ver else (false, s.count 0x20 0 7)

/-- A packet whose context is on chip at the transport stage (Tables 1.2 and 5.5, R119): true when an acknowledgement goes at
once. -/
def State.takePacket (s : State) (k : Pkt) : Bool × State :=
  let n := k.dqp % 2 ^ 20
  let q := s.qp n
  let bearsPsn := k.typ ≠ 0x13 ∧ k.typ ≠ 0x14
  if q.st = 3 then
    let due := match q.errSentAt with | some t => decide (t + us q.rto ≤ s.mono) | none => true
    if 1 ≤ k.typ ∧ k.typ ≤ 4 ∧ due = true ∧ q.kind ≠ 3 then (false, s.sendError n Status.qpFlushed.code) else (false, s)
  else if q.st ≠ 2 ∨ q.kind = 3 then (false, s.count 0x20 0 16)
  else if bearsPsn ∧ s.outOfWindow n k.psn then (false, s.count 0x20 0 6)
  else if bearsPsn ∧ q.overdrawn k then (false, s)
  else s.cipherStage n k true

/-! ## Context cache and park buffer (R131, R132) -/

/-- Does a packet that needs this much room find the park buffer full? -/
def State.parkFull (s : State) (bytes : Nat) : Bool :=
  decide (512 ≤ s.tr.parked.length + s.tr.parkedRoce.length) || decide (2 * 1024 * 1024 < s.parkedBytes + bytes)

/-- The contexts that something waits for: parked packets, timers that fired. -/
def State.ctxWanted (s : State) : List Nat :=
  (s.tr.parked.map (fun (k : Pkt) => k.dqp % 2 ^ 20) ++ s.tr.parkedRoce.map (fun (k : Roce) => k.qp % 2 ^ 20) ++ s.tr.timers.map Prod.fst).dedup

/-- Fetch a context, with at most 256 fetches out (R131); past that it is asked for when another has arrived. -/
def State.ctxAsk (s : State) (n : Nat) : State :=
  if s.tr.fetches.contains n ∨ s.tr.cache.contains n ∨ 256 ≤ s.tr.fetches.length then s
  else { s with tr := { s.tr with fetches := s.tr.fetches ++ [n] } }

/-- The fetches that waited for another to arrive. -/
def State.ctxNext (s : State) : State := s.ctxWanted.foldl State.ctxAsk s

/-- The context of QP n is asked for: fetched if it is not on its way already. True when a packet of it must park. -/
def State.ctxMiss (s : State) (n : Nat) : Bool × State :=
  if s.tr.fetches.contains n then (true, s)
  else if s.tr.cache.contains n then (false, s.ctxTouch n)
  else if s.ctxWanted.contains n then (true, s.ctxAsk n)
  else (true, ((s.bump F.TR_CACHE_MISSES).count 0x20 0 9).ctxAsk n)

/-- The park buffer is full: the packet is discarded (R132). -/
def State.parkDrop (s : State) : State := (s.bump F.TR_PARK_DROPS).count 0x20 0 8

/-- The frame of a packet on a port that is up (R106, R107): counted, and discarded where Table 4.6 says so. True when its payload
reaches the engine, by the UDP port `dport` (R113, R137), while TR_CFG.EN accepts packets. -/
def State.hears (s : State) (f : Frame) (dport : Nat) : Bool × State :=
  if ¬ s.hearsFrame f ∨ s.fab.dark then (false, s)
  else
    let s := s.countFrame f
    match s.frameCause f with
    | some e => (false, s.frameGone f.port e)
    | none => (f.proto == 17 && f.dport == dport && s.flag F.TR_CFG_EN, s)

/-- The packet types of Table 5.4. -/
def knownTypes : List Nat := [0x01, 0x02, 0x03, 0x04, 0x10, 0x11, 0x12, 0x13, 0x14]

/-- Is the packet well formed for its TYPE (R113, Table 5.4)? -/
def pktFormed (k : Pkt) : Bool :=
  k.ver == 1 && k.plen == k.data.length && decide (k.plen ≤ 8192) &&
  (match k.typ with
   | 0x01 => k.reqx.isSome
   | 0x02 | 0x04 => k.reqx.isSome && k.plen == 0
   | 0x03 => k.reqx.isSome && k.plen == 16
   | 0x10 => k.reqx.isNone
   | 0x11 | 0x12 => k.reqx.isNone && k.plen == 8
   | 0x13 => k.reqx.isNone && k.ackx.isSome && k.plen == 0
   | 0x14 => k.reqx.isNone && k.ackx.isNone && k.plen == 0
   | _ => false)

/-- An NRT packet of a TYPE arrives (R113 to R136); one of a TYPE that Table 5.4 does not list, under any row, is discarded and
counted. -/
def State.nrt (s : State) (typ : Nat) (k : Pkt) : State :=
  if k.typ ≠ typ ∧ knownTypes.contains k.typ then s
  else match s.hears k.frame (s.fld F.TR_CFG_UDP_PORT) with
  | (false, s) => s
  | (true, s) =>
    let s := s.count 0x20 0 0
    if ¬ pktFormed k then s.count 0x20 0 16
    else
      let n := k.dqp % 2 ^ 20
      match s.ctxMiss n with
      | (true, s) =>
        if s.parkFull k.plen then s.parkDrop else { s with tr := { s.tr with parked := s.tr.parked ++ [k] } }
      | (false, s) =>
        let r := s.takePacket k
        (if r.1 then r.2.ackNow n else r.2).serve

/-! ## Commands -/

def execNrtWrite (k : Pkt) (s : State) : Res := .next (s.nrt 0x01 k)
def execNrtReadReq (k : Pkt) (s : State) : Res := .next (s.nrt 0x02 k)
def execNrtAtomic (k : Pkt) (s : State) : Res := .next (s.nrt 0x03 k)
def execNrtPersist (k : Pkt) (s : State) : Res := .next (s.nrt 0x04 k)
def execNrtReadResp (k : Pkt) (s : State) : Res := .next (s.nrt 0x10 k)
def execNrtAtomicResp (k : Pkt) (s : State) : Res := .next (s.nrt 0x11 k)
def execNrtCompletion (k : Pkt) (s : State) : Res := .next (s.nrt 0x12 k)
def execNrtAck (k : Pkt) (s : State) : Res := .next (s.nrt 0x13 k)
def execNrtError (k : Pkt) (s : State) : Res := .next (s.nrt 0x14 k)

/-- Go on only with a QP number of 20 bits. -/
def onQp (n : Nat) (k : Res) : Res := if n < 2 ^ 20 then k else .fault (.noSuchUnit 0x20 n)

/-- A timer of QP n fires: one of a context that is not on chip fetches it first (R131). -/
def State.timerFires (s : State) (n : Nat) (credit : Bool) (run : State → State) : State :=
  match s.ctxMiss n with
  | (false, s) => run s
  | (true, s) =>
    ({ s with tr := { s.tr with timers := if s.tr.timers.contains (n, credit) then s.tr.timers else s.tr.timers ++ [(n, credit)] } }).ctxNext

/-- When the retransmit timer of a QP runs out (R130). -/
def Qp.rtoAt (q : Qp) : Nat := q.progressAt + us (q.rto * 2 ^ min q.backoff 6)

/-- The retransmit timer of QP n has run out (R130): SND_UNA goes again, or the QP enters ERROR past its retry limit. -/
def State.rtoFires (s : State) (n : Nat) : State :=
  let q := s.qp n
  match q.sent with
  | [] => s
  | p :: _ =>
    if q.st ≠ 2 ∨ s.mono < q.rtoAt then s
    else
      let s := s.count 0x20 0 4
      if q.retry < q.backoff + 1 then ((s.failQp n 2 Status.qpFlushed.code).settleTwin).serve
      else (s.modQp n (fun q => { q with backoff := q.backoff + 1, progressAt := s.mono })).resend n p false

/-- RTO_EXPIRY (R130). -/
def execRtoExpiry (qp : Nat) (s : State) : Res :=
  onQp qp <|
    let q := s.qp qp
    if q.st ≠ 2 ∨ q.sent.isEmpty then .next s
    else .next ((s.reachLocal q.rtoAt).timerFires qp false (fun t => t.rtoFires qp))

/-- ACK_DELAY_EXPIRY (R129). -/
def execAckDelayExpiry (qp : Nat) (s : State) : Res :=
  onQp qp <|
    match (s.qp qp).ackSince with
    | some t =>
      if (s.qp qp).st ≠ 2 then .next s
      else .next ((s.reachLocal (t + ns (100 * s.fld F.TR_ACK_DELAY))).ackNow qp)
    | none => .next s

/-- ACK_COALESCE_COUNT (R129). -/
def execAckCoalesceCount (qp : Nat) (s : State) : Res :=
  onQp qp (if (s.qp qp).st = 2 ∧ s.fld F.TR_ACK_COALESCE ≤ (s.qp qp).ackCount then .next (s.ackNow qp) else .next s)

/-- CREDIT_WINDOW_GROW (R124). -/
def execCreditWindowGrow (qp : Nat) (s : State) : Res :=
  onQp qp <|
    let q := s.qp qp
    if q.st ≠ 2 ∨ q.kind = 3 then .next s
    else
      let s := s.reachLocal (q.growAt + ns (100 * s.fld F.TR_ACK_DELAY))
      .next ((s.setQp qp { q with w := min q.credMax (q.w + 32), growAt := s.mono }).grant qp)

/-- HOLD_ACK_TIMER (R125): an acknowledgement with HOLD while credit is withheld. -/
def execHoldAckTimer (qp : Nat) (s : State) : Res :=
  onQp qp (if (s.qp qp).st = 2 ∧ (s.qp qp).kind ≠ 3 ∧ s.withheld qp then .next (s.ackNow qp) else .next s)

/-- When the credit timer of QP n runs out (R125), if its first packet waits for credit. -/
def State.creditAt (s : State) (n : Nat) : Option Nat :=
  if (s.qp n).st = 2 ∧ ¬ (s.qp n).sendq.isEmpty then (s.qp n).waitSince.map (fun t => t + ms (s.fld F.TR_TIMER_CREDIT)) else none

/-- The credit timer of QP n has run out (R125). -/
def State.creditFires (s : State) (n : Nat) : State :=
  match s.creditAt n with
  | some t => if t ≤ s.mono then ((s.failQp n 3 Status.creditTimeout.code).settleTwin).serve else s
  | none => s

/-- CREDIT_TIMEOUT (R125). -/
def execCreditTimeout (qp : Nat) (s : State) : Res :=
  onQp qp <|
    match s.creditAt qp with
    | some t => .next ((s.reachLocal t).timerFires qp true (fun u => u.creditFires qp))
    | none => .next s

/-- Requests of QP n in the order queue whose turn has come, in PSN order (R128). -/
def State.releaseOrder (s : State) (n : Nat) : Nat → State
  | 0 => s
  | fuel + 1 =>
    let q := s.qp n
    match q.orderq.find? (fun (k : Pkt) => q.mayDeliver k.psn) with
    | none => s
    | some k => State.releaseOrder ((s.setQp n { q with orderq := q.orderq.erase k }).deliver n k) n fuel

/-- ORDER_QUEUE_RELEASE (R128, R129): what is released together is acknowledged by one ACK. -/
def execOrderQueueRelease (qp : Nat) (s : State) : Res :=
  onQp qp <|
    let q := s.qp qp
    if q.st ≠ 2 then .next s
    else
      let t := s.releaseOrder qp q.orderq.length
      .next (if (t.qp qp).orderq.length < q.orderq.length then t.ackNow qp else t).serve

/-- WRITE_MESSAGE_END (R133, R121). -/
def execWriteMessageEnd (qp msg : Nat) (s : State) : Res :=
  onQp qp <|
    match (s.qp qp).rx.find? (fun (m : RxMsg) => m.msg == msg) with
    | none => .next s
    | some m =>
      if m.ended ∨ m.typ ≠ 0x01 then .next s
      else match m.op.bind s.op? with
        | none => .next s
        | some o =>
          match s.opLevel o with
          | .waiting => .next s
          | .done st l =>
            let told := st.isFailure || m.signal
            let resp := if told && (s.qp qp).kind != 1 then some (st, l, o.hiEpoch.getD 0, []) else none
            .next (s.modRx qp msg (fun m => { m with ended := true, resp := resp })).serve

end Sys2Proof.Machine
end

