-- ==== Sys2Proof/Machine/RoceRx.lean ====
section
/-! DEFINITION. The RoCEv2 responder (R137 to R143), contexts that arrive (R132) and descriptors that arrive (R151). -/

namespace Sys2Proof.Machine

/-- Change the RoCEv2 side of QP n. -/
def State.modCe (s : State) (n : Nat) (f : RoceSt → RoceSt) : State := s.modQp n (fun q => { q with ce := f q.ce })

/-- Bytes of QP n that the dirty budget holds (Table 5.9). -/
def State.roceHeld (s : State) (n : Nat) : Nat :=
  ((s.pipe.waits.filter (fun w => s.heldOp w &&
    (match (s.reqOf w.2).map Op.src with | some (.roce qp _) => qp == n | _ => false))).map (fun w => w.2.size)).sum

/-- Reads and atomics of QP n outstanding, of 16 responder resources (R138). -/
def State.roceReads (s : State) (n : Nat) : Nat :=
  ((s.qp n).ce.open_.filter (fun x => x.2.2 == 0x0C || x.2.2 == 0x13 || x.2.2 == 0x14)).length

/-- Submission slots of a ring that immediates have taken and SQ_TAIL has not passed yet (R140). -/
def State.immsComing (s : State) (r : Nat) : Nat :=
  s.tr.qps.foldl (fun n p => if p.2.immRing = r then n + p.2.ce.imms.length else n) (s.ringSt r).subs.length

/-- Is there no free submission slot in a ring (R140)? -/
def State.ringFull (s : State) (r : Nat) : Bool :=
  decide (s.ringSize r ≤ s.queued r + s.immsComing r + 1) || !s.flag F.RING_CFG_EN r

/-- A negative acknowledgement after which the QP stays READY: sequence error or RNR (R140, R141). -/
def State.roceSoftNak (s : State) (n psn synd : Nat) : State := (s.sendRoce n 0x11 psn synd []).count 0x20 0 14

/-- Take a request out of those that await an answer. -/
def State.roceDrop (s : State) (n i : Nat) : State :=
  (s.modCe n (fun c => { c with open_ := c.open_.filter (fun x => x.2.1 != i) })).endOp i

/-- What a RoCEv2 request asks of a window. -/
def roceWants (k : Roce) : WinOp :=
  if k.opcode = 0x0C then .read else if k.opcode = 0x13 ∨ k.opcode = 0x14 then .atomic else .write

/-- Does a packet carry an immediate (Table 5.8)? -/
def isImm (k : Roce) : Bool := k.opcode == 0x09 || k.opcode == 0x0B

/-- The request of QP n that a packet made, until it is answered. -/
def State.roceOp? (s : State) (n : Nat) (k : Roce) : Option Nat :=
  ((s.qp n).ce.open_.find? (fun x => x.1 == k.psn)).map (fun x => x.2.1)

/-- Request i of QP n at its window check: `k` carries the R_Key, address and DMA length of its message, and for a write in `cmp`
where its packet lies in the message (R150). A failed check stands as its status until its turn in PSN order. -/
def State.roceWindow (s : State) (n i : Nat) (k : Roce) : State :=
  let q := s.qp n
  let s := s.winTouch (keyIdx k.rkey)
  if ¬ s.serves (roceWants k) then s.roceDrop n i
  else
  let v := s.winCheck .roce (roceWants k) k.rkey k.va k.dmaLen
  let s := s.winTold v
  let done (s : State) : State := s.modOp i (fun o => { o with issued := true })
  match v with
  | .error st => done (s.opMeets i st)
  | .ok (_, t) =>
    match roceWants k, t with
    | .read, t => done (s.getTarget (.fabric k.plane) i t k.dmaLen)
    | .atomic, .mem off =>
      let s := s.modOp i (fun o => { o with level := q.levelFor 0 })
      done (if k.opcode = 0x13 then s.atomicAt i off 2 k.swap k.cmp k.rkey n else s.atomicAt i off 0 k.swap 0 k.rkey n)
    | .atomic, _ => done (s.opMeets i .windowRights)
    | .write, t =>
      if isImm k ∧ s.ringFull q.immRing then
        ((s.roceDrop n i).modCe n (fun c => { c with ePsn := k.psn })).roceSoftNak n k.psn synRnr
      else
        let s := done (s.putTarget (.fabric k.plane) i t k.cmp k.data k.rkey)
        if isImm k then s.modCe n (fun c => { c with imms := c.imms ++ [(i, k.immDt, k.rkey, k.va)] }) else s

/-- An accepted request of QP n at the window stage. One whose descriptor is not cached waits for it (R151), and later ones of the
QP wait behind it (R164). -/
def State.runRoce (s : State) (n i : Nat) (k : Roce) : State :=
  if ¬ s.serves (roceWants k) then s.roceDrop n i
  else if s.winBehind n ∨ ¬ s.winReady (keyIdx k.rkey) then s.winWait (keyIdx k.rkey) (.roce k)
  else s.roceWindow n i k

/-- A CE mark is answered with a notification, at most one per QP in 50 us (R143). -/
def State.roceMark (s : State) (n : Nat) : State :=
  let s := s.count 0x20 0 11
  let due := match (s.qp n).ce.cnpAt with | some t => decide (t + us 50 ≤ s.mono) | none => true
  if due then ((s.sendRoce n 0x81 0 0 []).modCe n (fun c => { c with cnpAt := some s.mono })).count 0x20 0 15 else s

/-- A request of QP n is accepted: `e` PSNs on, none for one executed again, its place among the requests that await an answer, and
its run. The expected PSN ends the silence after a sequence error (R141). -/
def State.acceptRoce (s : State) (n : Nat) (k : Roce) (kind : OpKind) (len e opcode : Nat) : State :=
  let r := s.newOp (.roce n k.psn) kind ((s.qp n).levelFor 0) len
  let s := r.2.modCe n (fun c => { c with
    ePsn := (c.ePsn + e) % 2 ^ 24, nakOut := c.nakOut && e == 0, open_ := c.open_ ++ [(k.psn, r.1, opcode)] })
  s.runRoce n r.1 k

/-- The write that a packet belongs to: R_Key, start of the message, its length, where the packet lies in it. -/
def State.roceWrite? (s : State) (n : Nat) (k : Roce) : Option (Nat × Nat × Nat × Nat) :=
  if k.opcode = 0x06 ∨ k.opcode = 0x0A ∨ k.opcode = 0x0B then some (k.rkey, k.va, k.dmaLen, 0) else (s.qp n).ce.cur

/-- A write packet with the expected PSN (R139, R140). -/
def State.expectWrite (s : State) (n : Nat) (k : Roce) : State :=
  match s.roceWrite? n k with
  | none => s.roceNak n k.psn synInvalid
  | some (key, start, len, got) =>
    let last := k.opcode = 0x08 ∨ k.opcode = 0x09 ∨ k.opcode = 0x0A ∨ k.opcode = 0x0B
    let g := got + k.data.length
    let m := s.rocePayload (s.qp n)
    let sized := if last then k.data.length ≤ m else k.data.length = m
    if ¬ sized ∨ 2 ^ 31 < len ∨ len < g ∨ (last ∧ g ≠ len) then s.roceNak n k.psn synInvalid
    else if isImm k ∧ s.ringFull (s.qp n).immRing then s.roceSoftNak n k.psn synRnr
    else if 65536 < s.roceHeld n + k.data.length ∧ 0 < s.roceHeld n then s
    else
      let s := s.modCe n (fun c => { c with cur := if last then none else some (key, start, len, g) })
      s.acceptRoce n { k with rkey := key, va := start, dmaLen := len, cmp := got } .write k.data.length 1
        (if last then 0x08 else if k.ackReq then 0x07 else 0x06)

/-- A read with the expected PSN, or one executed again (R138, R141). -/
def State.expectRead (s : State) (n : Nat) (k : Roce) (again : Bool) : State :=
  if 16 ≤ s.roceReads n ∨ 2 ^ 31 < k.dmaLen then s.roceNak n k.psn synInvalid
  else
    let e := if again then 0 else max 1 (ceilDiv k.dmaLen (s.rocePayload (s.qp n)))
    s.acceptRoce n k .read k.dmaLen e 0x0C

/-- An atomic with the expected PSN (R138). -/
def State.expectAtomic (s : State) (n : Nat) (k : Roce) : State :=
  if 16 ≤ s.roceReads n then s.roceNak n k.psn synInvalid
  else if 65536 < s.roceHeld n + 8 then s
  else s.acceptRoce n { k with dmaLen := 8 } .atomic 8 1 k.opcode

/-- A duplicate (R141): a write is acknowledged again once it has been, a read runs again, an atomic gives its saved
result. -/
def State.roceAgain (s : State) (n : Nat) (k : Roce) : State :=
  let c := (s.qp n).ce
  if k.opcode = 0x0C then s.expectRead n k true
  else if k.opcode = 0x13 ∨ k.opcode = 0x14 then
    match c.replay.find? (fun x => x.1 == k.psn) with
    | some x => s.sendRoce n 0x12 k.psn synAck (beBytes 8 x.2)
    | none => s
  else if c.open_.any (fun x => x.1 == k.psn) then s
  else s.sendRoce n 0x11 k.psn synAck []

/-- A RoCEv2 packet whose context is on chip (R137 to R143, Table 5.9). -/
def State.takeRoce (s : State) (k : Roce) : State :=
  let n := k.qp % 2 ^ 20
  let q := s.qp n
  if q.st ≠ 2 then (if q.st = 3 then s else s.count 0x20 0 16)
  else if q.kind ≠ 3 then s
  else
    let s := if k.ce then s.roceMark n else s
    let d := (k.psn + 2 ^ 24 - (s.qp n).ce.ePsn % 2 ^ 24) % 2 ^ 24
    if ¬ s.serves (roceWants k) then s
    else if d = 0 then
      if k.opcode = 0x0C then s.expectRead n k false
      else if k.opcode = 0x13 ∨ k.opcode = 0x14 then s.expectAtomic n k
      else s.expectWrite n k
    else if d < 2 ^ 23 then
      if (s.qp n).ce.nakOut then s
      else (s.roceSoftNak n (s.qp n).ce.ePsn synSeq).modCe n (fun c => { c with nakOut := true })
    else s.roceAgain n k

/-- A RoCEv2 request packet arrives: `ok` tells whether its opcode is one of the command's (Table 5.8). -/
def State.roce (s : State) (ok : Bool) (k : Roce) : State :=
  if ¬ ok then s
  else match s.hears k.frame 4791 with
  | (false, s) => s
  | (true, s) =>
    if ¬ k.icrcOk ∨ k.pkey ≠ 0xFFFF then s
    else match s.ctxMiss (k.qp % 2 ^ 20) with
    | (true, s) =>
      if s.parkFull k.data.length then s.parkDrop
      else { s with tr := { s.tr with parkedRoce := s.tr.parkedRoce ++ [k] } }
    | (false, s) => (s.takeRoce k).serve

/-! ## Commands -/

/-- ROCE_RDMA_WRITE (R139): First, Middle, Last, Only. -/
def execRoceRdmaWrite (k : Roce) (s : State) : Res :=
  .next (s.roce (k.opcode == 0x06 || k.opcode == 0x07 || k.opcode == 0x08 || k.opcode == 0x0A) k)

/-- ROCE_WRITE_WITH_IMMEDIATE (R140): Last, Only. -/
def execRoceWriteWithImmediate (k : Roce) (s : State) : Res :=
  .next (s.roce (k.opcode == 0x09 || k.opcode == 0x0B) k)

/-- ROCE_READ_REQUEST (R138). -/
def execRoceReadRequest (k : Roce) (s : State) : Res := .next (s.roce (k.opcode == 0x0C) k)

/-- ROCE_CMP_SWAP (R141). -/
def execRoceCmpSwap (k : Roce) (s : State) : Res := .next (s.roce (k.opcode == 0x13) k)

/-- ROCE_FETCH_ADD (R141). -/
def execRoceFetchAdd (k : Roce) (s : State) : Res := .next (s.roce (k.opcode == 0x14) k)

/-- ROCE_CNP_RECEIVED (R143): the rate of READ responses halves, down to 1/64. -/
def execRoceCnpReceived (qp : Nat) (s : State) : Res :=
  onQp qp <|
    if (s.qp qp).st ≠ 2 ∨ (s.qp qp).kind ≠ 3 then .next s
    else .next (s.modCe qp (fun c => { c with divisor := min 64 (2 * c.divisor), notified := s.mono }))

/-- ROCE_RATE_RESTORE (R143): it doubles after 50 us without a notification. -/
def execRoceRateRestore (qp : Nat) (s : State) : Res :=
  onQp qp <|
    let c := (s.qp qp).ce
    if (s.qp qp).kind ≠ 3 ∨ c.divisor ≤ 1 then .next s
    else
      let s := s.reachLocal (c.notified + us 50)
      .next (s.modCe qp (fun c => { c with divisor := c.divisor / 2, notified := s.mono }))

/-- A timer that fired for QP n while its context was not on chip (R131). -/
def State.lateTimer (s : State) (t : Nat × Bool) : State := if t.2 then s.creditFires t.1 else s.rtoFires t.1

/-- The context of QP n is on chip: what waited for it leaves its buffers, and another fetch may start (R131). -/
def State.ctxHere (s : State) (n : Nat) : State :=
  (({ s with tr := { s.tr with
    fetches := s.tr.fetches.filter (fun x => x != n), parked := s.tr.parked.filter (fun k => k.dqp % 2 ^ 20 != n),
    parkedRoce := s.tr.parkedRoce.filter (fun k => k.qp % 2 ^ 20 != n),
    timers := s.tr.timers.filter (fun t => t.1 != n) } }).ctxTouch n).ctxNext

/-- CONTEXT_ARRIVED (R132): the parked packets of the QP, in arrival order; one ACK for them all (R129); timers that fired. -/
def execContextArrived (qp : Nat) (s : State) : Res :=
  onQp qp <|
    if ¬ s.tr.fetches.contains qp then .next s
    else
      let ks := s.tr.parked.filter (fun k => k.dqp % 2 ^ 20 == qp)
      let rs := s.tr.parkedRoce.filter (fun k => k.qp % 2 ^ 20 == qp)
      let ts := s.tr.timers.filter (fun t => t.1 == qp)
      let s := s.ctxHere qp
      let was := (s.qp qp).ackCount
      let r := ks.foldl (fun (t : Bool × State) k => let x := t.2.takePacket k; (t.1 || x.1, x.2)) (false, s)
      let s := rs.foldl (fun (t : State) k => t.takeRoce k) r.2
      let s := if r.1 ∨ was < (s.qp qp).ackCount then s.ackNow qp else s
      .next (ts.foldl State.lateTimer s).serve

/-- What waits at the window stage goes on once its descriptor is on chip: a packet makes its check; a link or a record is tried
again by itself. -/
def State.winGoes (s : State) (w : WinWait) : State :=
  match w with
  | .nrt k => s.windowStage (k.dqp % 2 ^ 20) k
  | .roce k =>
    (match s.roceOp? (k.qp % 2 ^ 20) k with
     | some i => s.roceWindow (k.qp % 2 ^ 20) i k
     | none => s)
  | _ => s

/-- Go through what waits at the window stage in order: what can be checked goes on, unless a packet of its QP stays behind. -/
def State.drainWins (s : State) (blocked : List Nat) : List (Nat × WinWait) → State
  | [] => s
  | (idx, w) :: rest =>
    let free : Bool := match w.qp with | some n => !blocked.contains n | none => true
    if free ∧ s.winReady idx then
      State.drainWins (({ s with wins := { s.wins with waiting := s.wins.waiting.erase (idx, w) } }).winGoes w) blocked rest
    else State.drainWins s (w.qp.toList ++ blocked) rest

/-- Does a read of the line from its channel, with device errors `es`, find it uncorrectable (Table 9.2)? -/
def State.freshBad (s : State) (line : Nat) (es : List DevErr) : Bool :=
  (s.lkLine line).isNone && (s.storeOf line).isNone && !s.pipe.sb.any (fun (e : SbEntry) => e.line == line && e.full) &&
  (match decodeBezel (s.markOf line) (syndromes (s.chkOf line) es) with | .bad => true | _ => false)

/-- Go on with what waited at the window stage for descriptors that are on chip now. -/
def State.settleWins (s : State) : State := s.drainWins [] s.wins.waiting

/-- WINDOW_FETCH_DONE (R151): what waited for the descriptor is checked. A line found uncorrectable is healed from the twin first;
where that cannot be, the descriptor is unreadable (R444). -/
def execWindowFetchDone (idx : Nat) (es : List DevErr) (s : State) : Res :=
  let line := s.descLine idx
  if 1048576 ≤ idx then .fault (.noSuchUnit 0x30 idx)
  else if ¬ s.fetching.contains idx ∨ s.tableWaits idx ∨ s.pipe.heals.any (fun p => p.2.line == line) then .next s
  else if s.freshBad line es ∧ s.canHeal then .next ((s.bezelEvent 1 0 line 15 7).startHeal line (.desc line) true)
  else .next (((s.healAnswer line es).2.winTouch idx).settleWins).serve

end Sys2Proof.Machine
end

