-- ==== Sys2Proof/Machine/Chain.lean ====
section
/-! DEFINITION. How a sequencer runs links (chapter 3): issue with its checks (R71, R87, R90), blocking and asynchronous
links (R74 to R77), sealed blobs (R78, R335, R336), copies in progress (Table 7.1), and how a link returns. -/

namespace Sys2Proof.Machine

/-! ## What a link comes to -/

/-- What a link comes to when it issues: on to the next link, a jump, a status for w[d], a wait, an issue that must be
tried again, the end of the chain; `over` gives a status and skips the link that follows (`atmt`). -/
inductive LinkOut where
  | next
  | jump (t : Nat)
  | status (st : Status)
  | over (st : Status)
  | wait (w : WaitFor)
  | again
  | illegal
  | ends (st : Status)
  deriving DecidableEq, Repr

/-- The effect of a link of sequencer q, with its settings and the registers it finds. -/
abbrev LinkEffect := Nat → Link → Sets → Seq → State → LinkOut × State

/-! ## Moving on -/

/-- Words of the link at which a chain stands. -/
def Seq.linkWords (x : Seq) : Nat :=
  match decodeLink (x.words.drop x.pc) with
  | some (_, l, _) => 1 + l.ext.length
  | none => 1

/-- Put a chain at word t; past the last word execution is illegal (R66). No opcode stands there, so the one that the
record carries is free. -/
def State.standAt (s : State) (q : Nat) (x : Seq) (t : Nat) : State :=
  let x := { x with pc := t, wait := none }
  if x.words.length ≤ t then
    let f := s.draw
    f.2.illegalLink q x ((Config.freeWord f.1).toNat % 128)
  else s.setSeq q x

/-- A chain goes on to the link after the current one. -/
def State.goOn (s : State) (q : Nat) (x : Seq) : State := s.standAt q x (x.pc + x.linkWords)

/-- A link of a chain ends with a status (R77). -/
def State.linkEnds (s : State) (q : Nat) (x : Seq) (d : Nat) (st : Status) : State :=
  if st = .illegalLink ∨ st = .internal then s.chainEnd q x st
  else s.goOn q (x.setR d st.code)

/-! ## Sealed blobs -/

/-- Bytes 0 to 47 of a blob (Table 14.3). -/
def State.blobHead (s : State) (slot ver uses len : Nat) : List Byte :=
  leBytes 8 (0x4B424C31 + 2 ^ 32) ++ leBytes 8 (slot + ver * 2 ^ 32) ++ leBytes 8 len ++
  leBytes 4 (0x40000000 ||| s.fld F.HT_DEVICE_NUMBER) ++ leBytes 8 uses ++ List.replicate 12 0

/-- Seal bytes into a blob (R335). -/
def State.sealBlob (s : State) (slot ver uses : Nat) (bs : List Byte) : List Byte :=
  let h := s.blobHead slot ver uses bs.length
  let x : List Byte := 0 :: (h ++ bs)
  h ++ (List.range 16).map (Config.tagByte x) ++ (List.range bs.length).map (Config.cipherByte x)

/-- Open a blob (R336): its plaintext, or the code with which the open ends and whether its tag was tried. -/
def State.openBlob (s : State) (slot : Nat) (b : List Byte) : Except (Status × Bool) (List Byte) × State :=
  let n := b.length - 64
  if wordAt b 0 % 2 ^ 40 ≠ 0x4B424C31 + 2 ^ 32 ∨ wordAt b 2 ≠ n then
    (.error (.lengthLimit, false), (s.bump F.CE_ERR_LENGTH).count 0x90 0 3)
  else if wordAt b 1 % 2 ^ 16 ≠ slot ∨ ¬ s.holdsVer slot (bits (wordAt b 1) 32 32) then (.error (.tagFail, false), s)
  else if ¬ Config.tagOk b then (.error (.tagFail, true), (s.bump F.CE_ERR_TAG_FAIL).count 0x90 0 2)
  else (.ok ((List.range n).map (Config.cipherByte (1 :: b))), s.count 0x90 0 1)

/-! ## Remote requests (Table 3.3) -/

/-- Send a request of a link to a remote controller; request i of this one stands for it. False when the outbound QP is
not READY (Table 3.7). -/
def State.sendRemote (s : State) (i dev typ : Nat) (x : ReqX) (data : List Byte) : Bool × State :=
  let n := Config.remoteQp dev % 2 ^ 20
  if (s.qp n).st ≠ 2 ∨ (s.qp n).kind ≠ 2 then (false, s)
  else
    let s := s.modOp i (fun o => { o with reads := 1, issued := true })
    (true, (s.sendRequest n typ x data (.op i) true).2)

/-! ## Copies -/

/-- The place n bytes further on in a target. -/
def Target.shift (t : Target) (n : Nat) : Target :=
  match t with
  | .mem off => .mem (off + n)
  | .control a => .control (a + n)
  | .ring r off => .ring r (off + n)
  | .lend off => .lend (off + n)

/-- Bytes of the source range, and of the destination range, of a copy (R335). -/
def CopyJob.srcLen (j : CopyJob) : Nat := 64 * j.n + (if j.mode = 2 then 64 else 0)
def CopyJob.dstLen (j : CopyJob) : Nat := 64 * j.n + (if j.mode = 1 then 64 else 0)

/-- Does the copy read its whole source before it writes (SEAL, REMOTE)? -/
def CopyJob.whole (j : CopyJob) : Bool := j.mode != 0 || j.remote.isSome

/-- Read n bytes at position pos of the source of a copy, under a new window check (Table 6.6). -/
def State.copyRead (s : State) (j : CopyJob) (pos n : Nat) : Except Status State :=
  let v := s.winCheck .chain .read j.sk j.so j.srcLen true
  match v with
  | .error st => .error st
  | .ok (_, t) =>
    let s := (s.winTold v).modOp j.rd (fun o => { o with data := [], len := n, issued := false })
    .ok ((s.getTarget .chain j.rd (t.shift pos) n).modOp j.rd (fun o => { o with issued := true }))

/-- Write bytes at position pos of the destination of a copy, under a new window check; `last` when they are the last. -/
def State.copyWrite (s : State) (j : CopyJob) (pos : Nat) (bs : List Byte) (last : Bool) : Except Status State :=
  let v := s.winCheck .chain .write j.dk j.dof j.dstLen true
  match v with
  | .error st => .error st
  | .ok (_, t) =>
    .ok (((s.winTold v).putTarget .chain j.wr t pos bs j.dk).modOp j.wr (fun o => { o with issued := o.issued || last }))

/-- A copy ends: its read is over, and its writes are all handed over. -/
def State.copyEnds (s : State) (j : CopyJob) (st : Status) : WaitFor × State :=
  (.ready st, (s.endOp j.rd).modOp j.wr (fun o => { o with issued := true }))

/-- Write what a copy of a whole range makes of its source (R335, R336). Opening more than 64 KiB streams the plaintext into the
destination before its tag is known; up to 64 KiB nothing is written of a blob that fails (R78). -/
def State.copyWhole (s : State) (q : Nat) (j : CopyJob) (bs : List Byte) : WaitFor × State :=
  let write (s : State) (j : CopyJob) (bs : List Byte) : WaitFor × State :=
    match j.remote with
    | some dev =>
      let level := match s.op? j.wr with | some o => o.level | none => 1
      let r := s.sendRemote j.wr dev 0x01 ⟨j.dk, bs.length, j.dof, 0, level, 0, 0⟩ bs
      if r.1 then (.copy { j with k := j.n }, r.2) else s.copyEnds j .qpFlushed
    | none =>
      match s.copyWrite j 0 bs true with
      | .ok s => (.copy { j with k := j.n }, s)
      | .error st => (s.winTold (.error st)).copyEnds j st
  let p := if j.mode = 0 then (true, s) else s.blobPipe q (64 * j.n)
  match p.1, p.2, j.mode with
  | false, s, _ => (.copy j, s)
  | true, s, 1 =>
    (match s.sealUse j.slot with
     | (.wait, s) => (.copy j, s)
     | (.refuse st, s) => s.copyEnds j st
     | (.ok ver uses, s) => write (s.count 0x90 0 0) { j with ver := some ver } (s.sealBlob j.slot ver uses bs))
  | true, s, 2 =>
    let j := { j with ver := some (bits (wordAt bs 1) 32 32) }
    (match s.openBlob j.slot bs with
     | (.ok p, s) => write s j p
     | (.error (st, tried), s) =>
       if tried ∧ 65536 < 64 * j.n ∧ j.remote = none then
         write s { j with failed := some st } ((List.range (bs.length - 64)).map (Config.cipherByte (1 :: bs)))
       else s.copyEnds j st)
  | true, s, _ => write s j bs

/-- The tag of a streamed copy has failed: its whole destination is poisoned (R78). -/
def State.copySpoiled (s : State) (j : CopyJob) : State :=
  let v := s.winCheck .chain .write j.dk j.dof j.dstLen true
  let s := s.winTold v
  match v with
  | .ok (_, .mem off) => s.poisonRange off (64 * j.n)
  | _ => s

/-- Carry a copy on as far as it goes now: line by line in ascending order, the next line read after the last was written
(Table 7.1); `k` counts the lines written. -/
def State.copyOn (s : State) (q : Nat) : Nat → CopyJob → WaitFor × State
  | 0, j => (.copy j, s)
  | fuel + 1, j =>
    match s.op? j.rd, s.op? j.wr with
    | some rd, some wr =>
      if j.k = j.n then
        match s.opLevel wr with
        | .waiting => (.copy j, s)
        | .done st _ =>
          (match j.failed with
           | some f => (.ready f, (s.copySpoiled j).endOp j.rd)
           | none => (.ready (st.meet rd.status), s.endOp j.rd))
      else if ¬ rd.issued ∨ rd.reads ≠ 0 then (.copy j, s)
      else if rd.status.isFailure then s.copyEnds j rd.status
      else if j.whole then
        match s.copyWhole q j rd.bytes with
        | (.copy j, s) => if j.k = j.n then State.copyOn s q fuel j else (.copy j, s)
        | r => r
      else
        match s.copyWrite j (64 * j.k) rd.bytes (decide (j.k + 1 = j.n)) with
        | .error st => (s.winTold (.error st)).copyEnds j st
        | .ok s =>
          let j := { j with k := j.k + 1 }
          if j.k = j.n then State.copyOn s q fuel j
          else match s.copyRead j (64 * j.k) 64 with
            | .ok s => State.copyOn s q fuel j
            | .error st => (s.winTold (.error st)).copyEnds j st
    | _, _ => (.ready .ok, s)

/-- How a request of a link stands: its status once it has reached its level (R74). -/
def State.opStands (s : State) (i : Nat) : Option Status :=
  match s.op? i with
  | some o => (match s.opLevel o with | .done st _ => some st | .waiting => none)
  | none => some .ok

/-! ## Fills -/

/-- Carry a `fill` on by the lines of one clock, at most eight, under a new window check (R156, R170); when its last line is
handed over it waits for its level. -/
def State.fillOn (s : State) (j : FillJob) : WaitFor × State :=
  if j.k = j.n then (match s.opStands j.wr with | some st => (.ready st, s) | none => (.fill j, s))
  else
    let v := s.winCheck .chain .write j.key j.off (64 * j.n) true
    let s := s.winTold v
    match v with
    | .error st => (.ready st, s.modOp j.wr (fun o => { o with issued := true }))
    | .ok (_, t) =>
      let m := min 8 (j.n - j.k)
      let bs := (List.range (8 * m)).flatMap (fun _ => leBytes 8 j.value)
      let s := s.putTarget .chain j.wr t (64 * j.k) bs j.key
      (.fill { j with k := j.k + m },
        s.modOp j.wr (fun o => { o with issued := o.issued || decide (j.k + m = j.n) }))

/-! ## Waiting -/

/-- The bytes of a read are here: they go to the local store, a blob opened first (R74, R78, R336). -/
def State.getArrives (s : State) (q : Nat) (at_ : Nat) (slot : Option Nat) (o : Op) (st : Status) : WaitFor × State :=
  if st.isFailure then (.ready st, s)
  else match slot with
    | none => (.ready st, s.modSeq q (fun x => x.putBytes at_ o.bytes))
    | some k =>
      match s.openBlob k o.bytes with
      | (.ok p, s) => (.ready st, s.modSeq q (fun x => x.putBytes at_ p))
      | (.error e, s) => (.ready e.1, s)

/-- Take what a waiting link waits for one look further (R74, R75, R79): `ready` when it is over. -/
def State.look (s : State) (q : Nat) (x : Seq) (w : WaitFor) : WaitFor × State :=
  match w with
  | .op i _ => (match s.opStands i with | some st => (.ready st, s) | none => (w, s))
  | .get i at_ _ slot =>
    (match s.op? i with
     | some o =>
       (match s.opLevel o with
        | .done st _ =>
          let p := if slot.isNone ∨ st.isFailure then (true, s) else s.blobPipe q (o.len - 64)
          if p.1 then (p.2.endOp i).getArrives q at_ slot o st else (w, p.2)
        | .waiting => (w, s))
     | none => (.ready .ok, s))
  | .atom i b =>
    (match s.op? i with
     | some o =>
       (match s.opLevel o with
        | .done st _ =>
          (.ready st, if st.isFailure ∧ st ≠ .timeUnsure then s else s.modSeq q (fun x => x.setR b (leNat (o.bytes.take 8))))
        | .waiting => (w, s))
     | none => (.ready .ok, s))
  | .copy j => s.copyOn q (j.n + 2) j
  | .fill j => s.fillOn j
  | .persist key level =>
    let ws := x.wrote.filter (fun (y : Wrote) => match key with | some k => y.key == k | none => true)
    (match s.levelOf level (ws.filterMap (fun (y : Wrote) => s.op? y.op)) with
     | some (st, _, _) => (.ready st, s)
     | none => (w, s))
  | .seal e =>
    if s.isSealed e then (.ready (if s.single then .degradedSingle else .ok), s)
    else if s.unsure then (.ready .timeUnsure, s) else (w, s)
  | .await t => if t ≤ s.time then (.ready (if s.unsure then .timeUnsure else .ok), s) else (w, s)
  | .wopen a key =>
    (match s.wins.openings.find? (fun (o : Opening) => o.key == key) with
     | some o =>
       if s.descDone o.wid then
         (.ready .ok, { s with wins := { s.wins with openings := s.wins.openings.erase o } }.modSeq q
           (fun x => x.setR a key))
       else (w, s)
     | none => (w, s))
  | .fwait tk =>
    (match SMap.look s.tiers.ops tk with
     | some o =>
       (match s.fxStatus o with
        | some st => (.ready st, s.setFxOp tk { o with waited := true })
        | none => (w, s))
     | none => (.ready .windowBounds, s))
  | _ => (w, s)

def WaitFor.status? (w : WaitFor) : Option Status := match w with | .ready st => some st | _ => none

/-- Asynchronous operations that have not ended. -/
def Seq.openAsyncs (x : Seq) : Nat := (x.asyncs.filter (fun (a : AsyncOp) => a.what.status?.isNone)).length

/-- Change asynchronous operation n of a chain. -/
def Seq.modAsync (x : Seq) (n : Nat) (w : WaitFor) : Seq :=
  { x with asyncs := x.asyncs.map (fun (a : AsyncOp) => if a.n = n then { a with what := w } else a) }

/-- Look at asynchronous operations in issue order. -/
def State.lookAsyncs (s : State) (q : Nat) : List AsyncOp → State
  | [] => s
  | a :: rest =>
    match s.seq? q with
    | none => s
    | some x =>
      let r := s.look q x a.what
      State.lookAsyncs (r.2.modSeq q (fun y => y.modAsync a.n r.1)) q rest

/-- What `sync` reports (R75): the first Failure in issue order, else the first note, else OK. -/
def Seq.summary (x : Seq) : Status :=
  let sts := x.asyncs.filterMap (fun (a : AsyncOp) => a.what.status?)
  match sts.find? Status.isFailure with
  | some st => st
  | none => (sts.find? Status.isNote).getD .ok

/-- A chain's blocking link returns, where what it waits for is over (R74, R76, R77); its asynchronous operations are
looked at first. -/
def State.linkReturn (s : State) (q : Nat) : State :=
  match s.seq? q with
  | none => s
  | some x =>
    if x.stopped ∨ x.aborted then s
    else
      let s := s.lookAsyncs q x.asyncs
      match s.seq? q with
      | none => s
      | some x =>
        match x.wait with
        | none => s
        | some ⟨d, .sync⟩ =>
          if x.openAsyncs = 0 then s.linkEnds q { x with asyncs := [] } d x.summary else s
        | some ⟨_, .halt st⟩ => if x.openAsyncs = 0 then s.chainEnd q x st else s
        | some ⟨d, w⟩ =>
          let r := s.look q x w
          match r.2.seq? q with
          | none => r.2
          | some y =>
            match r.1.status? with
            | some st => r.2.linkEnds q y d st
            | none => r.2.setSeq q { y with wait := some ⟨d, r.1⟩ }

/-! ## Issue -/

/-- The links that may be asynchronous (Table 3.3). -/
def isData (op : Nat) : Bool := decide (0x40 ≤ op ∧ op ≤ 0x44)

/-- Is the link asynchronous (R73, R74)? -/
def State.isAsync (s : State) (x : Seq) (op : Nat) (t : Sets) : Bool :=
  isData op && (if t.hasMode then t.async else s.flag F.RING_PROFILE_ASYNC x.ring)

/-- The level of a write link (R73, R82). -/
def Seq.levelOf (x : Seq) (t : Sets) : Nat := if t.level ≠ 0 then t.level else x.level

/-- Add an asynchronous operation to a chain. -/
def Seq.addAsync (x : Seq) (w : WaitFor) : Seq :=
  { x with asyncs := x.asyncs ++ [⟨x.nextAsync, w⟩], nextAsync := x.nextAsync + 1 }

/-- What a link came to takes hold of its chain. -/
def State.settleLink (s : State) (q op : Nat) (l : Link) (async : Bool) (out : LinkOut) : State :=
  match s.seq? q with
  | none => s
  | some x =>
    let d := l.d.toNat
    let busy (w : WaitFor) : State := s.goOn q ((x.addAsync w).setR d Status.busy.code)
    match out with
    | .next => s.goOn q x
    | .jump t => s.standAt q x t
    | .status st => if async then busy (.ready st) else s.linkEnds q x d st
    | .over st => s.goOn q { (x.setR d st.code) with pc := x.pc + x.linkWords }
    | .wait w => if async then busy w else (s.setSeq q { x with wait := some ⟨d, w⟩ }).linkReturn q
    | .again => s.setSeq q { x with wait := some ⟨d, .again⟩ }
    | .illegal => s.illegalLink q x op
    | .ends st => s.chainEnd q x st

/-- May the chain on sequencer q issue a link now (R87, R89, R91, R92)? A link that waits to be issued again may; one
that the debug controls stop only when it is stepped (R20). -/
def State.mayIssue (s : State) (q : Nat) (x : Seq) : Bool :=
  s.chainsRun && !x.aborted && !x.stopped && (!s.debugStops q x || s.life.steps.contains q) &&
  (match x.wait with
   | none => decide (x.count < s.linkLimit x)
   | some w => w.what == .again)

/-- Does the chain stand at this link? -/
def Seq.standsAt (x : Seq) (op : Nat) (l : Link) : Bool :=
  match decodeLink (x.words.drop x.pc) with
  | some (o, m, _) => o.toNat == op && m == l
  | none => false

/-- Must an asynchronous or fenced link wait before it issues (R74, Table 3.3)? -/
def Seq.held (x : Seq) (async : Bool) (t : Sets) : Bool :=
  (t.fence && x.openAsyncs != 0) || (async && decide (64 ≤ x.openAsyncs))

/-- The privileges that a link needs at run time, CTRL and REMOTE, and its ring lacks (R71). -/
def State.lacksPriv (s : State) (x : Seq) (op : Nat) (t : Sets) : Bool :=
  let need := privsOf op t &&& 65
  need &&& s.fld F.RING_CFG_PRIV x.ring != need

/-- A chain issues the link at which it stands: the checks of R90 and R71, its effect, what it comes to. -/
def State.issue (s : State) (q op : Nat) (l : Link) (x : Seq) (f : LinkEffect) : State :=
  let t := settings l op
  if (badWord x.starts x.pc op l).isSome then s.illegalLink q x op
  else if s.lacksPriv x op t then s.chainEnd q x .privilege
  else
    let fresh := x.wait.isNone
    let s := if fresh then s.count 0x70 q 0 else s
    let x := { x with count := if fresh then x.count + 1 else x.count, wait := none }
    let s := s.setSeq q x
    let async := s.isAsync x op t
    if x.held async t then s.settleLink q op l async .again
    else
      let r := f q l t x s
      (r.2.modSeq q (fun y => { y with after0 := op == 0x18 && immN l == 0 })).settleLink q op l async r.1

/-- The step of sequencer q that was asked for is taken (R20). -/
def State.stepTaken (s : State) (q : Nat) : State :=
  if s.life.steps.contains q then { s with life := { s.life with steps := s.life.steps.filter (fun n => n != q) } } else s

/-- Run a link on sequencer q: nothing happens unless its chain stands at it and may go on. -/
def State.runLink (s : State) (op : Nat) (f : LinkEffect) (q : Nat) (l : Link) : Res :=
  onUnit 0x70 q <|
    match s.seq? q with
    | none => .next s
    | some x => if s.mayIssue q x ∧ x.standsAt op l then .next ((s.stepTaken q).issue q op l x f).serve else .next s

/-- UNDEFINED_OPCODE (R70, R90): the chain ends with ILLEGAL_LINK. -/
def execUndefinedOpcode (q : Nat) (w : W40) (s : State) : Res :=
  onUnit 0x70 q <|
    match s.seq? q with
    | none => .next s
    | some x =>
      if s.mayIssue q x ∧ x.words[x.pc]? = some w ∧ linkInstr q (w.extractLsb' 32 7) ⟨0, 0, 0, 0, []⟩ = none then
        .next ((s.stepTaken q).illegalLink q x (opcodeOf w))
      else .next s

/-- LINK_RETURN (R74 to R77). -/
def execLinkReturn (q : Nat) (s : State) : Res := onUnit 0x70 q (.next (s.linkReturn q).serve)

/-- AWAIT_INSTANT (R40, R79): the instant of an `await` is reached. -/
def execAwaitInstant (q : Nat) (s : State) : Res :=
  onUnit 0x70 q <|
    match s.seq? q with
    | none => .next s
    | some x =>
      match x.wait with
      | some ⟨_, .await t⟩ => .next ((s.reach t).linkReturn q).serve
      | _ => .next s

end Sys2Proof.Machine
end

