-- ==== Sys2Proof/Machine/Links.lean ====
section
/-! DEFINITION. The links that compute, branch and use the local store (Table 3.5, R66 to R70). -/

namespace Sys2Proof.Machine

/-! ## Arithmetic -/

/-- d takes a value; the chain goes on. -/
def State.linkSets (s : State) (q : Nat) (l : Link) (v : Nat) : LinkOut × State :=
  (.next, s.modSeq q (fun x => x.setR l.d.toNat v))

/-- d = f a b. -/
def alu (f : Nat → Nat → Nat) : LinkEffect := fun q l _ x s => s.linkSets q l (f (x.r l.a.toNat) (x.r l.b.toNat))

/-- d = f a imm, the immediate extended with its sign, or with zeros (R70). -/
def aluSext (f : Nat → Nat → Nat) : LinkEffect := fun q l _ x s =>
  s.linkSets q l (f (x.r l.a.toNat) (l.imm.signExtend 64).toNat)
def aluZext (f : Nat → Nat → Nat) : LinkEffect := fun q l _ x s => s.linkSets q l (f (x.r l.a.toNat) (immN l))

/-- Operations on 64-bit values (R70). -/
def sub64 (a b : Nat) : Nat := (a + 2 ^ 64 - b % 2 ^ 64) % 2 ^ 64
def shl64 (a b : Nat) : Nat := a * 2 ^ (b % 64) % 2 ^ 64
def shr64 (a b : Nat) : Nat := a % 2 ^ 64 / 2 ^ (b % 64)
def sar64 (a b : Nat) : Nat := ((BitVec.ofNat 64 a).sshiftRight (b % 64)).toNat
def slt64 (a b : Nat) : Bool := (BitVec.ofNat 64 a).slt (BitVec.ofNat 64 b)

def execAdd (q : Nat) (l : Link) (s : State) : Res := s.runLink 0x00 (alu (fun a b => a + b)) q l
def execSub (q : Nat) (l : Link) (s : State) : Res := s.runLink 0x01 (alu sub64) q l
def execAnd (q : Nat) (l : Link) (s : State) : Res := s.runLink 0x02 (alu (fun a b => a &&& b)) q l
def execOr (q : Nat) (l : Link) (s : State) : Res := s.runLink 0x03 (alu (fun a b => a ||| b)) q l
def execXor (q : Nat) (l : Link) (s : State) : Res := s.runLink 0x04 (alu (fun a b => a ^^^ b)) q l
def execShl (q : Nat) (l : Link) (s : State) : Res := s.runLink 0x05 (alu shl64) q l
def execShr (q : Nat) (l : Link) (s : State) : Res := s.runLink 0x06 (alu shr64) q l
def execSar (q : Nat) (l : Link) (s : State) : Res := s.runLink 0x07 (alu sar64) q l
def execMul (q : Nat) (l : Link) (s : State) : Res := s.runLink 0x08 (alu (fun a b => a * b)) q l
def execMulhu (q : Nat) (l : Link) (s : State) : Res := s.runLink 0x09 (alu (fun a b => a * b / 2 ^ 64)) q l
def execSlt (q : Nat) (l : Link) (s : State) : Res := s.runLink 0x0A (alu (fun a b => boolNat (slt64 a b))) q l
def execSltu (q : Nat) (l : Link) (s : State) : Res := s.runLink 0x0B (alu (fun a b => boolNat (decide (a < b)))) q l
def execMinu (q : Nat) (l : Link) (s : State) : Res := s.runLink 0x0C (alu min) q l
def execMaxu (q : Nat) (l : Link) (s : State) : Res := s.runLink 0x0D (alu max) q l
def execAddi (q : Nat) (l : Link) (s : State) : Res := s.runLink 0x10 (aluSext (fun a b => a + b)) q l
def execAndi (q : Nat) (l : Link) (s : State) : Res := s.runLink 0x11 (aluZext (fun a b => a &&& b)) q l
def execOri (q : Nat) (l : Link) (s : State) : Res := s.runLink 0x12 (aluZext (fun a b => a ||| b)) q l
def execXori (q : Nat) (l : Link) (s : State) : Res := s.runLink 0x13 (aluZext (fun a b => a ^^^ b)) q l
def execShli (q : Nat) (l : Link) (s : State) : Res := s.runLink 0x14 (aluZext shl64) q l
def execShri (q : Nat) (l : Link) (s : State) : Res := s.runLink 0x15 (aluZext shr64) q l
def execSari (q : Nat) (l : Link) (s : State) : Res := s.runLink 0x16 (aluZext sar64) q l

/-- The constant of `ldk` (Table 3.5). -/
def ldkValue (l : Link) : Nat :=
  match l.ext with
  | [] => (l.imm.signExtend 64).toNat
  | [e] => (e.signExtend 64).toNat
  | e :: e2 :: _ => e.toNat + e2.toNat % 2 ^ 25 * 2 ^ 39

def ldkEffect : LinkEffect := fun q l _ _ s => s.linkSets q l (ldkValue l)
def execLdk (q : Nat) (l : Link) (s : State) : Res := s.runLink 0x17 ldkEffect q l

/-- `rdsp` (R68): imm 0 latches the fraction; imm 1 gives the latched fraction right after imm 0. -/
def rdspEffect : LinkEffect := fun q l _ x s =>
  match immN l with
  | 0 =>
    let s := s.modSeq q (fun y => { y with latched := s.frac })
    s.linkSets q l s.secs
  | 1 => s.linkSets q l (if x.after0 then x.latched else s.frac)
  | 2 => s.linkSets q l s.epoch
  | 3 => s.linkSets q l q
  | _ => (.illegal, s)
def execRdsp (q : Nat) (l : Link) (s : State) : Res := s.runLink 0x18 rdspEffect q l

/-! ## Branches (R66) -/

/-- Branch when the condition holds; a target that is no link start is illegal. -/
def branchIf (c : Nat → Nat → Bool) : LinkEffect := fun _ l _ x s =>
  let t := branchTo x.pc l
  if ¬ marked x.starts t then (.illegal, s)
  else if c (x.r l.a.toNat) (x.r l.b.toNat) then (.jump t.toNat, s) else (.next, s)

def execBeq (q : Nat) (l : Link) (s : State) : Res := s.runLink 0x20 (branchIf (fun a b => a == b)) q l
def execBne (q : Nat) (l : Link) (s : State) : Res := s.runLink 0x21 (branchIf (fun a b => a != b)) q l
def execBlt (q : Nat) (l : Link) (s : State) : Res := s.runLink 0x22 (branchIf slt64) q l
def execBge (q : Nat) (l : Link) (s : State) : Res := s.runLink 0x23 (branchIf (fun a b => !slt64 a b)) q l
def execBltu (q : Nat) (l : Link) (s : State) : Res := s.runLink 0x24 (branchIf (fun a b => decide (a < b))) q l
def execBgeu (q : Nat) (l : Link) (s : State) : Res := s.runLink 0x25 (branchIf (fun a b => decide (b ≤ a))) q l
def execJmp (q : Nat) (l : Link) (s : State) : Res := s.runLink 0x26 (branchIf (fun _ _ => true)) q l

/-- `call`: d takes the index of the next link. -/
def callEffect : LinkEffect := fun q l _ x s =>
  let t := branchTo x.pc l
  if ¬ marked x.starts t then (.illegal, s)
  else (.jump t.toNat, s.modSeq q (fun y => y.setR l.d.toNat (x.pc + x.linkWords)))
def execCall (q : Nat) (l : Link) (s : State) : Res := s.runLink 0x27 callEffect q l

/-- `jr`: to word index a. -/
def jrEffect : LinkEffect := fun _ l _ x s =>
  if x.starts.contains (x.r l.a.toNat) then (.jump (x.r l.a.toNat), s) else (.illegal, s)
def execJr (q : Nat) (l : Link) (s : State) : Res := s.runLink 0x28 jrEffect q l

/-! ## Local store -/

/-- a + sext(imm17). -/
def Seq.storeAddr (x : Seq) (l : Link) : Nat := (x.r l.a.toNat + (l.imm.signExtend 64).toNat) % 2 ^ 64

/-- A load or store of n bytes: outside the local store or not aligned it is illegal. -/
def storeOk (a n : Nat) : Bool := inStore a n && a % n == 0

def loadEffect (n : Nat) : LinkEffect := fun q l _ x s =>
  let a := x.storeAddr l
  if storeOk a n then s.linkSets q l (leNat (x.bytes a n)) else (.illegal, s)

def storeEffect (n : Nat) : LinkEffect := fun q l _ x s =>
  let a := x.storeAddr l
  if storeOk a n then (.next, s.modSeq q (fun y => y.putBytes a (leBytes n (x.r l.b.toNat)))) else (.illegal, s)

def execLd (q : Nat) (l : Link) (s : State) : Res := s.runLink 0x30 (loadEffect 8) q l
def execSt (q : Nat) (l : Link) (s : State) : Res := s.runLink 0x31 (storeEffect 8) q l
def execLdw (q : Nat) (l : Link) (s : State) : Res := s.runLink 0x32 (loadEffect 4) q l
def execStw (q : Nat) (l : Link) (s : State) : Res := s.runLink 0x33 (storeEffect 4) q l
def execLdb (q : Nat) (l : Link) (s : State) : Res := s.runLink 0x34 (loadEffect 1) q l
def execStb (q : Nat) (l : Link) (s : State) : Res := s.runLink 0x35 (storeEffect 1) q l

end Sys2Proof.Machine
end

