-- ==== Sys2Proof/Machine/DataLinks.lean ====
section
/-! DEFINITION. The links that move data: `put`, `get`, `copy`, `fill`, `atom` (Table 3.5, R72 to R78, Table 3.3). -/

namespace Sys2Proof.Machine

/-- The length of a data link, in its own unit (Table 3.3). -/
def Seq.length (x : Seq) (l : Link) (t : Sets) : Nat := match t.len with | some r => x.r r | none => immN l

/-- The window stage of a link: true when the descriptor of the key is at hand, else its fetch is under way (R151). -/
def State.winGate (s : State) (q key : Nat) : Bool × State := s.winAsk (keyIdx key) (.link q)

/-- A request of a link. -/
def State.linkOp (s : State) (q : Nat) (x : Seq) (kind : OpKind) (level len : Nat) : Nat × State :=
  s.newOp (.link q x.pc) kind level len

/-- A write of a chain is remembered for `persist` and for its completion (R83). -/
def State.wrote (s : State) (q op key : Nat) : State := s.modSeq q (fun x => { x with wrote := x.wrote ++ [⟨op, key⟩] })

/-- The last part of a request is handed over. -/
def State.handed (s : State) (i : Nat) : State := s.modOp i (fun o => { o with issued := true })

/-- A CTRL form (R51, R72): a request for registers in turn from a control address on; the first that fails ends it. -/
def State.ctrlPut (s : State) (q : Nat) (x : Seq) (a n : Nat) (bs : List Byte) : LinkOut × State :=
  let r := s.linkOp q x .control 1 n
  (.wait (.op r.1 none), (r.2.ctlWrites .chain r.1 bs a (n / 8)).handed r.1)

def State.ctrlGet (s : State) (q : Nat) (x : Seq) (a at_ n : Nat) : LinkOut × State :=
  let r := s.linkOp q x .control 1 n
  (.wait (.get r.1 at_ n none), (r.2.ctlReads .chain r.1 0 a (n / 8)).handed r.1)

/-- Is a CTRL form's length and address legal (R72)? -/
def ctrlOk (a n : Nat) : Bool := n % 8 == 0 && decide (8 ≤ n ∧ n ≤ 512) && a % 8 == 0

/-- A remote write or atomic of a link (Table 3.3): a message of the outbound QP. -/
def State.remoteWrite (s : State) (q : Nat) (x : Seq) (dev typ : Nat) (rq : ReqX) (bs : List Byte)
    (w : Nat → WaitFor) : LinkOut × State :=
  let r := s.linkOp q x .control rq.level (if typ = 0x03 then 8 else 0)
  let m := r.2.sendRemote r.1 dev typ rq bs
  if m.1 then (.wait (w r.1), m.2.wrote q r.1 rq.wkey) else (.status .qpFlushed, m.2.endOp r.1)

/-- What `put` writes: the bytes, or under a SEAL word their blob (R335); none while a USES reservation or a
pipeline (R331) is missing. With them the slot and the version captured (R343). -/
def State.putBytes? (s : State) (q : Nat) (t : Sets) (bs : List Byte) :
    Except LinkOut (List Byte × Option (Nat × Nat)) × State :=
  if t.sealMode = 0 then (.ok (bs, none), s)
  else match s.blobPipe q bs.length with
    | (false, s) => (.error .again, s)
    | (true, s) =>
      match s.sealUse t.slot with
      | (.wait, s) => (.error .again, s)
      | (.refuse st, s) => (.error (.status st), s)
      | (.ok ver uses, s) => (.ok (s.sealBlob t.slot ver uses bs, some (t.slot, ver)), s.count 0x90 0 0)

/-- The slot that a SEAL word names (R92). -/
def Sets.sealSlot (t : Sets) : Option Nat := if t.sealMode = 0 then none else some t.slot

/-- `put` (Table 3.5, R72, R74, R335). -/
def putEffect : LinkEffect := fun q l t x s =>
  let n := x.length l t
  let a := l.a.toNat
  let at_ := x.r l.b.toNat
  if t.ctrl then
    if ¬ ctrlOk (x.r a) n ∨ ¬ inStore at_ n then (.illegal, s)
    else s.ctrlPut q x (x.r a) n (x.bytes at_ n)
  else if n = 0 ∨ 65536 < n ∨ ¬ inStore at_ n then (.illegal, s)
  else
    let bs := x.bytes at_ n
    let key := x.key a
    let level := x.levelOf t
    let len := n + (if t.sealMode = 0 then 0 else 64)
    match t.remote with
    | some dev =>
      (match s.putBytes? q t bs with
       | (.error o, s) => (o, s)
       | (.ok d, s) => s.remoteWrite q x dev 0x01 ⟨key, len, x.off a, 0, level, 0, 0⟩ d.1 (fun i => .op i d.2))
    | none =>
      match s.winGate q key with
      | (false, s) => (.again, s)
      | (true, s) =>
        let v := s.winCheck .chain .write key (x.off a) len
        let s := s.winTold v
        match v with
        | .error st => (.status st, s)
        | .ok (_, tg) =>
          match s.putBytes? q t bs with
          | (.error o, s) => (o, s)
          | (.ok d, s) =>
            let r := s.linkOp q x (tg.kindOf .write) level len
            (.wait (.op r.1 d.2), ((r.2.putTarget .chain r.1 tg 0 d.1 key).handed r.1).wrote q r.1 key)
def execPut (q : Nat) (l : Link) (s : State) : Res := s.runLink 0x40 putEffect q l

/-- `get` (Table 3.5, R72, R74, R336). -/
def getEffect : LinkEffect := fun q l t x s =>
  let n := x.length l t
  let a := l.a.toNat
  let at_ := x.r l.b.toNat
  if t.ctrl then
    if ¬ ctrlOk (x.r a) n ∨ ¬ inStore at_ n then (.illegal, s)
    else s.ctrlGet q x (x.r a) at_ n
  else if n = 0 ∨ 65536 < n ∨ ¬ inStore at_ n then (.illegal, s)
  else
    let key := x.key a
    let len := n + (if t.sealMode = 0 then 0 else 64)
    match t.remote with
    | some dev =>
      let r := s.linkOp q x .read 1 len
      let m := r.2.sendRemote r.1 dev 0x02 ⟨key, len, x.off a, 0, 1, 0, 0⟩ []
      if m.1 then (.wait (.get r.1 at_ n t.sealSlot), m.2) else (.status .qpFlushed, m.2.endOp r.1)
    | none =>
      match s.winGate q key with
      | (false, s) => (.again, s)
      | (true, s) =>
        let v := s.winCheck .chain .read key (x.off a) len
        let s := s.winTold v
        match v with
        | .error st => (.status st, s)
        | .ok (_, tg) =>
          let r := s.linkOp q x (tg.kindOf .read) 1 len
          (.wait (.get r.1 at_ n t.sealSlot), (r.2.getTarget .chain r.1 tg len).handed r.1)
def execGet (q : Nat) (l : Link) (s : State) : Res := s.runLink 0x41 getEffect q l

/-- `copy` (Tables 3.5 and 7.1, R78): its source is read now, or its first line is; the destination has passed a first
window check unless it is remote. -/
def copyEffect : LinkEffect := fun q l t x s =>
  let n := x.length l t
  let a := l.a.toNat
  let b := l.b.toNat
  if n = 0 ∨ 131071 < n then (.illegal, s)
  else
    let j : CopyJob := ⟨0, 0, 0, n, x.key a, x.off a, x.key b, x.off b, t.slot, t.sealMode, t.remote, none, none⟩
    match s.winGate q j.sk with
    | (false, s) => (.again, s)
    | (true, s) =>
      let g := if t.remote.isSome then (true, s) else s.winGate q j.dk
      match g with
      | (false, s) => (.again, s)
      | (true, s) =>
        let vd := s.winCheck .chain .write j.dk j.dof j.dstLen true
        let dst : Except Status OpKind :=
          if t.remote.isSome then .ok .control
          else match vd with
            | .error st => .error st
            | .ok (_, tg) => .ok (tg.kindOf .write)
        let v := s.winCheck .chain .read j.sk j.so j.srcLen true
        let s := if t.remote.isSome then s.winTold v else (s.winTold v).winTold vd
        match v, dst with
        | .error st, _ => (.status st, s)
        | _, .error st => (.status st, s)
        | .ok _, .ok kind =>
          let r := s.linkOp q x .read 1 j.srcLen
          let w := r.2.linkOp q x kind (x.levelOf t) j.dstLen
          let j := { j with rd := r.1, wr := w.1 }
          match (w.2.wrote q w.1 j.dk).copyRead j 0 (if j.whole then j.srcLen else 64) with
          | .error st => (.status st, w.2.winTold (.error st))
          | .ok s => (.wait (.copy j), s)
def execCopy (q : Nat) (l : Link) (s : State) : Res := s.runLink 0x42 copyEffect q l

/-- `fill` (Table 3.5, R170): lines of a repeated 64-bit value, the first eight of them now. -/
def fillEffect : LinkEffect := fun q l t x s =>
  let n := x.length l t
  let a := l.a.toNat
  let key := x.key a
  if n = 0 ∨ 131071 < n then (.illegal, s)
  else match s.winGate q key with
    | (false, s) => (.again, s)
    | (true, s) =>
      let v := s.winCheck .chain .write key (x.off a) (64 * n) true
      let s := s.winTold v
      match v with
      | .error st => (.status st, s)
      | .ok (_, tg) =>
        let r := s.linkOp q x (tg.kindOf .write) (x.levelOf t) (64 * n)
        let m := (r.2.wrote q r.1 key).fillOn ⟨r.1, key, x.off a, n, x.r l.b.toNat, 0⟩
        (.wait m.1, m.2)
def execFill (q : Nat) (l : Link) (s : State) : Res := s.runLink 0x43 fillEffect q l

/-- The number under which the locket cache knows the fills of a sequencer (R175). -/
def seqWho (q : Nat) : Nat := 2 ^ 20 + q

/-- `atom` (Table 3.5, R177): the old value goes to b. -/
def atomEffect : LinkEffect := fun q l t x s =>
  let a := l.a.toNat
  let b := l.b.toNat
  let op := immN l % 16
  let key := x.key a
  let operand := if op = 2 then x.r (b + 1) else x.r b
  let cmp := if op = 2 then x.r b else 0
  if 7 < op then (.illegal, s)
  else match t.remote with
  | some dev =>
    s.remoteWrite q x dev 0x03 ⟨key, 8, x.off a, 0, x.levelOf t, op, 0⟩ (leBytes 8 operand ++ leBytes 8 cmp)
      (fun i => .atom i b)
  | none =>
    match s.winGate q key with
    | (false, s) => (.again, s)
    | (true, s) =>
      let v := s.winCheck .chain .atomic key (x.off a) 8
      let s := s.winTold v
      match v with
      | .error st => (.status st, s)
      | .ok (_, .mem off) =>
        let r := s.linkOp q x .atomic (x.levelOf t) 8
        (.wait (.atom r.1 b), ((r.2.atomicAt r.1 off op operand cmp key (seqWho q)).handed r.1).wrote q r.1 key)
      | .ok _ => (.status .windowRights, s)
def execAtom (q : Nat) (l : Link) (s : State) : Res := s.runLink 0x44 atomEffect q l

end Sys2Proof.Machine
end

