-- ==== Sys2Proof/Machine/SysLinks.lean ====
section
/-! DEFINITION. The links that wait, and those of windows, the twin, tiers and Facet Engines, keys and the system
(Table 3.5); armed links (R75). -/

namespace Sys2Proof.Machine

/-! ## Levels, instants, the end -/

/-- `persist` (R75): level imm[1:0], 0 the profile's. -/
def persistEffect : LinkEffect := fun _ l _ x s =>
  let a := l.a.toNat
  let v := immN l % 4
  (.wait (.persist (if a = 0 then none else some (x.key a)) (if v = 0 then x.level else v)), s)
def execPersist (q : Nat) (l : Link) (s : State) : Res := s.runLink 0x45 persistEffect q l

/-- `sync` (R75). -/
def syncEffect : LinkEffect := fun _ _ _ _ s => (.wait .sync, s)
def execSync (q : Nat) (l : Link) (s : State) : Res := s.runLink 0x46 syncEffect q l

/-- `halt` (R76). -/
def haltEffect : LinkEffect := fun _ l _ x s =>
  match Status.ofCode (x.r l.a.toNat % 256) with
  | none => (.illegal, s)
  | some st => if st.kind = .pending then (.illegal, s) else (.wait (.halt st), s)
def execHalt (q : Nat) (l : Link) (s : State) : Res := s.runLink 0x7C haltEffect q l

/-- `await` (R79). -/
def awaitEffect : LinkEffect := fun _ l _ x s => (.wait (.await (x.instant l.a.toNat)), s)
def execAwait (q : Nat) (l : Link) (s : State) : Res := s.runLink 0x60 awaitEffect q l

/-- `seal` (R79). -/
def sealEffect : LinkEffect := fun _ l _ x s => (.wait (.seal (x.r l.a.toNat % 2 ^ 40)), s)
def execSeal (q : Nat) (l : Link) (s : State) : Res := s.runLink 0x62 sealEffect q l

/-- `cut` (Table 3.5). -/
def cutEffect : LinkEffect := fun q l _ _ s =>
  s.linkSets q l (s.fld F.MER_GCUT_CUT + boolNat s.unsure * 2 ^ 63)
def execCut (q : Nat) (l : Link) (s : State) : Res := s.runLink 0x63 cutEffect q l

/-! ## Windows and the twin -/

/-- `wopen` (R153, R309): the key goes to a once the descriptor's update has ended. -/
def wopenEffect : LinkEffect := fun q l _ x s =>
  let at_ := x.r l.b.toNat
  if ¬ inStore at_ 64 then (.illegal, s)
  else if s.openWaits (Desc.parse (x.bytes at_ 64)) then (.again, s)
  else match s.openWindow (Desc.parse (x.bytes at_ 64)) (some x.ring) (.link q) with
    | (.error st, s) => (.status st, s)
    | (.ok key, s) => (.wait (.wopen l.a.toNat key), s)
def execWopen (q : Nat) (l : Link) (s : State) : Res := s.runLink 0x50 wopenEffect q l

/-- `wrevoke` (R155). -/
def wrevokeEffect : LinkEffect := fun q l _ x s =>
  if s.tableWaits (keyIdx (x.r l.a.toNat)) then (.again, s)
  else match s.revoke (x.r l.a.toNat % 2 ^ 32) (.link q) with
  | (some st, s) => (.status st, s)
  | (none, s) => (.wait .wrevoke, s)
def execWrevoke (q : Nat) (l : Link) (s : State) : Res := s.runLink 0x51 wrevokeEffect q l

/-- `wquery` (Table 6.5). -/
def wqueryEffect : LinkEffect := fun q l _ x s =>
  let at_ := x.r l.b.toNat
  if ¬ inStore at_ 64 then (.illegal, s)
  else if s.tableWaits (keyIdx (x.r l.a.toNat)) then (.again, s)
  else
    let r := s.queryDesc (x.r l.a.toNat % 2 ^ 32)
    (.status r.1, s.modSeq q (fun y => y.putBytes at_ r.2))
def execWquery (q : Nat) (l : Link) (s : State) : Res := s.runLink 0x52 wqueryEffect q l

/-- `tstat` (Table 3.5): the twin state word. -/
def tstatEffect : LinkEffect := fun q l _ _ s => s.linkSets q l (s.readReg .chain 0x22 0 0x30)
def execTstat (q : Nat) (l : Link) (s : State) : Res := s.runLink 0x58 tstatEffect q l

/-- `tresync` (R283). -/
def tresyncEffect : LinkEffect := fun _ _ _ _ s =>
  let r := s.tresync
  (.status r.1, r.2)
def execTresync (q : Nat) (l : Link) (s : State) : Res := s.runLink 0x59 tresyncEffect q l

/-! ## Tiers and Facet Engines -/

/-- The cheaper path that a FALLBACK word, or else the ring's profile, names (R73): policy, handle. -/
def State.fallbackOf (s : State) (x : Seq) (t : Sets) : Nat × Nat :=
  match t.fallback with
  | some (p, r) => (if p = 1 ∨ p = 2 then p else s.fld F.RING_PROFILE_FALLBACK x.ring, x.r r % 2 ^ 32)
  | none => (0, 0)

/-- `tload` (R307). -/
def tloadEffect : LinkEffect := fun q l _ x s =>
  let at_ := x.r l.b.toNat
  if ¬ inStore at_ 64 then (.illegal, s)
  else match s.winGate q (leNat ((x.bytes at_ 64).take 4)) with
  | (false, s) => (.again, s)
  | (true, s) =>
    match s.tload x.ring (x.bytes at_ 64) with
    | (.ok, h, s) => (.status .ok, s.modSeq q (fun y => y.setR l.a.toNat h))
    | (st, _, s) => (.status st, s)
def execTload (q : Nat) (l : Link) (s : State) : Res := s.runLink 0x68 tloadEffect q l

/-- `tpromote` (R314). -/
def tpromoteEffect : LinkEffect := fun _ l t x s =>
  let fb := if t.fallback.isSome then some (s.fallbackOf x t) else none
  match s.tpromote (x.r l.a.toNat % 2 ^ 32) x.ring (immN l % 4) fb with
  | (.done st, s) => (.status st, s)
  | (.wait h tier, s) => (.wait (.promote h tier (t.time.map x.instant)), s)
  | (.again, s) => (.again, s)
def execTpromote (q : Nat) (l : Link) (s : State) : Res := s.runLink 0x69 tpromoteEffect q l

/-- `tevict` (R315): a deferred one takes an asynchronous place. -/
def tevictEffect : LinkEffect := fun q l _ x s =>
  if 64 ≤ x.openAsyncs then (.again, s)
  else match s.tevict (x.r l.a.toNat % 2 ^ 32) x.ring (q, x.chain, x.nextAsync) with
    | (.deferred, s) => (.status .deferred, s.modSeq q (fun y => y.addAsync .evict))
    | (st, s) => (.status st, s)
def execTevict (q : Nat) (l : Link) (s : State) : Res := s.runLink 0x6A tevictEffect q l

/-- `fx` (R318, R319). -/
def fxEffect : LinkEffect := fun q l t x s =>
  let at_ := x.r l.b.toNat
  if ¬ inStore at_ 64 then (.illegal, s)
  else
    let words := (List.range 8).map (wordAt (x.bytes at_ 64))
    match s.winGate q (FxDesc.ofWords words).wkey with
    | (false, s) => (.again, s)
    | (true, s) =>
    let st := s.fxCheck x.ring (FxDesc.ofWords words)
    if st ≠ .ok then (.status st, s)
    else if 16 ≤ s.fxOpen q x.chain ∨ 256 ≤ s.fxQueued then (.again, s)
    else
      let fb := s.fallbackOf x t
      let r := s.fxAccept q x.chain x.ring x.level words (t.time.map x.instant) fb.1 fb.2
      (.status .ok, r.2.modSeq q (fun y => y.setR l.a.toNat r.1))
def execFx (q : Nat) (l : Link) (s : State) : Res := s.runLink 0x6B fxEffect q l

/-- `fwait` (R322). -/
def fwaitEffect : LinkEffect := fun q l _ x s =>
  let tk := x.r l.a.toNat
  match SMap.look s.tiers.ops tk with
  | some o => if o.q = q ∧ o.chain = x.chain then (.wait (.fwait tk), s) else (.status .windowBounds, s)
  | none => (.status .windowBounds, s)
def execFwait (q : Nat) (l : Link) (s : State) : Res := s.runLink 0x6C fwaitEffect q l

/-! ## Keys -/

/-- The slot that a key link names, unless only KS_CMD may change it (R338). -/
def State.keySlotOf (s : State) (v : Nat) : Option Nat :=
  let n := v % 65536
  if n = 0 ∨ n = s.vaultSlot then none else some n

/-- `kload` (R340, R341). -/
def kloadEffect : LinkEffect := fun q l _ x s =>
  let at_ := x.r l.b.toNat
  if ¬ inStore at_ 128 then (.illegal, s)
  else match s.keySlotOf (x.r l.a.toNat) with
    | none => (.status .privilege, s)
    | some n =>
      let b := x.bytes at_ 128
      let good := Config.tagOk b
      match s.loadCheck n b good with
        | .error st => (.status st, s.loadFailed n b good st)
        | .ok e =>
          match s.envOpened.load e (some q) with
          | (true, s) => (.status .ok, s)
          | (false, s) => (.wait (.kload n), s)
def execKload (q : Nat) (l : Link) (s : State) : Res := s.runLink 0x70 kloadEffect q l

/-- `kswap` (R342). -/
def kswapEffect : LinkEffect := fun q l t x s =>
  match s.keySlotOf (x.r l.a.toNat) with
  | none => (.status .privilege, s)
  | some n =>
    let at_ := match t.time with | some p => x.instant p | none => 0
    if at_ ≤ s.time then
      let r := s.swap n
      (.status (if r.1 then .ok else .alreadyDone), r.2.kick)
    else if (s.slot n).swapAt.isSome then (.again, s)
    else (.wait (.kswap n), s.setSlot n { s.slot n with swapAt := some (at_, some q) })
def execKswap (q : Nat) (l : Link) (s : State) : Res := s.runLink 0x71 kswapEffect q l

/-- `kerase` (R345). -/
def keraseEffect : LinkEffect := fun _ l _ x s =>
  match s.keySlotOf (x.r l.a.toNat) with
  | none => (.status .privilege, s)
  | some n => (.status .ok, s.eraseKeys n)
def execKerase (q : Nat) (l : Link) (s : State) : Res := s.runLink 0x72 keraseEffect q l

/-! ## The system -/

/-- `retire` (R219): bit 0 of imm17 names page or bank. -/
def retireEffect : LinkEffect := fun q l _ x s =>
  match s.retire (x.r l.a.toNat) (immN l % 2 == 1) (some q) with
  | (.busy, s) => (.wait .retire, s)
  | (st, s) => (.status st, s)
def execRetire (q : Nat) (l : Link) (s : State) : Res := s.runLink 0x78 retireEffect q l

/-- `evread` (R390). -/
def evreadEffect : LinkEffect := fun q l _ x s =>
  let at_ := x.r l.b.toNat
  let r := s.evRead (x.r l.a.toNat) (immN l % 256)
  if ¬ inStore at_ r.2.2.length then (.illegal, s)
  else (.status r.1, s.modSeq q (fun y => (y.putBytes at_ r.2.2).setR l.a.toNat r.2.1))
def execEvread (q : Nat) (l : Link) (s : State) : Res := s.runLink 0x79 evreadEffect q l

/-- `snap` (R395, R397). -/
def snapEffect : LinkEffect := fun q l _ x s =>
  let a := l.a.toNat
  if a = 0 then (.status .ok, s.takeSnap)
  else if x.instant a ≤ s.time then (.status .ok, s.armSnap (x.instant a) none)
  else (.wait .snap, s.armSnap (x.instant a) (some q))
def execSnap (q : Nat) (l : Link) (s : State) : Res := s.runLink 0x7A snapEffect q l

/-- `fack` (R400). -/
def fackEffect : LinkEffect := fun _ l _ x s =>
  let v := x.r l.a.toNat
  let r := s.fack (bits v 16 16) (v % 65536)
  (.status r.1, r.2)
def execFack (q : Nat) (l : Link) (s : State) : Res := s.runLink 0x7B fackEffect q l

/-! ## Armed links (R75) -/

/-- The effect of an opcode as an armed link; control flow, `sync`, `atmt` and `halt` have none (log entry 62). -/
def armedEffect (op : Nat) : Option LinkEffect :=
  match op with
  | 0x00 => some (alu (fun a b => a + b))
  | 0x01 => some (alu sub64)
  | 0x02 => some (alu (fun a b => a &&& b))
  | 0x03 => some (alu (fun a b => a ||| b))
  | 0x04 => some (alu (fun a b => a ^^^ b))
  | 0x05 => some (alu shl64)
  | 0x06 => some (alu shr64)
  | 0x07 => some (alu sar64)
  | 0x08 => some (alu (fun a b => a * b))
  | 0x09 => some (alu (fun a b => a * b / 2 ^ 64))
  | 0x0A => some (alu (fun a b => boolNat (slt64 a b)))
  | 0x0B => some (alu (fun a b => boolNat (decide (a < b))))
  | 0x0C => some (alu min)
  | 0x0D => some (alu max)
  | 0x10 => some (aluSext (fun a b => a + b))
  | 0x11 => some (aluZext (fun a b => a &&& b))
  | 0x12 => some (aluZext (fun a b => a ||| b))
  | 0x13 => some (aluZext (fun a b => a ^^^ b))
  | 0x14 => some (aluZext shl64)
  | 0x15 => some (aluZext shr64)
  | 0x16 => some (aluZext sar64)
  | 0x17 => some ldkEffect
  | 0x18 => some rdspEffect
  | 0x30 => some (loadEffect 8)
  | 0x31 => some (storeEffect 8)
  | 0x32 => some (loadEffect 4)
  | 0x33 => some (storeEffect 4)
  | 0x34 => some (loadEffect 1)
  | 0x35 => some (storeEffect 1)
  | 0x40 => some putEffect
  | 0x41 => some getEffect
  | 0x42 => some copyEffect
  | 0x43 => some fillEffect
  | 0x44 => some atomEffect
  | 0x45 => some persistEffect
  | 0x50 => some wopenEffect
  | 0x51 => some wrevokeEffect
  | 0x52 => some wqueryEffect
  | 0x58 => some tstatEffect
  | 0x59 => some tresyncEffect
  | 0x60 => some awaitEffect
  | 0x62 => some sealEffect
  | 0x63 => some cutEffect
  | 0x68 => some tloadEffect
  | 0x69 => some tpromoteEffect
  | 0x6A => some tevictEffect
  | 0x6B => some fxEffect
  | 0x6C => some fwaitEffect
  | 0x70 => some kloadEffect
  | 0x71 => some kswapEffect
  | 0x72 => some keraseEffect
  | 0x78 => some retireEffect
  | 0x79 => some evreadEffect
  | 0x7A => some snapEffect
  | 0x7B => some fackEffect
  | _ => none

/-- `atmt` (R75): the next link is armed, w[d] of it reads BUSY, and the chain goes on after it. -/
def atmtEffect : LinkEffect := fun q l _ x s =>
  let i := x.pc + x.linkWords
  match decodeLink (x.words.drop i) with
  | none => (.illegal, s)
  | some (op, m, _) =>
    if (armedEffect op.toNat).isNone ∨ (badWord x.starts i op.toNat m).isSome then (.illegal, s)
    else if s.lacksPriv x op.toNat (settings m op.toNat) then (.ends .privilege, s)
    else if 64 ≤ x.openAsyncs then (.again, s)
    else
      (.over .ok, s.modSeq q (fun y =>
        { (y.addAsync .armed).setR m.d.toNat Status.busy.code with
          armed := y.armed ++ [⟨x.instant l.a.toNat, op.toNat, m, y.nextAsync, i, false⟩] }))
def execAtmt (q : Nat) (l : Link) (s : State) : Res := s.runLink 0x61 atmtEffect q l

/-- Must an armed link wait for FENCE: is an asynchronous operation of the chain open that has issued, or was armed before it
(Table 3.3)? -/
def Seq.armedHeld (x : Seq) (a : ArmedLink) : Bool :=
  (settings a.l a.op).fence && x.asyncs.any (fun (y : AsyncOp) =>
    y.n != a.n && y.what.status?.isNone && (y.what != .armed || decide (y.n < a.n)))

/-- The armed link of a chain that issues next: the earliest that FENCE does not hold. -/
def Seq.readyArmed (x : Seq) : Option ArmedLink :=
  { x with armed := x.armed.filter (fun a => !x.armedHeld a) }.nextArmed

/-- An armed link has issued: its asynchronous operation takes its place in issue order (R75). -/
def Seq.issueArmed (x : Seq) (a : ArmedLink) (w : WaitFor) : Seq :=
  { x with asyncs := x.asyncs.filter (fun (y : AsyncOp) => y.n != a.n) ++ [⟨a.n, w⟩] }

/-- What an armed link came to stands in its asynchronous operation; one that ends the chain is the link that
FAULT_LINK and the Notice name (R83, R90). -/
def State.settleArmed (s : State) (q : Nat) (a : ArmedLink) (out : LinkOut) : State :=
  match s.seq? q with
  | none => s
  | some x =>
    match out with
    | .again => s.setSeq q { x with armed := { a with tried := true } :: x.armed }
    | .wait w => (s.setSeq q (x.issueArmed a w)).linkReturn q
    | .status st =>
      if st = .illegalLink ∨ st = .internal then s.chainEnd q { x with pc := a.pc } st
      else (s.setSeq q (x.issueArmed a (.ready st))).linkReturn q
    | .illegal => s.illegalLink q { x with pc := a.pc } a.op
    | .ends st => s.chainEnd q { x with pc := a.pc } st
    | _ => (s.setSeq q (x.issueArmed a (.ready .ok))).linkReturn q

/-- ARMED_LINK_ISSUE (R75, R87): the earliest armed link of a chain issues at its instant; it counts among the links of the
chain once, however often it must try. -/
def execArmedLinkIssue (q : Nat) (s : State) : Res :=
  onUnit 0x70 q <|
    match s.seq? q with
    | none => .next s
    | some x =>
      match x.readyArmed with
      | none => .next s
      | some a =>
        if ¬ s.chainsRun ∨ x.aborted ∨ x.stopped ∨ (¬ a.tried ∧ s.linkLimit x ≤ x.count) then .next s
        else
          match armedEffect a.op with
          | none => .next s
          | some f =>
            let s := s.reach a.at_
            let s := if a.tried then s else s.count 0x70 q 0
            let x := { x with armed := x.armed.erase a, count := if a.tried then x.count else x.count + 1 }
            let t := settings a.l a.op
            let at_ := { x with pc := a.pc }
            if s.lacksPriv x a.op t then .next (s.chainEnd q at_ .privilege).serve
            else
              let r := f q a.l t at_ (s.setSeq q x)
              .next (r.2.settleArmed q a r.1).serve

end Sys2Proof.Machine
end

