-- ==== Sys2Proof/Machine/Boot.lean ====
section
/-! DEFINITION. Reset, boot and configuration (chapter 18): the reset commands and events (R407 to R410, R422), boot
(Sequence 18.1), the Burold image (R414 to R416, Tables 18.3 and 18.4), the start kinds (R417, R418), the start of
service (R412). -/

namespace Sys2Proof.Machine

/-! ## Resets -/

/-- PIN_RESET (R407, Table 18.1): a warm reset in P0, a restart of the management core alone in P1 and P3, which closes
the expert registers (R59: any reset), nothing in P2 and P4. -/
def execPinReset (s : State) : Res :=
  match s.pow.state with
  | .p0 =>
    let t := s.warmReset 1
    .next { t with core := { t.core with resetN := false } }
  | .p1 | .p3 =>
    .next { s.closeExperts with
      core := { s.core with
        halted := false, wdtEnd := s.core.wdtEnd.map (fun _ => s.mono + ms (s.fld F.BT_WDT_TIMEOUT)) },
      replay := [] }
  | _ => .next s

/-- WATCHDOG_EXPIRY (R407). -/
def execWatchdogExpiry (s : State) : Res :=
  match s.core.wdtEnd with
  | some t => if s.pow.state = .p0 ∨ s.pow.state = .p1 then .next ((s.reachLocal t).warmReset 2) else .next s
  | none => .next s

/-- COMMAND_RESET (R408, R422): RST_CMD with GO = 1. -/
def rowCommandReset (p : Path) (key : Nat) (s : State) : Res :=
  match s.coreWrite p 0x30 (1 + key % 2 ^ 32 * 2 ^ 16) with
  | some r => ends p r
  | none => .next s

/-- WDT_KICK (R422). -/
def rowWdtKick (p : Path) (key : Nat) (s : State) : Res :=
  match s.coreWrite p 0x40 (key % 2 ^ 32) with
  | some r => ends p r
  | none => .next s

/-- RESET_RELEASE (R409). -/
def execResetRelease (s : State) : Res :=
  if s.core.inReset ∧ s.core.holdDone ∧ s.kf.banks.isEmpty ∧ (s.pow.state = .p0 ∨ s.pow.state = .p1) then
    .next { s with core := { s.core with inReset := false, resetN := true } }
  else .next s

/-! ## The Burold image (R414, Table 18.3) -/

/-- A section: type, count, PM_BYTES, and its bytes with the header. -/
structure Sect where
  typ : Nat
  count : Nat
  pm : Nat
  bytes : List Byte
  deriving DecidableEq, Repr

/-- An entry of a REGISTERS or TWIN section. -/
structure ImgEntry where
  twin : Bool
  cls : Nat
  unit : Nat
  off : Nat
  mask : Nat
  value : Nat
  deriving DecidableEq, Repr

/-- Where the Burold slot that the selector names begins, and the bytes that an image in it may have (Table 16.1). -/
def State.buroldBase (s : State) : Nat := (if s.fld F.KF_SEL_CFG = 0 then 8 else 1032) * 65536
def imageRoom : Nat := 512 * 1024 - 8192

/-- n bytes of the selected slot from an offset on. -/
def State.image (s : State) (off n : Nat) : List Byte := s.flashBytes (s.buroldBase + off) n

/-- The sections of a body from an offset on; none when one is not legal or does not fit. -/
def State.imageSections (s : State) : Nat → Nat → Option (List Sect)
  | 0, _ => some []
  | n + 1, off =>
    let b := s.image off 16
    let h := wordAt b 0
    let typ := bits h 0 8
    let count := bits h 32 32
    let pm := wordAt b 1
    let size := 16 + (if typ = 3 then count else 24 * count)
    if typ = 0 ∨ 3 < typ ∨ imageRoom < off + size ∨ (typ ≠ 2 ∧ pm ≠ 0) then none
    else (s.imageSections n (off + size)).map (fun rest => ⟨typ, count, pm, s.image off size⟩ :: rest)

/-- The entries of a section. -/
def Sect.entries (x : Sect) : List ImgEntry :=
  if x.typ = 3 then []
  else (List.range x.count).map (fun i =>
    let b := x.bytes.drop (16 + 24 * i)
    let h := wordAt b 0
    ⟨x.typ == 2, bits h 0 16, bits h 16 16, bits h 32 32, wordAt b 1, wordAt b 2⟩)

/-- A Burold image, read (Table 18.3). -/
structure Burold where
  device : Nat
  initVault : Bool
  signedMax : Nat
  vaultId : Nat
  sects : List Sect
  deriving DecidableEq, Repr

def Burold.entries (x : Burold) : List ImgEntry := x.sects.flatMap Sect.entries

/-- Its TWIN section. -/
def Burold.twin (x : Burold) : Option Sect := x.sects.find? (fun y => y.typ == 2)

/-- Read the body of the selected image: none when test 3 of Table 18.4 fails. -/
def State.parseImage (s : State) : Option Burold :=
  let b := s.image 0 64
  let h := wordAt b 0
  let c := wordAt b 1
  let n := bits c 16 8
  if bits h 0 32 ≠ 0x42555231 ∨ bits h 32 8 ≠ 1 ∨ bits h 40 16 ≠ 0x6440 ∨ bits h 56 8 ≠ 0xB0 ∨ n = 0 ∨ 32 < n then none
  else match s.imageSections n 64 with
    | none => none
    | some xs =>
      if (xs.filter (fun y => y.typ == 2)).length ≠ 1 then none
      else some ⟨bits c 0 14, bitAt c 14, bits c 24 7, wordAt b 2, xs⟩

/-! ## Validation (R415, Table 18.4) -/

/-- The bits of a register that an image may set: fields whose reset is cfg, and RW fields. -/
def imageMask (cls u off : Nat) : Nat :=
  (fieldsAt cls u off).foldl (fun m fi =>
    if fi.1.kind = .cfg ∨ fi.1.acc = .rw then m ||| (2 ^ fi.1.width - 1) * 2 ^ fi.1.lo else m) 0

/-- Test 4 of an entry: a present class and unit, and only fields that an image may set. -/
def State.fits (s : State) (e : ImgEntry) : Bool :=
  match blockOf e.cls with
  | none => false
  | some b => !s.core.fusedOff.contains e.cls && decide (e.unit < b.count ∧ e.off < b.size) && e.off % 8 == 0 &&
      (e.mask &&& imageMask e.cls e.unit e.off) == e.mask

/-- Does an entry set a bit of field f? -/
def ImgEntry.touches (e : ImgEntry) (f : Fld) : Bool :=
  e.cls == f.cls && decide (f.off ≤ e.off ∧ e.off < f.off + 8 * f.n) && bits e.mask f.lo f.width != 0

/-- Apply an entry: register = (register AND NOT MASK) OR (VALUE AND MASK). A set value of VDD_CORE outside the fused
limits is not accepted (R60, R356), and a group of R201 that an entry breaks takes its reset values. -/
def State.applyEntry (s : State) (e : ImgEntry) : State :=
  let t := (fieldsAt e.cls e.unit e.off).foldl (fun (t : State) fi =>
    let m := bits e.mask fi.1.lo fi.1.width
    if m = 0 then t
    else
      let old := t.fldOf e.cls fi.1 e.unit fi.2
      let v := (old &&& (2 ^ fi.1.width - 1 - m)) ||| (bits e.value fi.1.lo fi.1.width &&& m)
      let w := fi.1.settle v
      if fi.1 = F.PS_RAIL_SET_MV ∧ ¬ s.setMay 3 w then t else
      let t := t.setFldOf e.cls fi.1 e.unit w fi.2
      if fi.1.kind = .cfg then
        { t with core := { t.core with
            image := SMap.put fi.1.reset t.core.image (fieldKey e.cls e.unit (fi.1.off + 8 * fi.2) fi.1.lo) w } }
      else t) s
  if e.cls = 0x50 then t.settleSched e.unit e.off else t

/-- The fields whose reset is cfg stand at their defaults before an image is applied (R415), but for RWL fields, which a lock may
hold. -/
def State.cfgDefaults (s : State) : State :=
  { s with
    core := { s.core with image := [] }
    regs := s.regs.filter (fun p => match fieldAt p.1 with | some f => !(f.kind == .cfg && f.acc != .rwl) | none => true) }

/-- Test 6 of an entry: it leaves every locked RWL field as it is. -/
def State.entryKeeps (s : State) (e : ImgEntry) : Bool :=
  (fieldsAt e.cls e.unit e.off).all (fun fi =>
    let m := bits e.mask fi.1.lo fi.1.width
    !(fi.1.acc == .rwl && s.lockedOf e.cls fi.1 e.unit) ||
      (bits e.value fi.1.lo fi.1.width &&& m) == (s.fldOf e.cls fi.1 e.unit fi.2 &&& m))

/-- The fields that DIGEST covers (R281). -/
def twinFields : List Fld :=
  [F.MER_CFG_K, F.MER_CFG_BOUND, F.WIN_TABLE_BASE_ADDR, F.SEQ_LIB_BASE_ADDR, F.RING_SQ_BASE_ADDR, F.RING_CQ_BASE_ADDR,
   F.MER_BEACON_PAGE, F.VLT_CFG_MODE, F.TWIN_CFG_DOMAIN]

/-- The regions that an image reserves, as offset and size. -/
def State.regions (s : State) : List (Nat × Nat) :=
  [(s.winBase, 2 ^ 26), (s.libBase, 2 ^ 28), (s.ctxBase, 2 ^ 28)] ++
  (if s.fld F.MER_BEACON_PAGE = 0 then [] else [(s.beaconPage, 4096)])

/-- Does no region overlap a later one? -/
def disjoint : List (Nat × Nat) → Bool
  | [] => true
  | a :: rest => rest.all (fun b => !overlaps a.1 a.2 b.1 b.2) && disjoint rest

/-- The rules of test 5, in order, over the registers as the image would leave them; each with the fields it is about. -/
def State.imageRules (t : State) (x : Burold) : List (Bool × List Fld) :=
  let es := x.entries
  let isSet (f : Fld) : Bool := es.any (fun e => e.touches f)
  [((List.range 4).all (fun o => t.octetMode (8 * o) == t.octetMode (8 * o + 32)), [F.PORT_CFG_MODE]),
   (decide (2 * t.fld F.MER_CFG_BOUND * second * 8 < 2 ^ t.fld F.MER_CFG_K * 1000000000000),
     [F.MER_CFG_BOUND, F.MER_CFG_K]),
   (t.fld F.TWIN_CFG_PEER_DEV != x.device, [F.TWIN_CFG_PEER_DEV]),
   (isSet F.MER_CFG_BOUND, [F.MER_CFG_BOUND]), (isSet F.KS_CFG_VAULT_SLOT, [F.KS_CFG_VAULT_SLOT]),
   (es.all (fun e => !e.touches F.KS_CFG_VAULT_SLOT || (e.value &&& e.mask) % 65536 != 0), [F.KS_CFG_VAULT_SLOT]),
   (es.all (fun e => !e.touches F.MER_CFG_BOUND ||
      (let b := bits (e.value &&& e.mask) 32 32; decide (100 ≤ b ∧ b ≤ 1000000))), [F.MER_CFG_BOUND]),
   (t.libBase % 2 ^ 28 == 0, [F.SEQ_LIB_BASE_ADDR]),
   (disjoint t.regions, [F.WIN_TABLE_BASE_ADDR, F.SEQ_LIB_BASE_ADDR, F.TR_CTX_BASE_ADDR, F.MER_BEACON_PAGE]),
   (decide (t.fld F.VLT_BUDGET_LIMIT ≤ x.signedMax), [F.VLT_BUDGET_LIMIT])]

/-- Validate an image (Table 18.4): its first failing test with the entry that fails it, or the image as read. -/
def State.validate (s : State) (sigOk : Bool) : Except (Nat × Nat) Burold :=
  if (s.image 0 64).all (fun x => x == 0xFF#8) then .error (1, 0)
  else if ¬ sigOk then .error (2, 0)
  else match s.parseImage with
    | none => .error (3, 0)
    | some x =>
      let es := x.entries
      match es.findIdx? (fun e => !s.fits e) with
      | some i => .error (4, i)
      | none =>
        let t := es.foldl State.applyEntry s.cfgDefaults
        match (t.imageRules x).find? (fun r => !r.1) with
        | some r => .error (5, (es.findIdx? (fun e => r.2.any e.touches)).getD es.length)
        | none =>
          match es.findIdx? (fun e => !e.twin && twinFields.any e.touches) with
          | some i => .error (5, i)
          | none =>
            if s.core.imageLock then
              match es.findIdx? (fun e => !s.entryKeeps e) with
              | some i => .error (6, i)
              | none => .ok x
            else .ok x

/-! ## Applying an image -/

/-- The eight bytes of a digest from byte 8i on, as a register. -/
def State.setDigest (s : State) (d : List Byte) : State :=
  (List.range 6).foldl (fun (t : State) i => t.setFld F.TWIN_DIGEST 0 (leNat ((d.drop (8 * i)).take 8)) i) s

/-- Reload the key slots whose envelopes verify (R338). -/
def State.reloadGood (s : State) (bad : List Nat) : State :=
  (s.keys.envs.filter (fun p => p.1 % 2 == 0 && !bad.contains (p.1 / 2))).foldl (fun (t : State) p => t.reloadSlot (p.1 / 2)) s

/-- The rewrite of the Hallmark Table on the first image that is accepted after a reset (R45); the table then stays. -/
def State.rewriteHallmark (s : State) (x : Burold) : State :=
  if s.flag F.HT_CFG_VALID then s
  else
    let s := ((s.setFld F.HT_CFG_VALID 0 1).setFld F.HT_DEVICE_NUMBER 0 x.device).bump F.HT_GENERATION
    { s with core := { s.core with
        cfgOff := (blocks.map Blk.cls).filter (Config.cfgOff (x.sects.flatMap Sect.bytes)),
        rewriteEnd := some (s.mono + min (us 50) Config.rewriteTime) } }

/-- Apply a validated image (R415, R45, R441): its entries, DIGEST, the Hallmark rewrite, the vault's identity, the image
lock; then the key slots reload (R338). -/
def State.applyImage (s : State) (x : Burold) (k : BootFacts) : State :=
  let s := x.entries.foldl State.applyEntry s.cfgDefaults
  let tw := x.twin
  let s := s.setDigest (sha384 (match tw with | some y => y.bytes | none => []))
  let s := s.setFld F.VLT_BUDGET_SIGNED_MAX 0 (F.VLT_BUDGET_SIGNED_MAX.settle x.signedMax)
  let s := s.setFld F.TWIN_STAT_PREFERRED 0 (s.fld F.TWIN_CFG_PREFERRED)
  let s := s.rewriteHallmark x
  let s := { s with
    core := { s.core with imageLock := true },
    vault := { s.vault with
      vaultId := x.vaultId, initVault := x.initVault, pmBytes := (match tw with | some y => y.pm | none => 0) },
    life := { s.life with signedImage := decide (s.life.state ≠ Life.blank) } }
  let s := if s.flag F.CE_STAT_KAT_OK then s.reloadGood k.badTags else s
  s.kick.settleMer.showEst.judgeSure.judgeHeld

/-! ## The memory and the vault (steps 5 and 6) -/

/-- The highest data rate of Table 8.1; none of the other populations is supported. -/
def rateLimit (kind dpc ranks : Nat) : Nat :=
  match kind, dpc with
  | 1, 1 => if ranks = 1 ∨ ranks = 2 then 6400 else 0
  | 1, 2 => if ranks = 1 ∨ ranks = 2 then 5200 else 0
  | 2, 1 => if ranks = 2 then 8000 else 0
  | _, _ => 0

/-- The one data rate of all channels (R187): the lowest of Table 8.1, the slowest SPD rating, and the lowest MC_LIMIT. -/
def State.dataRate (s : State) (dpc : Nat) (ds : List Dimm) (d : Dimm) : Nat :=
  let limit := (List.range 16).foldl (fun n c => min n (s.fld F.MC_LIMIT_MTS c)) (s.fld F.MC_LIMIT_MTS 0)
  min (min (rateLimit d.kind dpc d.ranks) (ds.foldl (fun n (x : Dimm) => min n x.mts) d.mts)) limit

/-- MC_STAT.POP_ERR of a population (R185 to R187, Table 8.4), 0 when it is legal. Several causes: the first in this order
(log entry 115). -/
def State.popErr (s : State) (chans : List (List Dimm)) : Nat :=
  let ds := chans.flatten
  match chans, ds with
  | c :: _, d :: _ =>
    if ds.any (fun x => !x.readable) then 6
    else if chans.length ≠ 16 ∨ c.length = 0 ∨ 2 < c.length ∨ chans.any (fun x => x.length != c.length) then 5
    else if ds.any (fun x => !x.x4ec8 || (x.kind != 1 && x.kind != 2)) then 2
    else if ds.any (fun x => x.kind != d.kind || x.gib != d.gib || x.ranks != d.ranks || x.mts != d.mts) then 1
    else if ds.any (fun x => decide (x.gib < 32 ∨ 256 < x.gib)) then 3
    else if s.dataRate c.length ds d < 4800 then 4 else 0
  | _, _ => 5

/-- MC_MAP.LAYOUT (R191, Table 8.4): column, bank group, bank and rank bits as the SPD gives them, and the rest of the line
index as row bits. -/
def mapLayout (d : Dimm) (dpc : Nat) : Nat :=
  let rkb := Nat.log2 (dpc * d.ranks)
  let lines := Nat.log2 (dpc * d.gib * 2 ^ 30 / 128)
  d.colb % 16 + d.bgb % 16 * 2 ^ 4 + d.bkb % 16 * 2 ^ 8 + rkb % 4 * 2 ^ 12 +
    (lines - (d.colb + d.bgb + d.bkb + rkb)) % 32 * 2 ^ 16

/-- Discovery on the sideband buses (R189): the buses go on from I2C to I3C, with a dynamic address for every DIMM; the
addresses are free. -/
def State.discover (s : State) (chans : List (List Dimm)) : State :=
  let ids := chans.zipIdx.flatMap (fun c => (List.range c.1.length).map (fun i => 2 * c.2 + i))
  { s with
    free := s.free + ids.length,
    chan := { s.chan with
      i3c := [0, 1, 2, 3],
      dyn := ids.zipIdx.map (fun x => (x.1, (Config.freeWord (s.free + x.2)).toNat % 128)) } }

/-- Step 5: the population (R187), or its refusal; the channels train. -/
def State.bootMemory (s : State) (k : BootFacts) : State :=
  let err := s.popErr k.dimms
  let dpc := (k.dimms.headD []).length
  let d := (k.dimms.flatten).headD ⟨false, 0, false, 0, 0, 0, 0, 0, 0⟩
  let mts := s.dataRate dpc k.dimms.flatten d
  let s := s.discover k.dimms
  let all (t : State) (f : Fld) (v : Nat) : State := (List.range 16).foldl (fun (t : State) c => t.setFld f c v) t
  let s := s.setFld F.BT_STAT_STATE 0 4
  if err ≠ 0 then ((all s F.MC_STAT_POP_ERR err).raise 0x50 0 3 0x01 err).refuseBoot 1
  else
    let s := [(F.MC_STAT_POP_ERR, 0), (F.MC_STAT_TYPE, d.kind), (F.MC_STAT_DPC, dpc), (F.MC_STAT_RANKS, d.ranks),
      (F.MC_STAT_MTS, mts), (F.MC_STAT_GIB, dpc * d.gib), (F.MC_MAP_LAYOUT, mapLayout d dpc),
      (F.MC_STAT_STATE, 1)].foldl (fun t p => all t p.1 p.2) s
    let up := k.drives.map (fun d => d.1 % 8)
    let old := s.vault.drives
    let drives := (List.range 8).foldl (fun (m : SMap Drive) d =>
      let was := (SMap.look old d).getD ⟨false, false, none, none⟩
      if up.contains d then SMap.ins m d { was with lost := false }
      else if (SMap.look old d).isSome then SMap.ins m d { was with lost := true } else m) []
    let sizes := k.drives.map (fun d => d.2)
    let least := sizes.foldl min (sizes.headD 0)
    let fits := sizes.all (fun n => n == least) && decide (3 * s.dramBytes ≤ 2 * (8 * least))
    let slots := if fits then (least - 2 ^ 20) / 262144 else 0
    { s with
      chan := { s.chan with held := false },
      vault := { s.vault with drives := drives, slots := slots } }

/-- Do the regions of the image lie within the trained capacity (R412)? -/
def State.regionsFit (s : State) : Bool :=
  let room := s.dramBytes - s.poolUnits * 4096
  decide (s.vault.pmBytes ≤ room ∧ s.ctxBase + 2 ^ 28 ≤ room) &&
  s.regions.all (fun r => r.1 == s.ctxBase || decide (r.1 + r.2 ≤ s.vault.pmBytes))

/-- Drives count as lost at a mount when their copies carry a lower GENERATION or another VAULT_ID (R247). -/
def State.mountDrives (s : State) (b : Super) : State :=
  let mine (x : Option Super) : Bool :=
    match x with | some y => y.vaultId == b.vaultId && y.generation == b.generation | none => false
  let drives := s.vault.drives.map (fun p => if mine p.2.sb0 || mine p.2.sb1 then p else (p.1, { p.2 with lost := true }))
  let s := { s with vault := { s.vault with drives := drives } }
  let lost := (List.range 8).filter (fun d => (match SMap.look drives d with | some x => x.lost | none => true))
  let s := (s.setFld F.VLT_STAT_DEGRADED 0 (boolNat (!lost.isEmpty))).setFld F.VLT_STAT_DRIVES 0
    (255 - lost.foldl (fun n d => n + 2 ^ d) 0)
  lost.zipIdx.foldl (fun (t : State) x =>
    if x.2 = 0 then t.raise 0x60 0 3 0x05 x.1 else t.raise 0x60 0 4 0x06 x.1) s

/-- What a start that does not retain the DRAM forgets of it (R417): its content, the dirty table, the cut journal. -/
def State.forgetDram (s : State) : State :=
  let s := (List.range 16).foldl (fun (t : State) c => t.setFld F.MC_STAT_RETAINED c 0) s
  { s with
    pipe := { State.reset.pipe with
      highStamp := s.pipe.highStamp, sealedE := s.pipe.sealedE,
      nextOp := s.pipe.nextOp, nextWrite := s.pipe.nextWrite },
    vault := { s.vault with dirty := [], journal := [], unfilled := [], total := 0, rescue := [], atWarn := none } }

/-- Wait for a restore target, or apply the image's (R249). -/
def State.mountTarget (s : State) : State :=
  let wait (s : State) : State :=
    let s : State := { s with vault := { s.vault with awaiting := true } }
    s.setFld F.BT_STAT_STATE 0 5
  if s.flag F.VLT_CFG_AWAIT then wait s
  else
    let kind := s.fld F.VLT_RESTORE_TARGET_KIND
    let e := s.fld F.VLT_RESTORE_EPOCH
    match s.applyTarget kind e with
    | (true, s) => s
    | (false, s) => wait (s.raise 0x60 0 3 0x0A kind e)

/-- A vaulted start (R247, R249, R297, R417): the mount. -/
def State.startVaulted (s : State) (b : Super) : State :=
  let s := (s.forgetDram.mountDrives b).markAll
  let newK := match s.mer.lastK with | some k => k != s.fld F.MER_CFG_K | none => false
  let floor := if newK then s.epoch else b.floorE
  let g := s.platedGranules
  let loss := b.state == 1
  let s := { s with
    vault := { s.vault with floorE := floor, unfilled := g, total := g.length, nonLatest := false },
    pipe := { s.pipe with highStamp := if b.lastEpoch = 0 then none else some b.lastEpoch, sealedE := b.sealedE },
    twin := { s.twin with joinKind := if loss || b.twinDep then 2 else 1 } }
  let s := (s.setFld F.VLT_CUTINFO_FLOOR 0 floor).setFld F.VLT_CUTINFO_SEALED 0 b.sealedE
  let s := s.setFld F.VLT_CUTINFO_LAST 0 (if newK then (floor + 2 ^ 40 - 1) % 2 ^ 40 else b.lastEpoch)
  let s := s.setFld F.MER_GCUT_CUT 0 b.gcut
  let s := if loss then (s.setFld F.VLT_STAT_LOSS 0 1).raise 0x60 0 3 0x08 else s
  ((s.setFld F.BT_STAT_START 0 3).setFld F.VLT_STAT_STATE 0 1).mountTarget

/-- A first start (R418): superblocks with STATE 1, GENERATION 1 and FLOOR the current epoch. -/
def State.startFirst (s : State) : State :=
  let s := s.forgetDram.markAll
  let s := { s with
    vault := { s.vault with
      strands := [], floorE := s.epoch, nonLatest := false,
      drives := s.vault.drives.map (fun (p : Nat × Drive) => (p.1, { p.2 with sb0 := none, sb1 := none })) },
    twin := { s.twin with joinKind := 2, everHeld := false } }
  (((s.writeSuper 1).setFld F.VLT_CUTINFO_FLOOR 0 s.vault.floorE).setFld F.BT_STAT_START 0 1).setFld F.VLT_STAT_STATE 0 1

/-- A retained start (R247, R417): no mount. -/
def State.startRetained (s : State) : State :=
  let s := { s with twin := { s.twin with joinKind := 0 } }
  (s.setFld F.BT_STAT_START 0 2).setFld F.VLT_STAT_STATE 0 1

/-- Step 6 (R417, Table 18.5), once every channel is trained: PERST# is released, and the start is chosen. -/
def State.bootVault (s : State) : State :=
  let s : State := { s with vault := { s.vault with linksUp := true } }
  if ¬ s.regionsFit then s.refuseBoot 4
  else if s.vault.slots = 0 then s.refuseVault 4
  else
    let s := s.setFld F.VLT_STAT_DRIVES 0
      ((s.vault.drives.filter (fun p => !p.2.lost)).foldl (fun n p => n + 2 ^ p.1) 0)
    if (List.range 16).all (fun c => s.flag F.MC_STAT_RETAINED c) then s.startRetained
    else match s.rulingSb with
      | some b => s.startVaulted b
      | none =>
        if s.vault.drives.any (fun p => p.2.sb0.isSome || p.2.sb1.isSome) then s.refuseVault 5
        else if s.vault.initVault then s.startFirst
        else s.refuseBoot 3

/-- CHANNEL_TRAINING_DONE (R199, R194): training ends, or fails: RETAINED clears, Critical fault. With the last channel
trained boot goes on to step 6. -/
def execChannelTrainingDone (ch : Nat) (good : Bool) (s : State) : Res :=
  onUnit 0x50 ch <|
    if s.fld F.MC_STAT_STATE ch ≠ 1 then .next s
    else
      let lo := bankKey ch 0 0
      let s := { s with chan := { s.chan with
        banks := s.chan.banks.filter (fun p => decide (p.1 < lo ∨ lo + 2048 ≤ p.1)), trained := true } }
      if good then
        let s := s.setFld F.MC_STAT_STATE ch 2
        if s.fld F.BT_STAT_STATE = 4 ∧ s.fld F.BT_STAT_START = 0 ∧
            (List.range 16).all (fun c => s.fld F.MC_STAT_STATE c == 2) then .next s.bootVault
        else .next s
      else .next ((((s.setFld F.MC_STAT_STATE ch 4).setFld F.MC_STAT_POP_ERR ch 7).setFld F.MC_STAT_RETAINED ch 0).raise
        0x50 ch 3 0x05)

/-! ## Boot -/

/-- Step 4 and what follows (R415, R416): a refused image leaves AWAITING_CONFIG. -/
def State.bootImage (s : State) (k : BootFacts) : State :=
  match s.validate k.cfgOk with
  | .error (cause, i) =>
    ((s.setFld F.BT_STAT_STATE 0 3).setFld F.BT_STAT_CAUSE 0 cause).setFld F.BT_ENTRY_INDEX 0 i
  | .ok x => (((s.setFld F.BT_STAT_CAUSE 0 0).setFld F.BT_ENTRY_INDEX 0 0).applyImage x k).bootMemory k

/-- Step 3 (R385): the firmware slot that boots, with the records and the fault of a fallback; none when neither slot
passes. -/
def State.pickFirmware (s : State) (ok : List Bool) : Option Nat × State :=
  let good (i : Nat) : Bool := ok.getD i false
  let a := s.fld F.KF_SEL_FW
  let b := 1 - a
  let trial := s.flag F.KF_SEL_TRY && s.fld F.BT_STAT_LAST_RESET == 2
  let fall (s : State) (from_ to_ reason : Nat) : State :=
    (s.appendSelector to_ 0 (s.fld F.KF_SEL_CFG)).raise 0x02 0 2 0x02 (from_ + reason * 256)
  if ¬ good a ∧ ¬ good b then (none, s)
  else if good a ∧ ¬ trial then (some a, s)
  else
    let s := fall s a b (if good a then 1 else 0)
    if good b then (some b, s) else (some a, fall s b a 0)

/-- Step 2 (R332, R338): the known-answer tests; slot 0 reloads. -/
def State.bootTests (s : State) (k : BootFacts) : State :=
  let s := s.setFld F.CE_STAT_PIPES 0 16
  match k.katFail with
  | some t => s.raise 0x90 0 4 0x01 t
  | none =>
    let s := s.setFld F.CE_STAT_KAT_OK 0 1
    if k.badTags.contains 0 then s else s.reloadSlot 0

/-- BOOT (R411, Sequence 18.1): tests, firmware, image, population, training; from there CHANNEL_TRAINING_DONE,
MEASUREMENT_DONE and SERVICE_START carry it on. -/
def execBoot (k : BootFacts) (s : State) : Res :=
  if s.pow.state ≠ .p0 ∨ s.core.inReset ∨ s.pow.warn ∨ s.fld F.BT_STAT_STATE ≠ 0 then .next s
  else
    let s := { s with pow := { s.pow with sq := if s.pow.sq = PSeq.checkpoint then .idle else s.pow.sq } }
    let s := s.findTorn.bootTests k
    match s.pickFirmware k.fwOk with
    | (none, s) => .next (s.setFld F.BT_STAT_STATE 0 1)
    | (some slot, s) =>
      let s := (s.setFld F.KF_VER_VERSION 0 k.version).setFld F.KF_VER_LEVEL 0 k.level
      let s := (s.setFld F.KF_SEL_BOOTED 0 slot).setFld F.BT_STAT_STATE 0 2
      let s := { s with core := { s.core with wdtEnd := some (s.mono + ms (s.fld F.BT_WDT_TIMEOUT)) } }
      .next (s.bootImage k)

/-- BOOT_RESUME (R416): an image for AWAITING_CONFIG, or the new image that leaves REFUSED (R412). -/
def execBootResume (k : BootFacts) (s : State) : Res :=
  let at_ := s.fld F.BT_STAT_STATE
  if s.pow.state ≠ .p0 ∨ s.core.inReset ∨ s.pow.warn ∨ (at_ ≠ 3 ∧ at_ ≠ 8) then .next s
  else .next ((s.setFld F.BT_STAT_START 0 0).bootImage k)

/-! ## Service -/

/-- The conditions of R412 other than the epoch check; in SCRAPPED there is no service (Table 0.6). -/
def State.mayServe (s : State) : Bool :=
  s.fld F.BT_STAT_STATE == 6 && s.pow.state == .p0 && !s.pow.warn && !s.core.inReset &&
  (s.flag F.MER_CFG_START_UNSURE || (s.fld F.MER_STAT_STATE == 2 && !s.unsure)) &&
  s.fld F.VLT_STAT_STATE == 3 && s.pow.holdupOk && !s.life.held && s.life.state != .scrapped && s.planeUp 0 && s.planeUp 1

/-- SERVICE_START (R412, R267): service starts; or, the epoch check not passing, it is held. -/
def execServiceStart (s : State) : Res :=
  if ¬ s.mayServe then .next s
  else if ¬ s.epochOk (s.fld F.BT_STAT_START == 2) then
    .next { s with mer := { s.mer with epochHold := some (s.mer.epochHold.getD s.mono) } }
  else
    let s := s.moveNext.setFld F.BT_STAT_STATE 0 7
    let s := { s with
      pipe := { s.pipe with taking := true },
      mer := { s.mer with epochHold := none, lastK := some (s.fld F.MER_CFG_K) } }
    let s := { s with vault := { s.vault with floorE := s.floorNow } }
    .next ((s.writeSuper 1).judgeDiag).serve

end Sys2Proof.Machine
end

