-- ==== Sys2Proof/Machine/Rows.lean ====
section
/-! DEFINITION. The commands that a path gives to a register of one class: each is the command's meaning (its `row`
definition, with the unit it acts on) behind the shared access of R51 and Table 2.3. -/

namespace Sys2Proof.Machine

def execSeqInstall (p : Path) (slot : Nat) (s : State) : Res :=
  s.access 0x70 p (rowSeqInstall p slot)
def execRingSqTailWrite (p : Path) (ring idx : Nat) (s : State) : Res :=
  s.access 0x71 p (rowRingSqTailWrite p ring idx)
def execRingCqHeadWrite (p : Path) (ring idx : Nat) (s : State) : Res :=
  s.access 0x71 p (rowRingCqHeadWrite p ring idx)
def execRingAbort (p : Path) (ring tag : Nat) (s : State) : Res :=
  s.access 0x71 p (rowRingAbort p ring tag)
def execBlkXaccWrite (p : Path) (cls u : Nat) (v : W64) (s : State) : Res :=
  s.access cls p (rowBlkXaccWrite p cls u v)
def execQpCreate (p : Path) (qp : Nat) (s : State) : Res :=
  s.access 0x20 p (rowQpCreate p qp)
def execQpReady (p : Path) (qp : Nat) (s : State) : Res :=
  s.access 0x20 p (rowQpReady p qp)
def execQpError (p : Path) (qp : Nat) (s : State) : Res :=
  s.access 0x20 p (rowQpError p qp)
def execQpReset (p : Path) (qp : Nat) (s : State) : Res :=
  s.access 0x20 p (rowQpReset p qp)
def execQpQuery (p : Path) (qp quarter : Nat) (s : State) : Res :=
  s.access 0x20 p (rowQpQuery p qp quarter)
def execQpModify (p : Path) (qp : Nat) (s : State) : Res :=
  s.access 0x20 p (rowQpModify p qp)
def execWinOpen (p : Path) (s : State) : Res :=
  s.access 0x30 p (rowWinOpen p)
def execWinRevoke (p : Path) (key : Nat) (s : State) : Res :=
  s.access 0x30 p (rowWinRevoke p key)
def execWinQuery (p : Path) (key : Nat) (s : State) : Res :=
  s.access 0x30 p (rowWinQuery p key)
def execWinRecycle (p : Path) (idx : Nat) (s : State) : Res :=
  s.access 0x30 p (rowWinRecycle p idx)
def execLocketDisable (p : Path) (s : State) : Res :=
  s.access 0x42 p (rowLocketDisable p)
def execLocketEnable (p : Path) (s : State) : Res :=
  s.access 0x42 p (rowLocketEnable p)
def execSidebandCmd (p : Path) (ch : Nat) (k : Sideband) (s : State) : Res :=
  s.access 0x50 p (rowSidebandCmd p ch k)
def execMarkSet (p : Path) (idx dev : Nat) (s : State) : Res :=
  s.access 0x51 p (rowMarkSet p idx dev)
def execMarkClear (p : Path) (idx : Nat) (s : State) : Res :=
  s.access 0x51 p (rowMarkClear p idx)
def execBzRetirePage (p : Path) (off : Nat) (s : State) : Res :=
  s.access 0x51 p (rowBzRetirePage p off)
def execBzRetireBank (p : Path) (off : Nat) (s : State) : Res :=
  s.access 0x51 p (rowBzRetireBank p off)
def execInjectNow (p : Path) (s : State) : Res :=
  s.access 0x51 p (rowInjectNow p)
def execBudgetLimitWrite (p : Path) (gib : Nat) (s : State) : Res :=
  s.access 0x60 p (rowBudgetLimitWrite p gib)
def execRestoreGo (p : Path) (kind e : Nat) (s : State) : Res :=
  s.access 0x60 p (rowRestoreGo p kind e)
def execGcutWrite (p : Path) (v : Nat) (s : State) : Res :=
  s.access 0x07 p (rowGcutWrite p v)
def execSuspectClear (p : Path) (s : State) : Res :=
  s.access 0x07 p (rowSuspectClear p)
def execTwinResync (p : Path) (s : State) : Res :=
  s.access 0x22 p (rowTwinResync p)
def execTwinHandover (p : Path) (s : State) : Res :=
  s.access 0x22 p (rowTwinHandover p)
def execTwinAssume (p : Path) (s : State) : Res :=
  s.access 0x22 p (rowTwinAssume p)
def execSetPrefix (p : Path) (entry len : Nat) (s : State) : Res :=
  s.access 0x22 p (rowSetPrefix p entry len)
def execSetClaim (p : Path) (entry plane claim : Nat) (s : State) : Res :=
  s.access 0x22 p (rowSetClaim p entry plane claim)
def execClmQuery (p : Path) (entry : Nat) (s : State) : Res :=
  s.access 0x22 p (rowClmQuery p entry)
def execClmClear (p : Path) (entry : Nat) (s : State) : Res :=
  s.access 0x22 p (rowClmClear p entry)
def execTmQuery (p : Path) (h : Nat) (s : State) : Res :=
  s.access 0x81 p (rowTmQuery p h)
def execDropAll (p : Path) (s : State) : Res :=
  s.access 0x81 p (rowDropAll p)
def execReclaim (p : Path) (s : State) : Res :=
  s.access 0x81 p (rowReclaim p)
def execTmNeighWrite (p : Path) (v : W64) (s : State) : Res :=
  s.access 0x81 p (rowTmNeighWrite p v)
def execFeDisable (p : Path) (e : Nat) (s : State) : Res :=
  s.access 0x80 p (rowFeDisable p e)
def execKsLoad (p : Path) (slot : Nat) (tagOk : Bool) (s : State) : Res :=
  s.access 0x91 p (rowKsLoad p slot tagOk)
def execKsSwap (p : Path) (slot : Nat) (s : State) : Res :=
  s.access 0x91 p (rowKsSwap p slot)
def execKsErase (p : Path) (slot : Nat) (s : State) : Res :=
  s.access 0x91 p (rowKsErase p slot)
def execKsQuery (p : Path) (slot : Nat) (s : State) : Res :=
  s.access 0x91 p (rowKsQuery p slot)
def execKsReload (p : Path) (s : State) : Res :=
  s.access 0x91 p (rowKsReload p)
def execKsPurge (p : Path) (slot : Nat) (s : State) : Res :=
  s.access 0x91 p (rowKsPurge p slot)
def execLcAlarmClear (p : Path) (mask : Nat) (s : State) : Res :=
  s.access 0x08 p (rowLcAlarmClear p mask)
def execLcProvision (p : Path) (s : State) : Res :=
  s.access 0x08 p (rowLcProvision p)
def execLcDeploy (p : Path) (s : State) : Res :=
  s.access 0x08 p (rowLcDeploy p)
def execLcReturn (p : Path) (sigOk : Bool) (s : State) : Res :=
  s.access 0x08 p (rowLcReturn p sigOk)
def execLcScrap (p : Path) (sigOk : Bool) (s : State) : Res :=
  s.access 0x08 p (rowLcScrap p sigOk)
def execLcSvnBump (p : Path) (sigOk : Bool) (s : State) : Res :=
  s.access 0x08 p (rowLcSvnBump p sigOk)
def execLcDebug (p : Path) (level : Nat) (sigOk : Bool) (s : State) : Res :=
  s.access 0x08 p (rowLcDebug p level sigOk)
def execPsStandby (p : Path) (s : State) : Res :=
  s.access 0x03 p (rowPsStandby p)
def execPsDormant (p : Path) (s : State) : Res :=
  s.access 0x03 p (rowPsDormant p)
def execPsWake (p : Path) (s : State) : Res :=
  s.access 0x03 p (rowPsWake p)
def execRailSetWrite (p : Path) (mv : Nat) (s : State) : Res :=
  s.access 0x03 p (rowRailSetWrite p mv)
def execKfUnlock (p : Path) (key : Nat) (s : State) : Res :=
  s.access 0x04 p (rowKfUnlock p key)
def execKfProgram (p : Path) (v : W64) (s : State) : Res :=
  s.access 0x04 p (rowKfProgram p v)
def execKfErase (p : Path) (addr : Nat) (s : State) : Res :=
  s.access 0x04 p (rowKfErase p addr)
def execKfVerify (p : Path) (slot : Nat) (sigOk : Bool) (s : State) : Res :=
  s.access 0x04 p (rowKfVerify p slot sigOk)
def execKfSelect (p : Path) (slot : Nat) (s : State) : Res :=
  s.access 0x04 p (rowKfSelect p slot)
def execKfConfirm (p : Path) (addr : Nat) (s : State) : Res :=
  s.access 0x04 p (rowKfConfirm p addr)
def execEvCursorWrite (p : Path) (sq : Nat) (s : State) : Res :=
  s.access 0x05 p (rowEvCursorWrite p sq)
def execFaultAck (p : Path) (cls u : Nat) (s : State) : Res :=
  s.access cls p (rowFaultAck p cls u)
def execLpSnapArm (p : Path) (s : State) : Res :=
  s.access 0x06 p (rowLpSnapArm p)
def execLpSnapNow (p : Path) (s : State) : Res :=
  s.access 0x06 p (rowLpSnapNow p)
def execLpFreezeArm (p : Path) (s : State) : Res :=
  s.access 0x06 p (rowLpFreezeArm p)
def execLpFreezeNow (p : Path) (s : State) : Res :=
  s.access 0x06 p (rowLpFreezeNow p)
def execLpThaw (p : Path) (s : State) : Res :=
  s.access 0x06 p (rowLpThaw p)
def execLpClear (p : Path) (bank : Nat) (s : State) : Res :=
  s.access 0x06 p (rowLpClear p bank)
def execLpEvselWrite (p : Path) (i v : Nat) (s : State) : Res :=
  s.access 0x06 p (rowLpEvselWrite p i v)
def execPortEnable (p : Path) (port : Nat) (s : State) : Res :=
  s.access 0x11 p (rowPortEnable p port)
def execPortDisable (p : Path) (port : Nat) (s : State) : Res :=
  s.access 0x11 p (rowPortDisable p port)
def execCommandReset (p : Path) (key : Nat) (s : State) : Res :=
  s.access 0x02 p (rowCommandReset p key)
def execWdtKick (p : Path) (key : Nat) (s : State) : Res :=
  s.access 0x02 p (rowWdtKick p key)
def execMerTimeSRead (p : Path) (s : State) : Res := rowMerTimeSRead p (s.finishPath p)

end Sys2Proof.Machine
end

