-- ==== Sys2Proof/Machine/Dispatch.lean ====
section
/-! DEFINITION. The meaning of every command, one arm each. -/

namespace Sys2Proof.Machine

def exec (i : Instr) (s : State) : Host.Outcome State Fault Refusal :=
  match i with
  | .add q l => Sys2Proof.Machine.execAdd q l s
  | .sub q l => Sys2Proof.Machine.execSub q l s
  | .and q l => Sys2Proof.Machine.execAnd q l s
  | .or q l => Sys2Proof.Machine.execOr q l s
  | .xor q l => Sys2Proof.Machine.execXor q l s
  | .shl q l => Sys2Proof.Machine.execShl q l s
  | .shr q l => Sys2Proof.Machine.execShr q l s
  | .sar q l => Sys2Proof.Machine.execSar q l s
  | .mul q l => Sys2Proof.Machine.execMul q l s
  | .mulhu q l => Sys2Proof.Machine.execMulhu q l s
  | .slt q l => Sys2Proof.Machine.execSlt q l s
  | .sltu q l => Sys2Proof.Machine.execSltu q l s
  | .minu q l => Sys2Proof.Machine.execMinu q l s
  | .maxu q l => Sys2Proof.Machine.execMaxu q l s
  | .addi q l => Sys2Proof.Machine.execAddi q l s
  | .andi q l => Sys2Proof.Machine.execAndi q l s
  | .ori q l => Sys2Proof.Machine.execOri q l s
  | .xori q l => Sys2Proof.Machine.execXori q l s
  | .shli q l => Sys2Proof.Machine.execShli q l s
  | .shri q l => Sys2Proof.Machine.execShri q l s
  | .sari q l => Sys2Proof.Machine.execSari q l s
  | .ldk q l => Sys2Proof.Machine.execLdk q l s
  | .rdsp q l => Sys2Proof.Machine.execRdsp q l s
  | .beq q l => Sys2Proof.Machine.execBeq q l s
  | .bne q l => Sys2Proof.Machine.execBne q l s
  | .blt q l => Sys2Proof.Machine.execBlt q l s
  | .bge q l => Sys2Proof.Machine.execBge q l s
  | .bltu q l => Sys2Proof.Machine.execBltu q l s
  | .bgeu q l => Sys2Proof.Machine.execBgeu q l s
  | .jmp q l => Sys2Proof.Machine.execJmp q l s
  | .call q l => Sys2Proof.Machine.execCall q l s
  | .jr q l => Sys2Proof.Machine.execJr q l s
  | .ld q l => Sys2Proof.Machine.execLd q l s
  | .st q l => Sys2Proof.Machine.execSt q l s
  | .ldw q l => Sys2Proof.Machine.execLdw q l s
  | .stw q l => Sys2Proof.Machine.execStw q l s
  | .ldb q l => Sys2Proof.Machine.execLdb q l s
  | .stb q l => Sys2Proof.Machine.execStb q l s
  | .put q l => Sys2Proof.Machine.execPut q l s
  | .get q l => Sys2Proof.Machine.execGet q l s
  | .copy q l => Sys2Proof.Machine.execCopy q l s
  | .fill q l => Sys2Proof.Machine.execFill q l s
  | .atom q l => Sys2Proof.Machine.execAtom q l s
  | .persist q l => Sys2Proof.Machine.execPersist q l s
  | .sync q l => Sys2Proof.Machine.execSync q l s
  | .wopen q l => Sys2Proof.Machine.execWopen q l s
  | .wrevoke q l => Sys2Proof.Machine.execWrevoke q l s
  | .wquery q l => Sys2Proof.Machine.execWquery q l s
  | .tstat q l => Sys2Proof.Machine.execTstat q l s
  | .tresync q l => Sys2Proof.Machine.execTresync q l s
  | .await q l => Sys2Proof.Machine.execAwait q l s
  | .atmt q l => Sys2Proof.Machine.execAtmt q l s
  | .seal q l => Sys2Proof.Machine.execSeal q l s
  | .cut q l => Sys2Proof.Machine.execCut q l s
  | .tload q l => Sys2Proof.Machine.execTload q l s
  | .tpromote q l => Sys2Proof.Machine.execTpromote q l s
  | .tevict q l => Sys2Proof.Machine.execTevict q l s
  | .fx q l => Sys2Proof.Machine.execFx q l s
  | .fwait q l => Sys2Proof.Machine.execFwait q l s
  | .kload q l => Sys2Proof.Machine.execKload q l s
  | .kswap q l => Sys2Proof.Machine.execKswap q l s
  | .kerase q l => Sys2Proof.Machine.execKerase q l s
  | .retire q l => Sys2Proof.Machine.execRetire q l s
  | .evread q l => Sys2Proof.Machine.execEvread q l s
  | .snap q l => Sys2Proof.Machine.execSnap q l s
  | .fack q l => Sys2Proof.Machine.execFack q l s
  | .halt q l => Sys2Proof.Machine.execHalt q l s
  | .undefinedOpcode q w => Sys2Proof.Machine.execUndefinedOpcode q w s
  | .linkReturn q => Sys2Proof.Machine.execLinkReturn q s
  | .linkBudgetExhausted q => Sys2Proof.Machine.execLinkBudgetExhausted q s
  | .seqInstall p slot => Sys2Proof.Machine.execSeqInstall p slot s
  | .installCheckDone => Sys2Proof.Machine.execInstallCheckDone s
  | .ringSqTailWrite p ring idx => Sys2Proof.Machine.execRingSqTailWrite p ring idx s
  | .ringCqHeadWrite p ring idx => Sys2Proof.Machine.execRingCqHeadWrite p ring idx s
  | .ringAbort p ring tag => Sys2Proof.Machine.execRingAbort p ring tag s
  | .chainDispatch ring q => Sys2Proof.Machine.execChainDispatch ring q s
  | .chainAbortAtBoundary q => Sys2Proof.Machine.execChainAbortAtBoundary q s
  | .armedLinkIssue q => Sys2Proof.Machine.execArmedLinkIssue q s
  | .awaitInstant q => Sys2Proof.Machine.execAwaitInstant q s
  | .mgmtRead m => Sys2Proof.Machine.execMgmtRead m s
  | .mgmtWrite m => Sys2Proof.Machine.execMgmtWrite m s
  | .mgmtDatagramMalformed op m => Sys2Proof.Machine.execMgmtDatagramMalformed op m s
  | .regWrite p addr v => Sys2Proof.Machine.execRegWrite p addr v s
  | .blkXaccWrite p cls u v => Sys2Proof.Machine.execBlkXaccWrite p cls u v s
  | .expertIdleClose cls u => Sys2Proof.Machine.execExpertIdleClose cls u s
  | .nrtWrite k => Sys2Proof.Machine.execNrtWrite k s
  | .nrtReadReq k => Sys2Proof.Machine.execNrtReadReq k s
  | .nrtAtomic k => Sys2Proof.Machine.execNrtAtomic k s
  | .nrtPersist k => Sys2Proof.Machine.execNrtPersist k s
  | .nrtReadResp k => Sys2Proof.Machine.execNrtReadResp k s
  | .nrtAtomicResp k => Sys2Proof.Machine.execNrtAtomicResp k s
  | .nrtCompletion k => Sys2Proof.Machine.execNrtCompletion k s
  | .nrtAck k => Sys2Proof.Machine.execNrtAck k s
  | .nrtError k => Sys2Proof.Machine.execNrtError k s
  | .rtoExpiry qp => Sys2Proof.Machine.execRtoExpiry qp s
  | .ackDelayExpiry qp => Sys2Proof.Machine.execAckDelayExpiry qp s
  | .ackCoalesceCount qp => Sys2Proof.Machine.execAckCoalesceCount qp s
  | .creditWindowGrow qp => Sys2Proof.Machine.execCreditWindowGrow qp s
  | .holdAckTimer qp => Sys2Proof.Machine.execHoldAckTimer qp s
  | .creditTimeout qp => Sys2Proof.Machine.execCreditTimeout qp s
  | .contextArrived qp => Sys2Proof.Machine.execContextArrived qp s
  | .orderQueueRelease qp => Sys2Proof.Machine.execOrderQueueRelease qp s
  | .writeMessageEnd qp msg => Sys2Proof.Machine.execWriteMessageEnd qp msg s
  | .qpCreate p qp => Sys2Proof.Machine.execQpCreate p qp s
  | .qpReady p qp => Sys2Proof.Machine.execQpReady p qp s
  | .qpError p qp => Sys2Proof.Machine.execQpError p qp s
  | .qpReset p qp => Sys2Proof.Machine.execQpReset p qp s
  | .qpResetFlushDone qp => Sys2Proof.Machine.execQpResetFlushDone qp s
  | .qpQuery p qp quarter => Sys2Proof.Machine.execQpQuery p qp quarter s
  | .qpModify p qp => Sys2Proof.Machine.execQpModify p qp s
  | .roceRdmaWrite k => Sys2Proof.Machine.execRoceRdmaWrite k s
  | .roceWriteWithImmediate k => Sys2Proof.Machine.execRoceWriteWithImmediate k s
  | .roceReadRequest k => Sys2Proof.Machine.execRoceReadRequest k s
  | .roceCmpSwap k => Sys2Proof.Machine.execRoceCmpSwap k s
  | .roceFetchAdd k => Sys2Proof.Machine.execRoceFetchAdd k s
  | .roceCnpReceived qp => Sys2Proof.Machine.execRoceCnpReceived qp s
  | .roceRateRestore qp => Sys2Proof.Machine.execRoceRateRestore qp s
  | .windowFetchDone idx es => Sys2Proof.Machine.execWindowFetchDone idx es s
  | .winOpen p => Sys2Proof.Machine.execWinOpen p s
  | .winRevoke p key => Sys2Proof.Machine.execWinRevoke p key s
  | .winQuery p key => Sys2Proof.Machine.execWinQuery p key s
  | .winRecycle p idx => Sys2Proof.Machine.execWinRecycle p idx s
  | .revokeCut idx => Sys2Proof.Machine.execRevokeCut idx s
  | .revokeComplete idx => Sys2Proof.Machine.execRevokeComplete idx s
  | .heldWriteRelease line => Sys2Proof.Machine.execHeldWriteRelease line s
  | .sbWindowExpiry line dbe => Sys2Proof.Machine.execSbWindowExpiry line dbe s
  | .rmwReadDone line es => Sys2Proof.Machine.execRmwReadDone line es s
  | .linePlaced line dbe => Sys2Proof.Machine.execLinePlaced line dbe s
  | .locketFillDone line es => Sys2Proof.Machine.execLocketFillDone line es s
  | .locketWriteThrough line => Sys2Proof.Machine.execLocketWriteThrough line s
  | .locketDisable p => Sys2Proof.Machine.execLocketDisable p s
  | .locketEnable p => Sys2Proof.Machine.execLocketEnable p s
  | .locketFlushDone => Sys2Proof.Machine.execLocketFlushDone s
  | .epochBoundary => Sys2Proof.Machine.execEpochBoundary s
  | .sealTimeCondition e => Sys2Proof.Machine.execSealTimeCondition e s
  | .epochSeal => Sys2Proof.Machine.execEpochSeal s
  | .lineReadDone rid es => Sys2Proof.Machine.execLineReadDone rid es s
  | .healTimeout tag => Sys2Proof.Machine.execHealTimeout tag s
  | .dimmTempPoll ch temps => Sys2Proof.Machine.execDimmTempPoll ch temps s
  | .sidebandIbi bus dimm => Sys2Proof.Machine.execSidebandIbi bus dimm s
  | .sidebandCmd p ch k => Sys2Proof.Machine.execSidebandCmd p ch k s
  | .refreshDue ch sub bank => Sys2Proof.Machine.execRefreshDue ch sub bank s
  | .pageIdleClose ch sub bank => Sys2Proof.Machine.execPageIdleClose ch sub bank s
  | .retrainBoundary sub drift => Sys2Proof.Machine.execRetrainBoundary sub drift s
  | .selfRefreshHoldDone => Sys2Proof.Machine.execSelfRefreshHoldDone s
  | .channelTrainingDone ch good => Sys2Proof.Machine.execChannelTrainingDone ch good s
  | .markSet p idx dev => Sys2Proof.Machine.execMarkSet p idx dev s
  | .markClear p idx => Sys2Proof.Machine.execMarkClear p idx s
  | .markAutoSet idx dev => Sys2Proof.Machine.execMarkAutoSet idx dev s
  | .bzRetirePage p off => Sys2Proof.Machine.execBzRetirePage p off s
  | .bzRetireBank p off => Sys2Proof.Machine.execBzRetireBank p off s
  | .retirementDone => Sys2Proof.Machine.execRetirementDone s
  | .scrubWindowOpen => Sys2Proof.Machine.execScrubWindowOpen s
  | .scrubWindowClose => Sys2Proof.Machine.execScrubWindowClose s
  | .scrubLapEnd secs => Sys2Proof.Machine.execScrubLapEnd secs s
  | .scrubLapLate => Sys2Proof.Machine.execScrubLapLate s
  | .injectNow p => Sys2Proof.Machine.execInjectNow p s
  | .granuleVault took es => Sys2Proof.Machine.execGranuleVault took es s
  | .strandCloseTimeout => Sys2Proof.Machine.execStrandCloseTimeout s
  | .strandClosed => Sys2Proof.Machine.execStrandClosed s
  | .plateWriteError pos => Sys2Proof.Machine.execPlateWriteError pos s
  | .driveLost d => Sys2Proof.Machine.execDriveLost d s
  | .driveReplaced d => Sys2Proof.Machine.execDriveReplaced d s
  | .cleaningStart sq => Sys2Proof.Machine.execCleaningStart sq s
  | .rateMeasurement => Sys2Proof.Machine.execRateMeasurement s
  | .measurementDone mbs => Sys2Proof.Machine.execMeasurementDone mbs s
  | .holdupOkFall => Sys2Proof.Machine.execHoldupOkFall s
  | .budgetLimitWrite p gib => Sys2Proof.Machine.execBudgetLimitWrite p gib s
  | .drainStart => Sys2Proof.Machine.execDrainStart s
  | .drainEnd => Sys2Proof.Machine.execDrainEnd s
  | .restoreGo p kind e => Sys2Proof.Machine.execRestoreGo p kind e s
  | .onDemandFill g readable => Sys2Proof.Machine.execOnDemandFill g readable s
  | .backgroundFill readable => Sys2Proof.Machine.execBackgroundFill readable s
  | .ppsEdge input edge => Sys2Proof.Machine.execPpsEdge input edge s
  | .loopTxEdge => Sys2Proof.Machine.execLoopTxEdge s
  | .loopRxEdge rtt => Sys2Proof.Machine.execLoopRxEdge rtt s
  | .ptpSync k => Sys2Proof.Machine.execPtpSync k s
  | .ptpFollowUp k => Sys2Proof.Machine.execPtpFollowUp k s
  | .ptpDelayResp k => Sys2Proof.Machine.execPtpDelayResp k s
  | .ptpAnnounce k => Sys2Proof.Machine.execPtpAnnounce k s
  | .ptpDelayReq port => Sys2Proof.Machine.execPtpDelayReq port s
  | .ptpSourceTimeout code => Sys2Proof.Machine.execPtpSourceTimeout code s
  | .estUpdate ms => Sys2Proof.Machine.execEstUpdate ms s
  | .sureHoldExpiry => Sys2Proof.Machine.execSureHoldExpiry s
  | .firstLock t => Sys2Proof.Machine.execFirstLock t s
  | .ref10mLost => Sys2Proof.Machine.execRef10mLost s
  | .ref10mRestored => Sys2Proof.Machine.execRef10mRestored s
  | .epochCheckHoldTimeout => Sys2Proof.Machine.execEpochCheckHoldTimeout s
  | .merTimeSRead p => Sys2Proof.Machine.execMerTimeSRead p s
  | .gcutWrite p v => Sys2Proof.Machine.execGcutWrite p v s
  | .suspectClear p => Sys2Proof.Machine.execSuspectClear p s
  | .ppsoRise => Sys2Proof.Machine.execPpsoRise s
  | .ppsoFall => Sys2Proof.Machine.execPpsoFall s
  | .lineFull r => Sys2Proof.Machine.execLineFull r s
  | .linePart r => Sys2Proof.Machine.execLinePart r s
  | .poisonLine r => Sys2Proof.Machine.execPoisonLine r s
  | .fence r => Sys2Proof.Machine.execFence r s
  | .desc r => Sys2Proof.Machine.execDesc r s
  | .sealMark r => Sys2Proof.Machine.execSealMark r s
  | .healReq r es => Sys2Proof.Machine.execHealReq r es s
  | .healResp r => Sys2Proof.Machine.execHealResp r s
  | .resyncLine r => Sys2Proof.Machine.execResyncLine r s
  | .termEnd r => Sys2Proof.Machine.execTermEnd r s
  | .hello r => Sys2Proof.Machine.execHello r s
  | .handoverReq r => Sys2Proof.Machine.execHandoverReq r s
  | .pairState r => Sys2Proof.Machine.execPairState r s
  | .reservedRecordType r => Sys2Proof.Machine.execReservedRecordType r s
  | .forwardAckTimeout r => Sys2Proof.Machine.execForwardAckTimeout r s
  | .helloRetry => Sys2Proof.Machine.execHelloRetry s
  | .pairStateTimer => Sys2Proof.Machine.execPairStateTimer s
  | .senseReleased => Sys2Proof.Machine.execSenseReleased s
  | .senseHeld => Sys2Proof.Machine.execSenseHeld s
  | .senseLost => Sys2Proof.Machine.execSenseLost s
  | .takeover => Sys2Proof.Machine.execTakeover s
  | .termWaitExpiry => Sys2Proof.Machine.execTermWaitExpiry s
  | .claspTake => Sys2Proof.Machine.execClaspTake s
  | .claspSettleExpiry => Sys2Proof.Machine.execClaspSettleExpiry s
  | .claspContention => Sys2Proof.Machine.execClaspContention s
  | .startClaspTimer => Sys2Proof.Machine.execStartClaspTimer s
  | .selfDiagFail => Sys2Proof.Machine.execSelfDiagFail s
  | .failbackTimer => Sys2Proof.Machine.execFailbackTimer s
  | .twinResync p => Sys2Proof.Machine.execTwinResync p s
  | .twinHandover p => Sys2Proof.Machine.execTwinHandover p s
  | .twinAssume p => Sys2Proof.Machine.execTwinAssume p s
  | .resyncRegionCopy es => Sys2Proof.Machine.execResyncRegionCopy es s
  | .setPrefix p entry len => Sys2Proof.Machine.execSetPrefix p entry len s
  | .setClaim p entry plane claim => Sys2Proof.Machine.execSetClaim p entry plane claim s
  | .clmQuery p entry => Sys2Proof.Machine.execClmQuery p entry s
  | .clmClear p entry => Sys2Proof.Machine.execClmClear p entry s
  | .claimTtlExpiry entry plane => Sys2Proof.Machine.execClaimTtlExpiry entry plane s
  | .returnHoldExpiry plane => Sys2Proof.Machine.execReturnHoldExpiry plane s
  | .promotionDone h tier => Sys2Proof.Machine.execPromotionDone h tier s
  | .tpromoteDeadline q => Sys2Proof.Machine.execTpromoteDeadline q s
  | .evictionEffect h => Sys2Proof.Machine.execEvictionEffect h s
  | .facetOpStart tk => Sys2Proof.Machine.execFacetOpStart tk s
  | .fxDeadline tk => Sys2Proof.Machine.execFxDeadline tk s
  | .facetOpEnd tk parity => Sys2Proof.Machine.execFacetOpEnd tk parity s
  | .engineWithdraw e => Sys2Proof.Machine.execEngineWithdraw e s
  | .neighbourReadTimeout n => Sys2Proof.Machine.execNeighbourReadTimeout n s
  | .tmQuery p h => Sys2Proof.Machine.execTmQuery p h s
  | .dropAll p => Sys2Proof.Machine.execDropAll p s
  | .reclaim p => Sys2Proof.Machine.execReclaim p s
  | .tmNeighWrite p v => Sys2Proof.Machine.execTmNeighWrite p v s
  | .feDisable p e => Sys2Proof.Machine.execFeDisable p e s
  | .ksLoad p slot tagOk => Sys2Proof.Machine.execKsLoad p slot tagOk s
  | .ksSwap p slot => Sys2Proof.Machine.execKsSwap p slot s
  | .ksErase p slot => Sys2Proof.Machine.execKsErase p slot s
  | .ksQuery p slot => Sys2Proof.Machine.execKsQuery p slot s
  | .ksReload p => Sys2Proof.Machine.execKsReload p s
  | .ksPurge p slot => Sys2Proof.Machine.execKsPurge p slot s
  | .timedKswap slot => Sys2Proof.Machine.execTimedKswap slot s
  | .graceZeroize slot => Sys2Proof.Machine.execGraceZeroize slot s
  | .keyNearLimit slot => Sys2Proof.Machine.execKeyNearLimit slot s
  | .slotSpent slot => Sys2Proof.Machine.execSlotSpent slot s
  | .usesReservationProgrammed slot => Sys2Proof.Machine.execUsesReservationProgrammed slot s
  | .securityAlarm bit => Sys2Proof.Machine.execSecurityAlarm bit s
  | .alarmAutoReload => Sys2Proof.Machine.execAlarmAutoReload s
  | .lcAlarmClear p mask => Sys2Proof.Machine.execLcAlarmClear p mask s
  | .lcProvision p => Sys2Proof.Machine.execLcProvision p s
  | .lcDeploy p => Sys2Proof.Machine.execLcDeploy p s
  | .lcReturn p sigOk => Sys2Proof.Machine.execLcReturn p sigOk s
  | .lcScrap p sigOk => Sys2Proof.Machine.execLcScrap p sigOk s
  | .lcSvnBump p sigOk => Sys2Proof.Machine.execLcSvnBump p sigOk s
  | .lcDebug p level sigOk => Sys2Proof.Machine.execLcDebug p level sigOk s
  | .debugHalt core => Sys2Proof.Machine.execDebugHalt core s
  | .pwrReqRise => Sys2Proof.Machine.execPwrReqRise s
  | .pwrReqFall => Sys2Proof.Machine.execPwrReqFall s
  | .pfWarnFall => Sys2Proof.Machine.execPfWarnFall s
  | .pfWarnRise => Sys2Proof.Machine.execPfWarnRise s
  | .powerUpStart => Sys2Proof.Machine.execPowerUpStart s
  | .railStable n mv => Sys2Proof.Machine.execRailStable n mv s
  | .railRiseTimeout n => Sys2Proof.Machine.execRailRiseTimeout n s
  | .railFallen n mv => Sys2Proof.Machine.execRailFallen n mv s
  | .railFallTimeout n => Sys2Proof.Machine.execRailFallTimeout n s
  | .minOffEnd => Sys2Proof.Machine.execMinOffEnd s
  | .railWindowExit n mv high => Sys2Proof.Machine.execRailWindowExit n mv high s
  | .railHardLimit n mv high => Sys2Proof.Machine.execRailHardLimit n mv high s
  | .vaonLost mv high => Sys2Proof.Machine.execVaonLost mv high s
  | .graceExpiry => Sys2Proof.Machine.execGraceExpiry s
  | .pmbusPoll n amps temp sw => Sys2Proof.Machine.execPmbusPoll n amps temp sw s
  | .psStandby p => Sys2Proof.Machine.execPsStandby p s
  | .psDormant p => Sys2Proof.Machine.execPsDormant p s
  | .psWake p => Sys2Proof.Machine.execPsWake p s
  | .railSetWrite p mv => Sys2Proof.Machine.execRailSetWrite p mv s
  | .kfUnlock p key => Sys2Proof.Machine.execKfUnlock p key s
  | .kfProgram p v => Sys2Proof.Machine.execKfProgram p v s
  | .kfErase p addr => Sys2Proof.Machine.execKfErase p addr s
  | .kfVerify p slot sigOk => Sys2Proof.Machine.execKfVerify p slot sigOk s
  | .kfSelect p slot => Sys2Proof.Machine.execKfSelect p slot s
  | .kfConfirm p addr => Sys2Proof.Machine.execKfConfirm p addr s
  | .kfSequenceTimeout => Sys2Proof.Machine.execKfSequenceTimeout s
  | .flashProgramDone bank => Sys2Proof.Machine.execFlashProgramDone bank s
  | .flashEraseDone bank => Sys2Proof.Machine.execFlashEraseDone bank s
  | .eventRecordTimeout => Sys2Proof.Machine.execEventRecordTimeout s
  | .evCursorWrite p sq => Sys2Proof.Machine.execEvCursorWrite p sq s
  | .faultRaise k => Sys2Proof.Machine.execFaultRaise k s
  | .faultAck p cls u => Sys2Proof.Machine.execFaultAck p cls u s
  | .quietPeriodEnd cls u => Sys2Proof.Machine.execQuietPeriodEnd cls u s
  | .lpSnapArm p => Sys2Proof.Machine.execLpSnapArm p s
  | .lpSnapNow p => Sys2Proof.Machine.execLpSnapNow p s
  | .snapshotInstant => Sys2Proof.Machine.execSnapshotInstant s
  | .lpFreezeArm p => Sys2Proof.Machine.execLpFreezeArm p s
  | .lpFreezeNow p => Sys2Proof.Machine.execLpFreezeNow p s
  | .lpThaw p => Sys2Proof.Machine.execLpThaw p s
  | .freezeInstant => Sys2Proof.Machine.execFreezeInstant s
  | .lpClear p bank => Sys2Proof.Machine.execLpClear p bank s
  | .lpEvselWrite p j v => Sys2Proof.Machine.execLpEvselWrite p j v s
  | .calBoundary quad k => Sys2Proof.Machine.execCalBoundary quad k s
  | .chordHoldLimit quad => Sys2Proof.Machine.execChordHoldLimit quad s
  | .portEnable p port => Sys2Proof.Machine.execPortEnable p port s
  | .portDisable p port => Sys2Proof.Machine.execPortDisable p port s
  | .portUp port => Sys2Proof.Machine.execPortUp port s
  | .portBringupTimeout port cause => Sys2Proof.Machine.execPortBringupTimeout port cause s
  | .portRetryWaitEnd port => Sys2Proof.Machine.execPortRetryWaitEnd port s
  | .portDown port cause => Sys2Proof.Machine.execPortDown port cause s
  | .arpRequest f ip => Sys2Proof.Machine.execArpRequest f ip s
  | .neighbourSolicitation f ipHi ipLo => Sys2Proof.Machine.execNeighbourSolicitation f ipHi ipLo s
  | .echoRequest f ident data => Sys2Proof.Machine.execEchoRequest f ident data s
  | .frameDiscard f kind => Sys2Proof.Machine.execFrameDiscard f kind s
  | .pinReset => Sys2Proof.Machine.execPinReset s
  | .watchdogExpiry => Sys2Proof.Machine.execWatchdogExpiry s
  | .commandReset p key => Sys2Proof.Machine.execCommandReset p key s
  | .wdtKick p key => Sys2Proof.Machine.execWdtKick p key s
  | .resetRelease => Sys2Proof.Machine.execResetRelease s
  | .boot k => Sys2Proof.Machine.execBoot k s
  | .bootResume k => Sys2Proof.Machine.execBootResume k s
  | .serviceStart => Sys2Proof.Machine.execServiceStart s
  | .dieThermalThrottle => Sys2Proof.Machine.execDieThermalThrottle s
  | .dieThermalRecovery => Sys2Proof.Machine.execDieThermalRecovery s
  | .holdupOkRise => Sys2Proof.Machine.execHoldupOkRise s

end Sys2Proof.Machine
end

