-- ==== Sys2Proof/Machine/Ops.lean ====
section
/-! DEFINITION. Operations over the whole block: the passing of time when no command waits, the queue of commands, the
bytes of persistent memory as an observer reads them, and the canonical form of the containers. The operations of each
unit stand with that unit: registers and clocks in Regs.lean, faults and events in Flags.lean, windows in Window.lean,
the pipeline in Pipeline.lean. -/

namespace Sys2Proof.Machine

/-- One unit of fabric work that waited for a cipher pipeline gets its turn (R331): a received packet goes on, egress work is tried
again. -/
def State.cipherGrant (s : State) : State :=
  match s.cipherTurns.find? (fun c => decide (c < 2) && s.cipherWaits c && s.mayPipe c) with
  | some 0 =>
    (match s.cipher.rx with
     | k :: rest =>
       let r := { s with cipher := { s.cipher with rx := rest } }.cipherStage (k.dqp % 2 ^ 20) k false
       if r.1 then r.2.ackNow (k.dqp % 2 ^ 20) else r.2
     | [] => s)
  | some _ =>
    (match s.cipher.tx with
     | w :: rest =>
       let s := { s with cipher := { s.cipher with tx := rest } }
       (match w with
        | .pump n => s.pump n
        | .ack n => s.ackNow n
        | .error n st => s.sendError n st
        | .resend n psn fast =>
          (match (s.qp n).sent.find? (fun p => p.psn == psn) with
           | some p => s.resend n p fast
           | none => s))
     | [] => s)
  | none => s

/-- Fabric work takes the pipelines that are free (R331). -/
def State.settleCipher (s : State) : Nat → State
  | 0 => s
  | fuel + 1 => State.settleCipher s.cipherGrant fuel

/-- A leader that has released its clasp on a Fatal fault darkens its fabric (R97, Example 12.1). -/
def State.settleDark (s : State) : State := if s.diagFail ∧ ¬ s.twin.holding ∧ ¬ s.fab.dark then s.lanesDark else s

/-- What waits inside the block goes on: at the cipher stage, at the window stage. -/
def State.settleWork (s : State) : State :=
  if s.cipher.rx.isEmpty ∧ s.cipher.tx.isEmpty ∧ s.wins.waiting.isEmpty then s
  else ((s.settleCipher (s.cipher.rx.length + s.cipher.tx.length)).settleWins).serve

/-- No command waits: time passes, one unit and what `Config.elapsed` adds (DESIGN CHOICE, log entry 2), and the
control-space arbiter gives its next turn (R51, log entry 106). -/
def State.idle (s : State) : State :=
  ((((((s.advance (1 + Config.elapsed s.mono)).jobTurn).writeSlots).settleWork).sealMarks).moveNext).settleDark

/-- The queue without its front. -/
def State.popped (s : State) : State := { s with pending := s.pending.tail }

/-- A command arrives at the end of the queue. -/
def State.arrive (s : State) (c : Instr) : State := { s with pending := s.pending ++ [c] }

/-- A command is put at the front of the queue. -/
def State.before (s : State) (c : Instr) : State := { s with pending := c :: s.pending }

/-- The byte of persistent memory at an offset as the cells hold it. -/
def State.pmByte (s : State) (off : Nat) : Byte := SMap.get 0 s.pipe.pm off

/-- The byte of persistent memory at an offset as a request reads it: with what has passed the window check and has not
reached the cells yet (R161). -/
def State.byteNow (s : State) (off : Nat) : Byte := ((s.lineNow (off / 64))[off % 64]?).getD 0

/-- The canonical form of a byte memory: addresses strictly rising, no entry equal to what an unlisted address reads as. -/
def Memory.wf (m : SMap Byte) : Bool := SMap.wf 0 m

end Sys2Proof.Machine
end

