-- ==== Sys2Proof/Machine/Step.lean ====
section
/-! DEFINITION. One step: the command at the front of the queue, or the passing of time. -/

namespace Sys2Proof.Machine

/-- A step takes the command at the front of the queue; with none waiting, time passes (log entry 2). -/
def step (s : State) : Host.Outcome State Fault Refusal :=
  match s.pending with
  | [] => .next s.idle
  | c :: _ => exec c s.popped

/-- The state with the command that a word spells at the front of its queue. No row of the opcode table gives bits
(decodeTableWord), so every word leaves the state as it is. -/
def State.withFetchWord (s : State) (nbits w : Nat) : State :=
  match decodeTableWord nbits w with
  | some c => s.before c
  | none => s

end Sys2Proof.Machine
end

