-- ==== Sys2Proof/Safety.lean ====
section
/-! DEFINITION. What counts as a safe state and a safe step, in the terms in which statements speak. -/

namespace Sys2Proof.Machine

/-- The containers that every command reads hold their one canonical form: register fields, the bytes and check symbols
of persistent memory, QP contexts, the key slots. -/
def State.canonical (s : State) : Bool :=
  SMap.risesFrom 0 s.regs && SMap.wf 0 s.pipe.pm && SMap.wf (0, 0) s.pipe.chk && SMap.risesFrom 0 s.tr.qps &&
  SMap.risesFrom 0 s.keys.slots

/-- Meridian time is an 80-bit count (R14, R253). -/
def State.timeInRange (s : State) : Prop := s.time < 2 ^ 80

/-- A step keeps what must never go back: local time, the record number of the event recorder (R386). -/
def noReturn (s t : State) : Prop := s.mono ≤ t.mono ∧ s.ev.head ≤ t.ev.head

/-- The next step is no fault. -/
def State.goesOn (s : State) : Prop := ∃ t, step s = .next t

/-- The registers of a class are reached at once: no access is under way (R51), and the class is not switched off (Table 2.3). -/
def State.reaches (s : State) (cls : Nat) : Prop := s.jobs = [] ∧ s.barred cls = false

/-! ## Links, in the terms of chapter 3 -/

/-- Chain x stands on sequencer q at link l of opcode op and may issue it (R87, R89, R91, R92); the words of the link are
legal where they stand (R90), its ring has the privileges that it needs (R71), and no fence and no full set of asynchronous
operations holds it back (R74, Table 3.3). -/
def State.atLink (s : State) (q op : Nat) (l : Link) (x : Seq) : Prop :=
  q < 32 ∧ s.seq? q = some x ∧ s.mayIssue q x = true ∧ x.wait = none ∧ x.standsAt op l = true ∧
  badWord x.starts x.pc op l = none ∧ s.lacksPriv x op (settings l op) = false ∧
  x.held (s.isAsync x op (settings l op)) (settings l op) = false

/-- The chain with one more link counted (R87). -/
def Seq.counted (x : Seq) : Seq := { x with count := x.count + 1, wait := none }

/-- The state in which a link of chain x has its effect: a step that the debug controls asked for is taken (Table 0.7), and the link
is counted, in the chain and in the Loupe (R87, Table 17.2). -/
def State.issuing (s : State) (q : Nat) (x : Seq) : State := ((s.stepTaken q).count 0x70 q 0).setSeq q x.counted

/-- What follows the effect of a link, which came to `out` in the state w: the chain moves on, waits or ends, and the
responses that are due go out. -/
def State.linkCame (w : State) (q op : Nat) (l : Link) (async : Bool) (out : LinkOut) : State :=
  ((w.modSeq q (fun y => { y with after0 := op == 0x18 && immN l == 0 })).settleLink q op l async out).serve

/-- The chain x has issued a link, which left it as y: responses that are due go out. -/
def State.linkTo (s : State) (q : Nat) (y : Seq) : State := (((s.stepTaken q).count 0x70 q 0).setSeq q y).serve

/-- The chain after a link that gives register d the value v and goes on to the link after it (R66, R67). -/
def Seq.wentOn (x : Seq) (d v : Nat) : Seq :=
  { (x.counted.setR d v) with pc := x.pc + x.linkWords, after0 := false }

/-- The link after the one at which x stands lies inside the image (R66). -/
def Seq.hasNext (x : Seq) : Prop := x.pc + x.linkWords < x.words.length

/-! ## Packets, in the terms of chapter 5 -/

/-- The state in which an NRT packet of a QP on chip is looked at: its frame and the packet are counted, and the QP's context is the
one used last (R131, Tables 17.1 and 17.2). -/
def State.hearing (s : State) (k : Pkt) : State := ((s.countFrame k.frame).count 0x20 0 0).ctxTouch (k.dqp % 2 ^ 20)

/-- The packet has opened (R118) in a cipher pipeline (R331): the greatest nonce of the QP follows it. -/
def State.opened (s : State) (k : Pkt) : State :=
  (((s.hearing k).occupy 0 k.plen).count 0x90 0 1).modQp (k.dqp % 2 ^ 20) (fun q => { q with rxCtr := max q.rxCtr k.nonce })

/-- A well formed packet of TYPE `typ` comes in a frame that is accepted (R106, R107, R136), its QP is READY and on chip, its PSN, if
it has one, lies in the window and has credit (Table 1.2), its size and key slot are the QP's, a cipher pipeline is free for it, and
it opens under key version `ver` without a congestion mark (R113 to R118, R131, R331). -/
def State.opens (s : State) (typ : Nat) (k : Pkt) (ver : Nat) : Prop :=
  let n := k.dqp % 2 ^ 20
  let u := s.hearing k
  k.typ = typ ∧ (s.hears k.frame (s.fld F.TR_CFG_UDP_PORT)).1 = true ∧ pktFormed k = true ∧ s.tr.fetches.contains n = false ∧
  s.tr.cache.contains n = true ∧ (u.qp n).st = 2 ∧ (u.qp n).kind ≠ 3 ∧
  (k.typ = 0x13 ∨ k.typ = 0x14 ∨ (u.outOfWindow n k.psn = false ∧ (u.qp n).overdrawn k = false)) ∧
  u.cipher.rx = [] ∧ u.mayPipe 0 = true ∧ k.plen ≤ u.payload (u.qp n) ∧
  k.keySlot = (u.qp n).keySlot ∧ u.openWith k.keySlot k.keyVer = .ok ver ∧ k.tagOk = true ∧ k.ce = false

/-- A RoCEv2 packet in an accepted frame is heard on a READY QP of its kind that is on chip, carries the expected PSN and no congestion mark, and
the controller serves it (R136 to R141, R281). -/
def State.expects (s : State) (k : Roce) (op : WinOp) : Prop :=
  let n := k.qp % 2 ^ 20
  let u := (s.countFrame k.frame).ctxTouch n
  (s.hears k.frame 4791).1 = true ∧ k.icrcOk = true ∧ k.pkey = 0xFFFF ∧ s.tr.fetches.contains n = false ∧
  s.tr.cache.contains n = true ∧ (u.qp n).st = 2 ∧ (u.qp n).kind = 3 ∧ k.ce = false ∧ u.serves op = true ∧
  k.psn < 2 ^ 24 ∧ (u.qp n).ce.ePsn = k.psn

end Sys2Proof.Machine
end

