-- ==== Sys2Proof/Certificates/Slice0/Obligations.lean ====
section
/-! DEFINITION. The statements about the block, for the provers. A statement about a command gives its next state under
conditions on the state and the operands alone; what the next state is written from is all that the command changes, so the
same equation says what it leaves as it is. The forms in which links speak (State.atLink, State.linkTo, Seq.wentOn) stand in
Safety.lean. -/

namespace Sys2Proof.Machine

end Sys2Proof.Machine

open Sys2Proof Sys2Proof.Machine

/-! ## Links that compute, branch and use the local store -/

/-- R67, R70, Table 3.5: each register link of the arithmetic group gives d the value that the table states, modulo 2^64,
counts the link, goes on to the next link and changes nothing else but that responses that are due go out. Completes: add, sub, and, or, xor, shl, shr, sar,
mul, mulhu, slt, sltu, minu, maxu. -/
def Obligations.ArithmeticLinks : Prop :=
  ∀ (q : Nat) (l : Link) (x : Seq) (s : State), x.hasNext →
    let a := BitVec.ofNat 64 (x.r l.a.toNat)
    let b := BitVec.ofNat 64 (x.r l.b.toNat)
    let done (v : BitVec 64) : Host.Outcome State Fault Refusal := .next (s.linkTo q (x.wentOn l.d.toNat v.toNat))
    (s.atLink q 0x00 l x → exec (.add q l) s = done (a + b)) ∧
    (s.atLink q 0x01 l x → exec (.sub q l) s = done (a - b)) ∧
    (s.atLink q 0x02 l x → exec (.and q l) s = done (a &&& b)) ∧
    (s.atLink q 0x03 l x → exec (.or q l) s = done (a ||| b)) ∧
    (s.atLink q 0x04 l x → exec (.xor q l) s = done (a ^^^ b)) ∧
    (s.atLink q 0x05 l x → exec (.shl q l) s = done (a <<< (b.toNat % 64))) ∧
    (s.atLink q 0x06 l x → exec (.shr q l) s = done (a >>> (b.toNat % 64))) ∧
    (s.atLink q 0x07 l x → exec (.sar q l) s = done (a.sshiftRight (b.toNat % 64))) ∧
    (s.atLink q 0x08 l x → exec (.mul q l) s = done (a * b)) ∧
    (s.atLink q 0x09 l x → exec (.mulhu q l) s = done (BitVec.ofNat 64 (a.toNat * b.toNat / 2 ^ 64))) ∧
    (s.atLink q 0x0A l x → exec (.slt q l) s = done (if a.toInt < b.toInt then 1 else 0)) ∧
    (s.atLink q 0x0B l x → exec (.sltu q l) s = done (if a.toNat < b.toNat then 1 else 0)) ∧
    (s.atLink q 0x0C l x → exec (.minu q l) s = done (if a.toNat ≤ b.toNat then a else b)) ∧
    (s.atLink q 0x0D l x → exec (.maxu q l) s = done (if a.toNat ≤ b.toNat then b else a))

/-- R67, R68, R70, Table 3.5: the immediate links, `ldk`, `rdsp`, `cut` and `tstat` give d the value that the table states
and go on; `rdsp` with imm 0 latches the fraction, which imm 1 right after it returns, and with another imm above 3 the link
is illegal where it stands (R90), which `State.atLink` leaves out. Completes: addi, andi, ori, xori, shli, shri, sari, ldk, rdsp,
cut, tstat. -/
def Obligations.ValueLinks : Prop :=
  ∀ (q : Nat) (l : Link) (x : Seq) (s : State), x.hasNext →
    let a := BitVec.ofNat 64 (x.r l.a.toNat)
    let sext : BitVec 64 := l.imm.signExtend 64
    let zext : BitVec 64 := l.imm.zeroExtend 64
    let n := l.imm.toNat % 64
    let done (v : BitVec 64) : Host.Outcome State Fault Refusal := .next (s.linkTo q (x.wentOn l.d.toNat v.toNat))
    (s.atLink q 0x10 l x → exec (.addi q l) s = done (a + sext)) ∧
    (s.atLink q 0x11 l x → exec (.andi q l) s = done (a &&& zext)) ∧
    (s.atLink q 0x12 l x → exec (.ori q l) s = done (a ||| zext)) ∧
    (s.atLink q 0x13 l x → exec (.xori q l) s = done (a ^^^ zext)) ∧
    (s.atLink q 0x14 l x → exec (.shli q l) s = done (a <<< n)) ∧
    (s.atLink q 0x15 l x → exec (.shri q l) s = done (a >>> n)) ∧
    (s.atLink q 0x16 l x → exec (.sari q l) s = done (a.sshiftRight n)) ∧
    (s.atLink q 0x17 l x → l.ext = [] → exec (.ldk q l) s = done sext) ∧
    (∀ e, s.atLink q 0x17 l x → l.ext = [e] → exec (.ldk q l) s = done (e.signExtend 64)) ∧
    (∀ e e2, s.atLink q 0x17 l x → l.ext = [e, e2] →
      exec (.ldk q l) s = done ((e2.extractLsb' 0 25 ++ e : BitVec 64))) ∧
    (s.atLink q 0x18 l x → l.imm = 0 → exec (.rdsp q l) s =
      .next (s.linkTo q { (x.wentOn l.d.toNat s.secs) with latched := s.frac, after0 := true })) ∧
    (s.atLink q 0x18 l x → l.imm = 1 → exec (.rdsp q l) s =
      .next (s.linkTo q (x.wentOn l.d.toNat (if x.after0 then x.latched else s.frac)))) ∧
    (s.atLink q 0x18 l x → l.imm = 2 → exec (.rdsp q l) s = .next (s.linkTo q (x.wentOn l.d.toNat s.epoch))) ∧
    (s.atLink q 0x18 l x → l.imm = 3 → exec (.rdsp q l) s = .next (s.linkTo q (x.wentOn l.d.toNat q))) ∧
    (s.atLink q 0x63 l x → exec (.cut q l) s =
      .next (s.linkTo q (x.wentOn l.d.toNat (s.fld F.MER_GCUT_CUT + if s.unsure then 2 ^ 63 else 0)))) ∧
    (s.atLink q 0x58 l x → exec (.tstat q l) s =
      .next (s.linkTo q (x.wentOn l.d.toNat ((s.issuing q x).readReg .chain 0x22 0 0x30))))

/-- R66, R70, Table 3.5: a branch whose condition holds goes to the word imm17 words from it, and one whose condition fails
to the next link; `call` gives d the index of the next link; `jr` goes to the word that a names. None of them changes another
register. Completes: beq, bne, blt, bge, bltu, bgeu, jmp, call, jr. -/
def Obligations.BranchLinks : Prop :=
  ∀ (q : Nat) (l : Link) (x : Seq) (s : State) (t : Nat), x.hasNext → t < x.words.length →
    let a := BitVec.ofNat 64 (x.r l.a.toNat)
    let b := BitVec.ofNat 64 (x.r l.b.toNat)
    let at_ (c : Prop) [Decidable c] : Host.Outcome State Fault Refusal :=
      .next (s.linkTo q { x.counted with pc := if c then t else x.pc + x.linkWords, after0 := false })
    ((t : Int) = x.pc + l.imm.toInt →
      (s.atLink q 0x20 l x → exec (.beq q l) s = at_ (a = b)) ∧
      (s.atLink q 0x21 l x → exec (.bne q l) s = at_ (a ≠ b)) ∧
      (s.atLink q 0x22 l x → exec (.blt q l) s = at_ (a.toInt < b.toInt)) ∧
      (s.atLink q 0x23 l x → exec (.bge q l) s = at_ (b.toInt ≤ a.toInt)) ∧
      (s.atLink q 0x24 l x → exec (.bltu q l) s = at_ (a.toNat < b.toNat)) ∧
      (s.atLink q 0x25 l x → exec (.bgeu q l) s = at_ (b.toNat ≤ a.toNat)) ∧
      (s.atLink q 0x26 l x → exec (.jmp q l) s = at_ True) ∧
      (s.atLink q 0x27 l x → exec (.call q l) s =
        .next (s.linkTo q { (x.wentOn l.d.toNat (x.pc + x.linkWords)) with pc := t }))) ∧
    (s.atLink q 0x28 l x → x.r l.a.toNat = t → t ∈ x.starts → exec (.jr q l) s = at_ True)

/-- R67, R70, Table 3.5: an aligned load inside the local store gives d the bytes, least significant first and extended with
zeros; an aligned store puts the low bytes of b there; both go on. Outside the local store or out of alignment the link is
illegal. Completes: ld, ldw, ldb, st, stw, stb. -/
def Obligations.LocalStoreLinks : Prop :=
  ∀ (q : Nat) (l : Link) (x : Seq) (s : State), x.hasNext →
    let e := (BitVec.ofNat 64 (x.r l.a.toNat) + l.imm.signExtend 64).toNat
    let load (n : Nat) : Host.Outcome State Fault Refusal :=
      if e % n = 0 ∧ e + n ≤ 262144 then .next (s.linkTo q (x.wentOn l.d.toNat (leNat (x.bytes e n))))
      else .next ((s.issuing q x).linkCame q (if n = 8 then 0x30 else if n = 4 then 0x32 else 0x34) l false .illegal)
    let store (n : Nat) : Host.Outcome State Fault Refusal :=
      if e % n = 0 ∧ e + n ≤ 262144 then
        .next (s.linkTo q { (x.counted.putBytes e (leBytes n (x.r l.b.toNat))) with
          pc := x.pc + x.linkWords, after0 := false })
      else .next ((s.issuing q x).linkCame q (if n = 8 then 0x31 else if n = 4 then 0x33 else 0x35) l false .illegal)
    (s.atLink q 0x30 l x → exec (.ld q l) s = load 8) ∧
    (s.atLink q 0x32 l x → exec (.ldw q l) s = load 4) ∧
    (s.atLink q 0x34 l x → exec (.ldb q l) s = load 1) ∧
    (s.atLink q 0x31 l x → exec (.st q l) s = store 8) ∧
    (s.atLink q 0x33 l x → exec (.stw q l) s = store 4) ∧
    (s.atLink q 0x35 l x → exec (.stb q l) s = store 1)

/-! ## Links that wait, move data and act on other units -/

/-- R65, R74 to R77: what a link comes to. A status goes to register d and the chain goes on, ILLEGAL_LINK and INTERNAL
apart, which end it; an asynchronous link writes BUSY to d and goes on, with one more asynchronous operation; a link that
must be tried again leaves the chain where it stands. -/
def Obligations.LinkOutcomes : Prop :=
  ∀ (q op : Nat) (l : Link) (y : Seq) (s : State), y.hasNext → y.wait = none →
    let z : Seq := { y with after0 := op == 0x18 && immN l == 0 }
    (∀ st : Status, st ≠ .illegalLink → st ≠ .internal →
      (s.setSeq q y).linkCame q op l false (.status st) =
        (s.setSeq q { (z.setR l.d.toNat st.code) with pc := y.pc + y.linkWords }).serve) ∧
    (∀ st : Status, st = .illegalLink ∨ st = .internal →
      (s.setSeq q y).linkCame q op l false (.status st) = ((s.setSeq q z).chainEnd q z st).serve) ∧
    (∀ w : WaitFor, (s.setSeq q y).linkCame q op l true (.wait w) =
      (s.setSeq q { ((z.addAsync w).setR l.d.toNat Status.busy.code) with pc := y.pc + y.linkWords }).serve) ∧
    (∀ a, (s.setSeq q y).linkCame q op l a .again =
      (s.setSeq q { z with wait := some ⟨l.d.toNat, .again⟩ }).serve) ∧
    (∀ a, (s.setSeq q y).linkCame q op l a .illegal = ((s.setSeq q z).illegalLink q z op).serve) ∧
    (∀ a st, (s.setSeq q y).linkCame q op l a (.ends st) = ((s.setSeq q z).chainEnd q z st).serve)

/-- R75, R76, R79, Table 3.5: a wait whose condition holds when the link issues gives d its status and the chain goes on:
`sync` and `persist` with nothing outstanding, `await` of an instant that has passed (TIME_UNSURE while unsure), `seal` of an
epoch that is sealed (DEGRADED_SINGLE in SINGLE), of w[a] its low 40 bits (the model's choice, log entry 128). An `await` of a later
instant waits. `halt` with nothing outstanding ends the chain with the status that a names. Completes: sync, persist, await, seal,
halt. -/
def Obligations.WaitingLinks : Prop :=
  ∀ (q : Nat) (l : Link) (x : Seq) (s : State), x.hasNext → x.asyncs = [] →
    let d := l.d.toNat
    let done (st : Status) : Host.Outcome State Fault Refusal := .next (s.linkTo q (x.wentOn d st.code))
    (s.atLink q 0x46 l x → exec (.sync q l) s = done .ok) ∧
    (s.atLink q 0x45 l x → x.wrote = [] → exec (.persist q l) s = done .ok) ∧
    (s.atLink q 0x60 l x → x.instant l.a.toNat ≤ s.time → s.unsure = false → exec (.await q l) s = done .ok) ∧
    (s.atLink q 0x60 l x → x.instant l.a.toNat ≤ s.time → s.unsure = true → exec (.await q l) s = done .timeUnsure) ∧
    (s.atLink q 0x60 l x → s.time < x.instant l.a.toNat → exec (.await q l) s =
      .next (s.linkTo q { x.counted with wait := some ⟨d, .await (x.instant l.a.toNat)⟩, after0 := false })) ∧
    (s.atLink q 0x62 l x → s.isSealed (x.r l.a.toNat % 2 ^ 40) = true → s.single = false →
      exec (.seal q l) s = done .ok) ∧
    (s.atLink q 0x62 l x → s.isSealed (x.r l.a.toNat % 2 ^ 40) = true → s.single = true →
      exec (.seal q l) s = done .degradedSingle) ∧
    (∀ st, s.atLink q 0x7C l x → Status.ofCode (x.r l.a.toNat % 256) = some st → st.kind ≠ .pending →
      exec (.halt q l) s =
        let y : Seq := { x.counted with wait := some ⟨d, .halt st⟩, after0 := false }
        .next ((((s.stepTaken q).count 0x70 q 0).setSeq q y).chainEnd q y st).serve)

/-- R72, R74, R177, Tables 3.5 and 6.3: a data link whose window key is cached and passes the window check as persistent
memory hands over one request of its own under its level: `put` the bytes of the local store, `get` a read for the local
store, `atom` the operation that imm names, `fill` its first lines; the chain waits for it. A `fill` goes on by at most eight
lines of the repeated value at a time, each time under a new check (R170). The CTRL forms are requests that write and read
registers in turn (R51). A key whose check cannot be made yet leaves the link to be tried again once its descriptor is
fetched. The REMOTE form of `put` sends its bytes as a message of the outbound QP, or gives QP_FLUSHED.
Completes: put, get, fill, atom.

R78, Tables 3.5 and 7.1: a `copy` without SEAL and REMOTE whose two windows pass the check reads its first line and
waits; the copy then goes on line by line, each under a new check. Completes: copy. -/
def Obligations.DataLinks : Prop :=
  (∀ (q : Nat) (l : Link) (x : Seq) (s : State) (d : Desc) (off : Nat),
    let w := s.issuing q x
    let a := l.a.toNat
    let at_ := x.r l.b.toNat
    let key := x.key a
    let v := w.winTouch (keyIdx key)
    let u := v.winTold (.ok (d, .mem off))
    let plain (t : Sets) : Prop := t.ctrl = false ∧ t.sealMode = 0 ∧ t.remote = none
    let came (op : Nat) (u : State) (out : LinkOut) : Host.Outcome State Fault Refusal :=
      .next (u.linkCame q op l (s.isAsync x op (settings l op)) out)
    (∀ t n, t = settings l 0x40 → n = x.length l t → s.atLink q 0x40 l x → plain t → 1 ≤ n → n ≤ 65536 →
      at_ + n ≤ 262144 → w.winCached (keyIdx key) = true → v.winCheck .chain .write key (x.off a) n = .ok (d, .mem off) →
      let r := u.newOp (.link q x.pc) .write (x.levelOf t) n
      exec (.put q l) s = came 0x40 (((r.2.writeRange r.1 off (x.bytes at_ n) key).handed r.1).wrote q r.1 key)
        (.wait (.op r.1 none))) ∧
    (∀ t n, t = settings l 0x41 → n = x.length l t → s.atLink q 0x41 l x → plain t → 1 ≤ n → n ≤ 65536 →
      at_ + n ≤ 262144 → w.winCached (keyIdx key) = true → v.winCheck .chain .read key (x.off a) n = .ok (d, .mem off) →
      let r := u.newOp (.link q x.pc) .read 1 n
      exec (.get q l) s = came 0x41 ((r.2.readWin r.1 off n 0).handed r.1) (.wait (.get r.1 at_ n none))) ∧
    (∀ t n, t = settings l 0x43 → n = x.length l t → s.atLink q 0x43 l x → 1 ≤ n → n ≤ 131071 →
      w.winCached (keyIdx key) = true → v.winCheck .chain .write key (x.off a) (64 * n) true = .ok (d, .mem off) →
      let r := u.newOp (.link q x.pc) .write (x.levelOf t) (64 * n)
      let m := (r.2.wrote q r.1 key).fillOn ⟨r.1, key, x.off a, n, x.r l.b.toNat, 0⟩
      exec (.fill q l) s = came 0x43 m.2 (.wait m.1)) ∧
    (∀ (j : FillJob) (y : State) (e : Desc × Target), j.k < j.n →
      y.winCheck .chain .write j.key j.off (64 * j.n) true = .ok e →
      let m := min 8 (j.n - j.k)
      let bs := (List.range (8 * m)).flatMap (fun _ => leBytes 8 j.value)
      y.fillOn j = (.fill { j with k := j.k + m }, ((y.winTold (.ok e)).putTarget .chain j.wr e.2 (64 * j.k) bs j.key).modOp
        j.wr (fun o => { o with issued := o.issued || decide (j.k + m = j.n) }))) ∧
    (∀ t n, t = settings l 0x44 → n = immN l % 16 → s.atLink q 0x44 l x → t.remote = none → n ≤ 7 →
      w.winCached (keyIdx key) = true → v.winCheck .chain .atomic key (x.off a) 8 = .ok (d, .mem off) →
      let r := u.newOp (.link q x.pc) .atomic (x.levelOf t) 8
      exec (.atom q l) s = came 0x44
        (((r.2.atomicAt r.1 off n (if n = 2 then x.r (l.b.toNat + 1) else x.r l.b.toNat)
          (if n = 2 then x.r l.b.toNat else 0) key (2 ^ 20 + q)).handed r.1).wrote q r.1 key)
        (.wait (.atom r.1 l.b.toNat))) ∧
    (∀ t n dev, t = settings l 0x40 → n = x.length l t → s.atLink q 0x40 l x → t.ctrl = false → t.sealMode = 0 →
      t.remote = some dev → 1 ≤ n → n ≤ 65536 → at_ + n ≤ 262144 →
      let r := w.newOp (.link q x.pc) .control (x.levelOf t) 0
      let m := r.2.sendRemote r.1 dev 0x01 ⟨key, n, x.off a, 0, x.levelOf t, 0, 0⟩ (x.bytes at_ n)
      exec (.put q l) s = if m.1 then came 0x40 (m.2.wrote q r.1 key) (.wait (.op r.1 none))
        else came 0x40 (m.2.endOp r.1) (.status .qpFlushed)) ∧
    (∀ t n, t = settings l 0x40 → n = x.length l t → s.atLink q 0x40 l x → t.ctrl = false →
      n = 0 ∨ 65536 < n ∨ 262144 < at_ + n → exec (.put q l) s = came 0x40 w .illegal) ∧
    (∀ t n, t = settings l 0x40 → n = x.length l t → s.atLink q 0x40 l x → t.ctrl = true → x.r a % 8 = 0 → n % 8 = 0 →
      8 ≤ n → n ≤ 512 → at_ + n ≤ 262144 →
      let r := w.newOp (.link q x.pc) .control 1 n
      exec (.put q l) s = came 0x40 ((r.2.ctlWrites .chain r.1 (x.bytes at_ n) (x.r a) (n / 8)).handed r.1)
        (.wait (.op r.1 none))) ∧
    (∀ t n, t = settings l 0x41 → n = x.length l t → s.atLink q 0x41 l x → t.ctrl = true → x.r a % 8 = 0 → n % 8 = 0 →
      8 ≤ n → n ≤ 512 → at_ + n ≤ 262144 →
      let r := w.newOp (.link q x.pc) .control 1 n
      exec (.get q l) s = came 0x41 ((r.2.ctlReads .chain r.1 0 (x.r a) (n / 8)).handed r.1)
        (.wait (.get r.1 at_ n none))) ∧
    (∀ t n, t = settings l 0x40 → n = x.length l t → s.atLink q 0x40 l x → plain t → 1 ≤ n → n ≤ 65536 →
      at_ + n ≤ 262144 → w.winReady (keyIdx key) = false → w.wins.waiting.contains (keyIdx key, .link q) = false →
      exec (.put q l) s = came 0x40 (w.winWait (keyIdx key) (.link q)) .again)) ∧
  (∀ (q : Nat) (l : Link) (x : Seq) (s : State) (t : Sets) (n : Nat) (d e : Desc) (src dst : Nat),
    t = settings l 0x42 → n = x.length l t → s.atLink q 0x42 l x → t.sealMode = 0 → t.remote = none →
    1 ≤ n → n ≤ 131071 →
    let sk := x.key l.a.toNat
    let so := x.off l.a.toNat
    let dk := x.key l.b.toNat
    let dof := x.off l.b.toNat
    let w := (s.issuing q x).winTouch (keyIdx sk)
    let v := w.winTouch (keyIdx dk)
    (s.issuing q x).winCached (keyIdx sk) = true → w.winCached (keyIdx dk) = true →
    v.winCheck .chain .write dk dof (64 * n) true = .ok (e, .mem dst) →
    v.winCheck .chain .read sk so (64 * n) true = .ok (d, .mem src) →
    let rd := ((v.winTold (.ok (d, .mem src))).winTold (.ok (e, .mem dst))).newOp (.link q x.pc) .read 1 (64 * n)
    let wr := rd.2.newOp (.link q x.pc) .write (x.levelOf t) (64 * n)
    let j : CopyJob := ⟨rd.1, wr.1, 0, n, sk, so, dk, dof, t.slot, 0, none, none, none⟩
    ∀ u, (wr.2.wrote q wr.1 dk).copyRead j 0 64 = .ok u →
      exec (.copy q l) s = .next (u.linkCame q 0x42 l (s.isAsync x 0x42 t) (.wait (.copy j))))

/-- R152 to R155, R283, Table 6.5: `wopen` opens the descriptor that stands in the local store for the chain's ring and
waits for its write, or gives the failing code; `wrevoke` starts a revoke and waits for its end; `wquery` puts the 64 bytes
of the descriptor into the local store, zeros where it is unreadable (R444); `tresync` gives the status of the resync command.
A link whose descriptor lies in a part of the window table still to be filled is tried again (R248).
Completes: wopen, wrevoke, wquery, tresync. -/
def Obligations.WindowAndTwinLinks : Prop :=
  ∀ (q : Nat) (l : Link) (x : Seq) (s : State),
    let w := s.issuing q x
    let at_ := x.r l.b.toNat
    let key := x.r l.a.toNat % 2 ^ 32
    (s.atLink q 0x50 l x → at_ + 64 ≤ 262144 → w.openWaits (Desc.parse (x.bytes at_ 64)) = false →
      exec (.wopen q l) s =
        match w.openWindow (Desc.parse (x.bytes at_ 64)) (some x.ring) (.link q) with
        | (.ok k, u) => .next (u.linkCame q 0x50 l false (.wait (.wopen l.a.toNat k)))
        | (.error st, u) => .next (u.linkCame q 0x50 l false (.status st))) ∧
    (s.atLink q 0x51 l x → w.tableWaits (keyIdx (x.r l.a.toNat)) = false → w.serves .write = true → w.keyOpen key = true →
      w.wins.revokes.any (fun r => r.key == key) = false →
      exec (.wrevoke q l) s = .next (State.linkCame { w with wins := { w.wins with
        revokes := w.wins.revokes ++ [⟨keyIdx key, key, .link q, false, [], none⟩] } } q 0x51 l false (.wait .wrevoke))) ∧
    (s.atLink q 0x51 l x → w.tableWaits (keyIdx (x.r l.a.toNat)) = false → w.serves .write = true → w.keyOpen key = false →
      exec (.wrevoke q l) s = .next (w.linkCame q 0x51 l false (.status .windowRevoked))) ∧
    (s.atLink q 0x51 l x → w.tableWaits (keyIdx (x.r l.a.toNat)) = true →
      exec (.wrevoke q l) s = .next (w.linkCame q 0x51 l false .again)) ∧
    (s.atLink q 0x52 l x → at_ + 64 ≤ 262144 → w.tableWaits (keyIdx (x.r l.a.toNat)) = false →
      w.descReadable (keyIdx key) = false →
      exec (.wquery q l) s = .next ((w.modSeq q (fun y => y.putBytes at_ (List.replicate 64 0))).linkCame q 0x52 l
        false (.status .windowRevoked))) ∧
    (s.atLink q 0x52 l x → at_ + 64 ≤ 262144 → w.tableWaits (keyIdx (x.r l.a.toNat)) = false →
      w.descReadable (keyIdx key) = true →
      exec (.wquery q l) s = .next ((w.modSeq q (fun y => y.putBytes at_ (w.descOf (keyIdx key)).bytes)).linkCame q 0x52 l
        false (.status (if w.keyOpen key then .ok else .windowRevoked)))) ∧
    (s.atLink q 0x59 l x →
      exec (.tresync q l) s = .next (w.tresync.2.linkCame q 0x59 l false (.status w.tresync.1)))

/-- R307, R314, R315, R318, R322, Table 3.5: `tload` gives a the handle that the descriptor's load makes, `tpromote` ends at
once where the copy is there and otherwise waits for the promotion, `tevict` of a handle that nothing uses evicts it now and of
another marks it, `fx` that passes its checks gives a the ticket of the accepted operation, `fwait` waits for a ticket of its own
chain. Completes: tload, tpromote, tevict, fx, fwait. -/
def Obligations.TierLinks : Prop :=
  ∀ (q : Nat) (l : Link) (x : Seq) (s u : State),
    let w := s.issuing q x
    let at_ := x.r l.b.toNat
    let v := x.r l.a.toNat
    let tk := keyIdx (leNat ((x.bytes at_ 64).take 4))
    (∀ h, s.atLink q 0x68 l x → at_ + 64 ≤ 262144 → w.winReady tk = true →
      (w.winTouch tk).tload x.ring (x.bytes at_ 64) = (.ok, h, u) →
      exec (.tload q l) s = .next ((u.modSeq q (fun y => y.setR l.a.toNat h)).linkCame q 0x68 l false (.status .ok))) ∧
    (∀ st h, s.atLink q 0x68 l x → at_ + 64 ≤ 262144 → w.winReady tk = true → st ≠ .ok →
      (w.winTouch tk).tload x.ring (x.bytes at_ 64) = (st, h, u) →
      exec (.tload q l) s = .next (u.linkCame q 0x68 l false (.status st))) ∧
    (∀ st, s.atLink q 0x69 l x → settings l 0x69 = noSets →
      w.tpromote (v % 2 ^ 32) x.ring (immN l % 4) none = (.done st, u) →
      exec (.tpromote q l) s = .next (u.linkCame q 0x69 l false (.status st))) ∧
    (∀ h tier, s.atLink q 0x69 l x → settings l 0x69 = noSets →
      w.tpromote (v % 2 ^ 32) x.ring (immN l % 4) none = (.wait h tier, u) →
      exec (.tpromote q l) s = .next (u.linkCame q 0x69 l false (.wait (.promote h tier none)))) ∧
    (∀ i h, s.atLink q 0x6A l x → x.openAsyncs < 64 → w.handleOf (v % 2 ^ 32) x.ring = .ok (i, h) → h.refs = 0 →
      w.promoting i = false →
      exec (.tevict q l) s = .next ((w.evictNow i h).linkCame q 0x6A l false (.status .ok))) ∧
    (∀ i h, s.atLink q 0x6A l x → x.openAsyncs < 64 → w.handleOf (v % 2 ^ 32) x.ring = .ok (i, h) → h.refs ≠ 0 →
      let y := (w.setHandle i { h with evicting := true, waiters := h.waiters ++ [(q, x.chain, x.nextAsync)] }).count 0x81 0 3
      exec (.tevict q l) s =
        .next ((y.modSeq q (fun z => z.addAsync .evict)).linkCame q 0x6A l false (.status .deferred))) ∧
    (∀ words, words = (List.range 8).map (wordAt (x.bytes at_ 64)) → s.atLink q 0x6B l x → settings l 0x6B = noSets →
      at_ + 64 ≤ 262144 →
      let k := keyIdx (FxDesc.ofWords words).wkey
      let y := w.winTouch k
      w.winReady k = true → y.fxCheck x.ring (FxDesc.ofWords words) = .ok → y.fxOpen q x.chain < 16 → y.fxQueued < 256 →
      let r := y.fxAccept q x.chain x.ring x.level words none 0 0
      exec (.fx q l) s =
        .next ((r.2.modSeq q (fun y => y.setR l.a.toNat r.1)).linkCame q 0x6B l false (.status .ok))) ∧
    (∀ words, words = (List.range 8).map (wordAt (x.bytes at_ 64)) → s.atLink q 0x6B l x → at_ + 64 ≤ 262144 →
      let k := keyIdx (FxDesc.ofWords words).wkey
      let y := w.winTouch k
      w.winReady k = true → y.fxCheck x.ring (FxDesc.ofWords words) = .ok → 16 ≤ y.fxOpen q x.chain ∨ 256 ≤ y.fxQueued →
      exec (.fx q l) s = .next (y.linkCame q 0x6B l false .again)) ∧
    (∀ o, s.atLink q 0x6C l x → SMap.look s.tiers.ops v = some o → o.q = q → o.chain = x.chain →
      exec (.fwait q l) s = .next (w.linkCame q 0x6C l false (.wait (.fwait v)))) ∧
    (s.atLink q 0x6C l x → SMap.look s.tiers.ops v = none →
      exec (.fwait q l) s = .next (w.linkCame q 0x6C l false (.status .windowBounds)))

/-- R338, R340 to R342, R345: `kload`, `kswap` and `kerase` on slot 0 or the vault slot end with PRIVILEGE; on another slot
`kload` loads an envelope that passes its checks, waiting until the slot takes it and the Keepsake holds it, `kswap` without TIME
swaps at once (ALREADY_DONE with nothing loaded), with a later instant arms the swap and waits, and `kerase` zeroizes every copy.
Completes: kload, kswap, kerase. -/
def Obligations.KeyLinks : Prop :=
  ∀ (q : Nat) (l : Link) (x : Seq) (s : State),
    let w := s.issuing q x
    let at_ := x.r l.b.toNat
    let n := x.r l.a.toNat % 65536
    let ended (op : Nat) (u : State) (st : Status) : Host.Outcome State Fault Refusal :=
      .next (u.linkCame q op l false (.status st))
    (n = 0 ∨ n = w.vaultSlot →
      (s.atLink q 0x70 l x → at_ + 128 ≤ 262144 → exec (.kload q l) s = ended 0x70 w .privilege) ∧
      (s.atLink q 0x71 l x → exec (.kswap q l) s = ended 0x71 w .privilege) ∧
      (s.atLink q 0x72 l x → exec (.kerase q l) s = ended 0x72 w .privilege)) ∧
    (n ≠ 0 → n ≠ w.vaultSlot →
      (∀ b, b = x.bytes at_ 128 → s.atLink q 0x70 l x → at_ + 128 ≤ 262144 →
        exec (.kload q l) s = match w.loadCheck n b (Config.tagOk b) with
          | .error st => ended 0x70 (w.loadFailed n b (Config.tagOk b) st) st
          | .ok e =>
            let r := w.envOpened.load e (some q)
            if r.1 then ended 0x70 r.2 .ok else .next (r.2.linkCame q 0x70 l false (.wait (.kload n)))) ∧
      (s.atLink q 0x71 l x → (settings l 0x71).time = none →
        exec (.kswap q l) s = ended 0x71 (w.swap n).2.kick (if (w.swap n).1 then .ok else .alreadyDone)) ∧
      (∀ p, s.atLink q 0x71 l x → (settings l 0x71).time = some p → s.time < x.instant p → (w.slot n).swapAt = none →
        exec (.kswap q l) s = .next ((w.setSlot n { w.slot n with swapAt := some (x.instant p, some q) }).linkCame q 0x71 l
          false (.wait (.kswap n)))) ∧
      (∀ p, s.atLink q 0x71 l x → (settings l 0x71).time = some p → s.time < x.instant p → (w.slot n).swapAt.isSome = true →
        exec (.kswap q l) s = .next (w.linkCame q 0x71 l false .again)) ∧
      (s.atLink q 0x72 l x → exec (.kerase q l) s = ended 0x72 (w.eraseKeys n) .ok))

/-- R219, R390, R395, R397, R400: `retire` waits for its moves once it starts, `evread` copies records and advances a, `snap`
with a = 0 takes a snapshot at once and with a later instant arms one and waits, `fack` acknowledges a unit's faults, with
ALREADY_DONE where none was unacknowledged. Completes: retire, evread, snap, fack. -/
def Obligations.SystemLinks : Prop :=
  ∀ (q : Nat) (l : Link) (x : Seq) (s u : State),
    let w := s.issuing q x
    let at_ := x.r l.b.toNat
    let v := x.r l.a.toNat
    (s.atLink q 0x78 l x → w.retire v (immN l % 2 == 1) (some q) = (.busy, u) →
      exec (.retire q l) s = .next (u.linkCame q 0x78 l false (.wait .retire))) ∧
    (∀ st, s.atLink q 0x78 l x → st ≠ .busy → w.retire v (immN l % 2 == 1) (some q) = (st, u) →
      exec (.retire q l) s = .next (u.linkCame q 0x78 l false (.status st))) ∧
    (s.atLink q 0x79 l x → s.ev.tail ≤ v → v ≤ s.ev.head →
      let k := min (immN l % 256) (s.ev.head + 1 - v)
      let bs := (List.range k).flatMap (fun i => w.recordBytes (v + i))
      at_ + bs.length ≤ 262144 →
      exec (.evread q l) s = .next ((w.modSeq q (fun y => (y.putBytes at_ bs).setR l.a.toNat (v + k))).linkCame q 0x79 l
        false (.status .ok))) ∧
    (s.atLink q 0x79 l x → v < s.ev.tail ∨ s.ev.head + 1 < v → at_ ≤ 262144 →
      exec (.evread q l) s = .next ((w.modSeq q (fun y => (y.putBytes at_ []).setR l.a.toNat s.ev.tail)).linkCame q 0x79 l
        false (.status .windowBounds))) ∧
    (s.atLink q 0x7A l x → l.a = 0 → exec (.snap q l) s = .next (w.takeSnap.linkCame q 0x7A l false (.status .ok))) ∧
    (s.atLink q 0x7A l x → l.a ≠ 0 → s.time < x.instant l.a.toNat →
      exec (.snap q l) s = .next ((w.armSnap (x.instant l.a.toNat) (some q)).linkCame q 0x7A l false (.wait .snap))) ∧
    (∀ cls n, cls = v / 65536 % 65536 → n = v % 65536 → s.atLink q 0x7B l x → n < unitCount cls →
      exec (.fack q l) s = .next ((w.setFldOf cls F.BLK_FSTAT_UNACK n 0).linkCame q 0x7B l false
        (.status (if s.fldOf cls F.BLK_FSTAT_UNACK n = 0 then .alreadyDone else .ok)))) ∧
    (∀ cls n, cls = v / 65536 % 65536 → n = v % 65536 → s.atLink q 0x7B l x → unitCount cls ≤ n →
      exec (.fack q l) s = .next (w.linkCame q 0x7B l false (.status .windowBounds)))

/-- R40, R65, R75, R87: `atmt` arms the link that follows it at the instant in pair a, with BUSY in that link's register d, and the
chain goes on after it; at its instant the earliest armed link of a chain that no FENCE holds back is counted once, has its effect
where it stands, and takes its place in issue order; what it comes to is told by the operation that stands for it, or it ends the
chain with FAULT_LINK naming it. Completes: atmt, armedLinkIssue. -/
def Obligations.ArmedLinks : Prop :=
  ∀ (q : Nat) (l m : Link) (x : Seq) (s : State) (op : BitVec 7) (rest : List W40),
    (s.atLink q 0x61 l x → decodeLink (x.words.drop (x.pc + x.linkWords)) = some (op, m, rest) →
      (armedEffect op.toNat).isSome → badWord x.starts (x.pc + x.linkWords) op.toNat m = none →
      s.lacksPriv x op.toNat (settings m op.toNat) = false → x.openAsyncs < 64 →
      exec (.atmt q l) s =
        let y := (x.counted.addAsync .armed).setR m.d.toNat Status.busy.code
        .next (((s.issuing q x).setSeq q { y with
          armed := y.armed ++ [⟨x.instant l.a.toNat, op.toNat, m, x.nextAsync, x.pc + x.linkWords, false⟩] }).linkCame q 0x61 l
            false (.over .ok))) ∧
    (∀ a f, q < 32 → s.seq? q = some x → x.readyArmed = some a → s.chainsRun = true → x.aborted = false →
      x.stopped = false → armedEffect a.op = some f → s.lacksPriv x a.op (settings a.l a.op) = false →
      let run (t : State) (n : Nat) : Host.Outcome State Fault Refusal :=
        let y : Seq := { x with armed := x.armed.erase a, count := n }
        let r := f q a.l (settings a.l a.op) { y with pc := a.pc } (t.setSeq q y)
        .next (r.2.settleArmed q a r.1).serve
      (a.tried = false → x.count < s.linkLimit x →
        exec (.armedLinkIssue q) s = run ((s.reach a.at_).count 0x70 q 0) (x.count + 1)) ∧
      (a.tried = true → exec (.armedLinkIssue q) s = run (s.reach a.at_) x.count)) ∧
    (∀ (a : ArmedLink) (w : WaitFor) (st : Status), s.seq? q = some x →
      s.settleArmed q a .again = s.setSeq q { x with armed := { a with tried := true } :: x.armed } ∧
      s.settleArmed q a (.wait w) = (s.setSeq q (x.issueArmed a w)).linkReturn q ∧
      (st ≠ .illegalLink → st ≠ .internal →
        s.settleArmed q a (.status st) = (s.setSeq q (x.issueArmed a (.ready st))).linkReturn q) ∧
      s.settleArmed q a .illegal = s.illegalLink q { x with pc := a.pc } a.op)

/-- R66, R70, R74 to R77, R79, R87 to R90: the events of a chain. A blocking link returns when what it waits for has ended: its
status stands in register d and the chain goes on; `sync` returns the summary of the asynchronous operations that have ended; an
`await` returns when its instant comes. An undefined opcode ends the chain with a Notice and ILLEGAL_LINK, the exhausted link budget
with a Notice and ABORTED at the link that was next, an abort at a link boundary with ABORTED. Completes:
linkReturn, awaitInstant, undefinedOpcode, linkBudgetExhausted, chainAbortAtBoundary. -/
def Obligations.ChainEvents : Prop :=
  ∀ (q : Nat) (x : Seq) (s : State), q < 32 → s.seq? q = some x →
    (∀ d st, x.aborted = false → x.stopped = false → x.asyncs = [] → x.wait = some ⟨d, .ready st⟩ → x.hasNext →
      st ≠ .illegalLink → st ≠ .internal →
      exec (.linkReturn q) s =
        .next (s.setSeq q { (x.setR d st.code) with pc := x.pc + x.linkWords, wait := none }).serve) ∧
    (∀ d st, x.aborted = false → x.stopped = false → x.asyncs = [] → x.wait = some ⟨d, .ready st⟩ →
      st = .illegalLink ∨ st = .internal → exec (.linkReturn q) s = .next (s.chainEnd q x st).serve) ∧
    (∀ d, x.aborted = false → x.stopped = false → (s.lookAsyncs q x.asyncs).seq? q = some x → x.wait = some ⟨d, .sync⟩ →
      x.openAsyncs = 0 → x.hasNext → x.summary ≠ .illegalLink → x.summary ≠ .internal →
      exec (.linkReturn q) s = .next ((s.lookAsyncs q x.asyncs).setSeq q
        { (x.setR d x.summary.code) with asyncs := [], pc := x.pc + x.linkWords, wait := none }).serve) ∧
    (∀ d t, x.aborted = false → x.stopped = false → x.asyncs = [] → x.wait = some ⟨d, .await t⟩ → x.hasNext →
      let u := s.reach t
      t ≤ u.time → exec (.awaitInstant q) s = .next (u.setSeq q
        { (x.setR d (if u.unsure then Status.timeUnsure else Status.ok).code) with pc := x.pc + x.linkWords, wait := none }).serve) ∧
    (∀ v : W40, s.mayIssue q x = true → x.words[x.pc]? = some v →
      linkInstr q (v.extractLsb' 32 7) ⟨0, 0, 0, 0, []⟩ = none →
      exec (.undefinedOpcode q v) s =
        .next ((((s.stepTaken q).raise 0x70 q 0 0x01 (x.ring + x.tag * 2 ^ 16 + x.pc * 2 ^ 32) (v.extractLsb' 32 7).toNat).count 0x70 q
          2).chainEnd q x .illegalLink)) ∧
    (∀ k, 2 ^ s.fld F.RING_PROFILE_LIMIT x.ring ≤ x.count → x.stopped = false →
      k = x.pc ∧ x.wait = none ∨ (∃ a, x.wait.isSome ∧ x.nextArmed = some a ∧ k = a.pc) →
      exec (.linkBudgetExhausted q) s =
        .next ((s.raise 0x70 q 0 0x02 (x.ring + x.tag * 2 ^ 16 + k * 2 ^ 32) 0).chainEnd q { x with pc := k } .aborted)) ∧
    (x.aborted = true → x.stopped = false →
      exec (.chainAbortAtBoundary q) s =
        .next ((s.fxAbort (fun o => o.q == q && o.chain == x.chain)).chainEnd q x .aborted))

/-- R63, R67, R71, R81, R84, R88: installing a library slot, the two queue indexes of a ring, an abort, and the dispatch of
a ring's head entry to an idle sequencer: w1 to w6 take the arguments, w7 the tag, every other register and the local store
are zero; an entry whose slot is not installed, or whose image needs a privilege that the ring lacks, completes without
running a link. A second install command replaces the slot under check, and a second abort the first (the model's choice, log
entries 110 and 111). Completes: seqInstall, installCheckDone, ringSqTailWrite, ringCqHeadWrite, ringAbort, chainDispatch. -/
def Obligations.RingCommands : Prop :=
  ∀ (s : State) (p : Path) (r q : Nat),
    (∀ n, s.reaches 0x70 → n < 4096 → pathMay p 0x70 = true → exec (.seqInstall p n) s =
      .next (({ s with kex := { s.kex with installing := some n } }.setFld F.SEQ_INSTALL_STATUS 0 Status.busy.code).answer p .ok)) ∧
    (∀ n im, s.kex.installing = some n → checkImage (s.slotBytes n) = .ok im →
      exec .installCheckDone s = .next (({ s with kex := { s.kex with
        installing := none, lib := SMap.ins s.kex.lib n ⟨im.starts, im.privs, false⟩ } }.setFld F.SEQ_INSTALL_STATUS 0 0).setFld
        F.SEQ_INSTALL_BAD_LINK 0 0)) ∧
    (∀ n k, s.kex.installing = some n → checkImage (s.slotBytes n) = .error k →
      exec .installCheckDone s = .next (({ s with kex := { s.kex with
        installing := none, lib := SMap.del s.kex.lib n } }.setFld F.SEQ_INSTALL_STATUS 0 Status.illegalLink.code).setFld F.SEQ_INSTALL_BAD_LINK 0 k)) ∧
    (r < 4096 → s.reaches 0x71 →
      (∀ i, i < s.ringSize r → exec (.ringSqTailWrite p r i) s =
        .next (((s.setFld F.RING_SQ_TAIL_IDX r i).settleRing r).answer p .ok)) ∧
      (∀ i, s.ringSize r ≤ i → exec (.ringSqTailWrite p r i) s = .next (s.answer p .privilege)) ∧
      (∀ i, i < s.ringSize r →
        (i + s.ringSize r - s.fld F.RING_CQ_HEAD_IDX r) % s.ringSize r ≤ s.unconsumed r →
        exec (.ringCqHeadWrite p r i) s = .next (((s.setFld F.RING_CQ_HEAD_IDX r i).settleRing r).answer p .ok)) ∧
      (∀ tag, exec (.ringAbort p r tag) s = .next ((s.abortTag r (tag % 65536)).serve.answer p .ok)) ∧
      (q < 32 → s.chainsRun = true → s.mayDispatch r = true → s.ringTurn r = true → s.seq? q = none →
        q ∉ s.life.halted →
        let h := s.fld F.RING_SQ_HEAD_IDX r
        let e := s.entry r h
        let t := s.setFld F.RING_SQ_HEAD_IDX r ((h + 1) % s.ringSize r)
        let t := { t with kex := { t.kex with turn := SMap.put 0 t.kex.turn (s.fld F.RING_CFG_PRIO r) r } }
        (t.imageOf e.slot = none → exec (.chainDispatch r q) s =
          .next ((({ t with kex := { t.kex with lib := SMap.del t.kex.lib e.slot } }).postUnrun r e .illegalLink).settleRing
            r)) ∧
        (∀ im, t.imageOf e.slot = some im →
          let v := { t with kex := { t.kex with lib := SMap.ins t.kex.lib e.slot ⟨im.starts, im.privs, false⟩ } }
          (im.privs &&& s.fld F.RING_CFG_PRIV r ≠ im.privs →
            exec (.chainDispatch r q) s = .next ((v.postUnrun r e .privilege).settleRing r)) ∧
          (im.privs &&& s.fld F.RING_CFG_PRIV r = im.privs →
            ∃ x : Seq, exec (.chainDispatch r q) s =
              .next ((State.setSeq { v with kex := { v.kex with nextChain := v.kex.nextChain + 1 } } q x).settleRing r) ∧
              x.ring = r ∧ x.tag = e.tag ∧ x.user = e.user ∧ x.words = im.words ∧ x.starts = im.starts ∧ x.pc = im.entry ∧
              x.level = (if e.level = 0 then s.fld F.RING_PROFILE_LEVEL r else e.level) ∧ x.w = argRegs e ∧ x.store = [] ∧
              x.wait = none ∧ x.count = 0 ∧ x.asyncs = [] ∧ x.armed = [] ∧ x.aborted = false))))

/-! ## Service Pipeline, channels, Bezel -/

/-- R167 to R169, R173, R178, R179, R192, R230: the events that carry lines from the setting buffer and the locket cache to
the channels. A merge window that ends closes its entry, or loses it to a double-bit error (R214); a merge read and a fill whose
turn has come in their subchannel and that decode clean go on with their bytes; the oldest line on its way is Placed unless the write
queue is full; a dirty cached line is written through; held operations of a line go on.
Completes: heldWriteRelease, sbWindowExpiry, rmwReadDone, linePlaced, locketFillDone, locketWriteThrough.

R175: LK_CTL.EN written 0 starts a flush of every dirty line and written 1 enables the cache, or tells the flush under way
that the cache comes back; at the end of the flush every entry is invalid, the atomics that waited bypass the cache, and EN follows
the last write. Completes: locketDisable, locketEnable, locketFlushDone. -/
def Obligations.PipelineAndLocket : Prop :=
  (∀ (s : State) (line : Nat),
    exec (.heldWriteRelease line) s = .next (s.drainLine line).serve ∧
    (∀ e, s.pipe.sb.find? (fun (e : SbEntry) => e.line == line && !e.closing) = some e →
      let t := s.reachLocal (e.opened + ns e.window)
      exec (.sbWindowExpiry line false) s = .next ((t.closeLine line).drainSlice line).serve ∧
      exec (.sbWindowExpiry line true) s = .next (((t.dropEntry e).bufferError line e.writes 0).drainSlice line).serve) ∧
    (∀ e, s.mergeEntry line = some e → s.pipe.heals.any (fun p => p.2.what == .merge line) = false →
      (∀ d, s.storeOf line = some d → exec (.rmwReadDone line []) s = .next (s.mergeDone e d .ok).serve) ∧
      (∀ t, s.storeOf line = none → s.takeTurn (.merge line) line = (true, t) → t.storeOf line = none →
        let u := t.touchBank line
        decodeBezel (u.markOf line) (syndromes (u.chkOf line) []) = .clean →
        exec (.rmwReadDone line []) s = .next (u.mergeDone e (decodedBytes (u.pmLine line) [] .clean) .ok).serve)) ∧
    (∀ x dbe, s.pipe.stores.find? (fun x => x.line == line) = some x → s.writesFull line = false →
      exec (.linePlaced line dbe) s =
        .next (((s.acceptStore x dbe).settleDrain (s.chanAt line) (s.subAt line)).drainLine line).serve) ∧
    (∀ f t v, s.pipe.locket.fills.find? (fun f => f.line == line) = some f → s.fillReady line = true →
      s.takeTurn (.fill line) line = (true, t) → f.line = line →
      decodeBezel (t.markOf line) (syndromes (t.chkOf line) []) = .clean →
      (t.touchBank line).fillDone f (decodedBytes (t.pmLine line) [] .clean) .ok = some v →
      exec (.locketFillDone line []) s = .next v.serve) ∧
    (∀ l, s.lkLine line = some l → l.dirty = true →
      exec (.locketWriteThrough line) s = .next ((s.reachLocal l.due).writeThrough line))) ∧
  (∀ (s : State) (p : Path),
    (s.reaches 0x42 → pathMay p 0x42 = true →
      (s.pipe.locket.flushing = false → s.flag F.LK_CTL_EN = true →
        exec (.locketDisable p) s = .next (s.lkFlush.answer p .ok)) ∧
      (s.pipe.locket.flushing = false → s.flag F.LK_CTL_EN = false →
        exec (.locketDisable p) s = .next (s.answer p .ok)) ∧
      (s.pipe.locket.flushing = false →
        exec (.locketEnable p) s = .next ((s.setFld F.LK_CTL_EN 0 1).answer p .ok)) ∧
      (∀ b, s.pipe.locket.flushing = true →
        exec (if b then .locketEnable p else .locketDisable p) s = .next (State.answer { s with pipe := { s.pipe with
          locket := { s.pipe.locket with again := b } } } p .ok))) ∧
    (s.pipe.locket.flushing = true → s.pipe.locket.lines.all (fun p => !p.2.unclean) = true →
      s.pipe.locket.victims.all (fun v => !v.unclean) = true →
      let t := State.setFld { s with pipe := { s.pipe with
        locket := { s.pipe.locket with lines := [], victims := [], flushing := false, again := false } } } F.LK_CTL_EN 0 0
      exec .locketFlushDone s =
        .next (t.drainAll.setFld F.LK_CTL_EN 0 (if s.pipe.locket.again then 1 else 0)).serve))

/-- R192, R204 to R206, R211: a line read whose turn has come in its subchannel and that decodes clean ends with the stored bytes,
one with an error in a single device with the corrected bytes and a correction event, and a poisoned one that cannot be healed as
uncorrectable; one whose turn has not come stays queued; a heal that has no answer in 100 us is no heal.
Completes: lineReadDone, healTimeout. -/
def Obligations.LineReads : Prop :=
  ∀ (s t : State) (rid : Nat) (r : ReadRec) (es : List DevErr),
    SMap.look s.pipe.reads rid = some r → r.healing = false →
    let u := t.touchBank r.line
    (s.takeTurn (.read rid) r.line = (false, t) → exec (.lineReadDone rid es) s = .next t) ∧
    (s.takeTurn (.read rid) r.line = (true, t) →
      (decodeBezel r.mark (syndromes r.chk es) = .clean →
        exec (.lineReadDone rid es) s = .next (u.finishRead rid r (decodedBytes r.base es .clean) .ok).serve) ∧
      (∀ dev x, decodeBezel r.mark (syndromes r.chk es) = .fixed dev x →
        let v := u.corrected r.source r.line dev
        let bytes := decodedBytes r.base es (.fixed dev x)
        exec (.lineReadDone rid es) s =
          .next ((if r.stale then v else v.repair r.line r.base bytes r.chk).finishRead rid r bytes .ok).serve) ∧
      (decodeBezel r.mark (syndromes r.chk es) = .poisoned → u.canHeal = false → r.what ≠ .scrub →
        exec (.lineReadDone rid es) s = .next (u.finishRead rid r [] .uncorrectable).serve) ∧
      (decodeBezel r.mark (syndromes r.chk es) = .bad → (u.bezelEvent 1 r.source r.line 15 7).canHeal = false → r.full = false →
        exec (.lineReadDone rid es) s =
          .next (((u.bezelEvent 1 r.source r.line 15 7).poisonNew r.line r.source).finishRead rid r [] .uncorrectable).serve)) ∧
    (∀ tag, exec (.healTimeout tag) s = .next (s.noHeal tag).serve)

/-- R203 to R206: a code word whose check symbols stand as stored, read without an error, decodes clean; with one erroneous
device of the ten and no mark the error is found in that device, whatever its bits. -/
def Obligations.BezelDecodes : Prop :=
  decodeBezel none (syndromes (0, 0) []) = .clean ∧
  (∀ (d : Nat) (e : BitVec 64), d < 10 → e ≠ 0 →
    decodeBezel none (syndromes (0, 0) [(d, e)]) = .fixed d e) ∧
  (∀ mark, decodeBezel mark (syndromes poisonDelta []) = .poisoned)

/-- R28, R29, R31, R181, R270, R287: the time condition of an epoch is noted when local time passes its end and the guard band
while sure; the sealed epoch then rises, and never falls, to the highest epoch that may be sealed, and a leader that forwards owes
its twin a SEAL_MARK. Completes: sealTimeCondition, epochSeal.

That a command without its occasion changes nothing is the model's choice (log entry 1). -/
def Obligations.Sealing : Prop :=
  ∀ (s : State) (e : Nat),
    (let guard := ceilDiv (2 * s.fld F.MER_CFG_BOUND * 2 ^ 40) 1000000000000
     let t := s.reach ((s.unwrapped e + 1) * 2 ^ s.fld F.MER_CFG_K + guard)
     (t.unsure = false → t.pipe.timeReached = none →
       exec (.sealTimeCondition e) s = .next { t with pipe := { t.pipe with timeReached := some (e % 2 ^ 40) } }) ∧
     (∀ x, t.unsure = false → t.pipe.timeReached = some x →
       exec (.sealTimeCondition e) s = .next { t with pipe := { t.pipe with timeReached := some (epochMax x (e % 2 ^ 40)) } }) ∧
     (t.unsure = true → exec (.sealTimeCondition e) s = .next t)) ∧
    (s.unsure = false → s.sealable = some e → serialLater 40 e s.pipe.sealedE = true →
      let t : State := { s with pipe := { s.pipe with sealedE := e } }
      exec .epochSeal s = .next (State.sealMarks { t with twin := { t.twin with markDue := t.forwarding } }).serve) ∧
    (s.unsure = false → s.sealable = some e → serialLater 40 e s.pipe.sealedE = false →
      exec .epochSeal s = .next s) ∧
    (s.unsure = true → exec .epochSeal s = .next s)

/-- R189, R190, R192 to R197, R201: events of a memory channel. A temperature below every threshold sets HOT and the marks;
an in-band interrupt is taken once the bus runs I3C; a refresh that comes due while no traffic waits is issued with those that were
postponed and closes the bank, and one that comes due while traffic waits is postponed within POSTPONE; an idle open row below the
keep-open threshold without a queued hit is closed; a retraining step is taken at the next boundary of its subchannel with a ZQ
calibration, and one within the drift that needs no update changes nothing more; a sideband command on an open channel unit reaches
the DIMM, but for a PMIC output outside its limits, which is PRIVILEGE. When refresh management goes with a refresh is free (log
entry 102). Completes: dimmTempPoll, sidebandIbi, sidebandCmd, refreshDue, pageIdleClose, retrainBoundary. -/
def Obligations.ChannelEvents : Prop :=
  ∀ (s : State) (ch sub bank : Nat), ch < 16 → sub < 2 → bank < 1024 →
    (∀ t : Int, SMap.get 0 s.chan.missed (2 * ch) = 0 → SMap.get 0 s.chan.missed (2 * ch + 1) = 0 → 0 ≤ t → t ≤ 85 →
      t < s.fld F.MC_TEMP_THROTTLE ch → t < s.fld F.MC_TEMP_CRIT ch →
      ∃ u, exec (.dimmTempPoll ch [some t]) s = .next u ∧ u.fld F.MC_TEMP_HOT ch = t.toNat ∧
        u.fld F.MC_TEMP_THROTTLING ch = 0 ∧ u.fld F.MC_TEMP_DOUBLE ch = 0 ∧ u.pipe = s.pipe ∧ u.out = s.out) ∧
    (∀ bus dimm, bus < 4 → dimm < 8 → s.chan.i3c.contains bus = true → exec (.sidebandIbi bus dimm) s =
      .next { s with chan := { s.chan with ibis := s.chan.ibis ++ [(bus, dimm)] } }) ∧
    (∀ p k, s.reaches 0x50 → s.expertOk p 0x50 ch = true → k.isWrite = true → k.outOfLimits = false →
      exec (.sidebandCmd p ch k) s = .next ((((s.expertUsed 0x50 ch).emit
        (.sideband ch k.target k.reg k.value true)).setFld F.MCX_SB_STATUS ch 0).answer p .ok)) ∧
    (∀ p k, s.reaches 0x50 → s.expertOk p 0x50 ch = true → k.isWrite = true → k.outOfLimits = true →
      exec (.sidebandCmd p ch k) s =
        .next (((s.expertUsed 0x50 ch).setFld F.MCX_SB_STATUS ch Status.privilege.code).answer p .privilege)) ∧
    (∀ p k, s.reaches 0x50 → s.expertOk p 0x50 ch = false → exec (.sidebandCmd p ch k) s = .next (s.answer p .privilege)) ∧
    (∀ b, b = SMap.get newBank s.chan.banks (bankKey ch sub bank) → s.fld F.MC_STAT_STATE ch = 2 →
      (s.subBusy ch sub = false → s.flag F.MCX_REF_MODE ch = false →
        exec (.refreshDue ch sub bank) s = .next (State.count { s with
          chan := { s.chan with
            banks := SMap.put newBank s.chan.banks (bankKey ch sub bank) { b with row := none, postponed := 0, acts := 0 } },
          out := s.out ++ List.replicate (b.postponed + 1) (.refresh ch sub bank) ++
            (if Config.refreshManagement b.acts then [.refreshManagement ch sub bank] else []) } 0x50 ch 4 (b.postponed + 1))) ∧
      (s.subBusy ch sub = true → b.postponed < s.fld F.MCX_REF_POSTPONE ch →
        exec (.refreshDue ch sub bank) s = .next (State.count { s with chan := { s.chan with
          banks := SMap.put newBank s.chan.banks (bankKey ch sub bank) { b with postponed := b.postponed + 1 } } } 0x50 ch 5))) ∧
    (∀ b, b = SMap.get newBank s.chan.banks (bankKey ch sub bank) → b.row.isSome → s.hitQueued ch sub bank = false →
      s.flag F.MCX_PCP_FORCE_CLOSE ch = false → s.flag F.MCX_PCP_FORCE_OPEN ch = false → b.counter < s.fld F.MCX_PCP_THRESH ch →
      let t := s.reachLocal (b.last + ns (s.fld F.MCX_PCP_IDLE ch))
      exec (.pageIdleClose ch sub bank) s = .next (State.emit { t with chan := { t.chan with
        banks := SMap.put newBank t.chan.banks (bankKey ch sub bank) { b with row := none } } } (.precharge ch sub bank))) ∧
    (∀ drift, s.fld F.MC_STAT_STATE ch = 2 → drift ≤ Config.driftRange → drift ≤ s.fld F.MCX_RETRAIN_DRIFT ch →
      let period := 2 ^ (33 + s.fld F.MC_RETRAIN_INTERVAL ch)
      let n := s.nextBoundary (2 * ch + sub)
      let t := (s.reach (n * period + us (2 * (2 * ch + sub)))).count 0x50 ch 7
      exec (.retrainBoundary (2 * ch + sub) drift) s = .next (State.emit { t with chan := { t.chan with
        boundary := SMap.put 0 t.chan.boundary (2 * ch + sub) (n + 1) } } (.zqCalibration ch sub)))

/-- R209, R217 to R222: device marks are set and cleared by the management port and firmware alone; a retirement is listed where
there is room, its record goes to the keepsake, and its end is told when every line has moved; an injection stores the line again
with the armed change. Completes: markSet, markClear, markAutoSet, bzRetirePage, bzRetireBank, retirementDone, injectNow.

R215, R216: the scrub window opens at a multiple of its period and closes WIN_DUTY sixteenths later; the end of a lap
writes its time and starts the next; a lap that passes LAP_MAX sets LATE with a Minor fault.
Completes: scrubWindowOpen, scrubWindowClose, scrubLapEnd, scrubLapLate. -/
def Obligations.MarksRetirementAndScrub : Prop :=
  (∀ (s : State) (p : Path) (idx dev off : Nat),
    (s.reaches 0x51 → p.trusted = false →
      exec (.markSet p idx dev) s = .next (s.answer p .privilege) ∧
      exec (.markClear p idx) s = .next (s.answer p .privilege) ∧
      exec (.bzRetirePage p off) s = .next (s.answer p .privilege) ∧
      exec (.bzRetireBank p off) s = .next (s.answer p .privilege)) ∧
    (s.reaches 0x51 → p.trusted = true → s.srExists idx = true → dev ≤ 9 →
      exec (.markSet p idx dev) s = .next ((State.markEvent { s with bezel := { s.bezel with
        marks := SMap.ins s.bezel.marks idx dev } } 4 idx dev 2).answer p .ok) ∧
      exec (.markClear p idx) s = .next ((State.markEvent { s with bezel := { s.bezel with
        marks := SMap.del s.bezel.marks idx } } 5 idx ((SMap.look s.bezel.marks idx).getD 15) 0).answer p .ok)) ∧
    (∀ x, s.flag F.BZX_MARK_AUTO = true → SMap.look s.bezel.marks idx = none →
      s.fld F.BZX_MARK_LINES ≤ s.linesSeen idx dev →
      (s.bezel.seen.filter (fun x => x.sr == idx && x.device == dev)).getLast? = some x →
      exec (.markAutoSet idx dev) s = .next (State.bezelEvent { s with bezel := { s.bezel with
        marks := SMap.ins s.bezel.marks idx dev } } 4 x.source x.line dev 2)) ∧
    (s.reaches 0x51 → p.trusted = true → s.pow.state ≠ .p2 → off < s.vault.pmBytes →
      s.bezel.bankList.any (fun b => s.sameBank (b / 64) (off / 64)) = false →
      (s.bezel.pages.contains (off / 4096) = false → 1 ≤ s.spareFree → s.bezel.pages.length < 16384 →
        exec (.bzRetirePage p off) s = .next (((State.setFld (State.recordRetire { s with bezel := { s.bezel with
          retiring := s.bezel.retiring ++ [⟨false, off, 64, none, false⟩], pages := s.bezel.pages ++ [off / 4096] } })
          F.BZ_RETIRE_RES_STATUS 0 Status.busy.code).setFld F.BZ_RETIRE_RES_MOVED 0 0).answer p .ok)) ∧
      (s.bankUnits ≤ s.spareFree → s.bezel.bankList.length < 16 →
        exec (.bzRetireBank p off) s = .next (((State.setFld (State.recordRetire { s with bezel := { s.bezel with
          retiring := s.bezel.retiring ++ [⟨true, off, s.bankUnits * 64, none, false⟩],
          bankList := s.bezel.bankList ++ [off] } })
          F.BZ_RETIRE_RES_STATUS 0 Status.busy.code).setFld F.BZ_RETIRE_RES_MOVED 0 0).answer p .ok))) ∧
    (∀ r rest, s.bezel.retiring = r :: rest → r.by_ = none → r.total ≤ s.bezel.moved →
      exec .retirementDone s = .next (((State.bezelEvent (State.moveNext { s with bezel := { s.bezel with
        retiring := rest, moved := 0 } }) (if r.bank then 7 else 6) 7 (r.off / 64) 15 7).setFld
        F.BZ_RETIRE_RES_STATUS 0 0).setFld F.BZ_RETIRE_RES_MOVED 0 r.total)) ∧
    (∀ line, s.reaches 0x51 → s.expertOk p 0x51 0 = true → line = s.fld F.BZX_INJ_OFFSET → s.life.state ≠ .deployed →
      exec (.injectNow p) s =
        let t := s.expertUsed 0x51 0
        .next ((((t.setPmLine line (t.lineNow line)).setChk line t.injection).setFld F.BZX_INJ_ARM 0 0).answer p .ok)) ∧
    (s.reaches 0x51 → s.expertOk p 0x51 0 = false → exec (.injectNow p) s = .next (s.answer p .privilege))) ∧
  (∀ (s : State),
    (s.flag F.BZ_SCRUB_EN = true → s.bezel.window = false →
      let period := 2 ^ (36 + s.fld F.BZ_SCRUB_WIN_K)
      let t := s.reach (ceilDiv s.time period * period)
      exec .scrubWindowOpen s = .next (State.scrubNext { t with bezel := { t.bezel with
        window := true, lapStart := if t.bezel.next = 0 then t.mono else t.bezel.lapStart } })) ∧
    (s.bezel.window = true → s.fld F.BZ_SCRUB_WIN_DUTY < 16 →
      let period := 2 ^ (36 + s.fld F.BZ_SCRUB_WIN_K)
      let t := s.reach (s.time / period * period + s.fld F.BZ_SCRUB_WIN_DUTY * (period / 16))
      exec .scrubWindowClose s = .next { t with bezel := { t.bezel with window := false } }) ∧
    (∀ secs, s.dramBytes ≤ s.bezel.next * 64 → s.bezel.next ≠ 0 →
      let t := ((s.setFld F.BZ_LAP_LAST 0 secs).setFld F.BZ_SCRUB_LATE 0 0).setFld F.BZ_STAT_POISONED 0 s.bezel.poisonedNow
      exec (.scrubLapEnd secs) s = .next (State.scrubNext { t with bezel := { t.bezel with
        next := 0, lapStart := t.mono, poisonedNow := 0 } })) ∧
    (s.bezel.next ≠ 0 → s.flag F.BZ_SCRUB_LATE = false →
      let t := s.reachLocal (s.bezel.lapStart + s.fld F.BZ_SCRUB_LAP_MAX * 3600 * 2 ^ 40)
      exec .scrubLapLate s = .next ((t.setFld F.BZ_SCRUB_LATE 0 1).raise 0x51 0 1 0x09 0 s.bezel.next)))

/-! ## Vault Engine -/

/-- R226 to R228, R237 to R240, R242, R331, R344: the dirty granule whose turn it is (untwinned granules first, then by
VLTX_BUDGET.ORDER) goes as one sealed plate into the open strand, once a cipher pipeline takes it, below VLTX_BUDGET.HI at the pace of
BG_RATE; a strand starts to close CLOSE us after it opened and, once closed, makes clean every granule of its plates that nothing was
Placed to since; a plate that failed is put into the open strand again; a sparse strand gives up its slot, its live plates copied.
Completes: granuleVault, strandCloseTimeout, strandClosed, plateWriteError, cleaningStart.

That a command without its occasion changes nothing is the model's choice (log entry 1). -/
def Obligations.Strands : Prop :=
  ∀ (s : State) (n g : Nat) (x : Strand),
    (∀ took es dd, s.nextGranule = some (g, dd) →
      (s.mayVault g dd = true ∧ (g, dd) ∈ s.vault.dirty) ∧
      (∀ y, y ∈ s.vault.dirty → s.mayVault y.1 y.2 = true →
        (s.vaultRank (g, dd)).1 < (s.vaultRank y).1 ∨
        (s.vaultRank (g, dd)).1 = (s.vaultRank y).1 ∧ (s.vaultRank (g, dd)).2 ≤ (s.vaultRank y).2) ∧
      (s.vaultRests = true → exec (.granuleVault took es) s = .next s) ∧
      (s.vaultRests = false → s.mayPipe 3 = false → exec (.granuleVault took es) s = .next (s.waitPlate true)) ∧
      (s.vaultRests = false → s.mayPipe 3 = true →
        let r := ((s.waitPlate false).paced took).vaultGranule g es
        (r.2.2.1 = true → exec (.granuleVault took es) s = .next r.2.2.2) ∧
        (∀ u d2, r.2.2.1 = false → r.2.2.2.sealPlates r.2.2.2.plateVer 1 = some u → SMap.look u.vault.dirty g = some d2 →
          let p := u.addPlate (dataPlate g d2.last r.2.1 r.1)
          let v := p.2.count 0x60 0 20
          exec (.granuleVault took es) s = .next { v with vault := { v.vault with dirty := v.vault.dirty.map (fun y =>
            if y.1 = g then (y.1, { y.2 with since := false, strand := some p.1 }) else y) } }))) ∧
    (∀ took es, s.nextGranule = none → exec (.granuleVault took es) s = .next (s.waitPlate false)) ∧
    (s.openStrand = some (n, x) →
      let t := s.reachLocal (x.openedAt + us (s.fld F.VLTX_STRAND_CLOSE))
      exec .strandCloseTimeout s = .next { t with vault := { t.vault with
        strands := SMap.ins t.vault.strands n { x with state := 1 } } }) ∧
    (∀ t, s.closingStrand = some (n, x) → s.sealPlates x.keyVer (445 - x.plates.length + 3) = some t →
      exec .strandClosed s = .next ((t.wroteClose x).strandClosed n x).serve) ∧
    (∀ pos p v, s.vault.strands.find? (fun p => p.2.state != 2 && decide (pos < p.2.plates.length)) = some (n, x) →
      x.plates[pos]? = some p → s.sealPlates s.plateVer 1 = some v →
      let t := { v with vault := { v.vault with
        strands := SMap.ins v.vault.strands n { x with plates := x.plates.set pos ⟨0, 0, 0, 0, [], []⟩ } } }
      let r := State.addPlate t p
      let u := r.2.count 0x60 0 16
      exec (.plateWriteError pos) s = .next { u with vault := { u.vault with dirty := u.vault.dirty.map (fun d =>
        if d.1 = p.granule ∧ p.kind = 1 ∧ d.2.strand = some n then (d.1, { d.2 with strand := some r.1 }) else d) } }) ∧
    (SMap.look s.vault.strands n = some x → x.state = 2 → x.into = none → s.pow.state = .p0 → s.vault.unfilled = [] →
      s.vault.draining = false → s.fld F.VLTX_CLEAN_LIVE ≠ 0 → s.mayReuse n x = true → s.slotLeft = true →
      (s.livePlates n x = [] → exec (.cleaningStart n) s =
        .next (State.settleDegraded { s with vault := { s.vault with strands := SMap.del s.vault.strands n } })) ∧
      (∀ t, s.livePlates n x ≠ [] → (s.livePlates n x).length * 16 < s.fld F.VLTX_CLEAN_LIVE * 445 →
        s.sealPlates s.plateVer (s.livePlates n x).length = some t →
        let r := (s.livePlates n x).foldl (fun (a : Nat × State) p =>
          ((a.2.addPlate p).1, (a.2.addPlate p).2.count 0x60 0 17)) (0, t)
        exec (.cleaningStart n) s = .next { r.2 with vault := { r.2.vault with strands := r.2.vault.strands.map (fun p =>
          if p.1 = n then (p.1, { p.2 with into := some r.1 })
          else if p.1 = r.1 then (p.1, { p.2 with clean := true }) else p) } }))

/-- R242, Table 10.7: the loss of a drive sets DEGRADED, takes its bit out of DRIVES and raises a Critical fault, the loss of
a second one a Fatal fault; every strand then lacks its chunk; a replaced drive is present again and rebuilt; a loss of a
drive that is lost already changes nothing. Completes: driveLost, driveReplaced.

That a command without its occasion changes nothing is the model's choice (log entry 1). -/
def Obligations.Drives : Prop :=
  ∀ (s : State) (d : Nat) (x : Drive), d < 8 → SMap.look s.vault.drives d = some x →
    let t := State.setFld { s with vault := { s.vault with
      drives := SMap.ins s.vault.drives d { x with lost := true, rebuilding := false },
      strands := s.vault.strands.map (fun (p : Nat × Strand) => (p.1, { p.2 with lacks := addNew p.2.lacks d })) } }
        F.VLT_STAT_DEGRADED 0 1
    let t := t.setFld F.VLT_STAT_DRIVES 0 (t.fld F.VLT_STAT_DRIVES &&& (255 - 2 ^ d))
    (x.lost = false → s.lostDrives = [] → exec (.driveLost d) s = .next (t.raise 0x60 0 3 0x05 d)) ∧
    (x.lost = false → s.lostDrives ≠ [] → exec (.driveLost d) s = .next (t.raise 0x60 0 4 0x06 d)) ∧
    (x.lost = true → exec (.driveLost d) s = .next s) ∧
    (x.lost = true → exec (.driveReplaced d) s =
      let u := { s with vault := { s.vault with
        drives := SMap.ins s.vault.drives d { x with lost := false, rebuilding := true, sb0 := none, sb1 := none } } }
      .next (State.settleDegraded (State.setFld u F.VLT_STAT_DRIVES 0 (s.fld F.VLT_STAT_DRIVES ||| 2 ^ d))))

/-- R234, R235, R437: a measurement holds the vaulting back; its end, MIB mebibytes after its start, gives RATE and COVER from the sustained rate derated in
sixteenths; in the bring-up a rate below 48 GB/s refuses the vault, a good one lets boot go on with LIMIT lowered to COVER; in
service it lowers LIMIT, raises a Critical fault for a rate below 48 GB/s, and makes B_eff zero exactly while COVER is below its
least value, with a Critical fault, or HOLDUP_OK is low. Completes: rateMeasurement, measurementDone, holdupOkFall,
holdupOkRise.

That a command without its occasion changes nothing is the model's choice (log entry 1). -/
def Obligations.Measurement : Prop :=
  ∀ (s : State) (mbs : Nat),
    (s.fld F.VLT_STAT_STATE = 3 →
      exec .rateMeasurement s = .next { s with vault := { s.vault with
        measuring := true, measAt := if s.vault.measuring then s.vault.measAt else s.mono } }) ∧
    (s.fld F.VLT_STAT_STATE = 1 ∨ s.fld F.VLT_STAT_STATE = 2 →
      exec .rateMeasurement s =
        .next (State.setFld { s with vault := { s.vault with
          measuring := true, measAt := if s.vault.measuring then s.vault.measAt else s.mono } } F.VLT_STAT_STATE 0 2)) ∧
    (s.vault.measuring = false → exec (.measurementDone mbs) s = .next s) ∧
    (s.vault.measuring = true →
      let r := mbs * s.fld F.VLTX_MEAS_DERATE / 16
      let a := s.reachLocal (s.vault.measAt + s.measTime mbs)
      let t := (State.setFld { a with vault := { a.vault with measuring := false } } F.VLT_HOLDUP_RATE 0
        (min 65535 (r / 100))).setFld F.VLT_HOLDUP_COVER 0
        (min 64 (r * 1000000 * (16 * s.fld F.VLT_HOLDUP_E_HOLD - 5 * s.fld F.VLT_HOLDUP_P_DRAIN) /
          (20 * s.fld F.VLT_HOLDUP_P_DRAIN * 2 ^ 30)))
      (t.fld F.VLT_STAT_STATE = 2 → r < 48000 → exec (.measurementDone mbs) s = .next (t.refuseVault 1)) ∧
      (t.fld F.VLT_STAT_STATE = 2 → 48000 ≤ r → t.fld F.VLT_HOLDUP_COVER < t.coverMin →
        exec (.measurementDone mbs) s = .next (t.refuseVault 2)) ∧
      (t.fld F.VLT_STAT_STATE = 2 → 48000 ≤ r → t.coverMin ≤ t.fld F.VLT_HOLDUP_COVER → s.pow.holdupOk = false →
        exec (.measurementDone mbs) s = .next (t.refuseVault 3)) ∧
      (t.fld F.VLT_STAT_STATE = 2 → 48000 ≤ r → t.coverMin ≤ t.fld F.VLT_HOLDUP_COVER → s.pow.holdupOk = true →
        exec (.measurementDone mbs) s = .next ((State.setFld (State.lowerLimit { t with vault := { t.vault with
          zeroed := false } }) F.VLT_STAT_STATE 0 3).bringUpEnds)) ∧
      (t.fld F.VLT_STAT_STATE = 3 →
        let u := t.lowerLimit
        let v := if r < 48000 then u.raise 0x60 0 3 0x03 0 (u.fld F.VLT_HOLDUP_RATE) else u
        exec (.measurementDone mbs) s = .next (if t.fld F.VLT_HOLDUP_COVER < t.coverMin then
          State.raise { v with vault := { v.vault with zeroed := true } } 0x60 0 3 0x04 1
          else { v with vault := { v.vault with zeroed := !v.pow.holdupOk } }))) ∧
    (s.fld F.VLT_STAT_STATE = 3 → exec .holdupOkFall s =
      .next (State.raise { s with pow := { s.pow with holdupOk := false }, vault := { s.vault with zeroed := true } }
        0x60 0 3 0x04 0)) ∧
    (s.fld F.VLT_STAT_STATE ≠ 3 → exec .holdupOkFall s = .next { s with pow := { s.pow with holdupOk := false } }) ∧
    exec .holdupOkRise s = .next { s with
      pow := { s.pow with holdupOk := true },
      vault := { s.vault with zeroed := s.vault.zeroed && decide (s.fld F.VLT_HOLDUP_COVER < s.coverMin) } }

/-- R231, R244, R245, R248, R249, R251, R354: LIMIT takes a value that neither SIGNED_MAX nor COVER is below, and refuses a
greater one; a drain starts in STATE 4, its set fixed, once nothing is on its way and every revoke is cut; an access to an unfilled granule and the background fill
fill it from its latest plate; RESTORE_GO applies target 0 where a target is awaited, says PRIVILEGE
in its result where none is, and from a path other than the two trusted ones in its answer; at an epoch
boundary in service the records at or below the new floor go. Completes: budgetLimitWrite, restoreGo, drainStart, onDemandFill,
backgroundFill, epochBoundary.

That a command without its occasion changes nothing is the model's choice (log entry 1). -/
def Obligations.DrainAndFill : Prop :=
  ∀ (s : State) (p : Path) (g gib kind e : Nat) (ok : Bool),
    (s.reaches 0x60 → p.trusted = false → exec (.budgetLimitWrite p gib) s = .next (s.answer p .privilege) ∧
      exec (.restoreGo p kind e) s = .next (s.answer p .privilege)) ∧
    (s.reaches 0x60 → p.trusted = true → 0 < gib → gib < 128 → gib ≤ s.fld F.VLT_BUDGET_SIGNED_MAX → gib ≤ s.fld F.VLT_HOLDUP_COVER →
      exec (.budgetLimitWrite p gib) s =
        .next ((((s.setFld F.VLT_BUDGET_LIMIT 0 gib).setFld F.VLT_BUDGET_STATUS 0 0).serve).answer p .ok)) ∧
    (s.reaches 0x60 → p.trusted = true → 0 < gib → gib < 128 →
      s.fld F.VLT_BUDGET_SIGNED_MAX < gib ∨ s.fld F.VLT_HOLDUP_COVER < gib →
      exec (.budgetLimitWrite p gib) s =
        .next (((s.setFld F.VLT_BUDGET_STATUS 0 Status.privilege.code).fenceHit p 6).answer p .privilege)) ∧
    (∀ t, s.pow.warn = true → s.pow.warnAt = some t → s.vault.draining = false → s.pipeEmpty = true → s.wins.revokes.all Revoke.cut = true →
      s.fld F.VLT_STAT_STATE = 3 → s.pow.sq = .idle →
      let u := s.reachLocal (t + us 10)
      exec .drainStart s = .next (State.setFld { u with vault := { u.vault with
        draining := true, measuring := false, fixed := (u.vault.dirty.filter (fun p => u.inDrain p.1)).map (fun p => p.1) } }
        F.VLT_STAT_STATE 0 4)) ∧
    (s.vault.unfilled.contains g = true → s.vault.awaiting = false → s.fillKey g = true →
      exec (.onDemandFill g ok) s = .next ((s.fillGranule g ok).count 0x60 0 21).serve) ∧
    (s.vault.unfilled.contains g = false → exec (.onDemandFill g ok) s = .next s) ∧
    (∀ rest, s.vault.unfilled = g :: rest → s.vault.awaiting = false → s.fillKey g = true →
      exec (.backgroundFill ok) s = .next (s.fillGranule g ok).serve) ∧
    (s.reaches 0x60 → p.trusted = true → s.vault.awaiting = false →
      exec (.restoreGo p kind e) s = .next ((((s.setFld F.VLT_RESTORE_TARGET_KIND 0 (s.settleFld 0x60 F.VLT_RESTORE_TARGET_KIND 0 kind)).setFld F.VLT_RESTORE_EPOCH 0
        e).setFld F.VLT_RESTORE_RES_STATUS 0 Status.privilege.code).answer p .ok)) ∧
    (s.reaches 0x60 → p.trusted = true → s.vault.awaiting = true → s.fld F.BT_STAT_STATE = 5 →
      let t := (s.setFld F.VLT_RESTORE_TARGET_KIND 0 0).setFld F.VLT_RESTORE_EPOCH 0 e
      let u := State.setFld { t with vault := { t.vault with awaiting := false, target := (0, 0) } } F.VLT_RESTORE_RES_STATUS 0 0
      exec (.restoreGo p 0 e) s = .next (((u.setFld F.BT_STAT_STATE 0 4).bringUpEnds).answer p .ok)) ∧
    (let k := 2 ^ s.fld F.MER_CFG_K
     let t := s.reach ((s.time / k + 1) * k)
     (t.fld F.BT_STAT_STATE = 7 → exec .epochBoundary s =
        .next { t with vault := { t.vault with floorE := t.floorNow, journal := t.vault.journal.filter (fun r => serialLater 40 r.epoch t.floorNow) } }) ∧
     (t.fld F.BT_STAT_STATE ≠ 7 → exec .epochBoundary s = .next t))

/-! ## Meridian -/

/-- R257, R258: a PPS edge, taken the applied delay of its input earlier, inside the window counts toward the eight that make its input usable and measures the offset of the
source in use, one outside counts toward the three that make it unusable; an input that the unit lacks is a fault. An edge of
the return loop goes out at the half second where the loop is on; a round trip inside 1 ns of the mean of the last 16 is kept,
another discarded, and the 16th discard in a row fails the loop. Completes: ppsEdge, loopTxEdge, loopRxEdge.

The fault of a unit that the part lacks is the model's choice (log entry 6).
That a command without its occasion changes nothing is the model's choice (log entry 1). -/
def Obligations.PulseEdges : Prop :=
  ∀ (s : State) (input : Nat) (edge : Int) (rtt : Nat),
    let off := edge - s.ppsDelay input
    (∀ a b, input < 2 → SMap.get (0, 0) s.mer.runs input = (a, b) →
      let put (x : Nat × Nat) : State := { s with mer := { s.mer with runs := SMap.put (0, 0) s.mer.runs input x } }
      (off.natAbs ≤ s.fld F.MERX_PPS_WIN * 1000 → b < 3 ∨ 7 ≤ a →
        exec (.ppsEdge input edge) s = .next
          ((((((put (min 8 (a + 1), 0)).setUsable (input + 1) true).settleMer).count 0x07 0 0).measured (input + 1)
            off).serve)) ∧
      (off.natAbs ≤ s.fld F.MERX_PPS_WIN * 1000 → 3 ≤ b → a < 7 →
        exec (.ppsEdge input edge) s = .next ((((put (a + 1, 3)).count 0x07 0 0).measured (input + 1) off).serve)) ∧
      (s.fld F.MERX_PPS_WIN * 1000 < off.natAbs → 2 ≤ b →
        exec (.ppsEdge input edge) s =
          .next ((((put (0, 3)).setUsable (input + 1) false).settleMer).count 0x07 0 1).serve) ∧
      (s.fld F.MERX_PPS_WIN * 1000 < off.natAbs → b < 2 →
        exec (.ppsEdge input edge) s = .next ((put (0, b + 1)).count 0x07 0 1).serve)) ∧
    (2 ≤ input → exec (.ppsEdge input edge) s = .fault (.noSuchUnit 0x07 input)) ∧
    (let t := s.reach ((s.time + 2 ^ 39) / 2 ^ 40 * 2 ^ 40 + 2 ^ 39)
     (t.flag F.MER_CAL_LOOP_EN = true → exec .loopTxEdge s = .next (t.emit .loopTx)) ∧
     (t.flag F.MER_CAL_LOOP_EN = false → exec .loopTxEdge s = .next t)) ∧
    (s.flag F.MER_CAL_LOOP_EN = false → exec (.loopRxEdge rtt) s = .next s) ∧
    (s.flag F.MER_CAL_LOOP_EN = true →
      let n := s.mer.loops.length
      let near : Prop := n = 0 ∨ (n * rtt ≤ s.mer.loops.sum + 2000 * n ∧ s.mer.loops.sum ≤ n * rtt + 2000 * n)
      (near →
        let xs := (s.mer.loops ++ [rtt]).drop (n + 1 - 16)
        exec (.loopRxEdge rtt) s = .next ((State.setFld { s with mer := { s.mer with loops := xs, loopBad := 0 } }
          F.MER_LOOP_RTT 0 (xs.sum / xs.length / 4)).setFld F.MER_STAT_LOOP_FAIL 0 0)) ∧
      (¬ near →
        let t := (State.bump { s with mer := { s.mer with loopBad := min 16 (s.mer.loopBad + 1) } }
          F.MER_LOOP_DISCARDS).count 0x07 0 2
        (s.mer.loopBad ≠ 15 → exec (.loopRxEdge rtt) s = .next t) ∧
        (s.mer.loopBad = 15 → exec (.loopRxEdge rtt) s =
          let u := t.setFld F.MER_STAT_LOOP_FAIL 0 1
          .next (u.raise 0x07 0 1 0x04 (u.fld F.MER_CAL_LOOP_SEL)))))

/-- R257, R259: PTP messages. A Sync from the selected time transmitter begins an exchange, complete at once if it is one-step;
a Follow_Up with its sequence completes it; a Delay_Req goes out for a complete one, once; a Delay_Resp with its sequence ends
it, makes the source usable and measures its offset; an Announce adds one of at most four time transmitters or replaces its
own entry; 2 s without a completed exchange make a source unusable. Completes: ptpSync, ptpFollowUp, ptpDelayReq, ptpDelayResp,
ptpAnnounce, ptpSourceTimeout.

That a command without its occasion changes nothing is the model's choice (log entry 1). -/
def Obligations.PtpMessages : Prop :=
  ∀ (s : State) (k : Ptp),
    (s.ptpFrom k = true → exec (.ptpSync k) s =
      .next (s.setExchange k.port (some ⟨k.port, k.src, k.sequence, !k.twoStep, false⟩))) ∧
    (s.ptpFrom k = false → exec (.ptpSync k) s = .next s ∧ exec (.ptpFollowUp k) s = .next s ∧
      exec (.ptpDelayResp k) s = .next s) ∧
    (∀ x, s.exchangeOf k.port = some x →
      (s.ptpFrom k = true → x.sequence = k.sequence → exec (.ptpFollowUp k) s =
        .next (s.setExchange k.port (some { x with complete := true }))) ∧
      (x.complete = true → x.requested = false → exec (.ptpDelayReq k.port) s =
        .next ((s.setExchange k.port (some { x with requested := true })).emit (.ptpDelayReq k.port x.sequence))) ∧
      (x.complete = false ∨ x.requested = true → exec (.ptpDelayReq k.port) s = .next s) ∧
      (s.ptpFrom k = true → x.requested = true → x.sequence = k.sequence → exec (.ptpDelayResp k) s =
        let t := (s.setExchange k.port none).count 0x07 0 4
        .next ((((State.setUsable { t with mer := { t.mer with
          lastPtp := SMap.ins t.mer.lastPtp (s.ptpCode k) t.mono } } (s.ptpCode k) true).settleMer).measured (s.ptpCode k)
            (k.offset - signed 24 (s.fld F.MER_PTP_ASYM))).serve))) ∧
    (s.ptpMine k = true → s.mer.heard.any (fun x => x.port == k.port && x.src == k.src) = false →
      s.mer.heard.length < 4 → exec (.ptpAnnounce k) s = .next { s with mer := { s.mer with
        heard := s.mer.heard ++ [⟨k.port, k.src, k.dataset, k.highAcc⟩] } }) ∧
    (s.ptpMine k = true → s.mer.heard.any (fun x => x.port == k.port && x.src == k.src) = true →
      exec (.ptpAnnounce k) s = .next { s with mer := { s.mer with
        heard := s.mer.heard.filter (fun x => x.port != k.port || x.src != k.src) ++
          [⟨k.port, k.src, k.dataset, k.highAcc⟩] } }) ∧
    (s.ptpMine k = false → exec (.ptpAnnounce k) s = .next s) ∧
    (∀ code t, SMap.look s.mer.lastPtp code = some t →
      let u := s.reachLocal (t + 2 * 2 ^ 40)
      exec (.ptpSourceTimeout code) s = .next (((State.setUsable { u with mer := { u.mer with
        lastPtp := SMap.del u.mer.lastPtp code } } code false).settleMer).serve))

/-- R262, R264 to R267, R436, R447: the estimate follows AGE, and sure and unsure follow it; unsure ends SURE_HOLD seconds after
the last condition went; the first lock sets the counter to the source time in one step, without START_UNSURE, and the unit is
locked in STATE 2; the loss of the reference is STATE 0 with a Critical fault and its return STATE 2 or 3 by the selected
source; an epoch check that holds service for 10 s raises a Critical fault and goes on holding. Completes: estUpdate,
sureHoldExpiry, firstLock, ref10mLost, ref10mRestored, epochCheckHoldTimeout.

That a command without its occasion changes nothing is the model's choice (log entry 1). -/
def Obligations.MeridianStates : Prop :=
  ∀ (s : State) (n u : Nat),
    exec (.estUpdate n) s = .next ((s.advance (ceilDiv (n * 2 ^ 40) 1000)).showEst.judgeSure.serve) ∧
    (s.mer.calmSince = some u → s.unsureCause = none → s.unsure = true →
      let t := s.reachLocal (u + s.fld F.MER_CFG_SURE_HOLD * 2 ^ 40)
      exec .sureHoldExpiry s = .next ((t.setFld F.MER_STAT_UNSURE 0 0).raise 0x07 0 0 0x02 0 (s.fld F.MER_EST_EST))) ∧
    (s.unsure = false → exec .sureHoldExpiry s = .next s) ∧
    (s.mer.usableSince = some u → s.mer.locked = false → s.mer.refLost = false →
      let t := s.reachLocal (u + 2 * 2 ^ 40)
      (t.flag F.MER_CFG_START_UNSURE = false → exec (.firstLock n) s =
        .next ((State.setFld { t with time := n % 2 ^ 80, mer := { t.mer with locked := true } } F.MER_STAT_STATE 0
          2).judgeSure.serve)) ∧
      (t.flag F.MER_CFG_START_UNSURE = true → exec (.firstLock n) s =
        .next ((State.setFld { t with mer := { t.mer with locked := true } } F.MER_STAT_STATE 0 2).judgeSure.serve))) ∧
    (s.mer.refLost = false → exec .ref10mLost s =
      .next (((State.setFld { s with mer := { s.mer with refLost := true } } F.MER_STAT_STATE 0 0).raise 0x07 0 3
        0x05).judgeSure.serve)) ∧
    (s.mer.refLost = true → s.mer.locked = true → s.fld F.MER_STAT_SOURCE ≠ 0 →
      bitAt (s.fld F.MER_STAT_USABLE) (s.fld F.MER_STAT_SOURCE - 1) = true →
      exec .ref10mRestored s = .next ((State.setFld { s with mer := { s.mer with refLost := false } } F.MER_STAT_STATE 0
        2).settleMer)) ∧
    (s.mer.refLost = true → s.mer.locked = true → s.fld F.MER_STAT_SOURCE = 0 →
      exec .ref10mRestored s = .next ((State.setFld { s with mer := { s.mer with refLost := false } } F.MER_STAT_STATE 0
        3).settleMer)) ∧
    (∀ t, s.mer.epochHold = some t →
      let v := s.reachLocal (t + 10 * 2 ^ 40)
      exec .epochCheckHoldTimeout s = .next (State.raise { v with mer := { v.mer with epochHold := none } } 0x07 0 3 0x06 0
        (s.pipe.highStamp.getD 0)))

/-- R14, R255, R273, R275, R277: a read of MER_TIME_S answers the seconds and latches the fraction for its path; a write of
MER_GCUT raises the cut, never lowers it, and never past the sealed epoch; SUSPECT_CLEAR clears the suspect record; MER_PPSO
rises ADVANCE ps before a whole second while the time is sure and falls WIDTH us later. Completes: merTimeSRead, gcutWrite,
suspectClear, ppsoRise, ppsoFall.

That a command without its occasion changes nothing is the model's choice (log entry 1). -/
def Obligations.MeridianRegisters : Prop :=
  ∀ (s : State) (p : Path) (v : Nat),
    (s.jobs = [] → s.core.fusedOff.contains 0x07 = false → exec (.merTimeSRead p) s = .next (State.answer { s with mer := { s.mer with
      latched := SMap.ins s.mer.latched (pathKey p) (s.time % 2 ^ 40) } } p .ok (s.time / 2 ^ 40))) ∧
    (s.reaches 0x07 → serialLater 40 (s.fld F.MER_GCUT_CUT) (epochMin (v % 2 ^ 40) s.pipe.sealedE) = true →
      exec (.gcutWrite p v) s = .next ((s.setFld F.MER_GCUT_CUT 0 (s.fld F.MER_GCUT_CUT)).answer p .ok)) ∧
    (s.reaches 0x07 → serialLater 40 v (s.fld F.MER_GCUT_CUT) = true → v < 2 ^ 40 →
      serialLater 40 s.pipe.sealedE v = true ∨ v = s.pipe.sealedE →
      exec (.gcutWrite p v) s = .next ((s.setFld F.MER_GCUT_CUT 0 v).answer p .ok)) ∧
    (s.reaches 0x07 → serialLater 40 v s.pipe.sealedE = true → v < 2 ^ 40 → s.pipe.sealedE < 2 ^ 40 →
      serialLater 40 s.pipe.sealedE v = false → serialLater 40 s.pipe.sealedE (s.fld F.MER_GCUT_CUT) = true →
      exec (.gcutWrite p v) s = .next ((s.setFld F.MER_GCUT_CUT 0 s.pipe.sealedE).answer p .ok)) ∧
    (s.reaches 0x07 → exec (.suspectClear p) s = .next ((((s.setFld F.MER_SUSPECT_LO_LO 0 0).setFld F.MER_SUSPECT_HI_HI 0 0).setFld
      F.MER_SUSPECT_HI_VALID 0 0).answer p .ok)) ∧
    (s.flag F.MER_PPSO_EN = true → s.fld F.MER_STAT_STATE = 2 → s.unsure = false → s.mer.ppsHigh = none →
      let adv := s.fld F.MER_PPSO_ADVANCE * 2 ^ 40 / 1000000000000
      let t := s.reach (((s.time + adv) / 2 ^ 40 + 1) * 2 ^ 40 - adv)
      exec .ppsoRise s = .next (State.emit { t with mer := { t.mer with ppsHigh := some t.mono } } (.ppso true))) ∧
    (s.unsure = true → exec .ppsoRise s = .next s) ∧
    (∀ t, s.mer.ppsHigh = some t →
      let u := s.reachLocal (t + us (s.fld F.MER_PPSO_WIDTH))
      exec .ppsoFall s = .next (State.emit { u with mer := { u.mer with ppsHigh := none } } (.ppso false))) ∧
    (s.mer.ppsHigh = none → exec .ppsoFall s = .next s)

/-! ## Twin, clasp and claims -/

/-- R289 to R294, Tables 12.6, 12.7b and 12.8: the three readings of CLASP_SENSE: held ends leadership, lost keeps it and
raises a Critical fault, released starts a follower's 50 us. A member that may take the clasp and is chosen takes it: a
follower at its last TERM_END or after 50 us, a member at a start by its HELLO or after 2 s with OUTCOME 0. 10 us later it
leads if its sense reads released (after ASSUME also lost, R291) and its diagnosis is good; where both hold for 10 us the lower TERM
releases, its sync ended. A failed diagnosis, or a planned release, makes a holder release; a follower's fabric goes dark after a
Fatal fault. Completes: senseHeld, senseLost, senseReleased, takeover, termWaitExpiry, claspTake, startClaspTimer, claspSettleExpiry,
claspContention, selfDiagFail, failbackTimer.

That a command without its occasion changes nothing is the model's choice (log entry 1). -/
def Obligations.Clasp : Prop :=
  ∀ (s : State) (t : Nat),
    let w := s.twin
    exec .senseHeld s = .next { s with twin := { w with
      sense := .held, releasedSince := none, termWaitEnd := none, leader := false,
      bothSince := if w.holding then some s.mono else none } } ∧
    exec .senseLost s = .next (State.raise { s with twin := { w with
      sense := .lost, releasedSince := none, termWaitEnd := none, bothSince := none } } 0x22 0 3 0x01) ∧
    (w.holding = false → w.state = .inSync ∨ w.state = .resync → exec .senseReleased s = .next { s with twin := { w with
      sense := .released, releasedSince := some s.mono, bothSince := none,
      termWaitEnd := some (s.mono + ceilDiv (s.fld F.CLASPX_TERM_WAIT * 2 ^ 40) 1000000) } }) ∧
    (w.holding = false → w.state ≠ .inSync → w.state ≠ .resync → exec .senseReleased s = .next { s with twin := { w with
      sense := .released, releasedSince := some s.mono, bothSince := none, termWaitEnd := none } }) ∧
    (w.holding = true → w.settleEnd = none → w.diagOk = true → w.handover = false →
      exec .senseReleased s = .next { s with twin := { w with
        sense := .released, releasedSince := some s.mono, bothSince := none, leader := true, termWaitEnd := none } }) ∧
    (s.mayTake false = true → w.termWaitEnd = some t →
      ((∀ r, r < 8 → ∃ x, SMap.look w.rx r = some x ∧ x.termEnd = true) → exec .takeover s = .next s.takeClasp) ∧
      exec .termWaitExpiry s = .next (s.reachLocal t).takeClasp) ∧
    (s.mayTake false = false → exec .takeover s = .next s ∧ exec .termWaitExpiry s = .next s ∧
      exec .claspTake s = .next s ∧ exec .startClaspTimer s = .next s) ∧
    (s.mayTake false = true → w.state = .unpaired ∨ w.state = .single ∨ w.state = .refused →
      (s.startWins = true → exec .claspTake s = .next s.takeClasp) ∧
      (w.peerHello = none → s.kf.journal.outcome = 0 → w.releasedSince = some t →
        exec .startClaspTimer s = .next (s.reachLocal (t + 2 * 2 ^ 40)).takeClasp)) ∧
    (w.settleEnd = some t → w.diagOk = true →
      (w.assumed = false → w.sense = .released → exec .claspSettleExpiry s = .next ((s.reachLocal t).lead 1)) ∧
      (w.assumed = true → w.sense = .released ∨ w.sense = .lost →
        exec .claspSettleExpiry s = .next ((s.reachLocal t).lead 8))) ∧
    (w.settleEnd = some t → w.sense ≠ .released → w.assumed = false ∨ w.sense = .held →
      exec .claspSettleExpiry s =
        let u := s.reachLocal t
        .next { u with twin := { w with settleEnd := none } }) ∧
    (∀ peer, w.bothSince = some t → w.peerTerm = some peer → w.term < peer →
      exec .claspContention s = .next (((s.reachLocal (t + us 10)).enterSingle 7).dropClasp).serve) ∧
    (∀ peer, w.bothSince = some t → w.peerTerm = some peer → peer < w.term →
      exec .claspContention s = .next (s.reachLocal (t + us 10))) ∧
    (s.fab.bothDown = none → s.diagBad = true → s.fld F.TWIN_RES_STATUS = 0 →
      let u : State := { s with twin := { w with diagOk := false } }
      exec .selfDiagFail s = .next (if w.holding then u.release else if s.diagFail then u.lanesDark else u)) ∧
    (s.fab.bothDown = none → s.diagBad = false → w.handover = true → w.leader = true → w.holding = true →
      s.fld F.TWIN_RES_STATUS = Status.busy.code → exec .selfDiagFail s = .next (s.setFld F.TWIN_RES_STATUS 0 0).release) ∧
    (s.fab.bothDown = none → s.diagBad = false → w.handover = false → exec .selfDiagFail s = .next s) ∧
    (w.healthSince = some t → w.holding = false → w.state = .inSync → s.flag F.TWIN_CFG_PREFERRED = true →
      w.diagOk = true → exec .failbackTimer s =
        .next ((s.reachLocal (t + s.fld F.TWIN_CFG_FAILBACK * 2 ^ 40)).sendRecord 8 12 false 0 0 0 [] .control).2)

/-- R61, R147, R151, R157, R284 to R287, R294, R295, R298, Tables 12.4 and 12.5: the front record of a twin QP, of this member's TERM, has the
effect of its TYPE and leaves: the lines that it writes under its epoch, a poisoned line, the fence number, a descriptor once
its fence is on all eight slices, the seal mark, the answer to a heal, TERM_END, a planned release, the leader's state. A
record of a lower TERM only leaves, one whose descriptor is not on chip waits for it. A record that fails its check, or of a reserved
TYPE, ends the pair's sync with CAUSE 6. Completes: lineFull, linePart, poisonLine, fence, desc, sealMark, healReq, healResp,
resyncLine, termEnd, hello, handoverReq, pairState, reservedRecordType.

That a command without its occasion changes nothing is the model's choice (log entry 1). -/
def Obligations.TwinRecords : Prop :=
  ∀ (s : State) (r : Nat) (x : TwinRec) (rest : List TwinRec), r < 9 → (s.rx r).records = x :: rest →
    (∀ (c : Instr) (n : Nat), (c, n) ∈ [(Instr.lineFull r, 1), (.linePart r, 2), (.poisonLine r, 3), (.fence r, 4),
      (.sealMark r, 6), (.healReq r [], 7), (.healResp r, 8), (.resyncLine r, 9), (.termEnd r, 10), (.hello r, 11),
      (.handoverReq r, 12), (.pairState r, 13)] →
      (x.typ = n → x.term < s.twin.term → exec c s = .next (s.popRecord r x).serve) ∧
      (x.typ ≠ n → exec c s = .next s)) ∧
    (s.twin.term ≤ x.term →
      (x.wkey = 0 ∨ s.winReady (keyIdx x.wkey) = true →
        let u := if x.wkey = 0 then s else s.winTouch (keyIdx x.wkey)
        (x.typ = 1 → u.recordCheck x = none → exec (.lineFull r) s =
          .next (((u.recordWrite r x (patchAt 0 (x.body.take 64))).slotWritten x.line 1).popRecord r x).serve) ∧
        (∀ st, x.typ = 1 → u.recordCheck x = some st → exec (.lineFull r) s = .next (u.recordFails r x st).serve) ∧
        (x.typ = 2 → u.recordCheck x = none → exec (.linePart r) s =
          .next (((u.recordWrite r x ((patchAt 0 ((x.body.drop 8).take 64)).filter
            (fun p => bitAt (leNat (x.body.take 8)) p.1))).slotWritten x.line 1).popRecord r x).serve) ∧
        (∀ st, x.typ = 2 → u.recordCheck x = some st → exec (.linePart r) s = .next (u.recordFails r x st).serve)) ∧
      (x.wkey ≠ 0 → s.winReady (keyIdx x.wkey) = false → s.wins.waiting.contains (keyIdx x.wkey, .record r) = false →
        (x.typ = 1 → exec (.lineFull r) s = .next (s.winWait (keyIdx x.wkey) (.record r)).serve) ∧
        (x.typ = 2 → exec (.linePart r) s = .next (s.winWait (keyIdx x.wkey) (.record r)).serve)) ∧
      (x.typ = 3 → 64 * x.line + 64 ≤ s.vault.pmBytes →
        exec (.poisonLine r) s = .next ((s.poisonStore x.line).popRecord r x).serve) ∧
      (x.typ = 4 → exec (.fence r) s =
        .next ((s.setRx r { s.rx r with fence := leNat (x.body.take 8) }).popRecord r x).serve) ∧
      (x.typ = 5 → 64 * x.line + 64 ≤ s.vault.pmBytes →
        ((∀ i, i < 8 → (s.rx r).fence ≤ (s.rx i).fence) → exec (.desc r) s =
          .next ((((s.recordWrite r x (patchAt 0 (x.body.take 64))).winDrop (x.line - s.winBase / 64)).cutHandles
            (x.line - s.winBase / 64) (Desc.parse (x.body.take 64)).gen).popRecord r x).serve) ∧
        (∀ i, r < 8 → i < 8 → (s.rx i).fence < (s.rx r).fence → exec (.desc r) s = .next s)) ∧
      (x.typ = 6 → exec (.sealMark r) s = .next ((s.setRx r { s.rx r with
        sealMark := some (leNat (x.body.take 8) % 2 ^ 40) }).popRecord r x).serve) ∧
      (x.typ = 7 → (s.lkLine x.line).isSome → exec (.healReq r []) s =
        .next ((((s.popRecord r x).sendRecord r 8 false x.line 0 0
          (leBytes 8 (leNat (x.body.take 8) % 65536) ++ s.lineNow x.line) .control).2).count 0x22 0 3).serve) ∧
      (x.typ = 8 → exec (.healResp r) s =
        let w := leNat (x.body.take 8)
        .next (if bits w 16 8 = 0 then (s.popRecord r x).healed (w % 65536) ((x.body.drop 8).take 64)
          else (s.popRecord r x).noHeal (w % 65536)).serve) ∧
      (x.typ = 9 → 64 * x.line + 64 ≤ s.vault.pmBytes → exec (.resyncLine r) s =
        .next (((s.recordWrite r x (patchAt 0 (x.body.take 64))).rewritten x.line 1).popRecord r x).serve) ∧
      (x.typ = 10 → exec (.termEnd r) s = .next ((s.setRx r { s.rx r with termEnd := true }).popRecord r x).serve) ∧
      (let t := s.popRecord r x
       (x.typ = 11 →
        let h := Hello.parse x.body
        let u := { t with twin := { t.twin with peerHello := some h, peerTerm := some h.term } }
        let v := (List.range 6).foldl (fun (v : State) i => v.setFld F.TWIN_PEERDIG 0 (wordAt h.digest i) i) u
        exec (.hello r) s = .next (State.tryPair (if v.twin.sentHello ∨ ¬ v.twinReady ∨ (v.twin.leader ∧ v.twin.state = .single) then v
          else v.sendHello)).serve) ∧
       (x.typ = 12 → t.twin.leader = true → t.twin.state = .inSync → exec (.handoverReq r) s =
        .next (State.serve { t with twin := { t.twin with handover := true } })) ∧
       (x.typ = 12 → t.twin.leader = false → exec (.handoverReq r) s = .next t.serve) ∧
       (x.typ = 13 → t.twin.leader = true → exec (.pairState r) s = .next t.serve) ∧
       (x.typ = 13 → t.twin.leader = false →
        let w := leNat (x.body.take 8)
        (bits w 0 3 = 2 → exec (.pairState r) s = .next (State.serve { t with twin := { t.twin with
          state := .inSync, cause := bits w 8 8, everHeld := true, followed := true, healthSince := t.twin.healthSince.or (some t.mono) } })) ∧
        (bits w 0 3 = 3 →
          let u : State := { t with twin := { t.twin with state := .single, cause := bits w 8 8, healthSince := none } }
          exec (.pairState r) s = .next (State.serve (if t.twin.state = .inSync then u.endHeals else u)))))) ∧
    (x.typ = 0 ∨ 13 < x.typ → exec (.reservedRecordType r) s = .next (s.recordFails r x .illegalLink).serve) ∧
    (1 ≤ x.typ → x.typ ≤ 13 → exec (.reservedRecordType r) s = .next s)

/-- R281 to R283, R291, R295, R297, R299, R302: commands of the twin. From a path without the right the answer is PRIVILEGE;
RESYNC at a leader in SINGLE sends HELLO, HANDOVER at a leader in sync is BUSY, ASSUME of a member that may take the clasp
takes it, also where the sense reads lost, to lead after the 10 us of R290. HELLO is sent again in REFUSED, PAIR_STATE by the leader within 1 s; a forward that is not acknowledged in ACK_TO
puts the pair into SINGLE with CAUSE 2; the leader in RESYNC copies the lowest marked region line by line. Completes: twinResync,
twinHandover, twinAssume, helloRetry, pairStateTimer, forwardAckTimeout, resyncRegionCopy.

That a command without its occasion changes nothing is the model's choice (log entry 1). -/
def Obligations.TwinCommands : Prop :=
  ∀ (s : State) (p : Path) (r : Nat),
    (s.reaches 0x22 →
      (p.trusted = false → exec (.twinResync p) s = .next (s.answer p .privilege) ∧
        exec (.twinHandover p) s = .next (s.answer p .privilege)) ∧
      (p ≠ .mgmt → exec (.twinAssume p) s = .next (s.answer p .privilege)) ∧
      (p.trusted = true → s.twin.leader = false → exec (.twinResync p) s =
        .next (((s.setFld F.TWIN_RES_STATUS 0 Status.privilege.code).serve).answer p .ok)) ∧
      (p.trusted = true → s.twin.leader = true → s.twin.state = .inSync ∨ s.twin.state = .resync →
        exec (.twinResync p) s =
          .next (((s.setFld F.TWIN_RES_STATUS 0 Status.alreadyDone.code).serve).answer p .ok)) ∧
      (p.trusted = true → s.twin.leader = true → s.twin.state = .single → s.twinReady = true →
        exec (.twinResync p) s = .next (((s.sendHello.tryPair.setFld F.TWIN_RES_STATUS 0 0).serve).answer p .ok)) ∧
      (p.trusted = true → s.twin.leader = true → s.twin.state = .inSync → exec (.twinHandover p) s =
        .next ((State.setFld { s with twin := { s.twin with handover := true } } F.TWIN_RES_STATUS 0
          Status.busy.code).answer p .ok)) ∧
      (p.trusted = true → s.twin.leader = false → exec (.twinHandover p) s =
        .next ((s.setFld F.TWIN_RES_STATUS 0 Status.privilege.code).answer p .ok)) ∧
      (s.twin.leader = true → exec (.twinAssume .mgmt) s =
        .next ((s.setFld F.TWIN_RES_STATUS 0 Status.alreadyDone.code).answer .mgmt .ok)) ∧
      (s.twin.leader = false → s.mayTake true = true → exec (.twinAssume .mgmt) s =
        .next (((s.takeClasp true).setFld F.TWIN_RES_STATUS 0 0).answer .mgmt .ok)) ∧
      (s.twin.leader = false → s.mayTake true = false → exec (.twinAssume .mgmt) s =
        .next ((s.setFld F.TWIN_RES_STATUS 0 Status.privilege.code).answer .mgmt .ok))) ∧
    (s.twin.state = .refused → s.twinReady = true → exec .helloRetry s = .next s.sendHello) ∧
    (s.twin.leader = true → exec .pairStateTimer s = .next (s.reachLocal (s.twin.pairStateAt + 2 ^ 40)).sendPairState) ∧
    (s.twin.leader = false → exec .pairStateTimer s = .next s) ∧
    (∀ m rest, r < 9 → (s.qp (s.twinQp r)).own = m :: rest → s.forwarding = true → exec (.forwardAckTimeout r) s =
      .next (((s.reachLocal (m.sentAt + us (s.fld F.TWIN_CFG_ACK_TO))).enterSingle 2).serve)) ∧
    (∀ g, s.twin.leader = true → s.twin.state = .resync → s.nextRegion = some g → exec (.resyncRegionCopy []) s =
      .next ((List.range (min 32768 (s.vault.pmBytes / 64 - 32768 * g))).foldl
        (fun (t : State) i => t.resyncOne g (32768 * g + i) [])
        { s with twin := { s.twin with copied := s.twin.copied ++ [g] } })) ∧
    (s.twin.state ≠ .resync → exec (.resyncRegionCopy []) s = .next s)

/-- R300 to R302: the claim table. SET_PREFIX takes the prefix from CLM_DATA with claims of zero, SET_CLAIM sets one plane's
claim and its instant, from a fabric window of its own plane alone; QUERY and CLEAR; a claim not set again for TTL seconds
counts as 0; RETURN_HOLD ends a plane's hold. An entry or plane that the table lacks is a fault. Completes: setPrefix, setClaim,
clmQuery, clmClear, claimTtlExpiry, returnHoldExpiry.

The fault of a unit that the part lacks is the model's choice (log entry 6).
That a command without its occasion changes nothing is the model's choice (log entry 1). -/
def Obligations.Claims : Prop :=
  ∀ (s : State) (p : Path) (n plane v len : Nat),
    (s.reaches 0x22 → n < 4096 →
      let done (t : State) : Host.Outcome State Fault Refusal :=
        .next (((t.setFld F.CLM_RES_STATUS 0 0).setFld F.CLM_RES_ENTRY 0 n).answer p .ok)
      let no : Host.Outcome State Fault Refusal := .next (s.answer p .privilege)
      let entry (c : Claim) : State := { s with claims := SMap.put noClaim s.claims n c }
      let c := SMap.get noClaim s.claims n
      (p.trusted = true → exec (.setPrefix p n len) s =
        done (entry ⟨s.fld F.CLM_DATA 0 0, s.fld F.CLM_DATA 0 1, if len ≤ 128 then len else 0, 0, 0, 0, 0, true⟩)) ∧
      (p.trusted = true ∨ p = .fabric plane → exec (.setClaim p n plane v) s =
        done (entry (if plane = 0 then { c with a := v % 65536, setA := s.mono }
          else { c with b := v % 65536, setB := s.mono }))) ∧
      (p.trusted = true → exec (.clmQuery p n) s =
        done (((((s.setFld F.CLM_DATA 0 c.pfxHi 0).setFld F.CLM_DATA 0 c.pfxLo 1).setFld F.CLM_DATA2_CLAIM_A 0 (s.claimNow c.a c.setA)).setFld
          F.CLM_DATA2_CLAIM_B 0 (s.claimNow c.b c.setB)).setFld F.CLM_DATA2_LEN 0 c.len)) ∧
      (p.trusted = true → exec (.clmClear p n) s = done (entry noClaim)) ∧
      (p.trusted = false → exec (.setPrefix p n len) s = no ∧ exec (.clmQuery p n) s = no ∧ exec (.clmClear p n) s = no) ∧
      (p.trusted = false → p ≠ .fabric plane → exec (.setClaim p n plane v) s = no) ∧
      (s.fld F.CLM_CFG_TTL ≠ 0 → exec (.claimTtlExpiry n plane) s =
        let t := s.reachLocal ((if plane = 0 then c.setA else c.setB) + s.fld F.CLM_CFG_TTL * 2 ^ 40)
        .next { t with claims := SMap.put noClaim s.claims n (if plane = 0 then { c with a := 0 } else { c with b := 0 }) }) ∧
      (s.fld F.CLM_CFG_TTL = 0 → exec (.claimTtlExpiry n plane) s = .next s)) ∧
    (s.reaches 0x22 → 4096 ≤ n → exec (.clmClear p n) s = .fault (.noSuchUnit 0x22 n)) ∧
    (∀ u, plane < 2 → SMap.look s.fab.hold plane = some u → exec (.returnHoldExpiry plane) s =
      let t := s.reachLocal (u + ms (s.fld F.CLM_CFG_RETURN_HOLD))
      .next { t with fab := { t.fab with hold := SMap.del t.fab.hold plane } }) ∧
    (plane < 2 → SMap.look s.fab.hold plane = none → exec (.returnHoldExpiry plane) s = .next s) ∧
    (2 ≤ plane → exec (.returnHoldExpiry plane) s = .fault (.noSuchUnit 0x22 plane))

/-! ## Transport -/

/-- R113, R118, R123, R124, R126 to R129: a request packet that opens and whose PSN is new and in the window is marked received,
adds its credit cost to CRED_SEEN, gets what credit it may be granted and is noted as a message; it is delivered at once if it
is a WRITE or every lower PSN has been delivered, and otherwise waits in the order queue; one out of order, or that fills a
hole, is acknowledged at once. A duplicate is acknowledged at once and has no other effect; from the early warning on a request that
is no read is noted as lost and stays unmarked (R135). Completes: nrtWrite, nrtReadReq, nrtAtomic, nrtPersist.

R120, R126, R129, R130, R133: a response that opens on an outbound QP, new and in the window, is taken for the message that
it answers; an ACK moves SND_UNA, the credit and what the peer has ended; an ERROR packet with a new nonce puts the QP into
ERROR with the status that it carries. Completes: nrtReadResp, nrtAtomicResp, nrtCompletion, nrtAck, nrtError. -/
def Obligations.NrtPackets : Prop :=
  (∀ (s : State) (k : Pkt) (ver typ : Nat) (c : Instr),
    (typ, c) ∈ [(1, Instr.nrtWrite k), (2, .nrtReadReq k), (3, .nrtAtomic k), (4, .nrtPersist k)] →
    s.opens typ k ver →
    let n := k.dqp % 2 ^ 20
    let u := match k.ackx with | some x => (s.opened k).acked n x | none => s.opened k
    let q := u.qp n
    q.kind = 0 → q.overdrawn k = false →
    (q.ahead k.psn ≤ 512 → q.rcvd.contains k.psn = false →
      (u.pow.warn = false → u.ingressUsed + pktCost k ≤ ingressUnits → u.orderUsed < 16384 →
        let r := q.mark k.psn u.mono
        let now : Prop := typ = 1 ∨ badPersist k = true ∨ q.mayDeliver k.psn = true
        let v := ((u.setQp n { r.2 with
          credSeen := (r.2.credSeen + pktCost k) % 2 ^ 32,
          orderq := if now then r.2.orderq else r.2.orderq ++ [k] }).grant n).noteMsg n k ver
        let w := if now then v.deliver n k else v
        exec c s = .next (if r.1 then w.ackNow n else w).serve) ∧
      (u.pow.warn = true → typ ≠ 2 → exec c s = .next (u.setQp n { q with
        lost := if q.lost.contains k.psn then q.lost else k.psn :: q.lost }).serve)) ∧
    (q.duplicate k.psn = true → exec c s = .next (((u.count 0x20 0 5).ackNow n)).serve)) ∧
  (∀ (s : State) (k : Pkt) (ver : Nat),
    let n := k.dqp % 2 ^ 20
    (∀ typ c, (typ, c) ∈ [(0x10, Instr.nrtReadResp k), (0x11, .nrtAtomicResp k), (0x12, .nrtCompletion k)] →
      s.opens typ k ver →
      let u := match k.ackx with | some x => (s.opened k).acked n x | none => s.opened k
      let q := u.qp n
      q.kind = 2 → q.ahead k.psn ≤ 512 → q.rcvd.contains k.psn = false →
      let r := q.mark k.psn u.mono
      let w := (u.setQp n r.2).takeResponse n k
      exec c s = .next (if r.1 then w.ackNow n else w).serve) ∧
    (∀ x, s.opens 0x13 k ver → k.ackx = some x → exec (.nrtAck k) s = .next ((s.opened k).acked n x).serve) ∧
    (s.opens 0x14 k ver → ((s.hearing k).qp n).rxCtr < k.nonce →
      exec (.nrtError k) s = .next (((s.opened k).failQp n 5 k.status).settleTwin).serve))

/-- R120, R124, R125, R128 to R130, R133: what a READY QP does in time: it sends its oldest packet again after RTO doubled for
each time before, enters ERROR once RETRY is used up or credit has not come in CREDIT_TO, acknowledges after ACK_DELAY, at
COALESCE packets and while credit is withheld, lets its window grow by 32 units, delivers what waits for order, and ends a
WRITE message whose level is reached. A timer whose context is being fetched waits for it (R131). A QP number of more than 20 bits is
a fault. Completes: rtoExpiry, ackDelayExpiry, ackCoalesceCount, creditWindowGrow, holdAckTimer, creditTimeout, orderQueueRelease,
writeMessageEnd.

The fault of a unit that the part lacks is the model's choice (log entry 6).
That a command without its occasion changes nothing is the model's choice (log entry 1). -/
def Obligations.NrtTimers : Prop :=
  ∀ (s : State) (n : Nat),
    let q := s.qp n
    let here : Prop := s.tr.fetches.contains n = false ∧ s.tr.cache.contains n = true
    (n < 2 ^ 20 → q.st = 2 →
      (∀ p rest, q.sent = p :: rest → here →
        let t := ((s.reachLocal (q.progressAt + us (q.rto * 2 ^ min q.backoff 6))).ctxTouch n).count 0x20 0 4
        (q.retry ≤ q.backoff → exec (.rtoExpiry n) s =
          .next ((t.failQp n 2 Status.qpFlushed.code).settleTwin).serve) ∧
        (q.backoff < q.retry → exec (.rtoExpiry n) s =
          .next ((t.modQp n (fun q => { q with backoff := q.backoff + 1, progressAt := t.mono })).resend n p false))) ∧
      (q.sent ≠ [] → s.tr.fetches.contains n = true → s.tr.timers.contains (n, false) = false →
        exec (.rtoExpiry n) s =
          let t := s.reachLocal (q.progressAt + us (q.rto * 2 ^ min q.backoff 6))
          .next (State.ctxNext { t with tr := { t.tr with timers := t.tr.timers ++ [(n, false)] } })) ∧
      (q.sent = [] → exec (.rtoExpiry n) s = .next s) ∧
      (∀ t, q.ackSince = some t → exec (.ackDelayExpiry n) s =
        .next ((s.reachLocal (t + ns (100 * s.fld F.TR_ACK_DELAY))).ackNow n)) ∧
      (s.fld F.TR_ACK_COALESCE ≤ q.ackCount → exec (.ackCoalesceCount n) s = .next (s.ackNow n)) ∧
      (q.ackCount < s.fld F.TR_ACK_COALESCE → exec (.ackCoalesceCount n) s = .next s) ∧
      (q.kind ≠ 3 → exec (.creditWindowGrow n) s =
        let t := s.reachLocal (q.growAt + ns (100 * s.fld F.TR_ACK_DELAY))
        .next ((t.setQp n { q with w := min q.credMax (q.w + 32), growAt := t.mono }).grant n)) ∧
      (q.kind ≠ 3 → s.withheld n = true → exec (.holdAckTimer n) s = .next (s.ackNow n)) ∧
      (∀ t, q.waitSince = some t → q.sendq ≠ [] → here → exec (.creditTimeout n) s =
        .next ((((s.reachLocal (t + ms (s.fld F.TR_TIMER_CREDIT))).ctxTouch n).failQp n 3 Status.creditTimeout.code).settleTwin).serve) ∧
      (let t := s.releaseOrder n q.orderq.length
       exec (.orderQueueRelease n) s =
        .next (if (t.qp n).orderq.length < q.orderq.length then t.ackNow n else t).serve) ∧
      (∀ msg m i o st l, q.rx.find? (fun (m : RxMsg) => m.msg == msg) = some m → m.ended = false → m.typ = 1 →
        m.op = some i → s.op? i = some o → s.opLevel o = .done st l →
        exec (.writeMessageEnd n msg) s = .next (s.modRx n msg (fun y => { y with
          ended := true,
          resp := if (st.isFailure = true ∨ m.signal = true) ∧ q.kind ≠ 1 then some (st, l, o.hiEpoch.getD 0, []) else none
        })).serve)) ∧
    (2 ^ 20 ≤ n → exec (.rtoExpiry n) s = .fault (.noSuchUnit 0x20 n))

/-- R119, R120, R144, R145, Tables 5.6 and 5.7: the QP commands from the management port and firmware: CREATE of a legal
descriptor on a QP in RESET, READY from INIT, ERROR from READY, RESET, QUERY of a quarter, MODIFY in READY; in another state
their result is PRIVILEGE; another path is refused. RESET is over when no packet of the QP is left in the pipeline. Completes: qpCreate,
qpReady, qpError, qpReset, qpQuery, qpModify, qpResetFlushDone.

That a command without its occasion changes nothing is the model's choice (log entry 1). -/
def Obligations.QpCommands : Prop :=
  ∀ (s : State) (p : Path) (n quarter : Nat), n < 2 ^ 20 →
    let q := s.qp n
    let d := s.descriptorQp
    let res (t : State) (st : Status) : Host.Outcome State Fault Refusal :=
      .next (((t.setFld F.TR_QP_RES_STATUS 0 st.code).setFld F.TR_QP_RES_QPN 0 n).answer p .ok)
    let m := { q with ipA := d.ipA, ipB := d.ipB, rto := d.rto, credMax := d.credMax, level := d.level }
    let fit : Prop := q.st = 0 ∧ q.resetting = false ∧ s.descriptorReserved = false ∧ d.legal = true ∧
      (d.pin = true → s.pinnedQps < 1024) ∧ (d.kind = 1 → s.twinPlace n d = true)
    (s.reaches 0x20 →
      (p.trusted = true →
        (fit → exec (.qpCreate p n) s = res ((s.setQp n d).ctxTouch n) .ok) ∧
        (¬ fit → exec (.qpCreate p n) s = res s .privilege) ∧
        (q.st = 1 → exec (.qpReady p n) s = res
          (s.setQp n { q with st := 2, growAt := s.mono, progressAt := s.mono }).startPairing .ok) ∧
        (q.st ≠ 1 → exec (.qpReady p n) s = res s .privilege) ∧
        (q.st = 2 → exec (.qpError p n) s = res ((s.failQp n 0 Status.qpFlushed.code).settleTwin).serve .ok) ∧
        (q.st ≠ 2 → exec (.qpError p n) s = res s .privilege) ∧
        (let t := ((s.flushOwn n none).setQp n { q with
           st := 0, stWas := if q.resetting then q.stWas else q.st, resetting := true, sent := [], sendq := [],
           waitSince := none, own := [], rx := [], orderq := [],
           ce := { q.ce with open_ := [], cur := none, imms := [] } }).qpLeaves n
         exec (.qpReset p n) s = res (t.checkNeighbours.settleTwin.serve) .busy) ∧
        exec (.qpQuery p n quarter) s =
          res (((({ q with st := if q.resetting then q.stWas else q.st } : Qp).quarter (quarter % 4)).zipIdx).foldl
            (fun (t : State) x => t.setFld F.TR_QP_DATA 0 x.1 x.2) s) .ok ∧
        (q.st = 2 → m.legal = true → exec (.qpModify p n) s = res (s.setQp n m) .ok) ∧
        (q.st ≠ 2 ∨ m.legal = false → exec (.qpModify p n) s = res s .privilege)) ∧
      (p.trusted = false → exec (.qpCreate p n) s = .next (s.answer p .privilege) ∧
        exec (.qpReset p n) s = .next (s.answer p .privilege))) ∧
    (q.resetting = true → s.qpBusy n = false → s.fld F.TR_QP_RES_QPN = n → exec (.qpResetFlushDone n) s =
      let t := s.setQp n emptyQp
      .next (State.setFld { t with tr := { t.tr with cache := t.tr.cache.filter (fun i => i != n) } }
        F.TR_QP_RES_STATUS 0 0)) ∧
    (q.resetting = false ∨ s.qpBusy n = true → exec (.qpResetFlushDone n) s = .next s)

/-- R137 to R143: RoCEv2. A write packet with the expected PSN, of the payload size unless it is the last, that fits its message, a
read and an atomic with a free responder resource are accepted: the expected PSN moves past them and they run, each write checked by
its message's R_Key, address and length; an immediate without a free submission slot is refused with RNR, a read without a responder
resource with an invalid request. A notification halves the rate of READ responses down to 1/64, and 50 us without one double it.
Completes: roceRdmaWrite, roceWriteWithImmediate, roceReadRequest, roceCmpSwap, roceFetchAdd, roceCnpReceived, roceRateRestore. -/
def Obligations.RoceRequests : Prop :=
  ∀ (s : State) (k : Roce),
    let n := k.qp % 2 ^ 20
    let u := (s.countFrame k.frame).ctxTouch n
    (s.expects k .write →
      (∀ key start len got, u.roceWrite? n k = some (key, start, len, got) → len ≤ 2 ^ 31 →
        u.roceHeld n + k.data.length ≤ 65536 ∨ u.roceHeld n = 0 →
        let m := u.rocePayload (u.qp n)
        let g := got + k.data.length
        let v (last : Bool) : State := u.modCe n (fun c => { c with
          cur := if last then none else some (key, start, len, g) })
        let k1 : Roce := { k with rkey := key, va := start, dmaLen := len, cmp := got }
        (k.opcode = 0x06 ∨ k.opcode = 0x07 → k.data.length = m → g ≤ len → exec (.roceRdmaWrite k) s =
          .next ((v false).acceptRoce n k1 .write k.data.length 1 (if k.ackReq then 0x07 else 0x06)).serve) ∧
        (k.opcode = 0x08 ∨ k.opcode = 0x0A → k.data.length ≤ m → g = len → exec (.roceRdmaWrite k) s =
          .next ((v true).acceptRoce n k1 .write k.data.length 1 0x08).serve) ∧
        (k.opcode = 0x09 ∨ k.opcode = 0x0B → k.data.length ≤ m → g = len →
          (u.ringFull (u.qp n).immRing = false → exec (.roceWriteWithImmediate k) s =
            .next ((v true).acceptRoce n k1 .write k.data.length 1 0x08).serve) ∧
          (u.ringFull (u.qp n).immRing = true → exec (.roceWriteWithImmediate k) s =
            .next (u.roceSoftNak n k.psn synRnr).serve)))) ∧
    (s.expects k .atomic → u.roceReads n < 16 → u.roceHeld n + 8 ≤ 65536 →
      (k.opcode = 0x13 → exec (.roceCmpSwap k) s =
        .next (u.acceptRoce n { k with dmaLen := 8 } .atomic 8 1 0x13).serve) ∧
      (k.opcode = 0x14 → exec (.roceFetchAdd k) s =
        .next (u.acceptRoce n { k with dmaLen := 8 } .atomic 8 1 0x14).serve)) ∧
    (s.expects k .read → k.opcode = 0x0C →
      (u.roceReads n < 16 → k.dmaLen ≤ 2 ^ 31 → exec (.roceReadRequest k) s =
        .next (u.acceptRoce n k .read k.dmaLen (max 1 (ceilDiv k.dmaLen (u.rocePayload (u.qp n)))) 0x0C).serve) ∧
      (16 ≤ u.roceReads n → exec (.roceReadRequest k) s = .next (u.roceNak n k.psn synInvalid).serve)) ∧
    (∀ m, m < 2 ^ 20 → (s.qp m).st = 2 → (s.qp m).kind = 3 → exec (.roceCnpReceived m) s =
      .next (s.modCe m (fun c => { c with divisor := min 64 (2 * c.divisor), notified := s.mono }))) ∧
    (∀ m, m < 2 ^ 20 → (s.qp m).kind = 3 → 1 < (s.qp m).ce.divisor → exec (.roceRateRestore m) s =
      let t := s.reachLocal ((s.qp m).ce.notified + us 50)
      .next (t.modCe m (fun c => { c with divisor := c.divisor / 2, notified := t.mono })))

/-- R129 to R132, R150, R151, R444: a context that arrives takes its parked packets in order and acknowledges them once, and the timers
that waited for it; a descriptor that arrives is cached, and the requests that waited for it go on; a table line found uncorrectable
is healed from the twin first. One that nothing waits for changes nothing. Completes: contextArrived, windowFetchDone.

That a command without its occasion changes nothing is the model's choice (log entry 1). -/
def Obligations.Arrivals : Prop :=
  ∀ (s : State) (n : Nat), n < 2 ^ 20 →
    (s.tr.fetches.contains n = true →
      let t := State.ctxNext (State.ctxTouch { s with tr := { s.tr with
        fetches := s.tr.fetches.filter (fun x => x != n),
        parked := s.tr.parked.filter (fun k => k.dqp % 2 ^ 20 != n),
        parkedRoce := s.tr.parkedRoce.filter (fun k => k.qp % 2 ^ 20 != n),
        timers := s.tr.timers.filter (fun t => t.1 != n) } } n)
      let r := (s.tr.parked.filter (fun k => k.dqp % 2 ^ 20 == n)).foldl
        (fun (a : Bool × State) k => (a.1 || (a.2.takePacket k).1, (a.2.takePacket k).2)) (false, t)
      let v := (s.tr.parkedRoce.filter (fun k => k.qp % 2 ^ 20 == n)).foldl (fun (v : State) k => v.takeRoce k) r.2
      let w := if r.1 ∨ (t.qp n).ackCount < (v.qp n).ackCount then v.ackNow n else v
      exec (.contextArrived n) s =
        .next ((s.tr.timers.filter (fun t => t.1 == n)).foldl State.lateTimer w).serve) ∧
    (s.tr.fetches.contains n = false → exec (.contextArrived n) s = .next s) ∧
    (s.fetching.contains n = false → exec (.windowFetchDone n []) s = .next s) ∧
    (s.fetching.contains n = true → s.tableWaits n = false →
      s.pipe.heals.any (fun p => p.2.line == s.descLine n) = false → (s.lkLine (s.descLine n)).isSome →
      let t := s.winTouch n
      let u : State := { t with wins := { t.wins with waiting := [] } }
      t.winReady n = true →
      (∀ k, s.wins.waiting = [(n, .nrt k)] →
        exec (.windowFetchDone n []) s = .next (u.windowStage (k.dqp % 2 ^ 20) k).serve) ∧
      (∀ q, s.wins.waiting = [(n, .link q)] → exec (.windowFetchDone n []) s = .next u.serve)) ∧
    (∀ es, s.fetching.contains n = true → s.tableWaits n = false →
      s.pipe.heals.any (fun p => p.2.line == s.descLine n) = false →
      s.freshBad (s.descLine n) es = true → s.canHeal = true →
      exec (.windowFetchDone n es) s =
        .next ((s.bezelEvent 1 0 (s.descLine n) 15 7).startHeal (s.descLine n) (.desc (s.descLine n)) true))

/-- R152 to R155, R159, R354, R444: the window commands from the management port and firmware: OPEN of the descriptor in
WIN_DATA gives a key under BUSY until its write has ended, or the failing code; REVOKE, QUERY and RECYCLE; the cut of a revoke
and its completion, which tells who waits. A command whose part of the table is still to be filled from the vault waits under BUSY
(R248). Another path is refused. Completes: winOpen, winRevoke, winQuery, winRecycle, revokeCut, revokeComplete. -/
def Obligations.WindowCommands : Prop :=
  ∀ (s t : State) (p : Path) (key : Nat), key < 2 ^ 32 →
    let res (t : State) (st : Status) (key : Nat) : State :=
      (t.setFld F.WIN_RES_STATUS 0 st.code).setFld F.WIN_RES_KEY 0 key
    let desc := Desc.parse ((List.range 8).flatMap (fun i => leBytes 8 (s.fld F.WIN_DATA 0 i)))
    (s.reaches 0x30 →
      (p.trusted = false → exec (.winOpen p) s = .next (s.answer p .privilege) ∧
        exec (.winRevoke p key) s = .next (s.answer p .privilege) ∧
        exec (.winQuery p key) s = .next (s.answer p .privilege)) ∧
      (s.openWaits desc = false →
        (s.openWindow desc none .command = (.ok key, t) →
          exec (.winOpen .mgmt) s = .next ((res t .busy key).serve.answer .mgmt .ok) ∧
          exec (.winOpen .firmware) s =
            .next (((res t .busy key).note 0x30 0 0x01 key).serve.answer .firmware .ok)) ∧
        (∀ st, s.openWindow desc none .command = (.error st, t) →
          exec (.winOpen .mgmt) s = .next ((res t st 0).serve.answer .mgmt .ok))) ∧
      (s.tableWaits (keyIdx key) = false →
        (s.serves .write = true → s.keyOpen key = true → s.wins.revokes.any (fun r => r.key == key) = false →
          exec (.winRevoke .mgmt key) s = .next ((res { s with wins := { s.wins with
            revokes := s.wins.revokes ++ [⟨keyIdx key, key, .command, false, [], none⟩] } } .busy key).answer .mgmt .ok)) ∧
        (s.serves .write = true → s.keyOpen key = false → exec (.winRevoke .mgmt key) s =
          .next ((res s .windowRevoked key).answer .mgmt .ok)) ∧
        (s.descReadable (keyIdx key) = true → exec (.winQuery .mgmt key) s =
          .next ((res (s.setWinData (s.descOf (keyIdx key)).bytes) (if s.keyOpen key then .ok else .windowRevoked)
            key).answer .mgmt .ok)) ∧
        (s.descReadable (keyIdx key) = false → exec (.winQuery .mgmt key) s =
          .next ((res (s.setWinData (List.replicate 64 0)) .windowRevoked key).answer .mgmt .ok))) ∧
      (s.tableWaits (keyIdx key) = true → exec (.winQuery .mgmt key) s =
        .next ((State.setFld { s with wins := { s.wins with asked := some (3, .mgmt, key) } }
          F.WIN_RES_STATUS 0 Status.busy.code).answer .mgmt .ok)) ∧
      (∀ idx, idx < 2 ^ 20 → s.serves .write = true → p.trusted = true → s.tableWaits idx = false →
        exec (.winRecycle p idx) s = .next ((res (s.recycle idx).2 (s.recycle idx).1 idx).serve.answer p .ok))) ∧
    (∀ idx r, s.wins.revokes.find? (fun r => r.idx == idx && !r.cut) = some r →
      exec (.revokeCut idx) s = .next (s.makeCut r).serve) ∧
    (∀ idx r, s.wins.revokes.find? (fun r => r.idx == idx && s.revokeOver r) = some r →
      let t := { s with wins := { s.wins with revokes := s.wins.revokes.erase r } }
      (r.by_ = .command → exec (.revokeComplete idx) s = .next (res t .ok r.key)) ∧
      (∀ q, r.by_ = .link q → exec (.revokeComplete idx) s =
        .next (State.tellLinks t (fun n w => if n = q ∧ w = .wrevoke then some .ok else none))) ∧
      (r.by_ = .lend → t.wins.revokes.any (fun x => x.by_ == .lend) = false →
        exec (.revokeComplete idx) s = .next (State.setFld t F.TM_RES_STATUS 0 0)))

/-! ## Tiers, Facet, neighbours -/

/-- R311, R312, R314 to R316, R319, R320, R322, R324, R327, R329: a promotion whose lines have all been read makes its copy
(one that was revoked ends with WINDOW_REVOKED), the TIME of a waiting `tpromote` gives it DEADLINE_MISS, an eviction takes
effect once nothing uses the handle; a Facet operation starts on the engines that are free when it is its turn, at its
deadline too; once its inputs are read its result is written and its engines are free; a parity error, or the loss of an engine,
restarts its operation once and then ends it with INTERNAL; a neighbour that has not answered a read for 4 x RTO is lost, and its reads
end. Completes: promotionDone, tpromoteDeadline, evictionEffect, facetOpStart, fxDeadline, facetOpEnd, engineWithdraw,
neighbourReadTimeout.

The fault of a unit that the part lacks is the model's choice (log entry 6).
That a command without its occasion changes nothing is the model's choice (log entry 1). -/
def Obligations.TierEvents : Prop :=
  ∀ (s : State) (i tier tk e n : Nat),
    (∀ p h o x, s.promoOf i tier = some p → SMap.look s.tiers.handles i = some h → p.revoked = false →
      h.revoked = false → p.pauses = 0 → p.sent = false → p.restart = false → tier < 2 → p.op = some o →
      s.op? o = some x → x.reads = 0 → x.status.isFailure = false →
      let t := s.endOp o
      let y := { p with status := p.status.meet x.status }
      exec (.promotionDone i tier) s = .next (State.makeCopy { t with tiers := { t.tiers with
        promos := t.tiers.promos.map (fun (z : Promo) => if z.h = i ∧ z.tier = tier then y else z) } } y x.data h.span)) ∧
    (∀ p h, s.promoOf i tier = some p → SMap.look s.tiers.handles i = some h → p.revoked = true →
      exec (.promotionDone i tier) s = .next (s.endPromo p .windowRevoked)) ∧
    (∀ x d t, n < 32 → SMap.look s.kex.seqs n = some x → x.wait = some ⟨d, .promote i tier (some t)⟩ → x.asyncs = [] →
      exec (.tpromoteDeadline n) s = .next ((((s.reach t).tellLinks (fun m w => match w with
        | .promote _ _ (some t1) => if m = n ∧ t1 = t then some .deadlineMiss else none
        | _ => none)).bump F.TM_MISS_DEADLINE).count 0x81 0 4)) ∧
    (∀ h, SMap.look s.tiers.handles i = some h → h.evicting = true → h.refs = 0 → s.promoting i = false →
      exec (.evictionEffect i) s = .next ((s.evictNow i h).tellEvicted h.waiters)) ∧
    (∀ h, SMap.look s.tiers.handles i = some h → h.refs ≠ 0 → exec (.evictionEffect i) s = .next s) ∧
    (∀ o es, SMap.look s.tiers.ops tk = some o → s.enginesFor (FxDesc.ofWords o.words).engines = some es →
      s.fxTurn tk o = true → exec (.facetOpStart tk) s = .next (s.fxStart tk o es)) ∧
    (∀ o es t, SMap.look s.tiers.ops tk = some o → o.deadline = some t → o.stage = .queued →
      (s.reach t).enginesFor (FxDesc.ofWords o.words).engines = some es → (s.reach t).fxTurn tk o = true →
      exec (.fxDeadline tk) s = .next ((s.reach t).fxStart tk o es)) ∧
    (∀ o a bs, SMap.look s.tiers.ops tk = some o → o.stage = .running →
      o.engines.any (fun e => s.fld F.FE_STAT_STATE e == 3) = false →
      (∀ x ∈ o.inputs, (s.inputDone x).map Prod.fst = some .ok) → o.argOf s 0 = some a →
      let d := FxDesc.ofWords o.words
      facetResult d a (o.argOf s 1) (o.argOf s 2) = .ok bs →
      exec (.facetOpEnd tk none) s = .next (((o.engines.take 1).foldl (fun (t : State) e =>
        (t.countUnits 0x80 e 1 1024 (d.macs a.t (((o.argOf s 1).map Arg.t).getD a.t))).countUnits 0x80 e 2 64
          ((o.inputs.map FxInput.span).sum)) s).fxWrite tk o d bs .ok).serve) ∧
    (∀ o x role, SMap.look s.tiers.ops tk = some o → o.stage = .running →
      o.inputs.find? (fun (x : FxInput) => x.role == role && decide (x.tier < 2)) = some x → x.tier = 1 →
      let t := (s.raise 0x81 0 1 0x01).modHandle x.h (fun h => h.setCopy 1 none)
      (o.parities = 0 → exec (.facetOpEnd tk (some (role, e))) s = .next (t.fxRestart tk { o with parities := 1 })) ∧
      (o.parities ≠ 0 → exec (.facetOpEnd tk (some (role, e))) s = .next (t.fxEnd tk o .internal))) ∧
    (e < 64 →
      let u := (s.setFld F.FE_STAT_STATE e 3).raise 0x80 e 3 0x02
      (u.tiers.ops.find? (fun p => p.2.stage == .running && p.2.engines.contains e) = none →
        exec (.engineWithdraw e) s = .next u) ∧
      (∀ o, u.tiers.ops.find? (fun p => p.2.stage == .running && p.2.engines.contains e) = some (tk, o) →
        (o.withdrawals = 0 → exec (.engineWithdraw e) s = .next (u.fxRestart tk { o with withdrawals := 1 })) ∧
        (o.withdrawals ≠ 0 → exec (.engineWithdraw e) s = .next (u.fxEnd tk o .internal)))) ∧
    (64 ≤ e → exec (.engineWithdraw e) s = .fault (.noSuchUnit 0x80 e)) ∧
    (∀ x, n < 4 → SMap.look s.tiers.neigh n = some x →
      (∀ t, s.shareSince n x.qpn = some t → exec (.neighbourReadTimeout n) s =
        .next ((s.shareReads n).foldl (fun (u : State) j => u.opMeets j .internal)
          ((s.reachLocal (t + 4 * us (s.qp x.qpn).rto)).loseNeighbour n))) ∧
      (s.shareSince n x.qpn = none → exec (.neighbourReadTimeout n) s = .next s)) ∧
    (4 ≤ n → exec (.neighbourReadTimeout n) s = .fault (.noSuchUnit 0x81 n))

/-- R308, R325, R326, R328, R329: the commands of the tier manager from the management port and firmware: QUERY of a handle by
its number and check, DROP_ALL releases every handle, RECLAIM of no window is done at once, a write of TM_NEIGH sets the
selected neighbour, without the copies that it held (log entry 122); FE_CTL.EN = 0 switches an idle engine off and a busy one when its
operation ends. Completes: tmQuery, dropAll, reclaim, tmNeighWrite, feDisable. -/
def Obligations.TierCommands : Prop :=
  ∀ (s : State) (p : Path) (v : Nat) (w : W64) (e : Nat),
    (s.reaches 0x81 →
      (p.trusted = false → exec (.tmQuery p v) s = .next (s.answer p .privilege) ∧
        exec (.dropAll p) s = .next (s.answer p .privilege) ∧ exec (.reclaim p) s = .next (s.answer p .privilege) ∧
        exec (.tmNeighWrite p w) s = .next (s.answer p .privilege)) ∧
      (p.trusted = true →
        (∀ h, SMap.look s.tiers.handles (v % 65536) = some h → h.check ≠ v / 65536 % 65536 →
          exec (.tmQuery p v) s = .next ((s.setFld F.TM_RES_STATUS 0 Status.windowRevoked.code).answer p .ok)) ∧
        (∀ h, SMap.look s.tiers.handles (v % 65536) = some h → h.check = v / 65536 % 65536 →
          exec (.tmQuery p v) s = .next (((s.tmQuery v).2.setFld F.TM_RES_STATUS 0 0).answer p .ok) ∧
          (s.tmQuery v).2.fld F.TM_HSTAT_REFS = h.refs % 65536 ∧ (s.tmQuery v).2.tiers = s.tiers) ∧
        exec (.dropAll p) s = .next (((s.tiers.handles.foldl (fun (t : State) x => t.releaseHandle x.1) s).setFld
          F.TM_RES_STATUS 0 0).answer p .ok) ∧
        (s.serves .write = false →
          exec (.reclaim p) s = .next ((s.setFld F.TM_RES_STATUS 0 Status.privilege.code).answer p .ok)) ∧
        (s.serves .write = true → s.wins.revokes.any (fun (r : Revoke) => r.by_ == .lend && !r.cut) = false →
          (∀ idx, idx < 1048576 → s.descReadable idx = true → (s.descOf idx).state = 1 → (s.descOf idx).lend = false) →
          exec (.reclaim p) s = .next ((s.setFld F.TM_RES_STATUS 0 0).answer p .ok)) ∧
        (bitAt w.toNat 14 = true → s.flag F.TM_CFG_NEIGH_EN = false →
          exec (.tmNeighWrite p w) s = .next (s.answer p .privilege)) ∧
        (bitAt w.toNat 14 = false ∨ s.flag F.TM_CFG_NEIGH_EN = true →
          let i := s.fld F.TM_NEIGH_SEL_INDEX
          let qpn := bits w.toNat 16 20
          exec (.tmNeighWrite p w) s = .next (State.answer { s with tiers := { s.tiers with
            handles := s.tiers.handles.map (fun p => (p.1, { p.2 with neigh := p.2.neigh.filter (fun c => c.at_ != i) })),
            neigh := SMap.ins s.tiers.neigh i ⟨bits w.toNat 0 14, bitAt w.toNat 14,
              bitAt w.toNat 14 && (s.qp qpn).st == 2 && (s.qp qpn).kind == 2, qpn, bits w.toNat 36 7,
              match SMap.look s.tiers.neigh i with | some x => x.key | none => 0⟩ } } p .ok)))) ∧
    (s.reaches 0x80 → e < 64 → pathMay p 0x80 = true →
      (s.fld F.FE_STAT_STATE e ≠ 1 → exec (.feDisable p e) s = .next ((s.setFld F.FE_CTL_EN e 0).answer p .ok)) ∧
      (s.fld F.FE_STAT_STATE e = 1 → exec (.feDisable p e) s = .next (State.answer { s with tiers := { s.tiers with
        leaving := addNew s.tiers.leaving e } } p .ok)))

/-! ## Key Store -/

/-- R338, R340 to R342, R345, R355: the Key Store commands: LOAD of an envelope that passes its checks stages it, under BUSY while it
goes to the keepsake or the staged position is retiring, of another gives the failing code; SWAP makes the loaded version active, ALREADY_DONE with none loaded; ERASE zeroizes the slot; PURGE,
for the management port alone, deletes its envelopes too; QUERY and RELOAD. The status stands in KS_RES; a path without the
right is refused, and a slot beyond 65,535 is a fault. Completes: ksLoad, ksSwap, ksErase, ksQuery, ksReload, ksPurge.

R334, R342, R344, R443: key events: a timed swap takes effect at its instant and tells its link; the retiring copy goes once
its grace is over and nothing captured it; USES at 7/8 of LIMIT raises a fault once, a spent slot is told once, which for the
vault slot in P0 is a Critical fault of the Vault Engine. A load that
waited for the staged position is then made (R341). Completes: timedKswap, graceZeroize, keyNearLimit, slotSpent.

The fault of a unit that the part lacks is the model's choice (log entry 6).
That a command without its occasion changes nothing is the model's choice (log entry 1). -/
def Obligations.KeyStore : Prop :=
  (∀ (s : State) (p : Path) (n : Nat) (tagOk : Bool), n < 65536 → s.reaches 0x91 →
    let t := s.setFld F.KS_RES_SLOT 0 n
    let done (u : State) (st : Status) : Host.Outcome State Fault Refusal :=
      .next ((u.setFld F.KS_RES_STATUS 0 st.code).answer p .ok)
    let wait (u : State) : Host.Outcome State Fault Refusal :=
      done { u with keys := { u.keys with busy := some n } } .busy
    (p.trusted = true →
      (∀ e, t.loadCheck n t.ksEnv tagOk = .ok e →
        let u := t.envOpened
        ((∀ c, (u.slot e.slot).staged ≠ .retiring c) → u.keeps e = false → exec (.ksLoad p n tagOk) s = done (u.stage e) .ok) ∧
        ((∀ c, (u.slot e.slot).staged ≠ .retiring c) → u.keeps e = true → exec (.ksLoad p n tagOk) s = wait (u.stage e)) ∧
        (∀ c, (u.slot e.slot).staged = .retiring c → exec (.ksLoad p n tagOk) s =
          wait (u.setSlot e.slot { u.slot e.slot with parked := some (e, none) }))) ∧
      (∀ st, t.loadCheck n t.ksEnv tagOk = .error st →
        exec (.ksLoad p n tagOk) s = done (t.loadFailed n t.ksEnv tagOk st) st) ∧
      (∀ c, (t.slot n).staged = .loaded c → exec (.ksSwap p n) s =
        done (((t.setSlot n { t.slot n with
          active := some { c with uses := 0 }, near := false, told := false,
          staged := (match (t.slot n).active with | some a => .retiring a | none => .empty),
          graceEnd := (match (t.slot n).active with
            | some _ => some (t.mono + us (t.fld F.KS_CFG_GRACE)) | none => none) }).reserve n c.ver 0).kick.judgeHeld) .ok) ∧
      ((∀ c, (t.slot n).staged ≠ .loaded c) → exec (.ksSwap p n) s = done t.kick.judgeHeld .alreadyDone) ∧
      exec (.ksErase p n) s = done (t.eraseKeys n) .ok ∧
      exec (.ksQuery p n) s = done (s.ksQuery n).2 .ok ∧
      exec (.ksReload p) s = done (s.reloadAll.kick.judgeHeld) .ok) ∧
    exec (.ksPurge .mgmt n) s = .next ((((t.eraseKeys n).deleteEnvs n).setFld F.KS_RES_STATUS 0 0).answer .mgmt .ok) ∧
    (p ≠ .mgmt → exec (.ksPurge p n) s = .next (s.answer p .privilege)) ∧
    (p.trusted = false → exec (.ksLoad p n tagOk) s = .next (s.answer p .privilege) ∧
      exec (.ksErase p n) s = .next (s.answer p .privilege)) ∧
    exec (.ksErase p (n + 65536)) s = .fault (.noSuchUnit 0x91 (n + 65536))) ∧
  (∀ (s : State) (n : Nat),
    let k := s.slot n
    (∀ t q, k.swapAt = some (t, q) →
      let r := ((s.reach t).setSlot n { k with swapAt := none }).swap n
      exec (.timedKswap n) s = .next (r.2.kick.tellLinks (fun m w =>
        if q = some m ∧ w = WaitFor.kswap n then some (if r.1 then .ok else .alreadyDone) else none))) ∧
    (k.swapAt = none → exec (.timedKswap n) s = .next s) ∧
    (∀ c t, k.staged = .retiring c → s.captured n c.ver = false → n ≠ s.vaultSlot → k.graceEnd = some t →
      exec (.graceZeroize n) s =
        .next (((s.reachLocal t).setSlot n { k with staged := .empty, graceEnd := none }).unpark n)) ∧
    (∀ c, k.staged = .retiring c → s.captured n c.ver = false → n = s.vaultSlot → exec (.graceZeroize n) s =
      let t := s.setSlot n { k with staged := .empty, graceEnd := none }
      .next (State.unpark { t with keys := { t.keys with envs := SMap.del t.keys.envs (2 * n + 1) } } n)) ∧
    (∀ c, k.staged = .retiring c → s.captured n c.ver = true → exec (.graceZeroize n) s = .next s) ∧
    (∀ c, k.active = some c → 7 * c.limit ≤ 8 * c.uses → k.near = false → exec (.keyNearLimit n) s =
      let t := s.setSlot n { k with near := true }
      .next (t.raise 0x91 0 (if n = s.vaultSlot then 2 else 0) 0x01 n c.ver)) ∧
    (∀ c, k.active = some c → 8 * c.uses < 7 * c.limit → exec (.keyNearLimit n) s = .next s) ∧
    (k.spent = true → k.told = false →
      let t := s.setSlot n { k with told := true }
      (n ≠ s.vaultSlot → exec (.slotSpent n) s = .next t) ∧
      (n = s.vaultSlot → s.pow.state = .p0 → exec (.slotSpent n) s = .next (t.raise 0x60 0 3 0x09))) ∧
    (k.spent = false → exec (.slotSpent n) s = .next s))

/-! ## Keepsake, event recorder, faults -/

/-- R378 to R380, R384: the command path to the keepsake. KEEP and SAKE unlock it for their owner, KF_ADDR starts ERASE, VERIFY,
SELECT and CONFIRM and the last data register a PROGRAM, each step within 100 us of the one before; a wrong key, a wrong path
or a late step does not start an operation. Completes: kfUnlock, kfErase,
kfVerify, kfSelect, kfConfirm, kfProgram, kfSequenceTimeout.

That a command without its occasion changes nothing is the model's choice (log entry 1). -/
def Obligations.KeepsakeCommands : Prop :=
  ∀ (s : State) (p : Path) (x : KfSeq) (a : Nat) (v : W64),
    (s.reaches 0x04 →
      (p.trusted = true → s.pow.warn = false → s.kf.sequence = none → exec (.kfUnlock p 0x4B454550) s =
        .next (State.answer { s with kf := { s.kf with sequence := some ⟨1, p, s.mono, 0, 0, []⟩ } } p .ok)) ∧
      (s.kf.sequence = none → a ≠ 0x4B454550 → exec (.kfUnlock p a) s = .next (s.answer p .privilege)) ∧
      (p.trusted = true → s.kf.sequence = some x → x.owner ≠ p → exec (.kfUnlock p a) s = .next (s.answer p .privilege)) ∧
      (p.trusted = true → s.kf.sequence = some x → x.owner = p → s.mono ≤ x.last + us 100 →
        let free := { s with kf := { s.kf with sequence := none } }
        let started (b : Nat) : State := (State.setFld { s with kf := { s.kf with
          sequence := none, active := some b, verified := s.kf.verified.filter (fun i => i != imageSlot b) } }
            F.KF_RES_STATUS 0 Status.busy.code).setFld F.KF_RES_BLOCK 0 b
        let busy := (State.setFld { s with kf := { s.kf with sequence := none, active := some 1027 } } F.KF_RES_STATUS 0
          Status.busy.code).setFld F.KF_RES_BLOCK 0 1027
        (x.stage = 1 → exec (.kfUnlock p 0x53414B45) s = .next (State.answer { s with kf := { s.kf with
          sequence := some { x with stage := 2, last := s.mono } } } p .ok)) ∧
        (x.stage = 1 → a ≠ 0x53414B45 → exec (.kfUnlock p a) s =
          .next ((State.setFld free F.KF_RES_STATUS 0 Status.privilege.code).answer p .ok)) ∧
        (x.stage = 3 → x.op = 2 → a % 65536 = 0 → commandBlock (a / 65536) = true → exec (.kfErase p a) s =
          .next ((((started (a / 65536)).requestErase (a / 65536) .command).kick).answer p .ok)) ∧
        (x.stage = 3 → x.op = 2 → a % 65536 ≠ 0 → exec (.kfErase p a) s =
          .next ((State.setFld free F.KF_RES_STATUS 0 Status.privilege.code).answer p .ok)) ∧
        (x.stage = 3 → x.op = 3 → a < 4 →
          exec (.kfVerify p a true) s = .next ((State.setFld { s with kf := { s.kf with
            sequence := none, verified := addNew s.kf.verified a } } F.KF_RES_STATUS 0 0).answer p .ok) ∧
          exec (.kfVerify p a false) s = .next ((State.setFld { s with kf := { s.kf with
            sequence := none, verified := s.kf.verified.filter (fun i => i != a) } } F.KF_RES_STATUS 0
              Status.privilege.code).answer p .ok)) ∧
        (x.stage = 3 → x.op = 4 → a < 2 → s.kf.verified.contains a = true → exec (.kfSelect p a) s =
          .next ((busy.appendSelector a 1 (s.fld F.KF_SEL_CFG)).answer p .ok)) ∧
        (x.stage = 3 → x.op = 4 → 2 ≤ a → a < 4 → s.kf.verified.contains a = true → exec (.kfSelect p a) s =
          .next ((busy.appendSelector (s.fld F.KF_SEL_FW) (s.fld F.KF_SEL_TRY) (a - 2)).answer p .ok)) ∧
        (x.stage = 3 → x.op = 4 → a < 4 → s.kf.verified.contains a = false → exec (.kfSelect p a) s =
          .next ((State.setFld free F.KF_RES_STATUS 0 Status.privilege.code).answer p .ok)) ∧
        (x.stage = 3 → x.op = 5 → exec (.kfConfirm p a) s =
          .next ((busy.appendSelector (s.fld F.KF_SEL_FW) 0 (s.fld F.KF_SEL_CFG)).answer p .ok)) ∧
        (x.stage = 4 → s.kf.torn.contains (x.addr / 65536) = false → exec (.kfProgram p v) s =
          .next (((((started (x.addr / 65536)).flashWait (.program x.addr ((List.range 32).flatMap (fun j =>
            leBytes 8 (SMap.get (2 ^ 64 - 1) (SMap.ins x.data 31 v.toNat) j))) .command)).kick)).answer p .ok)))) ∧
    (s.kf.sequence = some x →
      let t := s.reachLocal (x.last + us 100 + 1)
      exec .kfSequenceTimeout s = .next (State.setFld { t with kf := { t.kf with sequence := none } } F.KF_RES_STATUS 0
        Status.privilege.code)) ∧
    (s.kf.sequence = none → exec .kfSequenceTimeout s = .next s)

/-- R366, R373, R377, R380, R382, R384, R388, R443: the ends of flash operations: a program puts its bytes into the array and its asker
goes on, a journal entry is taken into the journal, an erase leaves every byte of its block 0xFF and asks for its marker; a
reservation of USES lets the QPs of its slot send; the first copy of a key envelope is kept, and its second follows. A bank beyond the
four is a fault. Completes: flashProgramDone, flashEraseDone, usesReservationProgrammed.

The fault of a unit that the part lacks is the model's choice (log entry 6).
That a command without its occasion changes nothing is the model's choice (log entry 1). -/
def Obligations.FlashEnds : Prop :=
  ∀ (s : State) (b : Nat),
    (b < 4 →
      let idle := { s with kf := { s.kf with banks := SMap.del s.kf.banks b } }
      (∀ a d, SMap.look s.kf.banks b = some (.program a d .command) → s.kf.active = some (a / 65536) →
        exec (.flashProgramDone b) s =
          .next ((State.setFld { idle with kf := { idle.kf with
            flash := programBytes s.kf.flash a d, active := none } } F.KF_RES_STATUS 0 0).kick.serve)) ∧
      (∀ a d r rest, SMap.look s.kf.banks b = some (.program a d .recorder) → s.ev.queue = r :: rest →
        exec (.flashProgramDone b) s = .next ((State.kick { idle with
          kf := { idle.kf with flash := programBytes s.kf.flash a d },
          ev := { s.ev with queue := rest, done := r.sq } }).serve)) ∧
      (∀ n, SMap.look s.kf.banks b = some (.journal (.term n)) → exec (.flashProgramDone b) s =
        .next (((State.journalSpace { idle with kf := { idle.kf with
          journal := { s.kf.journal with
            sq := s.kf.journal.sq + 1, term := n,
            used0 := if b - 2 = 0 then s.kf.journal.used0 + 1 else s.kf.journal.used0,
            used1 := if b - 2 = 0 then s.kf.journal.used1 else s.kf.journal.used1 + 1 } } } (b - 2)).kick).serve)) ∧
      (∀ e, SMap.look s.kf.banks b = some (.envelope e 0) → exec (.flashProgramDone b) s =
        .next (((idle.keepEnv e).flashWait (.envelope e 1)).kick.serve)) ∧
      (∀ k ready src, SMap.look s.kf.banks b = some (.erase k ready src) → k ∉ [4, 1028, 2567, 3607] → s.kf.active ≠ some k →
        exec (.flashEraseDone b) s = .next ((State.journalize { idle with kf := { idle.kf with
          flash := eraseBytes s.kf.flash k } } (.marker k)).kick)) ∧
      (SMap.look s.kf.banks b = none → exec (.flashProgramDone b) s = .next s ∧ exec (.flashEraseDone b) s = .next s)) ∧
    (4 ≤ b → exec (.flashProgramDone b) s = .fault (.noSuchUnit 0x04 b)) ∧
    (∀ slot ver n, SMap.look s.kf.banks 2 = some (.journal (.uses slot ver n)) →
      let t := ((State.journalSpace { s with kf := { s.kf with
        banks := SMap.del s.kf.banks 2,
        journal := { s.kf.journal with
          sq := s.kf.journal.sq + 1, used0 := s.kf.journal.used0 + 1,
          uses := SMap.put 0 s.kf.journal.uses (slot * 2 ^ 32 + ver) n } } } 0).kick).serve
      exec (.usesReservationProgrammed slot) s = .next ((t.tr.qps.map (fun p => p.1)).foldl
        (fun (t : State) m => if (t.qp m).keySlot = slot then t.pump m else t) t))

/-- R22, R399 to R401, Table 0.8: a raise of a native class in a unit sets the bit of its class, or of the class above while its
own is unacknowledged; CLASS and CODE rise to it, RAISED counts it, the quiet period starts again, a Fatal fault fails
self-diagnosis, and the interrupt goes out when its class reaches IE_CLASS. Nothing outside the fault state, the event
recorder and the keepsake changes. Completes: faultRaise. -/
def Obligations.FaultRaised : Prop :=
  ∀ (s : State) (k : Raise), s.canonical = true → k.u < unitCount k.cls → k.cls ≠ 1 → k.native ≤ 4 →
    let f (x : State) (g : Fld) : Nat := x.fldOf k.cls g k.u
    let rc := if (f s F.BLK_FSTAT_UNACK).testBit k.native = true ∧ k.native < 4 then k.native + 1 else k.native
    let up : Prop := f s F.BLK_FSTAT_CLASS = 7 ∨ f s F.BLK_FSTAT_CLASS < rc
    ∃ t, exec (.faultRaise k) s = .next t ∧
      f t F.BLK_FSTAT_UNACK = (f s F.BLK_FSTAT_UNACK ||| 2 ^ rc) % 32 ∧
      f t F.BLK_FSTAT_CLASS = (if up then rc else f s F.BLK_FSTAT_CLASS) ∧
      f t F.BLK_FSTAT_CODE = (if up then k.code % 256 else f s F.BLK_FSTAT_CODE) ∧
      f t F.BLK_FSTAT_RAISED = (f s F.BLK_FSTAT_RAISED + 1) % 65536 ∧
      SMap.look t.quiet (unitKey k.cls k.u) = some (s.mono + f s F.BLK_FCTL_QUIET * 2 ^ 40) ∧
      t.diagFail = (s.diagFail || decide (rc = 4)) ∧
      t.out = s.out ++ (if f s F.BLK_FCTL_IE_CLASS ≤ rc then [.irq k.cls k.u rc] else []) ∧
      (t.pipe, t.wins, t.tr, t.twin, t.vault, t.keys, t.kex, t.mer, t.fab) =
        (s.pipe, s.wins, s.tr, s.twin, s.vault, s.keys, s.kex, s.mer, s.fab)

/-- R387, R389, R399 to R401: an event that is no fault is only recorded; an acknowledgement, from the management port and
firmware, clears every UNACK bit of the unit and leaves CLASS; at the end of the quiet period a fault that is not Fatal is over; the open
event record closes 60 s after it opened; each path moves its own cursor. Completes: faultRaise, faultAck, quietPeriodEnd,
eventRecordTimeout, evCursorWrite.

The fault of a unit that the part lacks is the model's choice (log entry 6).
That a command without its occasion changes nothing is the model's choice (log entry 1). -/
def Obligations.FaultsEndAndRecords : Prop :=
  ∀ (s : State) (p : Path) (cls n sq : Nat) (k : Raise),
    (k.u < unitCount k.cls → k.cls ≠ 1 → 5 ≤ k.native →
      exec (.faultRaise k) s = .next (s.event k.cls k.u k.code 7 k.ident k.detail)) ∧
    (unitCount k.cls ≤ k.u ∨ k.cls = 1 → exec (.faultRaise k) s = .fault (.noSuchUnit k.cls k.u)) ∧
    (s.reaches cls → cls ≠ 1 → n < unitCount cls → p.trusted = true →
      exec (.faultAck p cls n) s = .next ((s.setFldOf cls F.BLK_FSTAT_UNACK n 0).answer p .ok)) ∧
    (s.reaches cls → cls ≠ 1 → n < unitCount cls → p.trusted = false → exec (.faultAck p cls n) s = .next (s.answer p .privilege)) ∧
    (∀ t, s.canonical = true → cls ≠ 1 → n < unitCount cls → SMap.look s.quiet (unitKey cls n) = some t → s.fldOf cls F.BLK_FSTAT_CLASS n < 4 →
      s.fldOf cls F.BLK_FSTAT_UNACK n < 32 →
      ∃ u, exec (.quietPeriodEnd cls n) s = .next u ∧ u.fldOf cls F.BLK_FSTAT_CLASS n = 7 ∧
        u.fldOf cls F.BLK_FSTAT_ESCALATED n = 0 ∧
        u.fldOf cls F.BLK_FSTAT_UNACK n = s.fldOf cls F.BLK_FSTAT_UNACK n / 16 * 16 ∧
        u.fldOf cls F.BLK_FSTAT_RECOVERIES n = (s.fldOf cls F.BLK_FSTAT_RECOVERIES n + 1) % 65536 ∧
        u.quiet = SMap.del s.quiet (unitKey cls n) ∧ s.mono ≤ u.mono ∧ t ≤ u.mono ∧ u.out = s.out ∧ u.pipe = s.pipe) ∧
    (∀ r t, s.ev.newest = some (r, t) → exec .eventRecordTimeout s =
      let u := s.reachLocal (t + 60 * 2 ^ 40)
      .next (State.kick { u with ev := ({ s.ev with newest := none } : Recorder).enqueue r })) ∧
    (s.ev.newest = none → exec .eventRecordTimeout s = .next s) ∧
    (s.reaches 0x05 →
      exec (.evCursorWrite .mgmt sq) s =
        .next (State.answer { s with ev := { s.ev with curM := sq % 2 ^ 48 } } .mgmt .ok) ∧
      exec (.evCursorWrite .firmware sq) s =
        .next (State.answer { s with ev := { s.ev with curFw := sq % 2 ^ 48 } } .firmware .ok) ∧
      (∀ plane, exec (.evCursorWrite (.fabric plane) sq) s =
        .next (State.answer { s with ev := { s.ev with curF := sq % 2 ^ 48 } } (.fabric plane) .ok)) ∧
      exec (.evCursorWrite .chain sq) s = .next (s.answer .chain .privilege))

/-- R394 to R398, R406: the Loupe's commands from the management port and firmware: a snapshot at once, at a later instant, or
at the instant it was armed for; a freeze and a thaw likewise, a snapshot of the same instant being taken first; a clear of a
bank; the event of a counter, which becomes zero. A later arm replaces the one before with ABORTED. Other paths are refused.
Completes: lpSnapArm, lpSnapNow, lpFreezeArm, lpFreezeNow, lpThaw, lpClear, lpEvselWrite, snapshotInstant, freezeInstant.

The fault of a unit that the part lacks is the model's choice (log entry 6).
That a command without its occasion changes nothing is the model's choice (log entry 1). -/
def Obligations.LoupeCommands : Prop :=
  ∀ (s : State) (p : Path) (n v t : Nat),
    (s.reaches 0x06 →
      (p.trusted = false → exec (.lpSnapArm p) s = .next (s.answer p .privilege) ∧
        exec (.lpSnapNow p) s = .next (s.answer p .privilege) ∧ exec (.lpFreezeArm p) s = .next (s.answer p .privilege) ∧
        exec (.lpFreezeNow p) s = .next (s.answer p .privilege) ∧ exec (.lpThaw p) s = .next (s.answer p .privilege) ∧
        exec (.lpClear p n) s = .next (s.answer p .privilege)) ∧
      (p.trusted = true →
        let at_ (a b : Fld) : Nat := s.fld a * 2 ^ 40 + s.fld b
        let l := s.loupe
        let set (x : Loupe) : Host.Outcome State Fault Refusal := .next (State.answer { s with loupe := x } p .ok)
        (s.time < at_ F.LP_SNAP_S_SECONDS F.LP_SNAP_F_FRACTION → l.armed = none → exec (.lpSnapArm p) s =
          set { l with armed := some (at_ F.LP_SNAP_S_SECONDS F.LP_SNAP_F_FRACTION), status := .busy, snapWait := [] }) ∧
        (s.time < at_ F.LP_SNAP_S_SECONDS F.LP_SNAP_F_FRACTION → l.armed = some t → exec (.lpSnapArm p) s =
          let u := s.tellSnap .aborted
          .next (State.answer { u with loupe := { u.loupe with
            armed := some (at_ F.LP_SNAP_S_SECONDS F.LP_SNAP_F_FRACTION), status := .busy, snapWait := [] } } p .ok)) ∧
        (∃ u, exec (.lpSnapNow p) s = .next u ∧ u.loupe.snapAt = s.time ∧ u.loupe.ctr = l.ctr ∧ u.regs = s.regs ∧
          u.out = s.out ++ [.answer p .ok 0]) ∧
        (s.time < at_ F.LP_FRZ_S_SECONDS F.LP_FRZ_F_FRACTION → exec (.lpFreezeArm p) s =
          set { l with freezeArmed := some (at_ F.LP_FRZ_S_SECONDS F.LP_FRZ_F_FRACTION) }) ∧
        (at_ F.LP_FRZ_S_SECONDS F.LP_FRZ_F_FRACTION ≤ s.time → exec (.lpFreezeArm p) s =
          set { l with frozen := true, freezeArmed := none }) ∧
        exec (.lpFreezeNow p) s = set { l with frozen := true, freezeArmed := none } ∧
        exec (.lpThaw p) s = set { l with frozen := false, freezeArmed := none } ∧
        (∃ x, exec (.lpClear p n) s = set { l with ctr := x } ∧
          (∀ i b, bankOfCounter i = some (b, n) → SMap.get 0 x i = 0) ∧
          (∀ i b m, bankOfCounter i = some (b, m) → m ≠ n → SMap.get 0 x i = SMap.get 0 l.ctr i)) ∧
        (∀ b m, SMap.risesFrom 0 l.sel = true → v < 128 → bankOfCounter n = some (b, m) → v % 64 < b.events → n < 1024 →
          ∃ u, exec (.lpEvselWrite p n v) s = .next u ∧ u.loupe.evsel n = v ∧ u.loupe.ctr = SMap.put 0 l.ctr n 0)) ∧
      (1024 ≤ n → exec (.lpEvselWrite p n v) s = .fault (.noSuchUnit 0x06 n))) ∧
    (s.loupe.armed = some t → (∀ f, s.loupe.freezeArmed = some f → t ≤ f) →
      let u := s.reach t
      exec .snapshotInstant s =
        .next ((State.takeSnap { u with loupe := { u.loupe with armed := none } }).tellSnap .ok)) ∧
    (∀ f, s.loupe.armed = some t → s.loupe.freezeArmed = some f → f < t →
      let u := s.reach f
      exec .snapshotInstant s =
        .next ((State.reach { u with loupe := { u.loupe with frozen := true, freezeArmed := none } } t).fireSnap)) ∧
    (s.loupe.armed = none → exec .snapshotInstant s = .next s) ∧
    (s.loupe.freezeArmed = some t → (∀ a, s.loupe.armed = some a → t < a) →
      let u := s.reach t
      exec .freezeInstant s = .next { u with loupe := { u.loupe with frozen := true, freezeArmed := none } }) ∧
    (∀ a, s.loupe.freezeArmed = some t → s.loupe.armed = some a → a ≤ t →
      let u := ((s.reach a).fireSnap).reach t
      exec .freezeInstant s = .next { u with loupe := { u.loupe with frozen := true, freezeArmed := none } })

/-! ## Fabric ports and frames -/

/-- R98 to R105, R112, R301: enabling a dark port that nothing holds dark starts its bring-up, disabling one that is up takes
it down with cause 6; a bring-up that ends makes the port UP and holds back a plane that comes up with it, one that fails waits
1 s dark with a Notice; a port that goes down leaves its plane; at a calibration boundary the quad takes its step and the lanes
that are lit get their figures; a chord hold of MAX_HOLD intervals ends with a Minor fault. A bring-up finishes only within 5 s of its
start, on lanes that reach FAIL. Completes: portEnable, portDisable, portUp, portBringupTimeout, portRetryWaitEnd, portDown,
calBoundary, chordHoldLimit.

R106, R107, Table 4.6: a frame on a port that is up is counted; one that breaks a rule of the table is discarded and counted for
its cause, as is one that Table 4.6 has no use for; an ARP request and a neighbour solicitation for the plane's own address (IPv4: where it has one) are answered, another is
discarded, an echo request to the plane is answered up to 1,000 times in a second of local time. On another port nothing is heard.
Completes: arpRequest, neighbourSolicitation, echoRequest, frameDiscard.

The fault of a unit that the part lacks is the model's choice (log entry 6).
That a command without its occasion changes nothing is the model's choice (log entry 1). -/
def Obligations.PortsAndFrames : Prop :=
  (∀ (s : State) (p : Path) (u cause quad : Nat) (k : Cal),
    (u < 64 →
      let state := s.fld F.PORT_STAT_STATE u
      (s.reaches 0x11 →
        (pathMay p 0x11 = true → state = 0 → exec (.portEnable p u) s =
          .next (((s.setFld F.PORT_CFG_EN u 1).bringUp u).answer p .ok)) ∧
        (pathMay p 0x11 = true → state ≠ 0 → exec (.portEnable p u) s =
          .next ((s.setFld F.PORT_CFG_EN u 1).answer p .ok)) ∧
        (pathMay p 0x11 = true → s.isPort u = true → state = 2 → exec (.portDisable p u) s =
          .next (((((s.setFld F.PORT_CFG_EN u 0).portGone u 6).judgeDiag).serve).answer p .ok)) ∧
        (pathMay p 0x11 = true → s.isPort u = true → state ≠ 2 → exec (.portDisable p u) s =
          .next (((((s.setFld F.PORT_CFG_EN u 0).portDark u).setFld F.PORT_STAT_LAST_CAUSE u 6)).answer p .ok)) ∧
        (pathMay p 0x11 = true → s.isPort u = false → exec (.portDisable p u) s =
          .next ((s.setFld F.PORT_CFG_EN u 0).answer p .ok)) ∧
        (pathMay p 0x11 = false → exec (.portEnable p u) s = .next (s.answer p .privilege))) ∧
      (s.mayComeUp u = true →
        let lanes := s.portLanes u
        let t := lanes.foldl (fun (t : State) n => ((t.setFld F.LANE_STAT_STATE n 2).setFld F.LANE_STAT_SIGNAL n 1).setFld
          F.LANE_STAT_LOCK n 1) s
        let test := lanes.any (fun n => t.fld F.LANE_CTL_PRBS n != 0)
        let t := ((t.setFld F.PORT_STAT_STATE u 2).setFld F.PORT_STAT_IN_SET u (if test then 0 else 1)).setFld
          F.PORT_STAT_UP_SINCE u t.secs
        exec (.portUp u) s = .next (State.judgeDiag { t with fab := { t.fab with
          bothDown := none,
          hold := if s.planeUp (u / 32) then t.fab.hold else SMap.ins t.fab.hold (u / 32) t.mono,
          low := lanes.foldl SMap.del t.fab.low, good := lanes.foldl SMap.del t.fab.good,
          fail := lanes.foldl SMap.del t.fab.fail } }).serve) ∧
      (s.mayComeUp u = false → exec (.portUp u) s = .next s) ∧
      (state = 1 → s.bringUpCause u cause = true → exec (.portBringupTimeout u cause) s =
        let t := s.reachLocal (s.attemptEnd u (5 * 2 ^ 40))
        .next (((((t.portDark u).setFld F.PORT_STAT_STATE u 3).setFld F.PORT_STAT_LAST_CAUSE u cause).sinceNow u).raise
          0x11 u 0 0x01 cause)) ∧
      (state ≠ 1 ∨ s.bringUpCause u cause = false → exec (.portBringupTimeout u cause) s = .next s) ∧
      (state = 3 → exec (.portRetryWaitEnd u) s =
        .next (((s.reachLocal (s.attemptEnd u (2 ^ 40))).setFld F.PORT_STAT_STATE u 0).bringUp u)) ∧
      (state = 2 → cause = 1 ∨ cause = 4 ∨ cause = 5 →
        exec (.portDown u cause) s = .next ((s.portGone u cause).judgeDiag.serve)) ∧
      (state ≠ 2 → exec (.portDown u cause) s = .next s)) ∧
    (64 ≤ u → exec (.portUp u) s = .fault (.noSuchUnit 0x11 u)) ∧
    (quad < 16 →
      let n := s.calPeriod quad
      let t := s.reach ((s.time / n + 1) * n)
      let b := t.time / n % 2 ^ 40
      let pass := decide (k.carry ≤ k.recv + t.fld F.LCAL_SHADOW_MATCH (4 * quad)) &&
        decide (k.disagree ≤ t.fld F.LCAL_SHADOW_DISAGREE (4 * quad))
      let lanes := [4 * quad, 4 * quad + 1, 4 * quad + 2, 4 * quad + 3]
      exec (.calBoundary quad k) s = .next ((((lanes.zip k.qual).foldl (fun (t : State) x => t.refreshQual x.1 b x.2)
        (t.calStep quad pass)).dropFailed lanes).judgeDiag.serve)) ∧
    (quad < 16 →
      let c := s.chord quad
      (c.active = true → c.recal = false → s.maxHold quad ≤ c.held →
        exec (.chordHoldLimit quad) s =
          .next ((s.setChord quad { c with recal := true }).raise 0x10 (4 * quad + c.lane) 1 0x02 0 c.held)) ∧
      (c.held < s.maxHold quad → exec (.chordHoldLimit quad) s = .next s))) ∧
  (∀ (s : State) (f : Frame) (ip hi lo ident kind : Nat) (bs : List Byte), f.port < 64 →
    let p := f.port / 32
    let arp : Frame := { f with etype := 0x0806 }
    let ns : Frame := { f with etype := 0x86DD, proto := 58 }
    let echo : Frame := if f.etype = 0x86DD then { f with etype := 0x86DD, proto := 58 } else { f with etype := 0x0800, proto := 1 }
    (s.hearsFrame f = true →
      (let t := s.countFrame arp
       let a := t.fld F.PLANE_IP4_ADDR (32 * p)
       let g := t.frameFor f.port 0x0806 28
       (t.frameCause arp = none → ip = a → a ≠ 0 → exec (.arpRequest f ip) s = .next (t.sends g (.arp g a))) ∧
       (t.frameCause arp = none → ip ≠ a ∨ a = 0 → exec (.arpRequest f ip) s = .next (t.frameGone f.port 13)) ∧
       (∀ e, t.frameCause arp = some e → exec (.arpRequest f ip) s = .next (t.frameGone f.port e))) ∧
      (let t := s.countFrame ns
       let a := t.fld F.PLANE_IP6_HI (32 * p)
       let b := t.fld F.PLANE_IP6_LO (32 * p)
       let g := t.ipFrame f.port false f.src (t.fld F.PORT_DSCP_HOST f.port) 58 32
       (t.frameCause ns = none → hi = a → lo = b →
         exec (.neighbourSolicitation f hi lo) s = .next (t.sends g (.neighbour g hi lo))) ∧
       (t.frameCause ns = none → hi ≠ a ∨ lo ≠ b →
         exec (.neighbourSolicitation f hi lo) s = .next (t.frameGone f.port 13))) ∧
      (let t := s.countFrame echo
       t.frameCause echo = none → (f.etype = 0x86DD → f.dst = t.planeIp6 f.port) →
       let e := SMap.get (0, 0) t.fab.echo p
       let n := if e.1 = t.mono / 2 ^ 40 then e.2 else 0
       (n < 1000 → exec (.echoRequest f ident bs) s =
         let g := t.ipFrame f.port (echo.etype == 0x0800) f.src (t.fld F.PORT_DSCP_HOST f.port) echo.proto (8 + bs.length)
         .next (State.sends { t with fab := { t.fab with echo := SMap.put (0, 0) t.fab.echo p (t.mono / 2 ^ 40, n + 1) } }
           g (.echo g ident bs))) ∧
       (1000 ≤ n → exec (.echoRequest f ident bs) s = .next (t.count 0x11 f.port 7))) ∧
      (let t := s.countFrame f
       (f.fcsOk = false → exec (.frameDiscard f kind) s = .next (t.count 0x11 f.port 3)) ∧
       (f.fcsOk = true → f.size < 64 ∨ t.fld F.PORT_CFG_MTU f.port < f.size →
         exec (.frameDiscard f kind) s = .next (t.count 0x11 f.port 2)) ∧
       (f.fcsOk = true → 64 ≤ f.size → f.size ≤ t.fld F.PORT_CFG_MTU f.port → f.etype = 0x8808 →
         exec (.frameDiscard f kind) s = .next ((t.count 0x11 f.port 2).count 0x11 f.port 12)) ∧
       (∀ e, t.frameCause f = some e → exec (.frameDiscard f kind) s = .next (t.frameGone f.port e)) ∧
       (t.frameCause f = none → frameHasUse f kind = false → exec (.frameDiscard f kind) s = .next (t.frameGone f.port 13)) ∧
       (t.frameCause f = none → frameHasUse f kind = true → exec (.frameDiscard f kind) s = .next t))) ∧
    (s.hearsFrame f = false → exec (.arpRequest f ip) s = .next s ∧
      exec (.neighbourSolicitation f hi lo) s = .next s ∧ exec (.echoRequest f ident bs) s = .next s ∧
      exec (.frameDiscard f kind) s = .next s))

/-! ## Lifecycle and alarms -/

/-- R39, R347 to R349, R351 to R353: an alarm zeroizes every slot, closes the expert registers, lowers the debug level to D0,
latches its bit with a Critical fault and holds the controller; a bit clears only once its condition has gone. LC_CMD is the
management port's alone and clears LC_BUF: PROVISION in BLANK, DEPLOY in PROVISIONED after a signed image, RETURN, SCRAP and
SVN_BUMP on a token, DEBUG to a lower level at any time; a scrapped controller serves no more (Table 0.6); a halt is taken at D2 and
above. Completes: securityAlarm, alarmAutoReload, lcAlarmClear, lcProvision, lcDeploy, lcReturn, lcScrap, lcSvnBump, lcDebug,
debugHalt.

The fault of a unit that the part lacks is the model's choice (log entry 6).
That a command without its occasion changes nothing is the model's choice (log entry 1). -/
def Obligations.Lifecycle : Prop :=
  ∀ (s : State) (p : Path) (n level : Nat) (ok : Bool),
    let ends_ (st : Status) (u : State) : Host.Outcome State Fault Refusal :=
      .next ((State.setFld { u with life := { u.life with buf := [] } } F.LC_RES_STATUS 0 st.code).answer .mgmt .ok)
    (n < 5 →
      let t := s.eraseAll.closeExperts.setLevel 0
      let u := { t with life := { t.life with
        latched := t.life.latched ||| 2 ^ n, present := t.life.present ||| 2 ^ n, held := true } }
      let v := (State.raise u 0x08 0 3 (n + 1) n).judgeDiag
      exec (.securityAlarm n) s = .next (if v.pow.state = .p0 ∧ v.pow.warn = false ∧ v.pow.sq ≠ .down ∧
        v.pow.plan ≠ .standby then v.standbyPath else v.wakeBack)) ∧
    (5 ≤ n → exec (.securityAlarm n) s = .fault (.noSuchUnit 0x08 n)) ∧
    (s.life.held = true → exec .alarmAutoReload s =
      let u := State.advance { s with life := { s.life with present := 0 } } (2 ^ 40)
      .next (((u.reloadSlot 0).reloadSlot u.vaultSlot).kick.judgeHeld.serve)) ∧
    (s.life.held = false → exec .alarmAutoReload s = .next s) ∧
    (s.reaches 0x08 →
      (pathMay p 0x08 = true → s.life.present % 32 = 31 → s.life.held = false →
        exec (.lcAlarmClear p n) s = .next (s.answer p .ok)) ∧
      (pathMay p 0x08 = true → s.life.present = 0 → s.life.held = false → n < 32 → exec (.lcAlarmClear p n) s =
        .next (State.answer { s with life := { s.life with latched := s.life.latched - (s.life.latched &&& n) } } p .ok)) ∧
      (p ≠ .mgmt → exec (.lcProvision p) s = .next (s.answer p .privilege) ∧
        exec (.lcDeploy p) s = .next (s.answer p .privilege) ∧ exec (.lcReturn p ok) s = .next (s.answer p .privilege) ∧
        exec (.lcScrap p ok) s = .next (s.answer p .privilege) ∧ exec (.lcSvnBump p ok) s = .next (s.answer p .privilege)) ∧
      (s.life.state = .blank → s.life.level < 2 → railsOk s.lcRails = true →
        let svn := leNat (s.lcBytes 256 8)
        let t : State := { s with life := { s.life with
          ecdsa := s.lcBytes 32 48, mldsa := s.lcBytes 80 48, rails := s.lcRails, svnFw := bits svn 0 6,
          svnCfg := bits svn 8 6, owk := true } }
        exec (.lcProvision .mgmt) s = ends_ .ok (((t.flashWait (.identity 0)).kick).enterLife 1 .provisioned)) ∧
      (s.life.state ≠ .blank → exec (.lcProvision .mgmt) s = ends_ .privilege s) ∧
      (s.life.state = .provisioned → s.life.signedImage = true → s.life.level < 2 →
        exec (.lcDeploy .mgmt) s = ends_ .ok (s.enterLife 2 .deployed)) ∧
      (s.life.state ≠ .provisioned → exec (.lcDeploy .mgmt) s = ends_ .privilege s) ∧
      (s.life.state = .provisioned ∨ s.life.state = .deployed → s.life.level < 2 →
        (s.tokenOk 3 true = true →
          let t := s.tokenUsed.eraseAll
          let u : State := { t with life := { t.life with owk := false }, keys := { t.keys with envs := [] } }
          exec (.lcReturn .mgmt true) s = ends_ .ok
            ((((u.unsave (fun _ => true)).flashWait (.identity 0)).kick).enterLife 3 .returned)) ∧
        (s.tokenOk 4 true = true →
          let t := s.tokenUsed.eraseAll
          exec (.lcScrap .mgmt true) s =
            ends_ .ok ((State.enterLife { t with life := { t.life with keyBlown := true } } 4 .scrapped).stopService)) ∧
        (s.tokenOk 5 true = true → leNat (s.lcBytes 5 1) = 1 ∨ leNat (s.lcBytes 5 1) = 2 →
          ∃ u, exec (.lcSvnBump .mgmt true) s = .next u ∧ u.life.state = s.life.state ∧
            u.life.svnFw = (if leNat (s.lcBytes 5 1) = 1 then min 63 (s.life.svnFw + 1) else s.life.svnFw) ∧
            u.life.svnCfg = (if leNat (s.lcBytes 5 1) = 2 then min 63 (s.life.svnCfg + 1) else s.life.svnCfg) ∧
            u.life.buf = [] ∧ u.pipe = s.pipe ∧ u.keys = s.keys)) ∧
      (level < s.life.level → s.life.level ≤ 3 → exec (.lcDebug .mgmt level ok) s = ends_ .ok (s.setLevel level)) ∧
      (∀ c, s.life.level = 0 → debugCeiling s.life.state s.pow.state = some c → 1 ≤ c →
        exec (.lcDebug .mgmt 1 ok) s = ends_ .ok (s.setLevel 1)) ∧
      (4 ≤ level → exec (.lcDebug .mgmt level ok) s = .fault (.noSuchUnit 0x08 level))) ∧
    (2 ≤ s.life.level → n < 32 → exec (.debugHalt n) s =
      .next (State.judgeDiag { s with life := { s.life with halted := addNew s.life.halted n } })) ∧
    (2 ≤ s.life.level → exec (.debugHalt 32) s = .next (State.judgeDiag { s with core := { s.core with halted := true } })) ∧
    (s.life.level < 2 → n < 33 → exec (.debugHalt n) s = .next s)

/-! ## Power Supervisor -/

/-- R356 to R361, R364, R365, R369, R372: rails. In a power-up the head rail that is stable gives way to the next one, and the
last one to P0 at the checkpoint or the end of a wake; one that does not rise in time writes KIND 6 and powers down, with a
Fatal fault the second time; in a power-down a rail that has fallen, or whose time is over, gives way to the next lower one. A
rail that leaves its window is a warning with the GRACE timer, one at its hard limit powers down at once; the DIMM rail that drops
during a hold takes the content of the DRAM with it (R199). Rail 12 and above are a fault. Completes: railStable, railRiseTimeout,
railFallen, railFallTimeout, railWindowExit, railHardLimit, vaonLost, pmbusPoll.

The fault of a unit that the part lacks is the model's choice (log entry 6).
That a command without its occasion changes nothing is the model's choice (log entry 1). -/
def Obligations.Rails : Prop :=
  ∀ (s : State) (n m mv : Nat) (rest : List Nat) (high : Bool), n < 12 →
    let r := s.rail n
    (s.pow.sq = .up →
      let t := (s.reachLocal (s.pow.stepAt + us 100)).setRail n { r.sense mv with st := .inWindow }
      let t := if n = 3 then { t with pow := { t.pow with coreUp := some t.mono } } else t
      (s.pow.todo = n :: m :: rest →
        exec (.railStable n mv) s = .next (State.raiseRail { t with pow := { t.pow with todo := m :: rest } } m)) ∧
      (s.pow.todo = [n] → exec (.railStable n mv) s = .next t.upDone)) ∧
    (s.pow.sq = .up → s.pow.todo = n :: rest →
      let k := (s.reachLocal (s.pow.stepAt + ms (s.fld F.PS_TIMING_RISE_TO))).powerRecord 6 n 0
      let v := State.psDone { k.2 with pow := { k.2.pow with rcd := some k.1 } } .aborted
      (s.pow.retryUsed = false → exec (.railRiseTimeout n) s =
        .next (State.startDown { v with pow := { v.pow with retryUsed := true } })) ∧
      (s.pow.retryUsed = true → exec (.railRiseTimeout n) s = .next (State.startDown (State.raise { v with
        pow := { v.pow with retryUsed := false, upAllowed := false } } 0x03 0 4 0x01 n)))) ∧
    (s.pow.sq ≠ .up → s.pow.todo = n :: rest →
      exec (.railFallen n mv) s = .next ((((s.setRail n { r.sense mv with st := .off }).railGone n).nextDown)) ∧
      (let t := s.reachLocal (s.pow.stepAt + ms (s.fld F.PS_TIMING_FALL_TO))
       let k := t.powerRecord 7 n 1
       exec (.railFallTimeout n) s = .next (((k.2.writeRecord k.1).railGone n).nextDown))) ∧
    (s.pow.todo = [] → exec (.railStable n mv) s = .next s ∧ exec (.railFallen n mv) s = .next s ∧
      exec (.railRiseTimeout n) s = .next s ∧ exec (.railFallTimeout n) s = .next s) ∧
    (n ≠ 0 → r.st = .inWindow →
      let t := (s.setRail n { r.sense mv with st := .outOfWindow, faults := (r.faults + 1) % 65536 }).holdFails n high
      (t.goingOff = false → t.pow.graceEnd = none →
        exec (.railWindowExit n mv high) s = .next (State.warn { t with pow := { t.pow with
          graceEnd := some (t.mono + ms (t.fld F.PS_TIMING_GRACE)) } } 4 n (if high then 1 else 0))) ∧
      (t.goingOff = true → exec (.railWindowExit n mv high) s = .next t)) ∧
    (r.st ≠ .inWindow → exec (.railWindowExit n mv high) s = .next s) ∧
    (n ≠ 0 → r.st ≠ .off → r.st ≠ .falling → s.goingOff = false → exec (.railHardLimit n mv high) s =
      .next (((s.setRail n { r.sense mv with st := .outOfWindow }).holdFails n high).hardDown 5 n (if high then 1 else 0))) ∧
    (s.pow.sq = .idle → s.pow.state ≠ .p4 → exec (.vaonLost mv high) s =
      .next ((s.setRail 0 { (s.rail 0).sense mv with
        st := .outOfWindow, faults := ((s.rail 0).faults + 1) % 65536 }).hardDown 8 0 (if high then 1 else 0))) ∧
    (∀ amps temp sw, n ≠ 0 → exec (.pmbusPoll n amps temp sw) s =
      .next (s.setRail n { r with amps := amps % 65536, temp := temp % 256, sw := sw % 65536 })) ∧
    exec (.railStable (n + 12) mv) s = .fault (.noSuchUnit 0x03 (n + 12))

/-- R245, R250, R348, R357, R359, R361 to R364, R369, Table 15.2: the inputs and the sequences. PWR_REQ falling in P0 or P1 is the
warning with KIND 1, PF_WARN_N with KIND 2, and its return makes the record KIND 3; a power-up starts in P4 once both inputs
stand and the minimum off time is over; GRACE cuts a drain short; a drain that is complete writes its plates and superblock and
powers down, or to P3 where the drain is a dormancy entry. Completes: pwrReqFall, pfWarnFall, pwrReqRise, pfWarnRise,
powerUpStart, minOffEnd, graceExpiry, drainEnd.

That a command without its occasion changes nothing is the model's choice (log entry 1). -/
def Obligations.PowerInputs : Prop :=
  ∀ (s : State) (t : Nat),
    let w := s.pow
    (∀ kind c, (kind, c) ∈ [(1, Instr.pwrReqFall), (2, Instr.pfWarnFall)] → w.warn = false → w.sq = .idle →
      let u := if kind = 1 then { s with pow := { w with pwrReq := false, latchOn := false, lowSince := some s.mono } }
        else { s with pow := { w with pfWarnN := false } }
      (w.state = .p0 ∨ w.state = .p1 → exec c s = .next (State.warn u kind 15 0)) ∧
      (w.state = .p3 → kind = 1 → exec c s = .next (State.foretell u 1).startDown) ∧
      (w.state = .p4 → exec c s = .next u)) ∧
    (w.warn = false → s.goingOff = false → w.pwrReq = false → w.lowSince = none →
      exec .pwrReqRise s = .next { s with pow := { w with pwrReq := true } }) ∧
    (w.warn = true → w.pwrReq = false → w.lowSince = none →
      exec .pwrReqRise s = .next { s with pow := { w with pwrReq := true, latchOn := true } }) ∧
    (w.warn = true → exec .pfWarnRise s = .next { s with pow := { w with
      pfWarnN := true, rcd := w.rcd.map (fun (r : PRec) => if r.kind = 2 then { r with kind := 3 } else r) } }) ∧
    (w.warn = false → exec .pfWarnRise s = .next { s with pow := { w with pfWarnN := true } }) ∧
    (w.state = .p4 → w.sq = .idle → w.pwrReq = true → w.pfWarnN = true → w.upAllowed = true →
      let u := if (s.rail 0).st = .outOfWindow then s.kfCut else s
      exec .powerUpStart s = .next (State.startSeq (State.setRail { u with pow := { u.pow with latchOn := false } } 0
        { u.rail 0 with st := .inWindow }) .up .boot [1, 2, 3, 4, 5, 6, 7, 8, 9, 10, 11])) ∧
    (w.pwrReq = false → exec .powerUpStart s = .next s) ∧
    (w.offUntil = some t → exec .minOffEnd s =
      let u := s.reachLocal t
      .next { u with pow := { w with sq := .idle, offUntil := none } }) ∧
    (w.graceEnd = some t → w.warn = true → s.goingOff = false → exec .graceExpiry s = .next (s.reachLocal t).startDown) ∧
    (w.graceEnd = none → exec .graceExpiry s = .next s) ∧
    (s.goingOff = false → s.drainReady = true → s.vault.draining = true → w.warn = true →
      let u := s.finishVault 2
      exec .drainEnd s = .next (State.startDown { u with
        pow := { u.pow with drainDone := true }, vault := { u.vault with draining := false } }).serve) ∧
    (s.goingOff = false → s.drainReady = true → w.warn = false → s.vault.dormant = true → s.pipeEmpty = true →
      let u := s.finishVault 3
      let u : State := { u with vault := { u.vault with dormant := false } }
      exec .drainEnd s = .next ((u.lanesDark.ppsoLow).startSeq .down .dormant (u.railsOn.filter (fun n => decide (3 ≤ n)))).serve) ∧
    (s.drainReady = false → exec .drainEnd s = .next s)

/-- R198, R250, R370 to R372, R354, R409, R438: PS_CMD from the management port and firmware: STANDBY in P0, DORMANT in P0 and P1,
WAKE in P1 and P3 start, in another state or while a sequence runs their result is PRIVILEGE. SET_MV of VDD_CORE is taken
within its fused limits. The hold that a standby entry or a warm reset waits for is complete; the die's thermal throttle
halves the Facet and drives its pin. Completes: psStandby, psDormant, psWake, railSetWrite, selfRefreshHoldDone, dieThermalThrottle,
dieThermalRecovery.

That a command without its occasion changes nothing is the model's choice (log entry 1). -/
def Obligations.PowerCommands : Prop :=
  ∀ (s : State) (p : Path) (mv : Nat),
    let started (n : Nat) : State := (State.setFld { s with pow := { s.pow with cmd := some n } } F.PS_RES_STATUS 0
      Status.busy.code)
    let no : Host.Outcome State Fault Refusal :=
      .next ((s.setFld F.PS_RES_STATUS 0 Status.privilege.code).answer p .ok)
    (s.reaches 0x03 →
      (p.trusted = false → exec (.psStandby p) s = .next (s.answer p .privilege) ∧
        exec (.psDormant p) s = .next (s.answer p .privilege) ∧ exec (.psWake p) s = .next (s.answer p .privilege)) ∧
      (p.trusted = true →
        (s.psBusy = false → s.pow.state = .p0 → exec (.psStandby p) s = .next ((started 1).standbyPath.answer p .ok)) ∧
        (s.psBusy = true ∨ s.pow.state ≠ .p0 → exec (.psStandby p) s = no) ∧
        (s.psBusy = false → s.pow.state = .p0 ∨ s.pow.state = .p1 → exec (.psDormant p) s =
          let u := (started 2).stopService
          let u := if u.pow.state = .p1 then u.unholdChannels else u
          .next (State.answer { u with vault := { u.vault with dormant := true } } p .ok)) ∧
        (s.psBusy = true ∨ (s.pow.state ≠ .p0 ∧ s.pow.state ≠ .p1) → exec (.psDormant p) s = no) ∧
        (s.psBusy = false → s.life.held = false →
          (s.pow.state = .p1 → exec (.psWake p) s =
            .next (((started 3).startSeq .up .wakeStandby [6, 7, 9, 10, 11]).answer p .ok)) ∧
          (s.pow.state = .p3 → exec (.psWake p) s =
            .next (((started 3).startSeq .up .wakeDormant [3, 4, 5, 6, 7, 8, 9, 10, 11]).answer p .ok)) ∧
          (s.pow.state = .p0 → exec (.psWake p) s = no)) ∧
        (∀ l, s.fld F.PS_RAIL_SEL_INDEX = 3 → s.life.rails[3]? = some l →
          (l.setMin ≤ mv → mv ≤ l.setMax →
            exec (.railSetWrite p mv) s = .next ((s.setFld F.PS_RAIL_SET_MV 0 mv).answer p .ok)) ∧
          (l.setMax < mv → exec (.railSetWrite .firmware mv) s =
            .next ((s.raise 0x08 0 1 0x06 4).answer .firmware .privilege))))) ∧
    (s.chan.held = true → s.anyServing = true → s.pipeEmpty = true → s.core.inReset = true →
      exec .selfRefreshHoldDone s = .next { s.holdChannels with core := { s.holdChannels.core with holdDone := true } }) ∧
    (s.chan.held = true → s.anyServing = true → s.pipeEmpty = true → s.core.inReset = false →
      s.pow.plan = .standby → s.pow.sq = .idle →
      exec .selfRefreshHoldDone s = .next (s.holdChannels.startSeq .down .standby
        (s.holdChannels.railsOn.filter (fun n => [11, 10, 9, 7, 6].contains n)))) ∧
    (s.chan.held = false → exec .selfRefreshHoldDone s = .next s) ∧
    exec .dieThermalThrottle s = .next { s with pow := { s.pow with facetHalf := true, thermN := true } } ∧
    exec .dieThermalRecovery s = .next { s with pow := { s.pow with facetHalf := false, thermN := false } }

/-! ## Resets, boot, service -/

/-- R199, R407 to R409, R411, R412, R416, R422: RESET_N in P0 is a warm reset and in P1 and P3 restarts the management core
alone; the watchdog and the reset command reset in P0 and P1, each path its own register; a reset is released once the hold
is complete and the keepsake is idle. Boot runs its tests, picks a firmware slot (none: ROM_RECOVERY) and takes the image;
training that ends lets a channel serve or fails it with POP_ERR 7 and a Critical fault.
Completes: pinReset, watchdogExpiry, commandReset, wdtKick, resetRelease, boot, bootResume, channelTrainingDone.

R267, R412: service starts once every condition of R412 and the epoch check hold: BT_STAT.STATE 7, requests are taken, the
floor is the current one and the superblocks tell STATE 1; while the epoch check does not hold, service is held from the first
time on; without the conditions, among them a lifecycle other than SCRAPPED (Table 0.6), nothing happens. Completes: serviceStart.

That a command without its occasion changes nothing is the model's choice (log entry 1). -/
def Obligations.ResetBootAndService : Prop :=
  (∀ (s : State) (p : Path) (key ch : Nat) (k : BootFacts),
    (s.pow.state = .p0 → exec .pinReset s =
      .next { s.warmReset 1 with core := { (s.warmReset 1).core with resetN := false } }) ∧
    (s.pow.state = .p1 ∨ s.pow.state = .p3 → exec .pinReset s = .next { s.closeExperts with
      core := { s.core with
        halted := false,
        wdtEnd := s.core.wdtEnd.map (fun _ => s.mono + ms (s.fld F.BT_WDT_TIMEOUT)) },
      replay := [] }) ∧
    (s.pow.state = .p2 ∨ s.pow.state = .p4 → exec .pinReset s = .next s) ∧
    (∀ t, s.core.wdtEnd = some t → s.pow.state = .p0 ∨ s.pow.state = .p1 →
      exec .watchdogExpiry s = .next ((s.reachLocal t).warmReset 2)) ∧
    (s.core.wdtEnd = none → exec .watchdogExpiry s = .next s) ∧
    (s.reaches 0x02 → s.pow.state = .p0 ∨ s.pow.state = .p1 → key % 2 ^ 32 = 0x5253544E →
      exec (.commandReset .mgmt key) s = .next ((s.warmReset 3).answer .mgmt .ok)) ∧
    (s.reaches 0x02 → key % 2 ^ 32 ≠ 0x5253544E → exec (.commandReset .mgmt key) s = .next (s.answer .mgmt .ok)) ∧
    (s.reaches 0x02 → p ≠ .mgmt → exec (.commandReset p key) s = .next (s.answer p .privilege)) ∧
    (s.reaches 0x02 → key % 2 ^ 32 = 0x4B49434B → s.core.wdtEnd.isSome = true → exec (.wdtKick .firmware key) s =
      .next (State.answer { s with core := { s.core with
        wdtEnd := some (s.mono + ms (s.fld F.BT_WDT_TIMEOUT)) } } .firmware .ok)) ∧
    (s.reaches 0x02 → key % 2 ^ 32 ≠ 0x4B49434B → exec (.wdtKick .firmware key) s = .next (s.answer .firmware .ok)) ∧
    (s.reaches 0x02 → p ≠ .firmware → exec (.wdtKick p key) s = .next (s.answer p .privilege)) ∧
    (s.core.inReset = true → s.core.holdDone = true → s.kf.banks = [] → s.pow.state = .p0 ∨ s.pow.state = .p1 →
      exec .resetRelease s = .next { s with core := { s.core with inReset := false, resetN := true } }) ∧
    (s.core.holdDone = false → exec .resetRelease s = .next s) ∧
    (s.pow.state = .p0 → s.core.inReset = false → s.pow.warn = false → s.fld F.BT_STAT_STATE = 0 →
      let t := (State.findTorn { s with pow := { s.pow with
        sq := if s.pow.sq = PSeq.checkpoint then .idle else s.pow.sq } }).bootTests k
      (∀ u, t.pickFirmware k.fwOk = (none, u) → exec (.boot k) s = .next (u.setFld F.BT_STAT_STATE 0 1)) ∧
      (∀ u slot, t.pickFirmware k.fwOk = (some slot, u) →
        let v := (((u.setFld F.KF_VER_VERSION 0 k.version).setFld F.KF_VER_LEVEL 0 k.level).setFld F.KF_SEL_BOOTED 0
          slot).setFld F.BT_STAT_STATE 0 2
        exec (.boot k) s = .next (State.bootImage { v with core := { v.core with
          wdtEnd := some (v.mono + ms (v.fld F.BT_WDT_TIMEOUT)) } } k))) ∧
    (s.fld F.BT_STAT_STATE ≠ 0 → exec (.boot k) s = .next s) ∧
    (s.pow.state = .p0 → s.core.inReset = false → s.pow.warn = false → s.fld F.BT_STAT_STATE = 3 ∨ s.fld F.BT_STAT_STATE = 8 →
      exec (.bootResume k) s = .next ((s.setFld F.BT_STAT_START 0 0).bootImage k)) ∧
    (s.fld F.BT_STAT_STATE ≠ 3 → s.fld F.BT_STAT_STATE ≠ 8 → exec (.bootResume k) s = .next s) ∧
    (ch < 16 → s.fld F.MC_STAT_STATE ch = 1 →
      let t := { s with chan := { s.chan with trained := true, banks := s.chan.banks.filter (fun x =>
        decide (x.1 < bankKey ch 0 0 ∨ bankKey ch 0 0 + 2048 ≤ x.1)) } }
      let u := State.setFld t F.MC_STAT_STATE ch 2
      (s.fld F.BT_STAT_STATE ≠ 4 → exec (.channelTrainingDone ch true) s = .next u) ∧
      (s.fld F.BT_STAT_STATE = 4 → s.fld F.BT_STAT_START = 0 → (∀ c, c < 16 → c ≠ ch → s.fld F.MC_STAT_STATE c = 2) →
        s.canonical = true → exec (.channelTrainingDone ch true) s = .next u.bootVault) ∧
      exec (.channelTrainingDone ch false) s =
        .next ((((State.setFld t F.MC_STAT_STATE ch 4).setFld F.MC_STAT_POP_ERR ch 7).setFld F.MC_STAT_RETAINED ch 0).raise
          0x50 ch 3 0x05)) ∧
    (ch < 16 → s.fld F.MC_STAT_STATE ch ≠ 1 → exec (.channelTrainingDone ch true) s = .next s)) ∧
  (∀ (s : State),
    (s.mayServe = true → s.epochOk (s.fld F.BT_STAT_START == 2) = true →
      let t := s.moveNext.setFld F.BT_STAT_STATE 0 7
      let t := { t with
        pipe := { t.pipe with taking := true },
        mer := { t.mer with epochHold := none, lastK := some (t.fld F.MER_CFG_K) } }
      exec .serviceStart s =
        .next ((State.writeSuper { t with vault := { t.vault with floorE := State.floorNow t } } 1).judgeDiag).serve) ∧
    (s.mayServe = true → s.epochOk (s.fld F.BT_STAT_START == 2) = false → exec .serviceStart s =
      .next { s with mer := { s.mer with epochHold := some (s.mer.epochHold.getD s.mono) } }) ∧
    (s.mayServe = false → exec .serviceStart s = .next s) ∧ (s.life.state = .scrapped → s.mayServe = false))

/-! ## Control space -/

/-- R10, R50, R55, R56, R58: one register write. An access that is not aligned, that lies in no unit, in a class that its path
does not reach, or in an expert register that is not open to it changes nothing and is answered with the status of its path's
check; a plain register takes the write. BLK_XACC opens the expert registers on the key with LOCK 0, from the management port
and firmware alone; 10 s without an expert access close them. A class switched off by a fuse answers PRIVILEGE.
Completes: regWrite, blkXaccWrite, expertIdleClose.

That a command without its occasion changes nothing is the model's choice (log entry 1). -/
def Obligations.RegisterWrites : Prop :=
  ∀ (s : State) (p : Path) (a cls n : Nat) (v : W64) (b : Blk) (u off : Nat),
    (s.jobs = [] →
      (a % 8 ≠ 0 → exec (.regWrite p a v) s = .next (s.answer p (match p with
        | .mgmt => .illegalLink | .firmware => .privilege | .fabric _ => .windowBounds | .chain => .illegalLink))) ∧
      (a % 8 = 0 → locate a = none → exec (.regWrite p a v) s = .next (s.answer p .privilege)) ∧
      (a % 8 = 0 → locate a = some (b, u, off) →
        (pathMay p b.cls = false ∨ s.core.fusedOff.contains b.cls = true →
          exec (.regWrite p a v) s = .next (s.answer p .privilege)) ∧
        (b.expert ≠ 0 → b.expert ≤ off → s.expertOk p b.cls u = false →
          exec (.regWrite p a v) s = .next (s.answer p .privilege)) ∧
        (b.expert = 0 ∨ off < b.expert → s.core.cfgOff.contains b.cls = true →
          exec (.regWrite p a v) s = .next (s.answer p .privilege)) ∧
        (pathMay p b.cls = true → s.core.fusedOff.contains b.cls = false → s.core.cfgOff.contains b.cls = false → b.cls ≠ 1 →
          off ≠ 8 → off ≠ 0x18 →
          (b.expert = 0 ∨ off < b.expert → s.special p b.cls u off v.toNat = none →
            exec (.regWrite p a v) s = .next ((s.writePlain b.cls u off v.toNat).answer p .ok)) ∧
          (b.expert ≠ 0 → b.expert ≤ off → s.expertOk p b.cls u = true →
            let t := s.expertUsed b.cls u
            State.special t p b.cls u off v.toNat = none →
            exec (.regWrite p a v) s = .next ((State.writePlain t b.cls u off v.toNat).answer p .ok))) ∧
        (pathMay p b.cls = true → s.core.fusedOff.contains b.cls = false → s.core.cfgOff.contains b.cls = false → b.cls = 1 →
          b.expert = 0 → exec (.regWrite p a v) s = .next (s.answer p .ok)))) ∧
    (s.reaches cls → n < unitCount cls → pathMay p cls = true → cls ≠ 1 →
      (p.trusted = false → exec (.blkXaccWrite p cls n v) s = .next (s.answer p .privilege)) ∧
      (p.trusted = true → s.fldOf cls F.BLK_XACC_LOCK n = 0 → v.getLsbD 0 = true → v.getLsbD 1 = false →
        v.toNat / 2 ^ 8 % 2 ^ 32 = 0x4B585041 →
        exec (.blkXaccWrite p cls n v) s = .next ((((s.setFldOf cls F.BLK_XACC_OPEN n 1).setFldOf cls F.BLK_XACC_HOLDER n
          (if p = .mgmt then 1 else 2)).expertUsed cls n).answer p .ok)) ∧
      (p.trusted = true → v.getLsbD 0 = true →
        v.toNat / 2 ^ 8 % 2 ^ 32 ≠ 0x4B585041 ∨ s.fldOf cls F.BLK_XACC_LOCK n ≠ 0 →
        exec (.blkXaccWrite p cls n v) s = .next (s.answer p .privilege)) ∧
      (p.trusted = true → v.getLsbD 0 = false → v.getLsbD 1 = false → exec (.blkXaccWrite p cls n v) s =
        .next (((s.setFldOf cls F.BLK_XACC_OPEN n 0).setFldOf cls F.BLK_XACC_HOLDER n 0).answer p .ok))) ∧
    (∀ t, n < unitCount cls → cls ≠ 1 → SMap.look s.xlast (unitKey cls n) = some t → exec (.expertIdleClose cls n) s =
      let w := ((s.reachLocal (t + 10 * 2 ^ 40)).setFldOf cls F.BLK_XACC_OPEN n 0).setFldOf cls F.BLK_XACC_HOLDER n 0
      .next { w with xlast := SMap.del s.xlast (unitKey cls n) }) ∧
    (n < unitCount cls → cls ≠ 1 → SMap.look s.xlast (unitKey cls n) = none → exec (.expertIdleClose cls n) s = .next s)

/-- R51 to R54, R413: management datagrams. One that verifies under slot 0, with a TAG that is not among the last 64, no other access
being under way, reads or writes its registers one after the other, each with a turn of its own (R51): the first one at once; with its
last one the response goes out and is kept, and a register that fails ends it with the number done. A repeat of a TAG that is kept, once
what the path had under way has ended, gets the stored response and is not performed again; a malformed one completes with
ILLEGAL_LINK and no register done (for a write whose data are not COUNT registers: the model's choice, log entry 108); one that is not
taken is discarded. A response repeats TAG and address. Completes: mgmtRead, mgmtWrite, mgmtDatagramMalformed.

That a command without its occasion changes nothing is the model's choice (log entry 1). -/
def Obligations.ManagementDatagrams : Prop :=
  ∀ (s : State) (m : Mgmt) (op : Nat),
    let live (t : State) : Prop := t.core.inReset = false ∧ t.pow.state ≠ .p4
    let taken : Prop := (m.sealing = true ∧ m.tagOk = true ∧ (s.slot 0).active.isSome = true) ∨
      (m.sealing = false ∧ s.life.state = .blank)
    let fresh : Prop := s.replay.find? (fun r => r.tag == m.tag) = none
    let bad : Prop := m.count = 0 ∨ 64 < m.count ∨ m.addr % 8 ≠ 0
    let answer (t : State) (st : Status) (n : Nat) (data : List Nat) : State :=
      let t := if m.sealing then (t.sealUse 0).2 else t
      State.emit { t with replay := (⟨m.tag, m.addr, st, n, data⟩ :: t.replay).take 64 } (.mgmt m.tag m.addr st.code n data)
    (∀ r, live s → taken → (s.finishPath .mgmt).replay.find? (fun r => r.tag == m.tag) = some r →
      let f := s.finishPath .mgmt
      let again := State.emit (if m.sealing then (f.sealUse 0).2 else f) (.mgmt m.tag r.addr r.status.code r.count r.data)
      exec (.mgmtRead m) s = .next again ∧ exec (.mgmtWrite m) s = .next again ∧
      (op ≠ 1 → op ≠ 2 → exec (.mgmtDatagramMalformed op m) s = .next again)) ∧
    (s.jobs = [] →
      (live s → taken → fresh → ¬ bad → m.sealing = true → s.fld F.BT_STAT_STATE ≠ 1 →
        (∀ v t, s.ctlRead .mgmt m.addr = (.ok, v, t) → live t →
          (m.count = 1 → exec (.mgmtRead m) s = .next (answer t .ok 1 [v])) ∧
          (1 < m.count → exec (.mgmtRead m) s =
            .next { t with jobs := t.jobs ++ [⟨.datagram m, false, m.addr + 8, m.count - 1, [], [v], 1⟩] })) ∧
        (∀ v st t, s.ctlRead .mgmt m.addr = (st, v, t) → st ≠ .ok → live t →
          exec (.mgmtRead m) s = .next (answer t st 0 [])) ∧
        (∀ v vs t, m.data = v :: vs → m.data.length = m.count → s.ctlWrite .mgmt m.addr v.toNat = (.ok, t) → live t →
          (vs = [] → exec (.mgmtWrite m) s = .next (answer t .ok 1 [])) ∧
          (vs ≠ [] → exec (.mgmtWrite m) s = .next
            { t with jobs := t.jobs ++ [⟨.datagram m, true, m.addr + 8, m.count - 1, vs.map BitVec.toNat, [], 1⟩] })) ∧
        (∀ v vs st t, m.data = v :: vs → m.data.length = m.count → s.ctlWrite .mgmt m.addr v.toNat = (st, t) → st ≠ .ok → live t →
          exec (.mgmtWrite m) s = .next (answer t st 0 []))) ∧
      (live s → taken → fresh → bad →
        exec (.mgmtRead m) s = .next (answer s .illegalLink 0 []) ∧
        exec (.mgmtWrite m) s = .next (answer s .illegalLink 0 []) ∧
        exec (.mgmtDatagramMalformed op m) s = .next (answer s .illegalLink 0 [])) ∧
      (live s → taken → fresh → m.data.length ≠ m.count → exec (.mgmtWrite m) s = .next (answer s .illegalLink 0 [])) ∧
      (live s → taken → fresh → op ≠ 1 → op ≠ 2 →
        exec (.mgmtDatagramMalformed op m) s = .next (answer s .illegalLink 0 [])) ∧
      (¬ (live s ∧ taken) → exec (.mgmtRead m) s = .next s ∧ exec (.mgmtWrite m) s = .next s))

/-! ## The whole block -/

/-- A step takes the command at the front of the queue and runs it on the state with the rest of the queue. With none waiting, time
passes and what waits inside the block goes on (the model's choice, log entries 2 and 106); where nothing waits there either,
nothing but time changes. -/
def Obligations.StepTakesFront : Prop :=
  ∀ (s : State) (c : Instr) (rest : List Instr),
    (s.pending = c :: rest → step s = exec c { s with pending := rest }) ∧
    step (s.before c) = exec c s ∧
    (s.pending = [] → step s = .next s.idle) ∧
    (s.pending = [] → s.jobs = [] → s.chan.wq = [] → s.cipher.rx = [] → s.cipher.tx = [] → s.wins.waiting = [] →
      s.twin.markDue = false → s.bezel.retiring = [] → s.diagFail = false ∨ s.fab.dark = true →
      ∃ t, step s = .next t ∧ s.mono < t.mono ∧ { t with time := s.time, mono := s.mono } = s)

/-- R64, R65, Table 3.2: whatever the opcode, the operands and the setting words of a link, its words decode to exactly it and
leave the words after it.

R70, Table 3.5: every command that is a link decodes from its own words, at every sequencer and every operand. -/
def Obligations.LinkRoundTrip : Prop :=
  (∀ (op : BitVec 7) (l : Link) (rest : List W40), decodeLink (encodeLink op l ++ rest) = some (op, l, rest)) ∧
  (∀ (i : Instr) (q : Nat) (op : BitVec 7) (l : Link) (ws : List W40),
    linkParts i = some (q, op, l) → encodeInstr i = some ws → decodeInstr q ws = some i)

/-- R11, R13, R441, Table 0.2: a plain write gives every RW field that no lock holds the bits of its place, or the field's reset
value where they are reserved; a write-one-to-clear field loses the bits written as one; an RO field, a field under a lock that is set and every
field of another register keep their values. -/
def Obligations.PlainWrite : Prop :=
  ∀ (s : State) (b : Blk) (u v i : Nat) (f : Fld), s.canonical = true → b ∈ blocks → f ∈ classFields b.cls → i < f.n →
    f.inUnit u = true →
    let x := v / 2 ^ f.lo % 2 ^ f.width
    let t := s.writePlain b.cls u (f.off + 8 * i) v
    let old := s.fldOf b.cls f u i
    let new := t.fldOf b.cls f u i
    (f.acc = .rw ∨ f.acc = .rwl → s.lockedOf b.cls f u = false →
      new = (if f.min ≤ x ∧ x ≤ f.max then x else s.resetOf b.cls f u i) % 2 ^ f.width) ∧
    (f.acc = .w1c → s.lockedOf b.cls f u = false → new = (old &&& (2 ^ f.width - 1 - x)) % 2 ^ f.width) ∧
    (f.acc = .ro ∨ f.acc = .wo ∨ s.lockedOf b.cls f u = true → new = old) ∧
    (∀ j w, j < 64 → w % 8 = 0 → w ≠ f.off + 8 * i →
      SMap.get 0 t.regs (fieldKey b.cls u w j) = SMap.get 0 s.regs (fieldKey b.cls u w j))

/-- R160, R161: a line put into persistent memory keeps the canonical form of its cells; every byte of the line then reads as
put, and every byte outside the line as before. -/
def Obligations.LineStore : Prop :=
  ∀ (s : State) (line : Nat) (data : List Byte) (a : Nat), Memory.wf s.pipe.pm = true → data.length = 64 →
    let t := s.setPmLine line data
    Memory.wf t.pipe.pm = true ∧
    (64 * line ≤ a → a < 64 * line + 64 → some (t.pmByte a) = data[a - 64 * line]?) ∧
    (a < 64 * line ∨ 64 * line + 64 ≤ a → t.pmByte a = s.pmByte a) ∧
    t.pmLine line = data ∧ t.regs = s.regs

/-- R4, R12, R399, R415, R443: what the cold start leaves: every field reads its reset value and every fault class 7, the
containers are in their canonical form, no fault is outstanding, nothing is pending, no key is loaded, no chain runs, no
handle is open, power state P4 with nothing on.

The values of the cfg and fuse fields and of memory are the model's choice (log entries 8, 9, 11 and 13). -/
def Obligations.ColdReset : Prop :=
  State.reset.canonical = true ∧ State.reset.pending = [] ∧
  (∀ cls f u i, State.reset.fldOf cls f u i = f.reset) ∧
  (∀ cls u, State.reset.fldOf cls F.BLK_FSTAT_CLASS u = 7 ∧ State.reset.fldOf cls F.BLK_FSTAT_UNACK u = 0) ∧
  State.reset.alert = false ∧ State.reset.pow.state = .p4 ∧ State.reset.pow.warn = false ∧
  (∀ n, State.reset.slot n = emptySlot) ∧ (∀ q, State.reset.seq? q = none) ∧ (∀ n, (State.reset.qp n).st = 0) ∧
  State.reset.tiers.handles = [] ∧ State.reset.twin.holding = false ∧ State.reset.twin.leader = false ∧
  (∀ a, State.reset.pmByte a = 0)
end

