-- ==== Sys2Proof/Laws/SMap.lean ====
section
/-! SUPPORT. Laws of the sparse map: a read after a write at the same key and at another key, twice the same key, the
canonical form. -/

namespace Sys2Proof.Machine.SMap

variable {α : Type}

@[simp] theorem look_nil (k : Nat) : look ([] : SMap α) k = none := rfl

theorem look_ins (m : SMap α) (k j : Nat) (v : α) : look (ins m k v) j = if j = k then some v else look m j := by
  induction m with
  | nil => by_cases h : k = j <;> simp [ins, look, h, eq_comm]
  | cons p m ih =>
    obtain ⟨i, w⟩ := p
    unfold ins
    by_cases h1 : k < i
    · by_cases hjk : j = k
      · simp [h1, look, hjk]
      · have : ¬ k = j := fun h => hjk h.symm
        simp [h1, look, hjk, this]
    · by_cases h2 : k = i
      · subst h2
        by_cases hjk : j = k
        · simp [look, hjk]
        · have : ¬ k = j := fun h => hjk h.symm
          simp [look, hjk, this]
      · by_cases hji : i = j
        · subst hji
          have : ¬ i = k := fun h => h2 h.symm
          simp [h1, h2, look, this]
        · simp [h1, h2, look, hji, ih]

@[simp] theorem look_ins_same (m : SMap α) (k : Nat) (v : α) : look (ins m k v) k = some v := by simp [look_ins]

theorem look_ins_other (m : SMap α) {k j : Nat} (v : α) (h : j ≠ k) : look (ins m k v) j = look m j := by
  simp [look_ins, h]

theorem get_ins (d : α) (m : SMap α) (k j : Nat) (v : α) : get d (ins m k v) j = if j = k then v else get d m j := by
  by_cases h : j = k <;> simp [get, look_ins, h]

@[simp] theorem ins_ins (m : SMap α) (k : Nat) (v w : α) : ins (ins m k v) k w = ins m k w := by
  induction m with
  | nil => simp [ins]
  | cons p m ih =>
    obtain ⟨i, x⟩ := p
    by_cases h1 : k < i
    · simp [ins, h1]
    · by_cases h2 : k = i
      · subst h2
        simp [ins]
      · simp [ins, h1, h2, ih]

theorem look_none_of_risesFrom (m : SMap α) (lo k : Nat) (h : risesFrom lo m = true) (hk : k < lo) :
    look m k = none := by
  induction m generalizing lo with
  | nil => rfl
  | cons p m ih =>
    obtain ⟨i, v⟩ := p
    simp [risesFrom] at h
    have : ¬ i = k := by omega
    simp [look, this]
    exact ih (i + 1) h.2 (by omega)

theorem look_del (m : SMap α) (lo k j : Nat) (h : risesFrom lo m = true) :
    look (del m k) j = if j = k then none else look m j := by
  induction m generalizing lo with
  | nil => simp [del]
  | cons p m ih =>
    obtain ⟨i, v⟩ := p
    simp [risesFrom] at h
    by_cases hik : i = k
    · subst hik
      by_cases hj : j = i
      · subst hj
        simp [del, look_none_of_risesFrom m (j + 1) j h.2 (by omega)]
      · have : ¬ i = j := fun e => hj e.symm
        simp [del, hj, look, this]
    · by_cases hij : i = j
      · subst hij
        simp [del, hik, look]
      · simp [del, hik, look, hij, ih (i + 1) h.2]

theorem look_del_other (m : SMap α) {k j : Nat} (h : j ≠ k) : look (del m k) j = look m j := by
  induction m with
  | nil => rfl
  | cons p m ih =>
    obtain ⟨i, v⟩ := p
    by_cases hik : i = k
    · have : ¬ i = j := by omega
      simp [del, hik, look]
      omega
    · by_cases hij : i = j
      · subst hij
        simp [del, hik, look]
      · simp [del, hik, look, hij, ih]

theorem get_put_same [DecidableEq α] (d : α) (m : SMap α) (k : Nat) (v : α) (h : risesFrom 0 m = true) :
    get d (put d m k v) k = v := by
  unfold put
  by_cases hv : v = d
  · simp [hv, get, look_del m 0 k k h]
  · simp [hv, get]

theorem get_put_other [DecidableEq α] (d e : α) (m : SMap α) {k j : Nat} (v : α) (h : j ≠ k) :
    get e (put d m k v) j = get e m j := by
  unfold put
  by_cases hv : v = d
  · simp [hv, get, look_del_other m h]
  · simp [hv, get, look_ins_other m v h]

theorem risesFrom_mono (m : SMap α) {lo lo' : Nat} (h : lo' ≤ lo) (hm : risesFrom lo m = true) :
    risesFrom lo' m = true := by
  cases m with
  | nil => rfl
  | cons p m =>
    obtain ⟨i, v⟩ := p
    simp [risesFrom] at *
    exact ⟨by omega, hm.2⟩

theorem risesFrom_ins (m : SMap α) (lo k : Nat) (v : α) (h : risesFrom lo m = true) :
    risesFrom (min lo k) (ins m k v) = true := by
  induction m generalizing lo with
  | nil => simp [ins, risesFrom]
  | cons p m ih =>
    obtain ⟨i, w⟩ := p
    simp [risesFrom] at h
    by_cases h1 : k < i
    · simp [ins, h1, risesFrom, h.2]
    · by_cases h2 : k = i
      · subst h2
        simp [ins, risesFrom, h.2]
      · have := ih (i + 1) h.2
        simp [ins, h1, h2, risesFrom]
        refine ⟨by omega, ?_⟩
        have e : min (i + 1) k = i + 1 := by omega
        rw [e] at this
        exact this

theorem risesFrom_del (m : SMap α) (lo k : Nat) (h : risesFrom lo m = true) : risesFrom lo (del m k) = true := by
  induction m generalizing lo with
  | nil => rfl
  | cons p m ih =>
    obtain ⟨i, w⟩ := p
    simp [risesFrom] at h
    by_cases h1 : i = k
    · simp [del, h1]
      exact risesFrom_mono m (by omega) h.2
    · simp [del, h1, risesFrom, h.1, ih (i + 1) h.2]

theorem risesFrom_put [DecidableEq α] (d : α) (m : SMap α) (k : Nat) (v : α) (h : risesFrom 0 m = true) :
    risesFrom 0 (put d m k v) = true := by
  unfold put
  by_cases hv : v = d
  · simp [hv, risesFrom_del m 0 k h]
  · have := risesFrom_ins m 0 k v h
    simpa [hv] using this

theorem mem_del (m : SMap α) (k : Nat) {p : Nat × α} (h : p ∈ del m k) : p ∈ m := by
  induction m with
  | nil => simp [del] at h
  | cons q m ih =>
    obtain ⟨i, w⟩ := q
    by_cases h1 : i = k
    · simp [del, h1] at h
      exact List.mem_cons_of_mem _ h
    · simp [del, h1] at h
      rcases h with h | h
      · simp [h]
      · exact List.mem_cons_of_mem _ (ih h)

theorem mem_ins (m : SMap α) (k : Nat) (v : α) {p : Nat × α} (h : p ∈ ins m k v) : p = (k, v) ∨ p ∈ m := by
  induction m with
  | nil => simp [ins] at h; exact Or.inl h
  | cons q m ih =>
    obtain ⟨i, w⟩ := q
    unfold ins at h
    split at h
    · simp at h ⊢
      tauto
    · split at h
      · simp at h ⊢
        tauto
      · simp at h ⊢
        rcases h with h | h
        · tauto
        · have := ih h
          tauto

/-- A write keeps the canonical form. -/
theorem wf_put [DecidableEq α] (d : α) (m : SMap α) (k : Nat) (v : α) (h : wf d m = true) : wf d (put d m k v) = true := by
  simp [wf] at h ⊢
  refine ⟨risesFrom_put d m k v h.1, ?_⟩
  intro a b hab
  unfold put at hab
  by_cases hv : v = d
  · simp [hv] at hab
    exact h.2 a b (mem_del m k hab)
  · simp [hv] at hab
    rcases mem_ins m k v hab with e | e
    · cases e
      exact hv
    · exact h.2 a b e

end Sys2Proof.Machine.SMap
end

