-- ==== Sys2Proof/Laws/State.lean ====
section
/-! SUPPORT. For each update of State that changes one field, what the other fields are after it; for the counters, the clocks
and the free values, the same by their definitions. -/

namespace Sys2Proof.Machine

variable (s : State)

@[simp] theorem State.setFldOf_time (cls : Nat) (f : Fld) (u v i : Nat) : (s.setFldOf cls f u v i).time = s.time := rfl
@[simp] theorem State.setFldOf_mono (cls : Nat) (f : Fld) (u v i : Nat) : (s.setFldOf cls f u v i).mono = s.mono := rfl
@[simp] theorem State.setFldOf_xlast (cls : Nat) (f : Fld) (u v i : Nat) : (s.setFldOf cls f u v i).xlast = s.xlast := rfl
@[simp] theorem State.setFldOf_quiet (cls : Nat) (f : Fld) (u v i : Nat) : (s.setFldOf cls f u v i).quiet = s.quiet := rfl
@[simp] theorem State.setFldOf_replay (cls : Nat) (f : Fld) (u v i : Nat) : (s.setFldOf cls f u v i).replay = s.replay := rfl
@[simp] theorem State.setFldOf_jobs (cls : Nat) (f : Fld) (u v i : Nat) : (s.setFldOf cls f u v i).jobs = s.jobs := rfl
@[simp] theorem State.setFldOf_fatalEsc (cls : Nat) (f : Fld) (u v i : Nat) : (s.setFldOf cls f u v i).fatalEsc = s.fatalEsc := rfl
@[simp] theorem State.setFldOf_lowOut (cls : Nat) (f : Fld) (u v i : Nat) : (s.setFldOf cls f u v i).lowOut = s.lowOut := rfl
@[simp] theorem State.setFldOf_withdrawn (cls : Nat) (f : Fld) (u v i : Nat) : (s.setFldOf cls f u v i).withdrawn = s.withdrawn := rfl
@[simp] theorem State.setFldOf_ev (cls : Nat) (f : Fld) (u v i : Nat) : (s.setFldOf cls f u v i).ev = s.ev := rfl
@[simp] theorem State.setFldOf_kf (cls : Nat) (f : Fld) (u v i : Nat) : (s.setFldOf cls f u v i).kf = s.kf := rfl
@[simp] theorem State.setFldOf_loupe (cls : Nat) (f : Fld) (u v i : Nat) : (s.setFldOf cls f u v i).loupe = s.loupe := rfl
@[simp] theorem State.setFldOf_core (cls : Nat) (f : Fld) (u v i : Nat) : (s.setFldOf cls f u v i).core = s.core := rfl
@[simp] theorem State.setFldOf_diagFail (cls : Nat) (f : Fld) (u v i : Nat) : (s.setFldOf cls f u v i).diagFail = s.diagFail := rfl
@[simp] theorem State.setFldOf_free (cls : Nat) (f : Fld) (u v i : Nat) : (s.setFldOf cls f u v i).free = s.free := rfl
@[simp] theorem State.setFldOf_out (cls : Nat) (f : Fld) (u v i : Nat) : (s.setFldOf cls f u v i).out = s.out := rfl
@[simp] theorem State.setFldOf_keys (cls : Nat) (f : Fld) (u v i : Nat) : (s.setFldOf cls f u v i).keys = s.keys := rfl
@[simp] theorem State.setFldOf_life (cls : Nat) (f : Fld) (u v i : Nat) : (s.setFldOf cls f u v i).life = s.life := rfl
@[simp] theorem State.setFldOf_cipher (cls : Nat) (f : Fld) (u v i : Nat) : (s.setFldOf cls f u v i).cipher = s.cipher := rfl
@[simp] theorem State.setFldOf_pow (cls : Nat) (f : Fld) (u v i : Nat) : (s.setFldOf cls f u v i).pow = s.pow := rfl
@[simp] theorem State.setFldOf_pipe (cls : Nat) (f : Fld) (u v i : Nat) : (s.setFldOf cls f u v i).pipe = s.pipe := rfl
@[simp] theorem State.setFldOf_wins (cls : Nat) (f : Fld) (u v i : Nat) : (s.setFldOf cls f u v i).wins = s.wins := rfl
@[simp] theorem State.setFldOf_chan (cls : Nat) (f : Fld) (u v i : Nat) : (s.setFldOf cls f u v i).chan = s.chan := rfl
@[simp] theorem State.setFldOf_bezel (cls : Nat) (f : Fld) (u v i : Nat) : (s.setFldOf cls f u v i).bezel = s.bezel := rfl
@[simp] theorem State.setFldOf_vault (cls : Nat) (f : Fld) (u v i : Nat) : (s.setFldOf cls f u v i).vault = s.vault := rfl
@[simp] theorem State.setFldOf_twin (cls : Nat) (f : Fld) (u v i : Nat) : (s.setFldOf cls f u v i).twin = s.twin := rfl
@[simp] theorem State.setFldOf_claims (cls : Nat) (f : Fld) (u v i : Nat) : (s.setFldOf cls f u v i).claims = s.claims := rfl
@[simp] theorem State.setFldOf_tr (cls : Nat) (f : Fld) (u v i : Nat) : (s.setFldOf cls f u v i).tr = s.tr := rfl
@[simp] theorem State.setFldOf_mer (cls : Nat) (f : Fld) (u v i : Nat) : (s.setFldOf cls f u v i).mer = s.mer := rfl
@[simp] theorem State.setFldOf_fab (cls : Nat) (f : Fld) (u v i : Nat) : (s.setFldOf cls f u v i).fab = s.fab := rfl
@[simp] theorem State.setFldOf_tiers (cls : Nat) (f : Fld) (u v i : Nat) : (s.setFldOf cls f u v i).tiers = s.tiers := rfl
@[simp] theorem State.setFldOf_kex (cls : Nat) (f : Fld) (u v i : Nat) : (s.setFldOf cls f u v i).kex = s.kex := rfl
@[simp] theorem State.setFldOf_pending (cls : Nat) (f : Fld) (u v i : Nat) : (s.setFldOf cls f u v i).pending = s.pending := rfl

@[simp] theorem State.setFld_time (f : Fld) (u v i : Nat) : (s.setFld f u v i).time = s.time := rfl
@[simp] theorem State.setFld_mono (f : Fld) (u v i : Nat) : (s.setFld f u v i).mono = s.mono := rfl
@[simp] theorem State.setFld_xlast (f : Fld) (u v i : Nat) : (s.setFld f u v i).xlast = s.xlast := rfl
@[simp] theorem State.setFld_quiet (f : Fld) (u v i : Nat) : (s.setFld f u v i).quiet = s.quiet := rfl
@[simp] theorem State.setFld_replay (f : Fld) (u v i : Nat) : (s.setFld f u v i).replay = s.replay := rfl
@[simp] theorem State.setFld_jobs (f : Fld) (u v i : Nat) : (s.setFld f u v i).jobs = s.jobs := rfl
@[simp] theorem State.setFld_fatalEsc (f : Fld) (u v i : Nat) : (s.setFld f u v i).fatalEsc = s.fatalEsc := rfl
@[simp] theorem State.setFld_lowOut (f : Fld) (u v i : Nat) : (s.setFld f u v i).lowOut = s.lowOut := rfl
@[simp] theorem State.setFld_withdrawn (f : Fld) (u v i : Nat) : (s.setFld f u v i).withdrawn = s.withdrawn := rfl
@[simp] theorem State.setFld_ev (f : Fld) (u v i : Nat) : (s.setFld f u v i).ev = s.ev := rfl
@[simp] theorem State.setFld_kf (f : Fld) (u v i : Nat) : (s.setFld f u v i).kf = s.kf := rfl
@[simp] theorem State.setFld_loupe (f : Fld) (u v i : Nat) : (s.setFld f u v i).loupe = s.loupe := rfl
@[simp] theorem State.setFld_core (f : Fld) (u v i : Nat) : (s.setFld f u v i).core = s.core := rfl
@[simp] theorem State.setFld_diagFail (f : Fld) (u v i : Nat) : (s.setFld f u v i).diagFail = s.diagFail := rfl
@[simp] theorem State.setFld_free (f : Fld) (u v i : Nat) : (s.setFld f u v i).free = s.free := rfl
@[simp] theorem State.setFld_out (f : Fld) (u v i : Nat) : (s.setFld f u v i).out = s.out := rfl
@[simp] theorem State.setFld_keys (f : Fld) (u v i : Nat) : (s.setFld f u v i).keys = s.keys := rfl
@[simp] theorem State.setFld_life (f : Fld) (u v i : Nat) : (s.setFld f u v i).life = s.life := rfl
@[simp] theorem State.setFld_cipher (f : Fld) (u v i : Nat) : (s.setFld f u v i).cipher = s.cipher := rfl
@[simp] theorem State.setFld_pow (f : Fld) (u v i : Nat) : (s.setFld f u v i).pow = s.pow := rfl
@[simp] theorem State.setFld_pipe (f : Fld) (u v i : Nat) : (s.setFld f u v i).pipe = s.pipe := rfl
@[simp] theorem State.setFld_wins (f : Fld) (u v i : Nat) : (s.setFld f u v i).wins = s.wins := rfl
@[simp] theorem State.setFld_chan (f : Fld) (u v i : Nat) : (s.setFld f u v i).chan = s.chan := rfl
@[simp] theorem State.setFld_bezel (f : Fld) (u v i : Nat) : (s.setFld f u v i).bezel = s.bezel := rfl
@[simp] theorem State.setFld_vault (f : Fld) (u v i : Nat) : (s.setFld f u v i).vault = s.vault := rfl
@[simp] theorem State.setFld_twin (f : Fld) (u v i : Nat) : (s.setFld f u v i).twin = s.twin := rfl
@[simp] theorem State.setFld_claims (f : Fld) (u v i : Nat) : (s.setFld f u v i).claims = s.claims := rfl
@[simp] theorem State.setFld_tr (f : Fld) (u v i : Nat) : (s.setFld f u v i).tr = s.tr := rfl
@[simp] theorem State.setFld_mer (f : Fld) (u v i : Nat) : (s.setFld f u v i).mer = s.mer := rfl
@[simp] theorem State.setFld_fab (f : Fld) (u v i : Nat) : (s.setFld f u v i).fab = s.fab := rfl
@[simp] theorem State.setFld_tiers (f : Fld) (u v i : Nat) : (s.setFld f u v i).tiers = s.tiers := rfl
@[simp] theorem State.setFld_kex (f : Fld) (u v i : Nat) : (s.setFld f u v i).kex = s.kex := rfl
@[simp] theorem State.setFld_pending (f : Fld) (u v i : Nat) : (s.setFld f u v i).pending = s.pending := rfl

@[simp] theorem State.emit_time (o : Out) : (s.emit o).time = s.time := rfl
@[simp] theorem State.emit_mono (o : Out) : (s.emit o).mono = s.mono := rfl
@[simp] theorem State.emit_regs (o : Out) : (s.emit o).regs = s.regs := rfl
@[simp] theorem State.emit_xlast (o : Out) : (s.emit o).xlast = s.xlast := rfl
@[simp] theorem State.emit_quiet (o : Out) : (s.emit o).quiet = s.quiet := rfl
@[simp] theorem State.emit_replay (o : Out) : (s.emit o).replay = s.replay := rfl
@[simp] theorem State.emit_jobs (o : Out) : (s.emit o).jobs = s.jobs := rfl
@[simp] theorem State.emit_fatalEsc (o : Out) : (s.emit o).fatalEsc = s.fatalEsc := rfl
@[simp] theorem State.emit_lowOut (o : Out) : (s.emit o).lowOut = s.lowOut := rfl
@[simp] theorem State.emit_withdrawn (o : Out) : (s.emit o).withdrawn = s.withdrawn := rfl
@[simp] theorem State.emit_ev (o : Out) : (s.emit o).ev = s.ev := rfl
@[simp] theorem State.emit_kf (o : Out) : (s.emit o).kf = s.kf := rfl
@[simp] theorem State.emit_loupe (o : Out) : (s.emit o).loupe = s.loupe := rfl
@[simp] theorem State.emit_core (o : Out) : (s.emit o).core = s.core := rfl
@[simp] theorem State.emit_diagFail (o : Out) : (s.emit o).diagFail = s.diagFail := rfl
@[simp] theorem State.emit_free (o : Out) : (s.emit o).free = s.free := rfl
@[simp] theorem State.emit_keys (o : Out) : (s.emit o).keys = s.keys := rfl
@[simp] theorem State.emit_life (o : Out) : (s.emit o).life = s.life := rfl
@[simp] theorem State.emit_cipher (o : Out) : (s.emit o).cipher = s.cipher := rfl
@[simp] theorem State.emit_pow (o : Out) : (s.emit o).pow = s.pow := rfl
@[simp] theorem State.emit_pipe (o : Out) : (s.emit o).pipe = s.pipe := rfl
@[simp] theorem State.emit_wins (o : Out) : (s.emit o).wins = s.wins := rfl
@[simp] theorem State.emit_chan (o : Out) : (s.emit o).chan = s.chan := rfl
@[simp] theorem State.emit_bezel (o : Out) : (s.emit o).bezel = s.bezel := rfl
@[simp] theorem State.emit_vault (o : Out) : (s.emit o).vault = s.vault := rfl
@[simp] theorem State.emit_twin (o : Out) : (s.emit o).twin = s.twin := rfl
@[simp] theorem State.emit_claims (o : Out) : (s.emit o).claims = s.claims := rfl
@[simp] theorem State.emit_tr (o : Out) : (s.emit o).tr = s.tr := rfl
@[simp] theorem State.emit_mer (o : Out) : (s.emit o).mer = s.mer := rfl
@[simp] theorem State.emit_fab (o : Out) : (s.emit o).fab = s.fab := rfl
@[simp] theorem State.emit_tiers (o : Out) : (s.emit o).tiers = s.tiers := rfl
@[simp] theorem State.emit_kex (o : Out) : (s.emit o).kex = s.kex := rfl
@[simp] theorem State.emit_pending (o : Out) : (s.emit o).pending = s.pending := rfl

@[simp] theorem State.answer_time (p : Path) (st : Status) (v : Nat) : (s.answer p st v).time = s.time := rfl
@[simp] theorem State.answer_mono (p : Path) (st : Status) (v : Nat) : (s.answer p st v).mono = s.mono := rfl
@[simp] theorem State.answer_regs (p : Path) (st : Status) (v : Nat) : (s.answer p st v).regs = s.regs := rfl
@[simp] theorem State.answer_xlast (p : Path) (st : Status) (v : Nat) : (s.answer p st v).xlast = s.xlast := rfl
@[simp] theorem State.answer_quiet (p : Path) (st : Status) (v : Nat) : (s.answer p st v).quiet = s.quiet := rfl
@[simp] theorem State.answer_replay (p : Path) (st : Status) (v : Nat) : (s.answer p st v).replay = s.replay := rfl
@[simp] theorem State.answer_jobs (p : Path) (st : Status) (v : Nat) : (s.answer p st v).jobs = s.jobs := rfl
@[simp] theorem State.answer_fatalEsc (p : Path) (st : Status) (v : Nat) : (s.answer p st v).fatalEsc = s.fatalEsc := rfl
@[simp] theorem State.answer_lowOut (p : Path) (st : Status) (v : Nat) : (s.answer p st v).lowOut = s.lowOut := rfl
@[simp] theorem State.answer_withdrawn (p : Path) (st : Status) (v : Nat) : (s.answer p st v).withdrawn = s.withdrawn := rfl
@[simp] theorem State.answer_ev (p : Path) (st : Status) (v : Nat) : (s.answer p st v).ev = s.ev := rfl
@[simp] theorem State.answer_kf (p : Path) (st : Status) (v : Nat) : (s.answer p st v).kf = s.kf := rfl
@[simp] theorem State.answer_loupe (p : Path) (st : Status) (v : Nat) : (s.answer p st v).loupe = s.loupe := rfl
@[simp] theorem State.answer_core (p : Path) (st : Status) (v : Nat) : (s.answer p st v).core = s.core := rfl
@[simp] theorem State.answer_diagFail (p : Path) (st : Status) (v : Nat) : (s.answer p st v).diagFail = s.diagFail := rfl
@[simp] theorem State.answer_free (p : Path) (st : Status) (v : Nat) : (s.answer p st v).free = s.free := rfl
@[simp] theorem State.answer_keys (p : Path) (st : Status) (v : Nat) : (s.answer p st v).keys = s.keys := rfl
@[simp] theorem State.answer_life (p : Path) (st : Status) (v : Nat) : (s.answer p st v).life = s.life := rfl
@[simp] theorem State.answer_cipher (p : Path) (st : Status) (v : Nat) : (s.answer p st v).cipher = s.cipher := rfl
@[simp] theorem State.answer_pow (p : Path) (st : Status) (v : Nat) : (s.answer p st v).pow = s.pow := rfl
@[simp] theorem State.answer_pipe (p : Path) (st : Status) (v : Nat) : (s.answer p st v).pipe = s.pipe := rfl
@[simp] theorem State.answer_wins (p : Path) (st : Status) (v : Nat) : (s.answer p st v).wins = s.wins := rfl
@[simp] theorem State.answer_chan (p : Path) (st : Status) (v : Nat) : (s.answer p st v).chan = s.chan := rfl
@[simp] theorem State.answer_bezel (p : Path) (st : Status) (v : Nat) : (s.answer p st v).bezel = s.bezel := rfl
@[simp] theorem State.answer_vault (p : Path) (st : Status) (v : Nat) : (s.answer p st v).vault = s.vault := rfl
@[simp] theorem State.answer_twin (p : Path) (st : Status) (v : Nat) : (s.answer p st v).twin = s.twin := rfl
@[simp] theorem State.answer_claims (p : Path) (st : Status) (v : Nat) : (s.answer p st v).claims = s.claims := rfl
@[simp] theorem State.answer_tr (p : Path) (st : Status) (v : Nat) : (s.answer p st v).tr = s.tr := rfl
@[simp] theorem State.answer_mer (p : Path) (st : Status) (v : Nat) : (s.answer p st v).mer = s.mer := rfl
@[simp] theorem State.answer_fab (p : Path) (st : Status) (v : Nat) : (s.answer p st v).fab = s.fab := rfl
@[simp] theorem State.answer_tiers (p : Path) (st : Status) (v : Nat) : (s.answer p st v).tiers = s.tiers := rfl
@[simp] theorem State.answer_kex (p : Path) (st : Status) (v : Nat) : (s.answer p st v).kex = s.kex := rfl
@[simp] theorem State.answer_pending (p : Path) (st : Status) (v : Nat) : (s.answer p st v).pending = s.pending := rfl

@[simp] theorem State.setSeq_time (q : Nat) (x : Seq) : (s.setSeq q x).time = s.time := rfl
@[simp] theorem State.setSeq_mono (q : Nat) (x : Seq) : (s.setSeq q x).mono = s.mono := rfl
@[simp] theorem State.setSeq_regs (q : Nat) (x : Seq) : (s.setSeq q x).regs = s.regs := rfl
@[simp] theorem State.setSeq_xlast (q : Nat) (x : Seq) : (s.setSeq q x).xlast = s.xlast := rfl
@[simp] theorem State.setSeq_quiet (q : Nat) (x : Seq) : (s.setSeq q x).quiet = s.quiet := rfl
@[simp] theorem State.setSeq_replay (q : Nat) (x : Seq) : (s.setSeq q x).replay = s.replay := rfl
@[simp] theorem State.setSeq_jobs (q : Nat) (x : Seq) : (s.setSeq q x).jobs = s.jobs := rfl
@[simp] theorem State.setSeq_fatalEsc (q : Nat) (x : Seq) : (s.setSeq q x).fatalEsc = s.fatalEsc := rfl
@[simp] theorem State.setSeq_lowOut (q : Nat) (x : Seq) : (s.setSeq q x).lowOut = s.lowOut := rfl
@[simp] theorem State.setSeq_withdrawn (q : Nat) (x : Seq) : (s.setSeq q x).withdrawn = s.withdrawn := rfl
@[simp] theorem State.setSeq_ev (q : Nat) (x : Seq) : (s.setSeq q x).ev = s.ev := rfl
@[simp] theorem State.setSeq_kf (q : Nat) (x : Seq) : (s.setSeq q x).kf = s.kf := rfl
@[simp] theorem State.setSeq_loupe (q : Nat) (x : Seq) : (s.setSeq q x).loupe = s.loupe := rfl
@[simp] theorem State.setSeq_core (q : Nat) (x : Seq) : (s.setSeq q x).core = s.core := rfl
@[simp] theorem State.setSeq_diagFail (q : Nat) (x : Seq) : (s.setSeq q x).diagFail = s.diagFail := rfl
@[simp] theorem State.setSeq_free (q : Nat) (x : Seq) : (s.setSeq q x).free = s.free := rfl
@[simp] theorem State.setSeq_out (q : Nat) (x : Seq) : (s.setSeq q x).out = s.out := rfl
@[simp] theorem State.setSeq_keys (q : Nat) (x : Seq) : (s.setSeq q x).keys = s.keys := rfl
@[simp] theorem State.setSeq_life (q : Nat) (x : Seq) : (s.setSeq q x).life = s.life := rfl
@[simp] theorem State.setSeq_cipher (q : Nat) (x : Seq) : (s.setSeq q x).cipher = s.cipher := rfl
@[simp] theorem State.setSeq_pow (q : Nat) (x : Seq) : (s.setSeq q x).pow = s.pow := rfl
@[simp] theorem State.setSeq_pipe (q : Nat) (x : Seq) : (s.setSeq q x).pipe = s.pipe := rfl
@[simp] theorem State.setSeq_wins (q : Nat) (x : Seq) : (s.setSeq q x).wins = s.wins := rfl
@[simp] theorem State.setSeq_chan (q : Nat) (x : Seq) : (s.setSeq q x).chan = s.chan := rfl
@[simp] theorem State.setSeq_bezel (q : Nat) (x : Seq) : (s.setSeq q x).bezel = s.bezel := rfl
@[simp] theorem State.setSeq_vault (q : Nat) (x : Seq) : (s.setSeq q x).vault = s.vault := rfl
@[simp] theorem State.setSeq_twin (q : Nat) (x : Seq) : (s.setSeq q x).twin = s.twin := rfl
@[simp] theorem State.setSeq_claims (q : Nat) (x : Seq) : (s.setSeq q x).claims = s.claims := rfl
@[simp] theorem State.setSeq_tr (q : Nat) (x : Seq) : (s.setSeq q x).tr = s.tr := rfl
@[simp] theorem State.setSeq_mer (q : Nat) (x : Seq) : (s.setSeq q x).mer = s.mer := rfl
@[simp] theorem State.setSeq_fab (q : Nat) (x : Seq) : (s.setSeq q x).fab = s.fab := rfl
@[simp] theorem State.setSeq_tiers (q : Nat) (x : Seq) : (s.setSeq q x).tiers = s.tiers := rfl
@[simp] theorem State.setSeq_pending (q : Nat) (x : Seq) : (s.setSeq q x).pending = s.pending := rfl

@[simp] theorem State.setRingSt_time (r : Nat) (x : RingSt) : (s.setRingSt r x).time = s.time := rfl
@[simp] theorem State.setRingSt_mono (r : Nat) (x : RingSt) : (s.setRingSt r x).mono = s.mono := rfl
@[simp] theorem State.setRingSt_regs (r : Nat) (x : RingSt) : (s.setRingSt r x).regs = s.regs := rfl
@[simp] theorem State.setRingSt_xlast (r : Nat) (x : RingSt) : (s.setRingSt r x).xlast = s.xlast := rfl
@[simp] theorem State.setRingSt_quiet (r : Nat) (x : RingSt) : (s.setRingSt r x).quiet = s.quiet := rfl
@[simp] theorem State.setRingSt_replay (r : Nat) (x : RingSt) : (s.setRingSt r x).replay = s.replay := rfl
@[simp] theorem State.setRingSt_jobs (r : Nat) (x : RingSt) : (s.setRingSt r x).jobs = s.jobs := rfl
@[simp] theorem State.setRingSt_fatalEsc (r : Nat) (x : RingSt) : (s.setRingSt r x).fatalEsc = s.fatalEsc := rfl
@[simp] theorem State.setRingSt_lowOut (r : Nat) (x : RingSt) : (s.setRingSt r x).lowOut = s.lowOut := rfl
@[simp] theorem State.setRingSt_withdrawn (r : Nat) (x : RingSt) : (s.setRingSt r x).withdrawn = s.withdrawn := rfl
@[simp] theorem State.setRingSt_ev (r : Nat) (x : RingSt) : (s.setRingSt r x).ev = s.ev := rfl
@[simp] theorem State.setRingSt_kf (r : Nat) (x : RingSt) : (s.setRingSt r x).kf = s.kf := rfl
@[simp] theorem State.setRingSt_loupe (r : Nat) (x : RingSt) : (s.setRingSt r x).loupe = s.loupe := rfl
@[simp] theorem State.setRingSt_core (r : Nat) (x : RingSt) : (s.setRingSt r x).core = s.core := rfl
@[simp] theorem State.setRingSt_diagFail (r : Nat) (x : RingSt) : (s.setRingSt r x).diagFail = s.diagFail := rfl
@[simp] theorem State.setRingSt_free (r : Nat) (x : RingSt) : (s.setRingSt r x).free = s.free := rfl
@[simp] theorem State.setRingSt_out (r : Nat) (x : RingSt) : (s.setRingSt r x).out = s.out := rfl
@[simp] theorem State.setRingSt_keys (r : Nat) (x : RingSt) : (s.setRingSt r x).keys = s.keys := rfl
@[simp] theorem State.setRingSt_life (r : Nat) (x : RingSt) : (s.setRingSt r x).life = s.life := rfl
@[simp] theorem State.setRingSt_cipher (r : Nat) (x : RingSt) : (s.setRingSt r x).cipher = s.cipher := rfl
@[simp] theorem State.setRingSt_pow (r : Nat) (x : RingSt) : (s.setRingSt r x).pow = s.pow := rfl
@[simp] theorem State.setRingSt_pipe (r : Nat) (x : RingSt) : (s.setRingSt r x).pipe = s.pipe := rfl
@[simp] theorem State.setRingSt_wins (r : Nat) (x : RingSt) : (s.setRingSt r x).wins = s.wins := rfl
@[simp] theorem State.setRingSt_chan (r : Nat) (x : RingSt) : (s.setRingSt r x).chan = s.chan := rfl
@[simp] theorem State.setRingSt_bezel (r : Nat) (x : RingSt) : (s.setRingSt r x).bezel = s.bezel := rfl
@[simp] theorem State.setRingSt_vault (r : Nat) (x : RingSt) : (s.setRingSt r x).vault = s.vault := rfl
@[simp] theorem State.setRingSt_twin (r : Nat) (x : RingSt) : (s.setRingSt r x).twin = s.twin := rfl
@[simp] theorem State.setRingSt_claims (r : Nat) (x : RingSt) : (s.setRingSt r x).claims = s.claims := rfl
@[simp] theorem State.setRingSt_tr (r : Nat) (x : RingSt) : (s.setRingSt r x).tr = s.tr := rfl
@[simp] theorem State.setRingSt_mer (r : Nat) (x : RingSt) : (s.setRingSt r x).mer = s.mer := rfl
@[simp] theorem State.setRingSt_fab (r : Nat) (x : RingSt) : (s.setRingSt r x).fab = s.fab := rfl
@[simp] theorem State.setRingSt_tiers (r : Nat) (x : RingSt) : (s.setRingSt r x).tiers = s.tiers := rfl
@[simp] theorem State.setRingSt_pending (r : Nat) (x : RingSt) : (s.setRingSt r x).pending = s.pending := rfl

@[simp] theorem State.setQp_time (n : Nat) (q : Qp) : (s.setQp n q).time = s.time := rfl
@[simp] theorem State.setQp_mono (n : Nat) (q : Qp) : (s.setQp n q).mono = s.mono := rfl
@[simp] theorem State.setQp_regs (n : Nat) (q : Qp) : (s.setQp n q).regs = s.regs := rfl
@[simp] theorem State.setQp_xlast (n : Nat) (q : Qp) : (s.setQp n q).xlast = s.xlast := rfl
@[simp] theorem State.setQp_quiet (n : Nat) (q : Qp) : (s.setQp n q).quiet = s.quiet := rfl
@[simp] theorem State.setQp_replay (n : Nat) (q : Qp) : (s.setQp n q).replay = s.replay := rfl
@[simp] theorem State.setQp_jobs (n : Nat) (q : Qp) : (s.setQp n q).jobs = s.jobs := rfl
@[simp] theorem State.setQp_fatalEsc (n : Nat) (q : Qp) : (s.setQp n q).fatalEsc = s.fatalEsc := rfl
@[simp] theorem State.setQp_lowOut (n : Nat) (q : Qp) : (s.setQp n q).lowOut = s.lowOut := rfl
@[simp] theorem State.setQp_withdrawn (n : Nat) (q : Qp) : (s.setQp n q).withdrawn = s.withdrawn := rfl
@[simp] theorem State.setQp_ev (n : Nat) (q : Qp) : (s.setQp n q).ev = s.ev := rfl
@[simp] theorem State.setQp_kf (n : Nat) (q : Qp) : (s.setQp n q).kf = s.kf := rfl
@[simp] theorem State.setQp_loupe (n : Nat) (q : Qp) : (s.setQp n q).loupe = s.loupe := rfl
@[simp] theorem State.setQp_core (n : Nat) (q : Qp) : (s.setQp n q).core = s.core := rfl
@[simp] theorem State.setQp_diagFail (n : Nat) (q : Qp) : (s.setQp n q).diagFail = s.diagFail := rfl
@[simp] theorem State.setQp_free (n : Nat) (q : Qp) : (s.setQp n q).free = s.free := rfl
@[simp] theorem State.setQp_out (n : Nat) (q : Qp) : (s.setQp n q).out = s.out := rfl
@[simp] theorem State.setQp_keys (n : Nat) (q : Qp) : (s.setQp n q).keys = s.keys := rfl
@[simp] theorem State.setQp_life (n : Nat) (q : Qp) : (s.setQp n q).life = s.life := rfl
@[simp] theorem State.setQp_cipher (n : Nat) (q : Qp) : (s.setQp n q).cipher = s.cipher := rfl
@[simp] theorem State.setQp_pow (n : Nat) (q : Qp) : (s.setQp n q).pow = s.pow := rfl
@[simp] theorem State.setQp_pipe (n : Nat) (q : Qp) : (s.setQp n q).pipe = s.pipe := rfl
@[simp] theorem State.setQp_wins (n : Nat) (q : Qp) : (s.setQp n q).wins = s.wins := rfl
@[simp] theorem State.setQp_chan (n : Nat) (q : Qp) : (s.setQp n q).chan = s.chan := rfl
@[simp] theorem State.setQp_bezel (n : Nat) (q : Qp) : (s.setQp n q).bezel = s.bezel := rfl
@[simp] theorem State.setQp_vault (n : Nat) (q : Qp) : (s.setQp n q).vault = s.vault := rfl
@[simp] theorem State.setQp_twin (n : Nat) (q : Qp) : (s.setQp n q).twin = s.twin := rfl
@[simp] theorem State.setQp_claims (n : Nat) (q : Qp) : (s.setQp n q).claims = s.claims := rfl
@[simp] theorem State.setQp_mer (n : Nat) (q : Qp) : (s.setQp n q).mer = s.mer := rfl
@[simp] theorem State.setQp_fab (n : Nat) (q : Qp) : (s.setQp n q).fab = s.fab := rfl
@[simp] theorem State.setQp_tiers (n : Nat) (q : Qp) : (s.setQp n q).tiers = s.tiers := rfl
@[simp] theorem State.setQp_kex (n : Nat) (q : Qp) : (s.setQp n q).kex = s.kex := rfl
@[simp] theorem State.setQp_pending (n : Nat) (q : Qp) : (s.setQp n q).pending = s.pending := rfl

@[simp] theorem State.modQp_time (n : Nat) (f : Qp → Qp) : (s.modQp n f).time = s.time := rfl
@[simp] theorem State.modQp_mono (n : Nat) (f : Qp → Qp) : (s.modQp n f).mono = s.mono := rfl
@[simp] theorem State.modQp_regs (n : Nat) (f : Qp → Qp) : (s.modQp n f).regs = s.regs := rfl
@[simp] theorem State.modQp_xlast (n : Nat) (f : Qp → Qp) : (s.modQp n f).xlast = s.xlast := rfl
@[simp] theorem State.modQp_quiet (n : Nat) (f : Qp → Qp) : (s.modQp n f).quiet = s.quiet := rfl
@[simp] theorem State.modQp_replay (n : Nat) (f : Qp → Qp) : (s.modQp n f).replay = s.replay := rfl
@[simp] theorem State.modQp_jobs (n : Nat) (f : Qp → Qp) : (s.modQp n f).jobs = s.jobs := rfl
@[simp] theorem State.modQp_fatalEsc (n : Nat) (f : Qp → Qp) : (s.modQp n f).fatalEsc = s.fatalEsc := rfl
@[simp] theorem State.modQp_lowOut (n : Nat) (f : Qp → Qp) : (s.modQp n f).lowOut = s.lowOut := rfl
@[simp] theorem State.modQp_withdrawn (n : Nat) (f : Qp → Qp) : (s.modQp n f).withdrawn = s.withdrawn := rfl
@[simp] theorem State.modQp_ev (n : Nat) (f : Qp → Qp) : (s.modQp n f).ev = s.ev := rfl
@[simp] theorem State.modQp_kf (n : Nat) (f : Qp → Qp) : (s.modQp n f).kf = s.kf := rfl
@[simp] theorem State.modQp_loupe (n : Nat) (f : Qp → Qp) : (s.modQp n f).loupe = s.loupe := rfl
@[simp] theorem State.modQp_core (n : Nat) (f : Qp → Qp) : (s.modQp n f).core = s.core := rfl
@[simp] theorem State.modQp_diagFail (n : Nat) (f : Qp → Qp) : (s.modQp n f).diagFail = s.diagFail := rfl
@[simp] theorem State.modQp_free (n : Nat) (f : Qp → Qp) : (s.modQp n f).free = s.free := rfl
@[simp] theorem State.modQp_out (n : Nat) (f : Qp → Qp) : (s.modQp n f).out = s.out := rfl
@[simp] theorem State.modQp_keys (n : Nat) (f : Qp → Qp) : (s.modQp n f).keys = s.keys := rfl
@[simp] theorem State.modQp_life (n : Nat) (f : Qp → Qp) : (s.modQp n f).life = s.life := rfl
@[simp] theorem State.modQp_cipher (n : Nat) (f : Qp → Qp) : (s.modQp n f).cipher = s.cipher := rfl
@[simp] theorem State.modQp_pow (n : Nat) (f : Qp → Qp) : (s.modQp n f).pow = s.pow := rfl
@[simp] theorem State.modQp_pipe (n : Nat) (f : Qp → Qp) : (s.modQp n f).pipe = s.pipe := rfl
@[simp] theorem State.modQp_wins (n : Nat) (f : Qp → Qp) : (s.modQp n f).wins = s.wins := rfl
@[simp] theorem State.modQp_chan (n : Nat) (f : Qp → Qp) : (s.modQp n f).chan = s.chan := rfl
@[simp] theorem State.modQp_bezel (n : Nat) (f : Qp → Qp) : (s.modQp n f).bezel = s.bezel := rfl
@[simp] theorem State.modQp_vault (n : Nat) (f : Qp → Qp) : (s.modQp n f).vault = s.vault := rfl
@[simp] theorem State.modQp_twin (n : Nat) (f : Qp → Qp) : (s.modQp n f).twin = s.twin := rfl
@[simp] theorem State.modQp_claims (n : Nat) (f : Qp → Qp) : (s.modQp n f).claims = s.claims := rfl
@[simp] theorem State.modQp_mer (n : Nat) (f : Qp → Qp) : (s.modQp n f).mer = s.mer := rfl
@[simp] theorem State.modQp_fab (n : Nat) (f : Qp → Qp) : (s.modQp n f).fab = s.fab := rfl
@[simp] theorem State.modQp_tiers (n : Nat) (f : Qp → Qp) : (s.modQp n f).tiers = s.tiers := rfl
@[simp] theorem State.modQp_kex (n : Nat) (f : Qp → Qp) : (s.modQp n f).kex = s.kex := rfl
@[simp] theorem State.modQp_pending (n : Nat) (f : Qp → Qp) : (s.modQp n f).pending = s.pending := rfl

@[simp] theorem State.setSlot_time (n : Nat) (y : KeySlot) : (s.setSlot n y).time = s.time := rfl
@[simp] theorem State.setSlot_mono (n : Nat) (y : KeySlot) : (s.setSlot n y).mono = s.mono := rfl
@[simp] theorem State.setSlot_regs (n : Nat) (y : KeySlot) : (s.setSlot n y).regs = s.regs := rfl
@[simp] theorem State.setSlot_xlast (n : Nat) (y : KeySlot) : (s.setSlot n y).xlast = s.xlast := rfl
@[simp] theorem State.setSlot_quiet (n : Nat) (y : KeySlot) : (s.setSlot n y).quiet = s.quiet := rfl
@[simp] theorem State.setSlot_replay (n : Nat) (y : KeySlot) : (s.setSlot n y).replay = s.replay := rfl
@[simp] theorem State.setSlot_jobs (n : Nat) (y : KeySlot) : (s.setSlot n y).jobs = s.jobs := rfl
@[simp] theorem State.setSlot_fatalEsc (n : Nat) (y : KeySlot) : (s.setSlot n y).fatalEsc = s.fatalEsc := rfl
@[simp] theorem State.setSlot_lowOut (n : Nat) (y : KeySlot) : (s.setSlot n y).lowOut = s.lowOut := rfl
@[simp] theorem State.setSlot_withdrawn (n : Nat) (y : KeySlot) : (s.setSlot n y).withdrawn = s.withdrawn := rfl
@[simp] theorem State.setSlot_ev (n : Nat) (y : KeySlot) : (s.setSlot n y).ev = s.ev := rfl
@[simp] theorem State.setSlot_kf (n : Nat) (y : KeySlot) : (s.setSlot n y).kf = s.kf := rfl
@[simp] theorem State.setSlot_loupe (n : Nat) (y : KeySlot) : (s.setSlot n y).loupe = s.loupe := rfl
@[simp] theorem State.setSlot_core (n : Nat) (y : KeySlot) : (s.setSlot n y).core = s.core := rfl
@[simp] theorem State.setSlot_diagFail (n : Nat) (y : KeySlot) : (s.setSlot n y).diagFail = s.diagFail := rfl
@[simp] theorem State.setSlot_free (n : Nat) (y : KeySlot) : (s.setSlot n y).free = s.free := rfl
@[simp] theorem State.setSlot_out (n : Nat) (y : KeySlot) : (s.setSlot n y).out = s.out := rfl
@[simp] theorem State.setSlot_life (n : Nat) (y : KeySlot) : (s.setSlot n y).life = s.life := rfl
@[simp] theorem State.setSlot_cipher (n : Nat) (y : KeySlot) : (s.setSlot n y).cipher = s.cipher := rfl
@[simp] theorem State.setSlot_pow (n : Nat) (y : KeySlot) : (s.setSlot n y).pow = s.pow := rfl
@[simp] theorem State.setSlot_pipe (n : Nat) (y : KeySlot) : (s.setSlot n y).pipe = s.pipe := rfl
@[simp] theorem State.setSlot_wins (n : Nat) (y : KeySlot) : (s.setSlot n y).wins = s.wins := rfl
@[simp] theorem State.setSlot_chan (n : Nat) (y : KeySlot) : (s.setSlot n y).chan = s.chan := rfl
@[simp] theorem State.setSlot_bezel (n : Nat) (y : KeySlot) : (s.setSlot n y).bezel = s.bezel := rfl
@[simp] theorem State.setSlot_vault (n : Nat) (y : KeySlot) : (s.setSlot n y).vault = s.vault := rfl
@[simp] theorem State.setSlot_twin (n : Nat) (y : KeySlot) : (s.setSlot n y).twin = s.twin := rfl
@[simp] theorem State.setSlot_claims (n : Nat) (y : KeySlot) : (s.setSlot n y).claims = s.claims := rfl
@[simp] theorem State.setSlot_tr (n : Nat) (y : KeySlot) : (s.setSlot n y).tr = s.tr := rfl
@[simp] theorem State.setSlot_mer (n : Nat) (y : KeySlot) : (s.setSlot n y).mer = s.mer := rfl
@[simp] theorem State.setSlot_fab (n : Nat) (y : KeySlot) : (s.setSlot n y).fab = s.fab := rfl
@[simp] theorem State.setSlot_tiers (n : Nat) (y : KeySlot) : (s.setSlot n y).tiers = s.tiers := rfl
@[simp] theorem State.setSlot_kex (n : Nat) (y : KeySlot) : (s.setSlot n y).kex = s.kex := rfl
@[simp] theorem State.setSlot_pending (n : Nat) (y : KeySlot) : (s.setSlot n y).pending = s.pending := rfl

@[simp] theorem State.setPmLine_time (line : Nat) (d : List Byte) : (s.setPmLine line d).time = s.time := rfl
@[simp] theorem State.setPmLine_mono (line : Nat) (d : List Byte) : (s.setPmLine line d).mono = s.mono := rfl
@[simp] theorem State.setPmLine_regs (line : Nat) (d : List Byte) : (s.setPmLine line d).regs = s.regs := rfl
@[simp] theorem State.setPmLine_xlast (line : Nat) (d : List Byte) : (s.setPmLine line d).xlast = s.xlast := rfl
@[simp] theorem State.setPmLine_quiet (line : Nat) (d : List Byte) : (s.setPmLine line d).quiet = s.quiet := rfl
@[simp] theorem State.setPmLine_replay (line : Nat) (d : List Byte) : (s.setPmLine line d).replay = s.replay := rfl
@[simp] theorem State.setPmLine_jobs (line : Nat) (d : List Byte) : (s.setPmLine line d).jobs = s.jobs := rfl
@[simp] theorem State.setPmLine_fatalEsc (line : Nat) (d : List Byte) : (s.setPmLine line d).fatalEsc = s.fatalEsc := rfl
@[simp] theorem State.setPmLine_lowOut (line : Nat) (d : List Byte) : (s.setPmLine line d).lowOut = s.lowOut := rfl
@[simp] theorem State.setPmLine_withdrawn (line : Nat) (d : List Byte) : (s.setPmLine line d).withdrawn = s.withdrawn := rfl
@[simp] theorem State.setPmLine_ev (line : Nat) (d : List Byte) : (s.setPmLine line d).ev = s.ev := rfl
@[simp] theorem State.setPmLine_kf (line : Nat) (d : List Byte) : (s.setPmLine line d).kf = s.kf := rfl
@[simp] theorem State.setPmLine_loupe (line : Nat) (d : List Byte) : (s.setPmLine line d).loupe = s.loupe := rfl
@[simp] theorem State.setPmLine_core (line : Nat) (d : List Byte) : (s.setPmLine line d).core = s.core := rfl
@[simp] theorem State.setPmLine_diagFail (line : Nat) (d : List Byte) : (s.setPmLine line d).diagFail = s.diagFail := rfl
@[simp] theorem State.setPmLine_free (line : Nat) (d : List Byte) : (s.setPmLine line d).free = s.free := rfl
@[simp] theorem State.setPmLine_out (line : Nat) (d : List Byte) : (s.setPmLine line d).out = s.out := rfl
@[simp] theorem State.setPmLine_keys (line : Nat) (d : List Byte) : (s.setPmLine line d).keys = s.keys := rfl
@[simp] theorem State.setPmLine_life (line : Nat) (d : List Byte) : (s.setPmLine line d).life = s.life := rfl
@[simp] theorem State.setPmLine_cipher (line : Nat) (d : List Byte) : (s.setPmLine line d).cipher = s.cipher := rfl
@[simp] theorem State.setPmLine_pow (line : Nat) (d : List Byte) : (s.setPmLine line d).pow = s.pow := rfl
@[simp] theorem State.setPmLine_wins (line : Nat) (d : List Byte) : (s.setPmLine line d).wins = s.wins := rfl
@[simp] theorem State.setPmLine_chan (line : Nat) (d : List Byte) : (s.setPmLine line d).chan = s.chan := rfl
@[simp] theorem State.setPmLine_bezel (line : Nat) (d : List Byte) : (s.setPmLine line d).bezel = s.bezel := rfl
@[simp] theorem State.setPmLine_vault (line : Nat) (d : List Byte) : (s.setPmLine line d).vault = s.vault := rfl
@[simp] theorem State.setPmLine_twin (line : Nat) (d : List Byte) : (s.setPmLine line d).twin = s.twin := rfl
@[simp] theorem State.setPmLine_claims (line : Nat) (d : List Byte) : (s.setPmLine line d).claims = s.claims := rfl
@[simp] theorem State.setPmLine_tr (line : Nat) (d : List Byte) : (s.setPmLine line d).tr = s.tr := rfl
@[simp] theorem State.setPmLine_mer (line : Nat) (d : List Byte) : (s.setPmLine line d).mer = s.mer := rfl
@[simp] theorem State.setPmLine_fab (line : Nat) (d : List Byte) : (s.setPmLine line d).fab = s.fab := rfl
@[simp] theorem State.setPmLine_tiers (line : Nat) (d : List Byte) : (s.setPmLine line d).tiers = s.tiers := rfl
@[simp] theorem State.setPmLine_kex (line : Nat) (d : List Byte) : (s.setPmLine line d).kex = s.kex := rfl
@[simp] theorem State.setPmLine_pending (line : Nat) (d : List Byte) : (s.setPmLine line d).pending = s.pending := rfl

@[simp] theorem State.setChk_time (line : Nat) (e : BitVec 64 × BitVec 64) : (s.setChk line e).time = s.time := rfl
@[simp] theorem State.setChk_mono (line : Nat) (e : BitVec 64 × BitVec 64) : (s.setChk line e).mono = s.mono := rfl
@[simp] theorem State.setChk_regs (line : Nat) (e : BitVec 64 × BitVec 64) : (s.setChk line e).regs = s.regs := rfl
@[simp] theorem State.setChk_xlast (line : Nat) (e : BitVec 64 × BitVec 64) : (s.setChk line e).xlast = s.xlast := rfl
@[simp] theorem State.setChk_quiet (line : Nat) (e : BitVec 64 × BitVec 64) : (s.setChk line e).quiet = s.quiet := rfl
@[simp] theorem State.setChk_replay (line : Nat) (e : BitVec 64 × BitVec 64) : (s.setChk line e).replay = s.replay := rfl
@[simp] theorem State.setChk_jobs (line : Nat) (e : BitVec 64 × BitVec 64) : (s.setChk line e).jobs = s.jobs := rfl
@[simp] theorem State.setChk_fatalEsc (line : Nat) (e : BitVec 64 × BitVec 64) : (s.setChk line e).fatalEsc = s.fatalEsc := rfl
@[simp] theorem State.setChk_lowOut (line : Nat) (e : BitVec 64 × BitVec 64) : (s.setChk line e).lowOut = s.lowOut := rfl
@[simp] theorem State.setChk_withdrawn (line : Nat) (e : BitVec 64 × BitVec 64) : (s.setChk line e).withdrawn = s.withdrawn := rfl
@[simp] theorem State.setChk_ev (line : Nat) (e : BitVec 64 × BitVec 64) : (s.setChk line e).ev = s.ev := rfl
@[simp] theorem State.setChk_kf (line : Nat) (e : BitVec 64 × BitVec 64) : (s.setChk line e).kf = s.kf := rfl
@[simp] theorem State.setChk_loupe (line : Nat) (e : BitVec 64 × BitVec 64) : (s.setChk line e).loupe = s.loupe := rfl
@[simp] theorem State.setChk_core (line : Nat) (e : BitVec 64 × BitVec 64) : (s.setChk line e).core = s.core := rfl
@[simp] theorem State.setChk_diagFail (line : Nat) (e : BitVec 64 × BitVec 64) : (s.setChk line e).diagFail = s.diagFail := rfl
@[simp] theorem State.setChk_free (line : Nat) (e : BitVec 64 × BitVec 64) : (s.setChk line e).free = s.free := rfl
@[simp] theorem State.setChk_out (line : Nat) (e : BitVec 64 × BitVec 64) : (s.setChk line e).out = s.out := rfl
@[simp] theorem State.setChk_keys (line : Nat) (e : BitVec 64 × BitVec 64) : (s.setChk line e).keys = s.keys := rfl
@[simp] theorem State.setChk_life (line : Nat) (e : BitVec 64 × BitVec 64) : (s.setChk line e).life = s.life := rfl
@[simp] theorem State.setChk_cipher (line : Nat) (e : BitVec 64 × BitVec 64) : (s.setChk line e).cipher = s.cipher := rfl
@[simp] theorem State.setChk_pow (line : Nat) (e : BitVec 64 × BitVec 64) : (s.setChk line e).pow = s.pow := rfl
@[simp] theorem State.setChk_wins (line : Nat) (e : BitVec 64 × BitVec 64) : (s.setChk line e).wins = s.wins := rfl
@[simp] theorem State.setChk_chan (line : Nat) (e : BitVec 64 × BitVec 64) : (s.setChk line e).chan = s.chan := rfl
@[simp] theorem State.setChk_bezel (line : Nat) (e : BitVec 64 × BitVec 64) : (s.setChk line e).bezel = s.bezel := rfl
@[simp] theorem State.setChk_vault (line : Nat) (e : BitVec 64 × BitVec 64) : (s.setChk line e).vault = s.vault := rfl
@[simp] theorem State.setChk_twin (line : Nat) (e : BitVec 64 × BitVec 64) : (s.setChk line e).twin = s.twin := rfl
@[simp] theorem State.setChk_claims (line : Nat) (e : BitVec 64 × BitVec 64) : (s.setChk line e).claims = s.claims := rfl
@[simp] theorem State.setChk_tr (line : Nat) (e : BitVec 64 × BitVec 64) : (s.setChk line e).tr = s.tr := rfl
@[simp] theorem State.setChk_mer (line : Nat) (e : BitVec 64 × BitVec 64) : (s.setChk line e).mer = s.mer := rfl
@[simp] theorem State.setChk_fab (line : Nat) (e : BitVec 64 × BitVec 64) : (s.setChk line e).fab = s.fab := rfl
@[simp] theorem State.setChk_tiers (line : Nat) (e : BitVec 64 × BitVec 64) : (s.setChk line e).tiers = s.tiers := rfl
@[simp] theorem State.setChk_kex (line : Nat) (e : BitVec 64 × BitVec 64) : (s.setChk line e).kex = s.kex := rfl
@[simp] theorem State.setChk_pending (line : Nat) (e : BitVec 64 × BitVec 64) : (s.setChk line e).pending = s.pending := rfl

@[simp] theorem State.endOp_time (i : Nat) : (s.endOp i).time = s.time := rfl
@[simp] theorem State.endOp_mono (i : Nat) : (s.endOp i).mono = s.mono := rfl
@[simp] theorem State.endOp_regs (i : Nat) : (s.endOp i).regs = s.regs := rfl
@[simp] theorem State.endOp_xlast (i : Nat) : (s.endOp i).xlast = s.xlast := rfl
@[simp] theorem State.endOp_quiet (i : Nat) : (s.endOp i).quiet = s.quiet := rfl
@[simp] theorem State.endOp_replay (i : Nat) : (s.endOp i).replay = s.replay := rfl
@[simp] theorem State.endOp_jobs (i : Nat) : (s.endOp i).jobs = s.jobs := rfl
@[simp] theorem State.endOp_fatalEsc (i : Nat) : (s.endOp i).fatalEsc = s.fatalEsc := rfl
@[simp] theorem State.endOp_lowOut (i : Nat) : (s.endOp i).lowOut = s.lowOut := rfl
@[simp] theorem State.endOp_withdrawn (i : Nat) : (s.endOp i).withdrawn = s.withdrawn := rfl
@[simp] theorem State.endOp_ev (i : Nat) : (s.endOp i).ev = s.ev := rfl
@[simp] theorem State.endOp_kf (i : Nat) : (s.endOp i).kf = s.kf := rfl
@[simp] theorem State.endOp_loupe (i : Nat) : (s.endOp i).loupe = s.loupe := rfl
@[simp] theorem State.endOp_core (i : Nat) : (s.endOp i).core = s.core := rfl
@[simp] theorem State.endOp_diagFail (i : Nat) : (s.endOp i).diagFail = s.diagFail := rfl
@[simp] theorem State.endOp_free (i : Nat) : (s.endOp i).free = s.free := rfl
@[simp] theorem State.endOp_out (i : Nat) : (s.endOp i).out = s.out := rfl
@[simp] theorem State.endOp_keys (i : Nat) : (s.endOp i).keys = s.keys := rfl
@[simp] theorem State.endOp_life (i : Nat) : (s.endOp i).life = s.life := rfl
@[simp] theorem State.endOp_cipher (i : Nat) : (s.endOp i).cipher = s.cipher := rfl
@[simp] theorem State.endOp_pow (i : Nat) : (s.endOp i).pow = s.pow := rfl
@[simp] theorem State.endOp_wins (i : Nat) : (s.endOp i).wins = s.wins := rfl
@[simp] theorem State.endOp_chan (i : Nat) : (s.endOp i).chan = s.chan := rfl
@[simp] theorem State.endOp_bezel (i : Nat) : (s.endOp i).bezel = s.bezel := rfl
@[simp] theorem State.endOp_vault (i : Nat) : (s.endOp i).vault = s.vault := rfl
@[simp] theorem State.endOp_twin (i : Nat) : (s.endOp i).twin = s.twin := rfl
@[simp] theorem State.endOp_claims (i : Nat) : (s.endOp i).claims = s.claims := rfl
@[simp] theorem State.endOp_tr (i : Nat) : (s.endOp i).tr = s.tr := rfl
@[simp] theorem State.endOp_mer (i : Nat) : (s.endOp i).mer = s.mer := rfl
@[simp] theorem State.endOp_fab (i : Nat) : (s.endOp i).fab = s.fab := rfl
@[simp] theorem State.endOp_tiers (i : Nat) : (s.endOp i).tiers = s.tiers := rfl
@[simp] theorem State.endOp_kex (i : Nat) : (s.endOp i).kex = s.kex := rfl
@[simp] theorem State.endOp_pending (i : Nat) : (s.endOp i).pending = s.pending := rfl

@[simp] theorem State.expertUsed_time (cls u : Nat) : (s.expertUsed cls u).time = s.time := rfl
@[simp] theorem State.expertUsed_mono (cls u : Nat) : (s.expertUsed cls u).mono = s.mono := rfl
@[simp] theorem State.expertUsed_regs (cls u : Nat) : (s.expertUsed cls u).regs = s.regs := rfl
@[simp] theorem State.expertUsed_quiet (cls u : Nat) : (s.expertUsed cls u).quiet = s.quiet := rfl
@[simp] theorem State.expertUsed_replay (cls u : Nat) : (s.expertUsed cls u).replay = s.replay := rfl
@[simp] theorem State.expertUsed_jobs (cls u : Nat) : (s.expertUsed cls u).jobs = s.jobs := rfl
@[simp] theorem State.expertUsed_fatalEsc (cls u : Nat) : (s.expertUsed cls u).fatalEsc = s.fatalEsc := rfl
@[simp] theorem State.expertUsed_lowOut (cls u : Nat) : (s.expertUsed cls u).lowOut = s.lowOut := rfl
@[simp] theorem State.expertUsed_withdrawn (cls u : Nat) : (s.expertUsed cls u).withdrawn = s.withdrawn := rfl
@[simp] theorem State.expertUsed_ev (cls u : Nat) : (s.expertUsed cls u).ev = s.ev := rfl
@[simp] theorem State.expertUsed_kf (cls u : Nat) : (s.expertUsed cls u).kf = s.kf := rfl
@[simp] theorem State.expertUsed_loupe (cls u : Nat) : (s.expertUsed cls u).loupe = s.loupe := rfl
@[simp] theorem State.expertUsed_core (cls u : Nat) : (s.expertUsed cls u).core = s.core := rfl
@[simp] theorem State.expertUsed_diagFail (cls u : Nat) : (s.expertUsed cls u).diagFail = s.diagFail := rfl
@[simp] theorem State.expertUsed_free (cls u : Nat) : (s.expertUsed cls u).free = s.free := rfl
@[simp] theorem State.expertUsed_out (cls u : Nat) : (s.expertUsed cls u).out = s.out := rfl
@[simp] theorem State.expertUsed_keys (cls u : Nat) : (s.expertUsed cls u).keys = s.keys := rfl
@[simp] theorem State.expertUsed_life (cls u : Nat) : (s.expertUsed cls u).life = s.life := rfl
@[simp] theorem State.expertUsed_cipher (cls u : Nat) : (s.expertUsed cls u).cipher = s.cipher := rfl
@[simp] theorem State.expertUsed_pow (cls u : Nat) : (s.expertUsed cls u).pow = s.pow := rfl
@[simp] theorem State.expertUsed_pipe (cls u : Nat) : (s.expertUsed cls u).pipe = s.pipe := rfl
@[simp] theorem State.expertUsed_wins (cls u : Nat) : (s.expertUsed cls u).wins = s.wins := rfl
@[simp] theorem State.expertUsed_chan (cls u : Nat) : (s.expertUsed cls u).chan = s.chan := rfl
@[simp] theorem State.expertUsed_bezel (cls u : Nat) : (s.expertUsed cls u).bezel = s.bezel := rfl
@[simp] theorem State.expertUsed_vault (cls u : Nat) : (s.expertUsed cls u).vault = s.vault := rfl
@[simp] theorem State.expertUsed_twin (cls u : Nat) : (s.expertUsed cls u).twin = s.twin := rfl
@[simp] theorem State.expertUsed_claims (cls u : Nat) : (s.expertUsed cls u).claims = s.claims := rfl
@[simp] theorem State.expertUsed_tr (cls u : Nat) : (s.expertUsed cls u).tr = s.tr := rfl
@[simp] theorem State.expertUsed_mer (cls u : Nat) : (s.expertUsed cls u).mer = s.mer := rfl
@[simp] theorem State.expertUsed_fab (cls u : Nat) : (s.expertUsed cls u).fab = s.fab := rfl
@[simp] theorem State.expertUsed_tiers (cls u : Nat) : (s.expertUsed cls u).tiers = s.tiers := rfl
@[simp] theorem State.expertUsed_kex (cls u : Nat) : (s.expertUsed cls u).kex = s.kex := rfl
@[simp] theorem State.expertUsed_pending (cls u : Nat) : (s.expertUsed cls u).pending = s.pending := rfl

@[simp] theorem State.popped_time : (s.popped).time = s.time := rfl
@[simp] theorem State.popped_mono : (s.popped).mono = s.mono := rfl
@[simp] theorem State.popped_regs : (s.popped).regs = s.regs := rfl
@[simp] theorem State.popped_xlast : (s.popped).xlast = s.xlast := rfl
@[simp] theorem State.popped_quiet : (s.popped).quiet = s.quiet := rfl
@[simp] theorem State.popped_replay : (s.popped).replay = s.replay := rfl
@[simp] theorem State.popped_jobs : (s.popped).jobs = s.jobs := rfl
@[simp] theorem State.popped_fatalEsc : (s.popped).fatalEsc = s.fatalEsc := rfl
@[simp] theorem State.popped_lowOut : (s.popped).lowOut = s.lowOut := rfl
@[simp] theorem State.popped_withdrawn : (s.popped).withdrawn = s.withdrawn := rfl
@[simp] theorem State.popped_ev : (s.popped).ev = s.ev := rfl
@[simp] theorem State.popped_kf : (s.popped).kf = s.kf := rfl
@[simp] theorem State.popped_loupe : (s.popped).loupe = s.loupe := rfl
@[simp] theorem State.popped_core : (s.popped).core = s.core := rfl
@[simp] theorem State.popped_diagFail : (s.popped).diagFail = s.diagFail := rfl
@[simp] theorem State.popped_free : (s.popped).free = s.free := rfl
@[simp] theorem State.popped_out : (s.popped).out = s.out := rfl
@[simp] theorem State.popped_keys : (s.popped).keys = s.keys := rfl
@[simp] theorem State.popped_life : (s.popped).life = s.life := rfl
@[simp] theorem State.popped_cipher : (s.popped).cipher = s.cipher := rfl
@[simp] theorem State.popped_pow : (s.popped).pow = s.pow := rfl
@[simp] theorem State.popped_pipe : (s.popped).pipe = s.pipe := rfl
@[simp] theorem State.popped_wins : (s.popped).wins = s.wins := rfl
@[simp] theorem State.popped_chan : (s.popped).chan = s.chan := rfl
@[simp] theorem State.popped_bezel : (s.popped).bezel = s.bezel := rfl
@[simp] theorem State.popped_vault : (s.popped).vault = s.vault := rfl
@[simp] theorem State.popped_twin : (s.popped).twin = s.twin := rfl
@[simp] theorem State.popped_claims : (s.popped).claims = s.claims := rfl
@[simp] theorem State.popped_tr : (s.popped).tr = s.tr := rfl
@[simp] theorem State.popped_mer : (s.popped).mer = s.mer := rfl
@[simp] theorem State.popped_fab : (s.popped).fab = s.fab := rfl
@[simp] theorem State.popped_tiers : (s.popped).tiers = s.tiers := rfl
@[simp] theorem State.popped_kex : (s.popped).kex = s.kex := rfl

@[simp] theorem State.arrive_time (c : Instr) : (s.arrive c).time = s.time := rfl
@[simp] theorem State.arrive_mono (c : Instr) : (s.arrive c).mono = s.mono := rfl
@[simp] theorem State.arrive_regs (c : Instr) : (s.arrive c).regs = s.regs := rfl
@[simp] theorem State.arrive_xlast (c : Instr) : (s.arrive c).xlast = s.xlast := rfl
@[simp] theorem State.arrive_quiet (c : Instr) : (s.arrive c).quiet = s.quiet := rfl
@[simp] theorem State.arrive_replay (c : Instr) : (s.arrive c).replay = s.replay := rfl
@[simp] theorem State.arrive_jobs (c : Instr) : (s.arrive c).jobs = s.jobs := rfl
@[simp] theorem State.arrive_fatalEsc (c : Instr) : (s.arrive c).fatalEsc = s.fatalEsc := rfl
@[simp] theorem State.arrive_lowOut (c : Instr) : (s.arrive c).lowOut = s.lowOut := rfl
@[simp] theorem State.arrive_withdrawn (c : Instr) : (s.arrive c).withdrawn = s.withdrawn := rfl
@[simp] theorem State.arrive_ev (c : Instr) : (s.arrive c).ev = s.ev := rfl
@[simp] theorem State.arrive_kf (c : Instr) : (s.arrive c).kf = s.kf := rfl
@[simp] theorem State.arrive_loupe (c : Instr) : (s.arrive c).loupe = s.loupe := rfl
@[simp] theorem State.arrive_core (c : Instr) : (s.arrive c).core = s.core := rfl
@[simp] theorem State.arrive_diagFail (c : Instr) : (s.arrive c).diagFail = s.diagFail := rfl
@[simp] theorem State.arrive_free (c : Instr) : (s.arrive c).free = s.free := rfl
@[simp] theorem State.arrive_out (c : Instr) : (s.arrive c).out = s.out := rfl
@[simp] theorem State.arrive_keys (c : Instr) : (s.arrive c).keys = s.keys := rfl
@[simp] theorem State.arrive_life (c : Instr) : (s.arrive c).life = s.life := rfl
@[simp] theorem State.arrive_cipher (c : Instr) : (s.arrive c).cipher = s.cipher := rfl
@[simp] theorem State.arrive_pow (c : Instr) : (s.arrive c).pow = s.pow := rfl
@[simp] theorem State.arrive_pipe (c : Instr) : (s.arrive c).pipe = s.pipe := rfl
@[simp] theorem State.arrive_wins (c : Instr) : (s.arrive c).wins = s.wins := rfl
@[simp] theorem State.arrive_chan (c : Instr) : (s.arrive c).chan = s.chan := rfl
@[simp] theorem State.arrive_bezel (c : Instr) : (s.arrive c).bezel = s.bezel := rfl
@[simp] theorem State.arrive_vault (c : Instr) : (s.arrive c).vault = s.vault := rfl
@[simp] theorem State.arrive_twin (c : Instr) : (s.arrive c).twin = s.twin := rfl
@[simp] theorem State.arrive_claims (c : Instr) : (s.arrive c).claims = s.claims := rfl
@[simp] theorem State.arrive_tr (c : Instr) : (s.arrive c).tr = s.tr := rfl
@[simp] theorem State.arrive_mer (c : Instr) : (s.arrive c).mer = s.mer := rfl
@[simp] theorem State.arrive_fab (c : Instr) : (s.arrive c).fab = s.fab := rfl
@[simp] theorem State.arrive_tiers (c : Instr) : (s.arrive c).tiers = s.tiers := rfl
@[simp] theorem State.arrive_kex (c : Instr) : (s.arrive c).kex = s.kex := rfl

@[simp] theorem State.before_time (c : Instr) : (s.before c).time = s.time := rfl
@[simp] theorem State.before_mono (c : Instr) : (s.before c).mono = s.mono := rfl
@[simp] theorem State.before_regs (c : Instr) : (s.before c).regs = s.regs := rfl
@[simp] theorem State.before_xlast (c : Instr) : (s.before c).xlast = s.xlast := rfl
@[simp] theorem State.before_quiet (c : Instr) : (s.before c).quiet = s.quiet := rfl
@[simp] theorem State.before_replay (c : Instr) : (s.before c).replay = s.replay := rfl
@[simp] theorem State.before_jobs (c : Instr) : (s.before c).jobs = s.jobs := rfl
@[simp] theorem State.before_fatalEsc (c : Instr) : (s.before c).fatalEsc = s.fatalEsc := rfl
@[simp] theorem State.before_lowOut (c : Instr) : (s.before c).lowOut = s.lowOut := rfl
@[simp] theorem State.before_withdrawn (c : Instr) : (s.before c).withdrawn = s.withdrawn := rfl
@[simp] theorem State.before_ev (c : Instr) : (s.before c).ev = s.ev := rfl
@[simp] theorem State.before_kf (c : Instr) : (s.before c).kf = s.kf := rfl
@[simp] theorem State.before_loupe (c : Instr) : (s.before c).loupe = s.loupe := rfl
@[simp] theorem State.before_core (c : Instr) : (s.before c).core = s.core := rfl
@[simp] theorem State.before_diagFail (c : Instr) : (s.before c).diagFail = s.diagFail := rfl
@[simp] theorem State.before_free (c : Instr) : (s.before c).free = s.free := rfl
@[simp] theorem State.before_out (c : Instr) : (s.before c).out = s.out := rfl
@[simp] theorem State.before_keys (c : Instr) : (s.before c).keys = s.keys := rfl
@[simp] theorem State.before_life (c : Instr) : (s.before c).life = s.life := rfl
@[simp] theorem State.before_cipher (c : Instr) : (s.before c).cipher = s.cipher := rfl
@[simp] theorem State.before_pow (c : Instr) : (s.before c).pow = s.pow := rfl
@[simp] theorem State.before_pipe (c : Instr) : (s.before c).pipe = s.pipe := rfl
@[simp] theorem State.before_wins (c : Instr) : (s.before c).wins = s.wins := rfl
@[simp] theorem State.before_chan (c : Instr) : (s.before c).chan = s.chan := rfl
@[simp] theorem State.before_bezel (c : Instr) : (s.before c).bezel = s.bezel := rfl
@[simp] theorem State.before_vault (c : Instr) : (s.before c).vault = s.vault := rfl
@[simp] theorem State.before_twin (c : Instr) : (s.before c).twin = s.twin := rfl
@[simp] theorem State.before_claims (c : Instr) : (s.before c).claims = s.claims := rfl
@[simp] theorem State.before_tr (c : Instr) : (s.before c).tr = s.tr := rfl
@[simp] theorem State.before_mer (c : Instr) : (s.before c).mer = s.mer := rfl
@[simp] theorem State.before_fab (c : Instr) : (s.before c).fab = s.fab := rfl
@[simp] theorem State.before_tiers (c : Instr) : (s.before c).tiers = s.tiers := rfl
@[simp] theorem State.before_kex (c : Instr) : (s.before c).kex = s.kex := rfl

theorem State.count_eq (cls u code n : Nat) : s.count cls u code n = { s with loupe := (s.count cls u code n).loupe } := by
  unfold State.count
  split
  · rfl
  · split <;> rfl

@[simp] theorem State.count_time (cls u code n : Nat) : (s.count cls u code n).time = s.time := by rw [State.count_eq]
@[simp] theorem State.count_mono (cls u code n : Nat) : (s.count cls u code n).mono = s.mono := by rw [State.count_eq]
@[simp] theorem State.count_regs (cls u code n : Nat) : (s.count cls u code n).regs = s.regs := by rw [State.count_eq]
@[simp] theorem State.count_xlast (cls u code n : Nat) : (s.count cls u code n).xlast = s.xlast := by rw [State.count_eq]
@[simp] theorem State.count_quiet (cls u code n : Nat) : (s.count cls u code n).quiet = s.quiet := by rw [State.count_eq]
@[simp] theorem State.count_replay (cls u code n : Nat) : (s.count cls u code n).replay = s.replay := by rw [State.count_eq]
@[simp] theorem State.count_jobs (cls u code n : Nat) : (s.count cls u code n).jobs = s.jobs := by rw [State.count_eq]
@[simp] theorem State.count_fatalEsc (cls u code n : Nat) : (s.count cls u code n).fatalEsc = s.fatalEsc := by rw [State.count_eq]
@[simp] theorem State.count_lowOut (cls u code n : Nat) : (s.count cls u code n).lowOut = s.lowOut := by rw [State.count_eq]
@[simp] theorem State.count_withdrawn (cls u code n : Nat) : (s.count cls u code n).withdrawn = s.withdrawn := by rw [State.count_eq]
@[simp] theorem State.count_ev (cls u code n : Nat) : (s.count cls u code n).ev = s.ev := by rw [State.count_eq]
@[simp] theorem State.count_kf (cls u code n : Nat) : (s.count cls u code n).kf = s.kf := by rw [State.count_eq]
@[simp] theorem State.count_core (cls u code n : Nat) : (s.count cls u code n).core = s.core := by rw [State.count_eq]
@[simp] theorem State.count_diagFail (cls u code n : Nat) : (s.count cls u code n).diagFail = s.diagFail := by rw [State.count_eq]
@[simp] theorem State.count_free (cls u code n : Nat) : (s.count cls u code n).free = s.free := by rw [State.count_eq]
@[simp] theorem State.count_out (cls u code n : Nat) : (s.count cls u code n).out = s.out := by rw [State.count_eq]
@[simp] theorem State.count_keys (cls u code n : Nat) : (s.count cls u code n).keys = s.keys := by rw [State.count_eq]
@[simp] theorem State.count_life (cls u code n : Nat) : (s.count cls u code n).life = s.life := by rw [State.count_eq]
@[simp] theorem State.count_cipher (cls u code n : Nat) : (s.count cls u code n).cipher = s.cipher := by rw [State.count_eq]
@[simp] theorem State.count_pow (cls u code n : Nat) : (s.count cls u code n).pow = s.pow := by rw [State.count_eq]
@[simp] theorem State.count_pipe (cls u code n : Nat) : (s.count cls u code n).pipe = s.pipe := by rw [State.count_eq]
@[simp] theorem State.count_wins (cls u code n : Nat) : (s.count cls u code n).wins = s.wins := by rw [State.count_eq]
@[simp] theorem State.count_chan (cls u code n : Nat) : (s.count cls u code n).chan = s.chan := by rw [State.count_eq]
@[simp] theorem State.count_bezel (cls u code n : Nat) : (s.count cls u code n).bezel = s.bezel := by rw [State.count_eq]
@[simp] theorem State.count_vault (cls u code n : Nat) : (s.count cls u code n).vault = s.vault := by rw [State.count_eq]
@[simp] theorem State.count_twin (cls u code n : Nat) : (s.count cls u code n).twin = s.twin := by rw [State.count_eq]
@[simp] theorem State.count_claims (cls u code n : Nat) : (s.count cls u code n).claims = s.claims := by rw [State.count_eq]
@[simp] theorem State.count_tr (cls u code n : Nat) : (s.count cls u code n).tr = s.tr := by rw [State.count_eq]
@[simp] theorem State.count_mer (cls u code n : Nat) : (s.count cls u code n).mer = s.mer := by rw [State.count_eq]
@[simp] theorem State.count_fab (cls u code n : Nat) : (s.count cls u code n).fab = s.fab := by rw [State.count_eq]
@[simp] theorem State.count_tiers (cls u code n : Nat) : (s.count cls u code n).tiers = s.tiers := by rw [State.count_eq]
@[simp] theorem State.count_kex (cls u code n : Nat) : (s.count cls u code n).kex = s.kex := by rw [State.count_eq]
@[simp] theorem State.count_pending (cls u code n : Nat) : (s.count cls u code n).pending = s.pending := by rw [State.count_eq]

@[simp] theorem State.modSeq_time (q : Nat) (g : Seq → Seq) : (s.modSeq q g).time = s.time := by
  unfold State.modSeq; split <;> rfl
@[simp] theorem State.modSeq_mono (q : Nat) (g : Seq → Seq) : (s.modSeq q g).mono = s.mono := by
  unfold State.modSeq; split <;> rfl
@[simp] theorem State.modSeq_regs (q : Nat) (g : Seq → Seq) : (s.modSeq q g).regs = s.regs := by
  unfold State.modSeq; split <;> rfl
@[simp] theorem State.modSeq_xlast (q : Nat) (g : Seq → Seq) : (s.modSeq q g).xlast = s.xlast := by
  unfold State.modSeq; split <;> rfl
@[simp] theorem State.modSeq_quiet (q : Nat) (g : Seq → Seq) : (s.modSeq q g).quiet = s.quiet := by
  unfold State.modSeq; split <;> rfl
@[simp] theorem State.modSeq_replay (q : Nat) (g : Seq → Seq) : (s.modSeq q g).replay = s.replay := by
  unfold State.modSeq; split <;> rfl
@[simp] theorem State.modSeq_jobs (q : Nat) (g : Seq → Seq) : (s.modSeq q g).jobs = s.jobs := by
  unfold State.modSeq; split <;> rfl
@[simp] theorem State.modSeq_fatalEsc (q : Nat) (g : Seq → Seq) : (s.modSeq q g).fatalEsc = s.fatalEsc := by
  unfold State.modSeq; split <;> rfl
@[simp] theorem State.modSeq_lowOut (q : Nat) (g : Seq → Seq) : (s.modSeq q g).lowOut = s.lowOut := by
  unfold State.modSeq; split <;> rfl
@[simp] theorem State.modSeq_withdrawn (q : Nat) (g : Seq → Seq) : (s.modSeq q g).withdrawn = s.withdrawn := by
  unfold State.modSeq; split <;> rfl
@[simp] theorem State.modSeq_ev (q : Nat) (g : Seq → Seq) : (s.modSeq q g).ev = s.ev := by
  unfold State.modSeq; split <;> rfl
@[simp] theorem State.modSeq_kf (q : Nat) (g : Seq → Seq) : (s.modSeq q g).kf = s.kf := by
  unfold State.modSeq; split <;> rfl
@[simp] theorem State.modSeq_loupe (q : Nat) (g : Seq → Seq) : (s.modSeq q g).loupe = s.loupe := by
  unfold State.modSeq; split <;> rfl
@[simp] theorem State.modSeq_core (q : Nat) (g : Seq → Seq) : (s.modSeq q g).core = s.core := by
  unfold State.modSeq; split <;> rfl
@[simp] theorem State.modSeq_diagFail (q : Nat) (g : Seq → Seq) : (s.modSeq q g).diagFail = s.diagFail := by
  unfold State.modSeq; split <;> rfl
@[simp] theorem State.modSeq_free (q : Nat) (g : Seq → Seq) : (s.modSeq q g).free = s.free := by
  unfold State.modSeq; split <;> rfl
@[simp] theorem State.modSeq_out (q : Nat) (g : Seq → Seq) : (s.modSeq q g).out = s.out := by
  unfold State.modSeq; split <;> rfl
@[simp] theorem State.modSeq_keys (q : Nat) (g : Seq → Seq) : (s.modSeq q g).keys = s.keys := by
  unfold State.modSeq; split <;> rfl
@[simp] theorem State.modSeq_life (q : Nat) (g : Seq → Seq) : (s.modSeq q g).life = s.life := by
  unfold State.modSeq; split <;> rfl
@[simp] theorem State.modSeq_cipher (q : Nat) (g : Seq → Seq) : (s.modSeq q g).cipher = s.cipher := by
  unfold State.modSeq; split <;> rfl
@[simp] theorem State.modSeq_pow (q : Nat) (g : Seq → Seq) : (s.modSeq q g).pow = s.pow := by
  unfold State.modSeq; split <;> rfl
@[simp] theorem State.modSeq_pipe (q : Nat) (g : Seq → Seq) : (s.modSeq q g).pipe = s.pipe := by
  unfold State.modSeq; split <;> rfl
@[simp] theorem State.modSeq_wins (q : Nat) (g : Seq → Seq) : (s.modSeq q g).wins = s.wins := by
  unfold State.modSeq; split <;> rfl
@[simp] theorem State.modSeq_chan (q : Nat) (g : Seq → Seq) : (s.modSeq q g).chan = s.chan := by
  unfold State.modSeq; split <;> rfl
@[simp] theorem State.modSeq_bezel (q : Nat) (g : Seq → Seq) : (s.modSeq q g).bezel = s.bezel := by
  unfold State.modSeq; split <;> rfl
@[simp] theorem State.modSeq_vault (q : Nat) (g : Seq → Seq) : (s.modSeq q g).vault = s.vault := by
  unfold State.modSeq; split <;> rfl
@[simp] theorem State.modSeq_twin (q : Nat) (g : Seq → Seq) : (s.modSeq q g).twin = s.twin := by
  unfold State.modSeq; split <;> rfl
@[simp] theorem State.modSeq_claims (q : Nat) (g : Seq → Seq) : (s.modSeq q g).claims = s.claims := by
  unfold State.modSeq; split <;> rfl
@[simp] theorem State.modSeq_tr (q : Nat) (g : Seq → Seq) : (s.modSeq q g).tr = s.tr := by
  unfold State.modSeq; split <;> rfl
@[simp] theorem State.modSeq_mer (q : Nat) (g : Seq → Seq) : (s.modSeq q g).mer = s.mer := by
  unfold State.modSeq; split <;> rfl
@[simp] theorem State.modSeq_fab (q : Nat) (g : Seq → Seq) : (s.modSeq q g).fab = s.fab := by
  unfold State.modSeq; split <;> rfl
@[simp] theorem State.modSeq_tiers (q : Nat) (g : Seq → Seq) : (s.modSeq q g).tiers = s.tiers := by
  unfold State.modSeq; split <;> rfl
@[simp] theorem State.modSeq_pending (q : Nat) (g : Seq → Seq) : (s.modSeq q g).pending = s.pending := by
  unfold State.modSeq; split <;> rfl

@[simp] theorem State.modOp_time (i : Nat) (g : Op → Op) : (s.modOp i g).time = s.time := by
  unfold State.modOp; split <;> rfl
@[simp] theorem State.modOp_mono (i : Nat) (g : Op → Op) : (s.modOp i g).mono = s.mono := by
  unfold State.modOp; split <;> rfl
@[simp] theorem State.modOp_regs (i : Nat) (g : Op → Op) : (s.modOp i g).regs = s.regs := by
  unfold State.modOp; split <;> rfl
@[simp] theorem State.modOp_xlast (i : Nat) (g : Op → Op) : (s.modOp i g).xlast = s.xlast := by
  unfold State.modOp; split <;> rfl
@[simp] theorem State.modOp_quiet (i : Nat) (g : Op → Op) : (s.modOp i g).quiet = s.quiet := by
  unfold State.modOp; split <;> rfl
@[simp] theorem State.modOp_replay (i : Nat) (g : Op → Op) : (s.modOp i g).replay = s.replay := by
  unfold State.modOp; split <;> rfl
@[simp] theorem State.modOp_jobs (i : Nat) (g : Op → Op) : (s.modOp i g).jobs = s.jobs := by
  unfold State.modOp; split <;> rfl
@[simp] theorem State.modOp_fatalEsc (i : Nat) (g : Op → Op) : (s.modOp i g).fatalEsc = s.fatalEsc := by
  unfold State.modOp; split <;> rfl
@[simp] theorem State.modOp_lowOut (i : Nat) (g : Op → Op) : (s.modOp i g).lowOut = s.lowOut := by
  unfold State.modOp; split <;> rfl
@[simp] theorem State.modOp_withdrawn (i : Nat) (g : Op → Op) : (s.modOp i g).withdrawn = s.withdrawn := by
  unfold State.modOp; split <;> rfl
@[simp] theorem State.modOp_ev (i : Nat) (g : Op → Op) : (s.modOp i g).ev = s.ev := by
  unfold State.modOp; split <;> rfl
@[simp] theorem State.modOp_kf (i : Nat) (g : Op → Op) : (s.modOp i g).kf = s.kf := by
  unfold State.modOp; split <;> rfl
@[simp] theorem State.modOp_loupe (i : Nat) (g : Op → Op) : (s.modOp i g).loupe = s.loupe := by
  unfold State.modOp; split <;> rfl
@[simp] theorem State.modOp_core (i : Nat) (g : Op → Op) : (s.modOp i g).core = s.core := by
  unfold State.modOp; split <;> rfl
@[simp] theorem State.modOp_diagFail (i : Nat) (g : Op → Op) : (s.modOp i g).diagFail = s.diagFail := by
  unfold State.modOp; split <;> rfl
@[simp] theorem State.modOp_free (i : Nat) (g : Op → Op) : (s.modOp i g).free = s.free := by
  unfold State.modOp; split <;> rfl
@[simp] theorem State.modOp_out (i : Nat) (g : Op → Op) : (s.modOp i g).out = s.out := by
  unfold State.modOp; split <;> rfl
@[simp] theorem State.modOp_keys (i : Nat) (g : Op → Op) : (s.modOp i g).keys = s.keys := by
  unfold State.modOp; split <;> rfl
@[simp] theorem State.modOp_life (i : Nat) (g : Op → Op) : (s.modOp i g).life = s.life := by
  unfold State.modOp; split <;> rfl
@[simp] theorem State.modOp_cipher (i : Nat) (g : Op → Op) : (s.modOp i g).cipher = s.cipher := by
  unfold State.modOp; split <;> rfl
@[simp] theorem State.modOp_pow (i : Nat) (g : Op → Op) : (s.modOp i g).pow = s.pow := by
  unfold State.modOp; split <;> rfl
@[simp] theorem State.modOp_wins (i : Nat) (g : Op → Op) : (s.modOp i g).wins = s.wins := by
  unfold State.modOp; split <;> rfl
@[simp] theorem State.modOp_chan (i : Nat) (g : Op → Op) : (s.modOp i g).chan = s.chan := by
  unfold State.modOp; split <;> rfl
@[simp] theorem State.modOp_bezel (i : Nat) (g : Op → Op) : (s.modOp i g).bezel = s.bezel := by
  unfold State.modOp; split <;> rfl
@[simp] theorem State.modOp_vault (i : Nat) (g : Op → Op) : (s.modOp i g).vault = s.vault := by
  unfold State.modOp; split <;> rfl
@[simp] theorem State.modOp_twin (i : Nat) (g : Op → Op) : (s.modOp i g).twin = s.twin := by
  unfold State.modOp; split <;> rfl
@[simp] theorem State.modOp_claims (i : Nat) (g : Op → Op) : (s.modOp i g).claims = s.claims := by
  unfold State.modOp; split <;> rfl
@[simp] theorem State.modOp_tr (i : Nat) (g : Op → Op) : (s.modOp i g).tr = s.tr := by
  unfold State.modOp; split <;> rfl
@[simp] theorem State.modOp_mer (i : Nat) (g : Op → Op) : (s.modOp i g).mer = s.mer := by
  unfold State.modOp; split <;> rfl
@[simp] theorem State.modOp_fab (i : Nat) (g : Op → Op) : (s.modOp i g).fab = s.fab := by
  unfold State.modOp; split <;> rfl
@[simp] theorem State.modOp_tiers (i : Nat) (g : Op → Op) : (s.modOp i g).tiers = s.tiers := by
  unfold State.modOp; split <;> rfl
@[simp] theorem State.modOp_kex (i : Nat) (g : Op → Op) : (s.modOp i g).kex = s.kex := by
  unfold State.modOp; split <;> rfl
@[simp] theorem State.modOp_pending (i : Nat) (g : Op → Op) : (s.modOp i g).pending = s.pending := by
  unfold State.modOp; split <;> rfl

@[simp] theorem State.advance_regs (d : Nat) : (s.advance d).regs = s.regs := rfl
@[simp] theorem State.reach_regs (t : Nat) : (s.reach t).regs = s.regs := by
  unfold State.reach; split <;> rfl
@[simp] theorem State.reachLocal_regs (t : Nat) : (s.reachLocal t).regs = s.regs := by
  unfold State.reachLocal; split <;> rfl
@[simp] theorem State.advance_xlast (d : Nat) : (s.advance d).xlast = s.xlast := rfl
@[simp] theorem State.reach_xlast (t : Nat) : (s.reach t).xlast = s.xlast := by
  unfold State.reach; split <;> rfl
@[simp] theorem State.reachLocal_xlast (t : Nat) : (s.reachLocal t).xlast = s.xlast := by
  unfold State.reachLocal; split <;> rfl
@[simp] theorem State.advance_quiet (d : Nat) : (s.advance d).quiet = s.quiet := rfl
@[simp] theorem State.reach_quiet (t : Nat) : (s.reach t).quiet = s.quiet := by
  unfold State.reach; split <;> rfl
@[simp] theorem State.reachLocal_quiet (t : Nat) : (s.reachLocal t).quiet = s.quiet := by
  unfold State.reachLocal; split <;> rfl
@[simp] theorem State.advance_replay (d : Nat) : (s.advance d).replay = s.replay := rfl
@[simp] theorem State.reach_replay (t : Nat) : (s.reach t).replay = s.replay := by
  unfold State.reach; split <;> rfl
@[simp] theorem State.reachLocal_replay (t : Nat) : (s.reachLocal t).replay = s.replay := by
  unfold State.reachLocal; split <;> rfl
@[simp] theorem State.advance_jobs (d : Nat) : (s.advance d).jobs = s.jobs := rfl
@[simp] theorem State.reach_jobs (t : Nat) : (s.reach t).jobs = s.jobs := by
  unfold State.reach; split <;> rfl
@[simp] theorem State.reachLocal_jobs (t : Nat) : (s.reachLocal t).jobs = s.jobs := by
  unfold State.reachLocal; split <;> rfl
@[simp] theorem State.advance_fatalEsc (d : Nat) : (s.advance d).fatalEsc = s.fatalEsc := rfl
@[simp] theorem State.reach_fatalEsc (t : Nat) : (s.reach t).fatalEsc = s.fatalEsc := by
  unfold State.reach; split <;> rfl
@[simp] theorem State.reachLocal_fatalEsc (t : Nat) : (s.reachLocal t).fatalEsc = s.fatalEsc := by
  unfold State.reachLocal; split <;> rfl
@[simp] theorem State.advance_lowOut (d : Nat) : (s.advance d).lowOut = s.lowOut := rfl
@[simp] theorem State.reach_lowOut (t : Nat) : (s.reach t).lowOut = s.lowOut := by
  unfold State.reach; split <;> rfl
@[simp] theorem State.reachLocal_lowOut (t : Nat) : (s.reachLocal t).lowOut = s.lowOut := by
  unfold State.reachLocal; split <;> rfl
@[simp] theorem State.advance_withdrawn (d : Nat) : (s.advance d).withdrawn = s.withdrawn := rfl
@[simp] theorem State.reach_withdrawn (t : Nat) : (s.reach t).withdrawn = s.withdrawn := by
  unfold State.reach; split <;> rfl
@[simp] theorem State.reachLocal_withdrawn (t : Nat) : (s.reachLocal t).withdrawn = s.withdrawn := by
  unfold State.reachLocal; split <;> rfl
@[simp] theorem State.advance_ev (d : Nat) : (s.advance d).ev = s.ev := rfl
@[simp] theorem State.reach_ev (t : Nat) : (s.reach t).ev = s.ev := by
  unfold State.reach; split <;> rfl
@[simp] theorem State.reachLocal_ev (t : Nat) : (s.reachLocal t).ev = s.ev := by
  unfold State.reachLocal; split <;> rfl
@[simp] theorem State.advance_kf (d : Nat) : (s.advance d).kf = s.kf := rfl
@[simp] theorem State.reach_kf (t : Nat) : (s.reach t).kf = s.kf := by
  unfold State.reach; split <;> rfl
@[simp] theorem State.reachLocal_kf (t : Nat) : (s.reachLocal t).kf = s.kf := by
  unfold State.reachLocal; split <;> rfl
@[simp] theorem State.advance_loupe (d : Nat) : (s.advance d).loupe = s.loupe := rfl
@[simp] theorem State.reach_loupe (t : Nat) : (s.reach t).loupe = s.loupe := by
  unfold State.reach; split <;> rfl
@[simp] theorem State.reachLocal_loupe (t : Nat) : (s.reachLocal t).loupe = s.loupe := by
  unfold State.reachLocal; split <;> rfl
@[simp] theorem State.advance_core (d : Nat) : (s.advance d).core = s.core := rfl
@[simp] theorem State.reach_core (t : Nat) : (s.reach t).core = s.core := by
  unfold State.reach; split <;> rfl
@[simp] theorem State.reachLocal_core (t : Nat) : (s.reachLocal t).core = s.core := by
  unfold State.reachLocal; split <;> rfl
@[simp] theorem State.advance_diagFail (d : Nat) : (s.advance d).diagFail = s.diagFail := rfl
@[simp] theorem State.reach_diagFail (t : Nat) : (s.reach t).diagFail = s.diagFail := by
  unfold State.reach; split <;> rfl
@[simp] theorem State.reachLocal_diagFail (t : Nat) : (s.reachLocal t).diagFail = s.diagFail := by
  unfold State.reachLocal; split <;> rfl
@[simp] theorem State.advance_free (d : Nat) : (s.advance d).free = s.free := rfl
@[simp] theorem State.reach_free (t : Nat) : (s.reach t).free = s.free := by
  unfold State.reach; split <;> rfl
@[simp] theorem State.reachLocal_free (t : Nat) : (s.reachLocal t).free = s.free := by
  unfold State.reachLocal; split <;> rfl
@[simp] theorem State.advance_out (d : Nat) : (s.advance d).out = s.out := rfl
@[simp] theorem State.reach_out (t : Nat) : (s.reach t).out = s.out := by
  unfold State.reach; split <;> rfl
@[simp] theorem State.reachLocal_out (t : Nat) : (s.reachLocal t).out = s.out := by
  unfold State.reachLocal; split <;> rfl
@[simp] theorem State.advance_keys (d : Nat) : (s.advance d).keys = s.keys := rfl
@[simp] theorem State.reach_keys (t : Nat) : (s.reach t).keys = s.keys := by
  unfold State.reach; split <;> rfl
@[simp] theorem State.reachLocal_keys (t : Nat) : (s.reachLocal t).keys = s.keys := by
  unfold State.reachLocal; split <;> rfl
@[simp] theorem State.advance_life (d : Nat) : (s.advance d).life = s.life := rfl
@[simp] theorem State.reach_life (t : Nat) : (s.reach t).life = s.life := by
  unfold State.reach; split <;> rfl
@[simp] theorem State.reachLocal_life (t : Nat) : (s.reachLocal t).life = s.life := by
  unfold State.reachLocal; split <;> rfl
@[simp] theorem State.advance_cipher (d : Nat) : (s.advance d).cipher = s.cipher := rfl
@[simp] theorem State.reach_cipher (t : Nat) : (s.reach t).cipher = s.cipher := by
  unfold State.reach; split <;> rfl
@[simp] theorem State.reachLocal_cipher (t : Nat) : (s.reachLocal t).cipher = s.cipher := by
  unfold State.reachLocal; split <;> rfl
@[simp] theorem State.advance_pow (d : Nat) : (s.advance d).pow = s.pow := rfl
@[simp] theorem State.reach_pow (t : Nat) : (s.reach t).pow = s.pow := by
  unfold State.reach; split <;> rfl
@[simp] theorem State.reachLocal_pow (t : Nat) : (s.reachLocal t).pow = s.pow := by
  unfold State.reachLocal; split <;> rfl
@[simp] theorem State.advance_pipe (d : Nat) : (s.advance d).pipe = s.pipe := rfl
@[simp] theorem State.reach_pipe (t : Nat) : (s.reach t).pipe = s.pipe := by
  unfold State.reach; split <;> rfl
@[simp] theorem State.reachLocal_pipe (t : Nat) : (s.reachLocal t).pipe = s.pipe := by
  unfold State.reachLocal; split <;> rfl
@[simp] theorem State.advance_wins (d : Nat) : (s.advance d).wins = s.wins := rfl
@[simp] theorem State.reach_wins (t : Nat) : (s.reach t).wins = s.wins := by
  unfold State.reach; split <;> rfl
@[simp] theorem State.reachLocal_wins (t : Nat) : (s.reachLocal t).wins = s.wins := by
  unfold State.reachLocal; split <;> rfl
@[simp] theorem State.advance_chan (d : Nat) : (s.advance d).chan = s.chan := rfl
@[simp] theorem State.reach_chan (t : Nat) : (s.reach t).chan = s.chan := by
  unfold State.reach; split <;> rfl
@[simp] theorem State.reachLocal_chan (t : Nat) : (s.reachLocal t).chan = s.chan := by
  unfold State.reachLocal; split <;> rfl
@[simp] theorem State.advance_bezel (d : Nat) : (s.advance d).bezel = s.bezel := rfl
@[simp] theorem State.reach_bezel (t : Nat) : (s.reach t).bezel = s.bezel := by
  unfold State.reach; split <;> rfl
@[simp] theorem State.reachLocal_bezel (t : Nat) : (s.reachLocal t).bezel = s.bezel := by
  unfold State.reachLocal; split <;> rfl
@[simp] theorem State.advance_vault (d : Nat) : (s.advance d).vault = s.vault := rfl
@[simp] theorem State.reach_vault (t : Nat) : (s.reach t).vault = s.vault := by
  unfold State.reach; split <;> rfl
@[simp] theorem State.reachLocal_vault (t : Nat) : (s.reachLocal t).vault = s.vault := by
  unfold State.reachLocal; split <;> rfl
@[simp] theorem State.advance_twin (d : Nat) : (s.advance d).twin = s.twin := rfl
@[simp] theorem State.reach_twin (t : Nat) : (s.reach t).twin = s.twin := by
  unfold State.reach; split <;> rfl
@[simp] theorem State.reachLocal_twin (t : Nat) : (s.reachLocal t).twin = s.twin := by
  unfold State.reachLocal; split <;> rfl
@[simp] theorem State.advance_claims (d : Nat) : (s.advance d).claims = s.claims := rfl
@[simp] theorem State.reach_claims (t : Nat) : (s.reach t).claims = s.claims := by
  unfold State.reach; split <;> rfl
@[simp] theorem State.reachLocal_claims (t : Nat) : (s.reachLocal t).claims = s.claims := by
  unfold State.reachLocal; split <;> rfl
@[simp] theorem State.advance_tr (d : Nat) : (s.advance d).tr = s.tr := rfl
@[simp] theorem State.reach_tr (t : Nat) : (s.reach t).tr = s.tr := by
  unfold State.reach; split <;> rfl
@[simp] theorem State.reachLocal_tr (t : Nat) : (s.reachLocal t).tr = s.tr := by
  unfold State.reachLocal; split <;> rfl
@[simp] theorem State.advance_mer (d : Nat) : (s.advance d).mer = s.mer := rfl
@[simp] theorem State.reach_mer (t : Nat) : (s.reach t).mer = s.mer := by
  unfold State.reach; split <;> rfl
@[simp] theorem State.reachLocal_mer (t : Nat) : (s.reachLocal t).mer = s.mer := by
  unfold State.reachLocal; split <;> rfl
@[simp] theorem State.advance_fab (d : Nat) : (s.advance d).fab = s.fab := rfl
@[simp] theorem State.reach_fab (t : Nat) : (s.reach t).fab = s.fab := by
  unfold State.reach; split <;> rfl
@[simp] theorem State.reachLocal_fab (t : Nat) : (s.reachLocal t).fab = s.fab := by
  unfold State.reachLocal; split <;> rfl
@[simp] theorem State.advance_tiers (d : Nat) : (s.advance d).tiers = s.tiers := rfl
@[simp] theorem State.reach_tiers (t : Nat) : (s.reach t).tiers = s.tiers := by
  unfold State.reach; split <;> rfl
@[simp] theorem State.reachLocal_tiers (t : Nat) : (s.reachLocal t).tiers = s.tiers := by
  unfold State.reachLocal; split <;> rfl
@[simp] theorem State.advance_kex (d : Nat) : (s.advance d).kex = s.kex := rfl
@[simp] theorem State.reach_kex (t : Nat) : (s.reach t).kex = s.kex := by
  unfold State.reach; split <;> rfl
@[simp] theorem State.reachLocal_kex (t : Nat) : (s.reachLocal t).kex = s.kex := by
  unfold State.reachLocal; split <;> rfl
@[simp] theorem State.advance_pending (d : Nat) : (s.advance d).pending = s.pending := rfl
@[simp] theorem State.reach_pending (t : Nat) : (s.reach t).pending = s.pending := by
  unfold State.reach; split <;> rfl
@[simp] theorem State.reachLocal_pending (t : Nat) : (s.reachLocal t).pending = s.pending := by
  unfold State.reachLocal; split <;> rfl

@[simp] theorem State.stepTaken_time (q : Nat) : (s.stepTaken q).time = s.time := by
  unfold State.stepTaken; split <;> rfl
@[simp] theorem State.stepTaken_mono (q : Nat) : (s.stepTaken q).mono = s.mono := by
  unfold State.stepTaken; split <;> rfl
@[simp] theorem State.stepTaken_regs (q : Nat) : (s.stepTaken q).regs = s.regs := by
  unfold State.stepTaken; split <;> rfl
@[simp] theorem State.stepTaken_xlast (q : Nat) : (s.stepTaken q).xlast = s.xlast := by
  unfold State.stepTaken; split <;> rfl
@[simp] theorem State.stepTaken_quiet (q : Nat) : (s.stepTaken q).quiet = s.quiet := by
  unfold State.stepTaken; split <;> rfl
@[simp] theorem State.stepTaken_replay (q : Nat) : (s.stepTaken q).replay = s.replay := by
  unfold State.stepTaken; split <;> rfl
@[simp] theorem State.stepTaken_jobs (q : Nat) : (s.stepTaken q).jobs = s.jobs := by
  unfold State.stepTaken; split <;> rfl
@[simp] theorem State.stepTaken_fatalEsc (q : Nat) : (s.stepTaken q).fatalEsc = s.fatalEsc := by
  unfold State.stepTaken; split <;> rfl
@[simp] theorem State.stepTaken_lowOut (q : Nat) : (s.stepTaken q).lowOut = s.lowOut := by
  unfold State.stepTaken; split <;> rfl
@[simp] theorem State.stepTaken_withdrawn (q : Nat) : (s.stepTaken q).withdrawn = s.withdrawn := by
  unfold State.stepTaken; split <;> rfl
@[simp] theorem State.stepTaken_ev (q : Nat) : (s.stepTaken q).ev = s.ev := by
  unfold State.stepTaken; split <;> rfl
@[simp] theorem State.stepTaken_kf (q : Nat) : (s.stepTaken q).kf = s.kf := by
  unfold State.stepTaken; split <;> rfl
@[simp] theorem State.stepTaken_loupe (q : Nat) : (s.stepTaken q).loupe = s.loupe := by
  unfold State.stepTaken; split <;> rfl
@[simp] theorem State.stepTaken_core (q : Nat) : (s.stepTaken q).core = s.core := by
  unfold State.stepTaken; split <;> rfl
@[simp] theorem State.stepTaken_diagFail (q : Nat) : (s.stepTaken q).diagFail = s.diagFail := by
  unfold State.stepTaken; split <;> rfl
@[simp] theorem State.stepTaken_free (q : Nat) : (s.stepTaken q).free = s.free := by
  unfold State.stepTaken; split <;> rfl
@[simp] theorem State.stepTaken_out (q : Nat) : (s.stepTaken q).out = s.out := by
  unfold State.stepTaken; split <;> rfl
@[simp] theorem State.stepTaken_keys (q : Nat) : (s.stepTaken q).keys = s.keys := by
  unfold State.stepTaken; split <;> rfl
@[simp] theorem State.stepTaken_cipher (q : Nat) : (s.stepTaken q).cipher = s.cipher := by
  unfold State.stepTaken; split <;> rfl
@[simp] theorem State.stepTaken_pow (q : Nat) : (s.stepTaken q).pow = s.pow := by
  unfold State.stepTaken; split <;> rfl
@[simp] theorem State.stepTaken_pipe (q : Nat) : (s.stepTaken q).pipe = s.pipe := by
  unfold State.stepTaken; split <;> rfl
@[simp] theorem State.stepTaken_wins (q : Nat) : (s.stepTaken q).wins = s.wins := by
  unfold State.stepTaken; split <;> rfl
@[simp] theorem State.stepTaken_chan (q : Nat) : (s.stepTaken q).chan = s.chan := by
  unfold State.stepTaken; split <;> rfl
@[simp] theorem State.stepTaken_bezel (q : Nat) : (s.stepTaken q).bezel = s.bezel := by
  unfold State.stepTaken; split <;> rfl
@[simp] theorem State.stepTaken_vault (q : Nat) : (s.stepTaken q).vault = s.vault := by
  unfold State.stepTaken; split <;> rfl
@[simp] theorem State.stepTaken_twin (q : Nat) : (s.stepTaken q).twin = s.twin := by
  unfold State.stepTaken; split <;> rfl
@[simp] theorem State.stepTaken_claims (q : Nat) : (s.stepTaken q).claims = s.claims := by
  unfold State.stepTaken; split <;> rfl
@[simp] theorem State.stepTaken_tr (q : Nat) : (s.stepTaken q).tr = s.tr := by
  unfold State.stepTaken; split <;> rfl
@[simp] theorem State.stepTaken_mer (q : Nat) : (s.stepTaken q).mer = s.mer := by
  unfold State.stepTaken; split <;> rfl
@[simp] theorem State.stepTaken_fab (q : Nat) : (s.stepTaken q).fab = s.fab := by
  unfold State.stepTaken; split <;> rfl
@[simp] theorem State.stepTaken_tiers (q : Nat) : (s.stepTaken q).tiers = s.tiers := by
  unfold State.stepTaken; split <;> rfl
@[simp] theorem State.stepTaken_kex (q : Nat) : (s.stepTaken q).kex = s.kex := by
  unfold State.stepTaken; split <;> rfl
@[simp] theorem State.stepTaken_pending (q : Nat) : (s.stepTaken q).pending = s.pending := by
  unfold State.stepTaken; split <;> rfl
@[simp] theorem State.stepTaken_fldOf (q : Nat) (c : Nat) (g : Fld) (w j : Nat) : (s.stepTaken q).fldOf c g w j = s.fldOf c g w j := by
  simp [State.fldOf]
@[simp] theorem State.stepTaken_fld (q : Nat) (g : Fld) (w j : Nat) : (s.stepTaken q).fld g w j = s.fld g w j := by
  simp [State.fld]
@[simp] theorem State.stepTaken_flag (q : Nat) (g : Fld) (w : Nat) : (s.stepTaken q).flag g w = s.flag g w := by
  simp [State.flag]
@[simp] theorem State.stepTaken_seq (q k : Nat) : (s.stepTaken q).seq? k = s.seq? k := by simp [State.seq?]

/-! ## Readers -/

@[simp] theorem State.fldOf_congr {t : State} (h : t.regs = s.regs) (cls : Nat) (f : Fld) (u i : Nat) :
    t.fldOf cls f u i = s.fldOf cls f u i := by simp [State.fldOf, h]

@[simp] theorem State.setFldOf_seq (cls : Nat) (f : Fld) (u v i : Nat) (k : Nat) : (s.setFldOf cls f u v i).seq? k = s.seq? k := rfl
@[simp] theorem State.setFldOf_qp (cls : Nat) (f : Fld) (u v i : Nat) (k : Nat) : (s.setFldOf cls f u v i).qp k = s.qp k := rfl
@[simp] theorem State.setFldOf_op (cls : Nat) (f : Fld) (u v i : Nat) (k : Nat) : (s.setFldOf cls f u v i).op? k = s.op? k := rfl
@[simp] theorem State.setFldOf_slot (cls : Nat) (f : Fld) (u v i : Nat) (k : Nat) : (s.setFldOf cls f u v i).slot k = s.slot k := rfl
@[simp] theorem State.setFld_seq (f : Fld) (u v i : Nat) (k : Nat) : (s.setFld f u v i).seq? k = s.seq? k := rfl
@[simp] theorem State.setFld_qp (f : Fld) (u v i : Nat) (k : Nat) : (s.setFld f u v i).qp k = s.qp k := rfl
@[simp] theorem State.setFld_op (f : Fld) (u v i : Nat) (k : Nat) : (s.setFld f u v i).op? k = s.op? k := rfl
@[simp] theorem State.setFld_slot (f : Fld) (u v i : Nat) (k : Nat) : (s.setFld f u v i).slot k = s.slot k := rfl
@[simp] theorem State.emit_fldOf (o : Out) (k : Nat) (g : Fld) (w j : Nat) : (s.emit o).fldOf k g w j = s.fldOf k g w j := rfl
@[simp] theorem State.emit_fld (o : Out) (g : Fld) (w j : Nat) : (s.emit o).fld g w j = s.fld g w j := rfl
@[simp] theorem State.emit_flag (o : Out) (g : Fld) (w : Nat) : (s.emit o).flag g w = s.flag g w := rfl
@[simp] theorem State.emit_seq (o : Out) (k : Nat) : (s.emit o).seq? k = s.seq? k := rfl
@[simp] theorem State.emit_qp (o : Out) (k : Nat) : (s.emit o).qp k = s.qp k := rfl
@[simp] theorem State.emit_op (o : Out) (k : Nat) : (s.emit o).op? k = s.op? k := rfl
@[simp] theorem State.emit_slot (o : Out) (k : Nat) : (s.emit o).slot k = s.slot k := rfl
@[simp] theorem State.answer_fldOf (p : Path) (st : Status) (v : Nat) (k : Nat) (g : Fld) (w j : Nat) : (s.answer p st v).fldOf k g w j = s.fldOf k g w j := rfl
@[simp] theorem State.answer_fld (p : Path) (st : Status) (v : Nat) (g : Fld) (w j : Nat) : (s.answer p st v).fld g w j = s.fld g w j := rfl
@[simp] theorem State.answer_flag (p : Path) (st : Status) (v : Nat) (g : Fld) (w : Nat) : (s.answer p st v).flag g w = s.flag g w := rfl
@[simp] theorem State.answer_seq (p : Path) (st : Status) (v : Nat) (k : Nat) : (s.answer p st v).seq? k = s.seq? k := rfl
@[simp] theorem State.answer_qp (p : Path) (st : Status) (v : Nat) (k : Nat) : (s.answer p st v).qp k = s.qp k := rfl
@[simp] theorem State.answer_op (p : Path) (st : Status) (v : Nat) (k : Nat) : (s.answer p st v).op? k = s.op? k := rfl
@[simp] theorem State.answer_slot (p : Path) (st : Status) (v : Nat) (k : Nat) : (s.answer p st v).slot k = s.slot k := rfl
@[simp] theorem State.setSeq_fldOf (q : Nat) (x : Seq) (k : Nat) (g : Fld) (w j : Nat) : (s.setSeq q x).fldOf k g w j = s.fldOf k g w j := rfl
@[simp] theorem State.setSeq_fld (q : Nat) (x : Seq) (g : Fld) (w j : Nat) : (s.setSeq q x).fld g w j = s.fld g w j := rfl
@[simp] theorem State.setSeq_flag (q : Nat) (x : Seq) (g : Fld) (w : Nat) : (s.setSeq q x).flag g w = s.flag g w := rfl
@[simp] theorem State.setSeq_qp (q : Nat) (x : Seq) (k : Nat) : (s.setSeq q x).qp k = s.qp k := rfl
@[simp] theorem State.setSeq_op (q : Nat) (x : Seq) (k : Nat) : (s.setSeq q x).op? k = s.op? k := rfl
@[simp] theorem State.setSeq_slot (q : Nat) (x : Seq) (k : Nat) : (s.setSeq q x).slot k = s.slot k := rfl
@[simp] theorem State.setRingSt_fldOf (r : Nat) (x : RingSt) (k : Nat) (g : Fld) (w j : Nat) : (s.setRingSt r x).fldOf k g w j = s.fldOf k g w j := rfl
@[simp] theorem State.setRingSt_fld (r : Nat) (x : RingSt) (g : Fld) (w j : Nat) : (s.setRingSt r x).fld g w j = s.fld g w j := rfl
@[simp] theorem State.setRingSt_flag (r : Nat) (x : RingSt) (g : Fld) (w : Nat) : (s.setRingSt r x).flag g w = s.flag g w := rfl
@[simp] theorem State.setRingSt_qp (r : Nat) (x : RingSt) (k : Nat) : (s.setRingSt r x).qp k = s.qp k := rfl
@[simp] theorem State.setRingSt_op (r : Nat) (x : RingSt) (k : Nat) : (s.setRingSt r x).op? k = s.op? k := rfl
@[simp] theorem State.setRingSt_slot (r : Nat) (x : RingSt) (k : Nat) : (s.setRingSt r x).slot k = s.slot k := rfl
@[simp] theorem State.setQp_fldOf (n : Nat) (q : Qp) (k : Nat) (g : Fld) (w j : Nat) : (s.setQp n q).fldOf k g w j = s.fldOf k g w j := rfl
@[simp] theorem State.setQp_fld (n : Nat) (q : Qp) (g : Fld) (w j : Nat) : (s.setQp n q).fld g w j = s.fld g w j := rfl
@[simp] theorem State.setQp_flag (n : Nat) (q : Qp) (g : Fld) (w : Nat) : (s.setQp n q).flag g w = s.flag g w := rfl
@[simp] theorem State.setQp_seq (n : Nat) (q : Qp) (k : Nat) : (s.setQp n q).seq? k = s.seq? k := rfl
@[simp] theorem State.setQp_op (n : Nat) (q : Qp) (k : Nat) : (s.setQp n q).op? k = s.op? k := rfl
@[simp] theorem State.setQp_slot (n : Nat) (q : Qp) (k : Nat) : (s.setQp n q).slot k = s.slot k := rfl
@[simp] theorem State.modQp_fldOf (n : Nat) (f : Qp → Qp) (k : Nat) (g : Fld) (w j : Nat) : (s.modQp n f).fldOf k g w j = s.fldOf k g w j := rfl
@[simp] theorem State.modQp_fld (n : Nat) (f : Qp → Qp) (g : Fld) (w j : Nat) : (s.modQp n f).fld g w j = s.fld g w j := rfl
@[simp] theorem State.modQp_flag (n : Nat) (f : Qp → Qp) (g : Fld) (w : Nat) : (s.modQp n f).flag g w = s.flag g w := rfl
@[simp] theorem State.modQp_seq (n : Nat) (f : Qp → Qp) (k : Nat) : (s.modQp n f).seq? k = s.seq? k := rfl
@[simp] theorem State.modQp_op (n : Nat) (f : Qp → Qp) (k : Nat) : (s.modQp n f).op? k = s.op? k := rfl
@[simp] theorem State.modQp_slot (n : Nat) (f : Qp → Qp) (k : Nat) : (s.modQp n f).slot k = s.slot k := rfl
@[simp] theorem State.setSlot_fldOf (n : Nat) (y : KeySlot) (k : Nat) (g : Fld) (w j : Nat) : (s.setSlot n y).fldOf k g w j = s.fldOf k g w j := rfl
@[simp] theorem State.setSlot_fld (n : Nat) (y : KeySlot) (g : Fld) (w j : Nat) : (s.setSlot n y).fld g w j = s.fld g w j := rfl
@[simp] theorem State.setSlot_flag (n : Nat) (y : KeySlot) (g : Fld) (w : Nat) : (s.setSlot n y).flag g w = s.flag g w := rfl
@[simp] theorem State.setSlot_seq (n : Nat) (y : KeySlot) (k : Nat) : (s.setSlot n y).seq? k = s.seq? k := rfl
@[simp] theorem State.setSlot_qp (n : Nat) (y : KeySlot) (k : Nat) : (s.setSlot n y).qp k = s.qp k := rfl
@[simp] theorem State.setSlot_op (n : Nat) (y : KeySlot) (k : Nat) : (s.setSlot n y).op? k = s.op? k := rfl
@[simp] theorem State.setPmLine_fldOf (line : Nat) (d : List Byte) (k : Nat) (g : Fld) (w j : Nat) : (s.setPmLine line d).fldOf k g w j = s.fldOf k g w j := rfl
@[simp] theorem State.setPmLine_fld (line : Nat) (d : List Byte) (g : Fld) (w j : Nat) : (s.setPmLine line d).fld g w j = s.fld g w j := rfl
@[simp] theorem State.setPmLine_flag (line : Nat) (d : List Byte) (g : Fld) (w : Nat) : (s.setPmLine line d).flag g w = s.flag g w := rfl
@[simp] theorem State.setPmLine_seq (line : Nat) (d : List Byte) (k : Nat) : (s.setPmLine line d).seq? k = s.seq? k := rfl
@[simp] theorem State.setPmLine_qp (line : Nat) (d : List Byte) (k : Nat) : (s.setPmLine line d).qp k = s.qp k := rfl
@[simp] theorem State.setPmLine_slot (line : Nat) (d : List Byte) (k : Nat) : (s.setPmLine line d).slot k = s.slot k := rfl
@[simp] theorem State.setChk_fldOf (line : Nat) (e : BitVec 64 × BitVec 64) (k : Nat) (g : Fld) (w j : Nat) : (s.setChk line e).fldOf k g w j = s.fldOf k g w j := rfl
@[simp] theorem State.setChk_fld (line : Nat) (e : BitVec 64 × BitVec 64) (g : Fld) (w j : Nat) : (s.setChk line e).fld g w j = s.fld g w j := rfl
@[simp] theorem State.setChk_flag (line : Nat) (e : BitVec 64 × BitVec 64) (g : Fld) (w : Nat) : (s.setChk line e).flag g w = s.flag g w := rfl
@[simp] theorem State.setChk_seq (line : Nat) (e : BitVec 64 × BitVec 64) (k : Nat) : (s.setChk line e).seq? k = s.seq? k := rfl
@[simp] theorem State.setChk_qp (line : Nat) (e : BitVec 64 × BitVec 64) (k : Nat) : (s.setChk line e).qp k = s.qp k := rfl
@[simp] theorem State.setChk_slot (line : Nat) (e : BitVec 64 × BitVec 64) (k : Nat) : (s.setChk line e).slot k = s.slot k := rfl
@[simp] theorem State.endOp_fldOf (i : Nat) (k : Nat) (g : Fld) (w j : Nat) : (s.endOp i).fldOf k g w j = s.fldOf k g w j := rfl
@[simp] theorem State.endOp_fld (i : Nat) (g : Fld) (w j : Nat) : (s.endOp i).fld g w j = s.fld g w j := rfl
@[simp] theorem State.endOp_flag (i : Nat) (g : Fld) (w : Nat) : (s.endOp i).flag g w = s.flag g w := rfl
@[simp] theorem State.endOp_seq (i : Nat) (k : Nat) : (s.endOp i).seq? k = s.seq? k := rfl
@[simp] theorem State.endOp_qp (i : Nat) (k : Nat) : (s.endOp i).qp k = s.qp k := rfl
@[simp] theorem State.endOp_slot (i : Nat) (k : Nat) : (s.endOp i).slot k = s.slot k := rfl
@[simp] theorem State.expertUsed_fldOf (cls u : Nat) (k : Nat) (g : Fld) (w j : Nat) : (s.expertUsed cls u).fldOf k g w j = s.fldOf k g w j := rfl
@[simp] theorem State.expertUsed_fld (cls u : Nat) (g : Fld) (w j : Nat) : (s.expertUsed cls u).fld g w j = s.fld g w j := rfl
@[simp] theorem State.expertUsed_flag (cls u : Nat) (g : Fld) (w : Nat) : (s.expertUsed cls u).flag g w = s.flag g w := rfl
@[simp] theorem State.expertUsed_seq (cls u : Nat) (k : Nat) : (s.expertUsed cls u).seq? k = s.seq? k := rfl
@[simp] theorem State.expertUsed_qp (cls u : Nat) (k : Nat) : (s.expertUsed cls u).qp k = s.qp k := rfl
@[simp] theorem State.expertUsed_op (cls u : Nat) (k : Nat) : (s.expertUsed cls u).op? k = s.op? k := rfl
@[simp] theorem State.expertUsed_slot (cls u : Nat) (k : Nat) : (s.expertUsed cls u).slot k = s.slot k := rfl
@[simp] theorem State.popped_fldOf (k : Nat) (g : Fld) (w j : Nat) : (s.popped).fldOf k g w j = s.fldOf k g w j := rfl
@[simp] theorem State.popped_fld (g : Fld) (w j : Nat) : (s.popped).fld g w j = s.fld g w j := rfl
@[simp] theorem State.popped_flag (g : Fld) (w : Nat) : (s.popped).flag g w = s.flag g w := rfl
@[simp] theorem State.popped_seq (k : Nat) : (s.popped).seq? k = s.seq? k := rfl
@[simp] theorem State.popped_qp (k : Nat) : (s.popped).qp k = s.qp k := rfl
@[simp] theorem State.popped_op (k : Nat) : (s.popped).op? k = s.op? k := rfl
@[simp] theorem State.popped_slot (k : Nat) : (s.popped).slot k = s.slot k := rfl
@[simp] theorem State.arrive_fldOf (c : Instr) (k : Nat) (g : Fld) (w j : Nat) : (s.arrive c).fldOf k g w j = s.fldOf k g w j := rfl
@[simp] theorem State.arrive_fld (c : Instr) (g : Fld) (w j : Nat) : (s.arrive c).fld g w j = s.fld g w j := rfl
@[simp] theorem State.arrive_flag (c : Instr) (g : Fld) (w : Nat) : (s.arrive c).flag g w = s.flag g w := rfl
@[simp] theorem State.arrive_seq (c : Instr) (k : Nat) : (s.arrive c).seq? k = s.seq? k := rfl
@[simp] theorem State.arrive_qp (c : Instr) (k : Nat) : (s.arrive c).qp k = s.qp k := rfl
@[simp] theorem State.arrive_op (c : Instr) (k : Nat) : (s.arrive c).op? k = s.op? k := rfl
@[simp] theorem State.arrive_slot (c : Instr) (k : Nat) : (s.arrive c).slot k = s.slot k := rfl
@[simp] theorem State.before_fldOf (c : Instr) (k : Nat) (g : Fld) (w j : Nat) : (s.before c).fldOf k g w j = s.fldOf k g w j := rfl
@[simp] theorem State.before_fld (c : Instr) (g : Fld) (w j : Nat) : (s.before c).fld g w j = s.fld g w j := rfl
@[simp] theorem State.before_flag (c : Instr) (g : Fld) (w : Nat) : (s.before c).flag g w = s.flag g w := rfl
@[simp] theorem State.before_seq (c : Instr) (k : Nat) : (s.before c).seq? k = s.seq? k := rfl
@[simp] theorem State.before_qp (c : Instr) (k : Nat) : (s.before c).qp k = s.qp k := rfl
@[simp] theorem State.before_op (c : Instr) (k : Nat) : (s.before c).op? k = s.op? k := rfl
@[simp] theorem State.before_slot (c : Instr) (k : Nat) : (s.before c).slot k = s.slot k := rfl

@[simp] theorem State.count_fldOf (cls u code n c : Nat) (g : Fld) (w j : Nat) :
    (s.count cls u code n).fldOf c g w j = s.fldOf c g w j := by simp [State.fldOf]
@[simp] theorem State.count_fld (cls u code n : Nat) (g : Fld) (w j : Nat) :
    (s.count cls u code n).fld g w j = s.fld g w j := by simp [State.fld]
@[simp] theorem State.count_flag (cls u code n : Nat) (g : Fld) (w : Nat) :
    (s.count cls u code n).flag g w = s.flag g w := by simp [State.flag]
@[simp] theorem State.count_seq (cls u code n k : Nat) : (s.count cls u code n).seq? k = s.seq? k := by simp [State.seq?]
@[simp] theorem State.modSeq_fldOf (q : Nat) (f : Seq → Seq) (c : Nat) (g : Fld) (w j : Nat) :
    (s.modSeq q f).fldOf c g w j = s.fldOf c g w j := by simp [State.fldOf]
@[simp] theorem State.modSeq_fld (q : Nat) (f : Seq → Seq) (g : Fld) (w j : Nat) :
    (s.modSeq q f).fld g w j = s.fld g w j := by simp [State.fld]
@[simp] theorem State.modSeq_flag (q : Nat) (f : Seq → Seq) (g : Fld) (w : Nat) :
    (s.modSeq q f).flag g w = s.flag g w := by simp [State.flag]

/-! ## A read after a write -/

@[simp] theorem State.seq_setSeq (q : Nat) (x : Seq) : (s.setSeq q x).seq? q = some x := by simp [State.seq?, State.setSeq]

theorem State.seq_setSeq_other (q k : Nat) (x : Seq) (h : k ≠ q) : (s.setSeq q x).seq? k = s.seq? k := by
  simp [State.seq?, State.setSeq, SMap.look_ins_other _ _ h]

@[simp] theorem State.setSeq_setSeq (q : Nat) (x y : Seq) : (s.setSeq q x).setSeq q y = s.setSeq q y := by
  simp [State.setSeq]

@[simp] theorem State.modSeq_setSeq (q : Nat) (x : Seq) (f : Seq → Seq) : (s.setSeq q x).modSeq q f = s.setSeq q (f x) := by
  simp [State.modSeq]

/-- A queue that a command has just come to the front of, without its front. -/
@[simp] theorem State.before_popped (c : Instr) : (s.before c).popped = s := rfl

@[simp] theorem State.before_pending (c : Instr) : (s.before c).pending = c :: s.pending := rfl

/-- R14, R253: both clocks after d units. -/
theorem State.advance_mono (d : Nat) : (s.advance d).mono = s.mono + d := rfl

theorem State.advance_time (d : Nat) (h : s.pow.state ≠ .p4) : (s.advance d).time = (s.time + d) % 2 ^ 80 := by
  simp [State.advance, h]

end Sys2Proof.Machine
end

