-- ==== Sys2Proof/Laws/Chain.lean ====
section
/-! SUPPORT. How a link runs (chapter 3): what the shared operation of all links comes to when the chain stands at a legal
link that it may issue. -/

namespace Sys2Proof.Machine

@[simp] theorem count_isAsync (s : State) (c u e n : Nat) (x : Seq) (op : Nat) (t : Sets) :
    (s.count c u e n).isAsync x op t = s.isAsync x op t := by simp [State.isAsync]

@[simp] theorem setSeq_isAsync (s : State) (q : Nat) (y x : Seq) (op : Nat) (t : Sets) :
    (s.setSeq q y).isAsync x op t = s.isAsync x op t := by simp [State.isAsync]

@[simp] theorem stepTaken_isAsync (s : State) (q : Nat) (x : Seq) (op : Nat) (t : Sets) :
    (s.stepTaken q).isAsync x op t = s.isAsync x op t := by simp [State.isAsync]

@[simp] theorem stepTaken_lacksPriv (s : State) (q : Nat) (x : Seq) (op : Nat) (t : Sets) :
    (s.stepTaken q).lacksPriv x op t = s.lacksPriv x op t := by simp [State.lacksPriv]

theorem isAsync_congr (s : State) (x y : Seq) (op : Nat) (t : Sets) (h : x.ring = y.ring) :
    s.isAsync x op t = s.isAsync y op t := by simp [State.isAsync, h]

/-- A link that a chain may issue runs: its effect in the state that counts it, and what that comes to (R71, R87, R90). -/
theorem runLink_of_atLink {s : State} {q op : Nat} {l : Link} {x : Seq} (f : LinkEffect) (h : s.atLink q op l x) :
    s.runLink op f q l = .next
      ((f q l (settings l op) x.counted (s.issuing q x)).2.linkCame q op l (s.isAsync x op (settings l op))
        (f q l (settings l op) x.counted (s.issuing q x)).1) := by
  obtain ⟨hq, hs, hm, hw, ha, hb, hp, hh⟩ := h
  have hu : q < unitCount 0x70 := by
    have : unitCount 0x70 = 32 := by decide
    omega
  have e1 : s.isAsync { x with count := x.count + 1, wait := none } op (settings l op) =
      s.isAsync x op (settings l op) := rfl
  have e2 : Seq.held { x with count := x.count + 1, wait := none } (s.isAsync x op (settings l op)) (settings l op) =
      x.held (s.isAsync x op (settings l op)) (settings l op) := rfl
  simp only [State.runLink, onUnit, hu, if_true, hs, hm, ha, and_self, State.issue, hb, Option.isSome_none,
    Bool.false_eq_true, if_false, hp, hw, Option.isNone_none, State.issuing, Seq.counted, State.linkCame, count_isAsync,
    setSeq_isAsync, stepTaken_isAsync, stepTaken_lacksPriv, e1, e2, hh]

/-- The same, with what the effect comes to named. -/
theorem runLink_as {s : State} {q op : Nat} {l : Link} {x : Seq} {f : LinkEffect} {out : LinkOut} {w : State}
    (h : s.atLink q op l x) (hf : f q l (settings l op) x.counted (s.issuing q x) = (out, w)) :
    s.runLink op f q l = .next (w.linkCame q op l (s.isAsync x op (settings l op)) out) := by
  rw [runLink_of_atLink f h, hf]

/-- Only the data links may be asynchronous (Table 3.3). -/
theorem isAsync_false (s : State) (x : Seq) (op : Nat) (t : Sets) (h : isData op = false) : s.isAsync x op t = false := by
  simp [State.isAsync, h]

theorem runLink_sync {s : State} {q op : Nat} {l : Link} {x : Seq} {f : LinkEffect} {out : LinkOut} {w : State}
    (h : s.atLink q op l x) (hd : isData op = false)
    (hf : f q l (settings l op) x.counted (s.issuing q x) = (out, w)) :
    s.runLink op f q l = .next (w.linkCame q op l false out) := by
  rw [runLink_as h hf, isAsync_false _ _ _ _ hd]

/-- A link that goes on with the chain left as y. -/
theorem linkCame_next (s : State) (q op : Nat) (l : Link) (a : Bool) (y : Seq) (h0 : y.wait = none)
    (h : y.pc + y.linkWords < y.words.length) :
    (s.setSeq q y).linkCame q op l a .next =
      (s.setSeq q { y with pc := y.pc + y.linkWords, after0 := op == 0x18 && immN l == 0 }).serve := by
  have h1 : ({ y with after0 := op == 0x18 && immN l == 0 } : Seq).linkWords = y.linkWords := rfl
  simp only [State.linkCame, State.modSeq_setSeq, State.settleLink, State.seq_setSeq, State.goOn, State.standAt, h1]
  have : ¬ y.words.length ≤ y.pc + y.linkWords := by omega
  simp [this, h0]

/-- A link that jumps to word t inside the image. -/
theorem linkCame_jump (s : State) (q op : Nat) (l : Link) (a : Bool) (y : Seq) (t : Nat) (h0 : y.wait = none)
    (h : t < y.words.length) :
    (s.setSeq q y).linkCame q op l a (.jump t) =
      (s.setSeq q { y with pc := t, after0 := op == 0x18 && immN l == 0 }).serve := by
  simp only [State.linkCame, State.modSeq_setSeq, State.settleLink, State.seq_setSeq, State.standAt]
  have : ¬ y.words.length ≤ t := by omega
  simp [this, h0]

@[simp] theorem setR_words (x : Seq) (r v : Nat) : (x.setR r v).words = x.words := by unfold Seq.setR; split <;> rfl
@[simp] theorem setR_pc (x : Seq) (r v : Nat) : (x.setR r v).pc = x.pc := by unfold Seq.setR; split <;> rfl
@[simp] theorem setR_wait (x : Seq) (r v : Nat) : (x.setR r v).wait = x.wait := by unfold Seq.setR; split <;> rfl
@[simp] theorem setR_asyncs (x : Seq) (r v : Nat) : (x.setR r v).asyncs = x.asyncs := by unfold Seq.setR; split <;> rfl
@[simp] theorem setR_linkWords (x : Seq) (r v : Nat) : (x.setR r v).linkWords = x.linkWords := by simp [Seq.linkWords]
@[simp] theorem counted_words (x : Seq) : x.counted.words = x.words := rfl
@[simp] theorem counted_pc (x : Seq) : x.counted.pc = x.pc := rfl
@[simp] theorem counted_wait (x : Seq) : x.counted.wait = none := rfl
@[simp] theorem counted_starts (x : Seq) : x.counted.starts = x.starts := rfl
@[simp] theorem counted_linkWords (x : Seq) : x.counted.linkWords = x.linkWords := rfl
@[simp] theorem counted_r (x : Seq) (r : Nat) : x.counted.r r = x.r r := rfl

/-- A link that sets register d and goes on (R66, R67). -/
theorem linkSets_came (s : State) (q op : Nat) (l : Link) (a : Bool) (x : Seq) (v : Nat) (hn : x.hasNext)
    (h18 : (op == 0x18 && immN l == 0) = false) :
    ((s.issuing q x).linkSets q l v).2.linkCame q op l a ((s.issuing q x).linkSets q l v).1 =
      s.linkTo q (x.wentOn l.d.toNat v) := by
  simp only [State.linkSets, State.issuing, State.modSeq_setSeq]
  rw [linkCame_next _ _ _ _ _ _ (by simp) (by simpa [Seq.hasNext] using hn)]
  simp [State.linkTo, Seq.wentOn, h18]

theorem wentOn_congr (x : Seq) (d v w : Nat) (h : v % 2 ^ 64 = w % 2 ^ 64) : x.wentOn d v = x.wentOn d w := by
  unfold Seq.wentOn Seq.setR
  rw [h]

theorem issuing_eq (s : State) (q : Nat) (x : Seq) :
    s.issuing q x = ((s.stepTaken q).count 0x70 q 0).setSeq q x.counted := rfl

@[simp] theorem issuing_time (s : State) (q : Nat) (x : Seq) : (s.issuing q x).time = s.time := by simp [State.issuing]
@[simp] theorem issuing_pipe (s : State) (q : Nat) (x : Seq) : (s.issuing q x).pipe = s.pipe := by simp [State.issuing]
@[simp] theorem issuing_wins (s : State) (q : Nat) (x : Seq) : (s.issuing q x).wins = s.wins := by simp [State.issuing]
@[simp] theorem issuing_twin (s : State) (q : Nat) (x : Seq) : (s.issuing q x).twin = s.twin := by simp [State.issuing]
@[simp] theorem issuing_regs (s : State) (q : Nat) (x : Seq) : (s.issuing q x).regs = s.regs := by simp [State.issuing]
@[simp] theorem issuing_fld (s : State) (q : Nat) (x : Seq) (f : Fld) (u i : Nat) :
    (s.issuing q x).fld f u i = s.fld f u i := by simp [State.issuing]
@[simp] theorem issuing_flag (s : State) (q : Nat) (x : Seq) (f : Fld) (u : Nat) :
    (s.issuing q x).flag f u = s.flag f u := by simp [State.issuing]

/-- w0 reads as zero (R67). -/
@[simp] theorem r_zero (x : Seq) : x.r 0 = 0 := rfl

/-- A register reads as 64 bits (R67). -/
theorem r_lt (x : Seq) (r : Nat) : x.r r < 2 ^ 64 := by
  unfold Seq.r
  split
  · decide
  · exact Nat.mod_lt _ (by decide)

end Sys2Proof.Machine
end

