-- ==== Sys2Proof/Laws/Memory.lean ====
section
/-! SUPPORT. Byte memories: every operation on one keeps the canonical form, a byte that was put reads as put, every other
byte reads as before. Persistent memory, the keepsake and the local stores are such memories. -/

namespace Sys2Proof.Machine

theorem wf_putBytes (d : Byte) (bs : List Byte) (m : SMap Byte) (a : Nat) (h : SMap.wf d m = true) :
    SMap.wf d (putBytes d m a bs) = true := by
  induction bs generalizing m a with
  | nil => exact h
  | cons b bs ih => exact ih _ _ (SMap.wf_put d m a b h)

theorem get_putBytes_outside (d e : Byte) (bs : List Byte) (m : SMap Byte) (a k : Nat)
    (h : k < a ∨ a + bs.length ≤ k) : SMap.get e (putBytes d m a bs) k = SMap.get e m k := by
  induction bs generalizing m a with
  | nil => rfl
  | cons b bs ih =>
    simp only [List.length_cons] at h
    rw [putBytes, ih _ _ (by omega), SMap.get_put_other d e m b (by omega)]

theorem get_putBytes_inside (d : Byte) (bs : List Byte) (m : SMap Byte) (a k : Nat) (hm : SMap.wf d m = true)
    (h : k < bs.length) : some (SMap.get d (putBytes d m a bs) (a + k)) = bs[k]? := by
  induction bs generalizing m a k with
  | nil => simp at h
  | cons b bs ih =>
    rw [putBytes]
    cases k with
    | zero =>
      have hr : SMap.risesFrom 0 m = true := by simp [SMap.wf] at hm; exact hm.1
      rw [get_putBytes_outside d d bs _ _ _ (by omega), Nat.add_zero, SMap.get_put_same d m a b hr]
      rfl
    | succ k =>
      have := ih (SMap.put d m a b) (a + 1) k (SMap.wf_put d m a b hm) (by simpa using h)
      rw [show a + (k + 1) = a + 1 + k by omega, this]
      rfl

@[simp] theorem length_bytesAt (m : SMap Byte) (d : Byte) (a n : Nat) : (bytesAt m d a n).length = n := by
  induction n generalizing a with
  | zero => rfl
  | succ n ih => simp [bytesAt, ih]

theorem getElem_bytesAt (m : SMap Byte) (d : Byte) (a n k : Nat) (h : k < n) :
    (bytesAt m d a n)[k]? = some (SMap.get d m (a + k)) := by
  induction n generalizing a k with
  | zero => omega
  | succ n ih =>
    cases k with
    | zero => rfl
    | succ k =>
      rw [bytesAt, List.getElem?_cons_succ, ih (a + 1) k (by omega), show a + (k + 1) = a + 1 + k by omega]

/-- Reading what was put gives it back. -/
theorem bytesAt_putBytes (d : Byte) (bs : List Byte) (m : SMap Byte) (a : Nat) (hm : SMap.wf d m = true) :
    bytesAt (putBytes d m a bs) d a bs.length = bs := by
  apply List.ext_getElem?
  intro k
  by_cases hk : k < bs.length
  · rw [getElem_bytesAt _ _ _ _ _ hk, get_putBytes_inside d bs m a k hm hk]
  · rw [List.getElem?_eq_none (by simpa using hk), List.getElem?_eq_none (by simpa using hk)]

/-- A program of the keepsake keeps the canonical form. -/
theorem wf_programBytes (bs : List Byte) (m : SMap Byte) (a : Nat) (h : SMap.wf 0xFF#8 m = true) :
    SMap.wf 0xFF#8 (programBytes m a bs) = true := by
  induction bs generalizing m a with
  | nil => exact h
  | cons b bs ih => exact ih _ _ (SMap.wf_put _ m a _ h)

theorem risesFrom_filter {α : Type} (p : Nat × α → Bool) (m : SMap α) (lo : Nat) (h : SMap.risesFrom lo m = true) :
    SMap.risesFrom lo (m.filter p) = true := by
  induction m generalizing lo with
  | nil => rfl
  | cons x m ih =>
    obtain ⟨k, v⟩ := x
    simp only [SMap.risesFrom, Bool.and_eq_true, decide_eq_true_eq] at h
    rw [List.filter_cons]
    split
    · simp only [SMap.risesFrom, Bool.and_eq_true, decide_eq_true_eq]
      exact ⟨h.1, ih _ h.2⟩
    · exact SMap.risesFrom_mono _ (Nat.le_succ_of_le h.1) (ih _ h.2)

/-- An erase of the keepsake keeps the canonical form. -/
theorem wf_eraseBytes (m : SMap Byte) (block : Nat) (h : SMap.wf 0xFF#8 m = true) :
    SMap.wf 0xFF#8 (eraseBytes m block) = true := by
  simp only [SMap.wf, Bool.and_eq_true, List.all_eq_true] at h ⊢
  exact ⟨risesFrom_filter _ m 0 h.1, fun x hx => h.2 x (List.mem_of_mem_filter hx)⟩

/-- The cells of persistent memory keep their canonical form. -/
theorem State.setPmLine_wf (s : State) (line : Nat) (data : List Byte) (h : Memory.wf s.pipe.pm = true) :
    Memory.wf (s.setPmLine line data).pipe.pm = true := wf_putBytes 0 _ _ _ h

theorem State.setChk_wf (s : State) (line : Nat) (e : BitVec 64 × BitVec 64) (h : SMap.wf (0, 0) s.pipe.chk = true) :
    SMap.wf (0, 0) (s.setChk line e).pipe.chk = true := SMap.wf_put _ _ _ _ h

end Sys2Proof.Machine
end

