-- ==== Sys2Proof/Laws/Regs.lean ====
section
/-! SUPPORT. The register map: a field reads as it was set, a field of another place keeps its value, and the map keeps
its canonical form. -/

namespace Sys2Proof.Machine

variable (s : State)

theorem fieldKey_inj {cls u off lo cls' u' off' lo' : Nat} (hu : u < 65536) (hu' : u' < 65536) (ho : off < 2 ^ 27)
    (ho' : off' < 2 ^ 27) (hl : lo < 64) (hl' : lo' < 64) (h : fieldKey cls u off lo = fieldKey cls' u' off' lo') :
    cls = cls' ∧ u = u' ∧ off / 8 = off' / 8 ∧ lo = lo' := by
  unfold fieldKey at h
  omega

theorem State.fldOf_setFldOf (cls : Nat) (f : Fld) (u v i : Nat) (h : SMap.risesFrom 0 s.regs = true) :
    (s.setFldOf cls f u v i).fldOf cls f u i = v % 2 ^ f.width := by
  simp only [State.fldOf, State.setFldOf]
  exact SMap.get_put_same _ _ _ _ h

theorem State.fldOf_setFldOf_other (cls c : Nat) (f g : Fld) (u w v i j : Nat)
    (h : fieldKey c w (g.off + 8 * j) g.lo ≠ fieldKey cls u (f.off + 8 * i) f.lo) :
    (s.setFldOf cls f u v i).fldOf c g w j = s.fldOf c g w j := by
  simp only [State.fldOf, State.setFldOf]
  exact SMap.get_put_other _ _ _ _ h

theorem State.risesFrom_setFldOf (cls : Nat) (f : Fld) (u v i : Nat) (h : SMap.risesFrom 0 s.regs = true) :
    SMap.risesFrom 0 (s.setFldOf cls f u v i).regs = true := by
  simp only [State.setFldOf]
  exact SMap.risesFrom_put _ _ _ _ h

theorem State.canonical_setFldOf (cls : Nat) (f : Fld) (u v i : Nat) (h : s.canonical = true) :
    (s.setFldOf cls f u v i).canonical = true := by
  simp only [State.canonical, Bool.and_eq_true] at h ⊢
  exact ⟨⟨⟨⟨s.risesFrom_setFldOf cls f u v i h.1.1.1.1, h.1.1.1.2⟩, h.1.1.2⟩, h.1.2⟩, h.2⟩

theorem State.canonical_setPmLine (line : Nat) (data : List Byte) (h : s.canonical = true)
    (hp : SMap.wf 0 (s.setPmLine line data).pipe.pm = true) : (s.setPmLine line data).canonical = true := by
  simp only [State.canonical, Bool.and_eq_true] at h ⊢
  exact ⟨⟨⟨⟨h.1.1.1.1, hp⟩, h.1.1.2⟩, h.1.2⟩, h.2⟩

end Sys2Proof.Machine
end

