-- ==== Sys2Proof/WellFormed.lean ====
section
/-! DEFINITION. Well-formed commands: every operand lies within the field or the set of units that the spec gives it (Tables
2.4, 3.2, 5.1 to 5.3, 5.8). The meanings do not rest on it: they bound their operands themselves. -/

namespace Sys2Proof

/-- The planes are 0 and 1. -/
def Path.wf : Path → Bool
  | .fabric plane => decide (plane < 2)
  | .mgmt | .firmware | .chain => true

/-- A unit has a 16-bit class and a 16-bit number (Table 2.4). -/
def unitOk (cls u : Nat) : Bool := decide (cls < 65536) && decide (u < 65536)

/-- A burst has the symbols of ten devices (R202). -/
def errsOk (es : List DevErr) : Bool := es.all (fun e => decide (e.1 < 10))

/-- A datagram (R52): a 16-bit TAG, a 32-bit address, a COUNT of 8 bits. -/
def Mgmt.wf (m : Mgmt) : Bool := decide (m.tag < 65536) && decide (m.addr < 2 ^ 32) && decide (m.count < 256)

/-- The request extension (Table 5.2). -/
def ReqX.wf (x : ReqX) : Bool :=
  decide (x.wkey < 2 ^ 32) && decide (x.length < 2 ^ 32) && decide (x.offset < 2 ^ 64) && decide (x.moff < 2 ^ 32) &&
  decide (x.level < 4) && decide (x.atop < 16) && decide (x.epoch < 2 ^ 40)

/-- A frame (R106): a fabric port, and fields of their widths. -/
def Frame.wf (f : Frame) : Bool :=
  decide (f.port < 64) && decide (f.dmac < 2 ^ 48) && f.tags.all (fun t => decide (t < 65536)) && decide (f.etype < 65536) &&
  decide (f.src < 2 ^ 128) && decide (f.dst < 2 ^ 128) && decide (f.hop < 256) && decide (f.dscp < 64) && decide (f.ecn < 4) &&
  decide (f.proto < 256) && decide (f.sport < 65536) && decide (f.dport < 65536)

/-- An NRT packet (Tables 5.1 and 5.2). -/
def Pkt.wf (k : Pkt) : Bool :=
  k.frame.wf && decide (k.ver < 16) && decide (k.typ < 256) && decide (k.status < 256) &&
  decide (k.dqp < 2 ^ 20) && decide (k.sqp < 2 ^ 20) && decide (k.psn < 2 ^ 32) && decide (k.msg < 2 ^ 32) &&
  decide (k.keySlot < 65536) && decide (k.keyVer < 65536) && decide (k.sealedEpoch < 2 ^ 40) &&
  decide (k.plen < 65536) && decide (k.roff < 2 ^ 32) && k.reqx.all ReqX.wf

/-- A RoCEv2 packet (Table 5.8). -/
def Roce.wf (k : Roce) : Bool :=
  k.frame.wf && decide (k.qp < 2 ^ 24) && decide (k.psn < 2 ^ 24) && decide (k.opcode < 256) &&
  decide (k.pkey < 65536) && decide (k.rkey < 2 ^ 32) && decide (k.va < 2 ^ 64) && decide (k.dmaLen < 2 ^ 32) &&
  decide (k.swap < 2 ^ 64) && decide (k.cmp < 2 ^ 64) && decide (k.immDt < 2 ^ 32)

/-- A sideband access (R201). -/
def Sideband.wf (k : Sideband) : Bool := decide (k.target < 256) && decide (k.value < 65536)

/-- A PTP message (R259): one of three ports, a 16-bit sequence number. -/
def Ptp.wf (k : Ptp) : Bool := decide (k.port < 3) && decide (k.sequence < 65536)

/-- A fault raise (R399): one of the five native classes, a unit. -/
def Raise.wf (k : Raise) : Bool := unitOk k.cls k.u && decide (k.native < 5)

/-- The facts of a boot (R411): at most eight drives, sixteen channels with at most two DIMMs each. -/
def BootFacts.wf (k : BootFacts) : Bool :=
  k.drives.all (fun d => decide (d.1 < 8)) && decide (k.dimms.length ≤ 16) && k.dimms.all (fun c => decide (c.length ≤ 2))

/-- Is a command well formed? -/
def Instr.wf : Instr → Bool
  | .add q _ | .sub q _ | .and q _ | .or q _
  | .xor q _ | .shl q _ | .shr q _ | .sar q _
  | .mul q _ | .mulhu q _ | .slt q _ | .sltu q _
  | .minu q _ | .maxu q _ | .addi q _ | .andi q _
  | .ori q _ | .xori q _ | .shli q _ | .shri q _
  | .sari q _ | .ldk q _ | .rdsp q _ | .beq q _
  | .bne q _ | .blt q _ | .bge q _ | .bltu q _
  | .bgeu q _ | .jmp q _ | .call q _ | .jr q _
  | .ld q _ | .st q _ | .ldw q _ | .stw q _
  | .ldb q _ | .stb q _ | .put q _ | .get q _
  | .copy q _ | .fill q _ | .atom q _ | .persist q _
  | .sync q _ | .wopen q _ | .wrevoke q _ | .wquery q _
  | .tstat q _ | .tresync q _ | .await q _ | .atmt q _
  | .seal q _ | .cut q _ | .tload q _ | .tpromote q _
  | .tevict q _ | .fx q _ | .fwait q _ | .kload q _
  | .kswap q _ | .kerase q _ | .retire q _ | .evread q _
  | .snap q _ | .fack q _ | .halt q _ | .undefinedOpcode q _
  | .linkReturn q | .linkBudgetExhausted q | .chainAbortAtBoundary q | .armedLinkIssue q
  | .awaitInstant q | .tpromoteDeadline q => decide (q < 32)
  | .seqInstall p slot => p.wf && decide (slot < 4096)
  | .installCheckDone | .locketFlushDone | .epochBoundary | .epochSeal
  | .healTimeout _ | .selfRefreshHoldDone | .retirementDone | .scrubWindowOpen
  | .scrubWindowClose | .scrubLapEnd _ | .scrubLapLate | .granuleVault _ _
  | .strandCloseTimeout | .strandClosed | .cleaningStart _ | .rateMeasurement
  | .measurementDone _ | .holdupOkFall | .drainStart | .drainEnd
  | .backgroundFill _ | .loopTxEdge | .loopRxEdge _ | .ptpSourceTimeout _
  | .estUpdate _ | .sureHoldExpiry | .firstLock _ | .ref10mLost
  | .ref10mRestored | .epochCheckHoldTimeout | .ppsoRise | .ppsoFall
  | .helloRetry | .pairStateTimer | .senseReleased | .senseHeld
  | .senseLost | .takeover | .termWaitExpiry | .claspTake
  | .claspSettleExpiry | .claspContention | .startClaspTimer | .selfDiagFail
  | .failbackTimer | .resyncRegionCopy _ | .facetOpStart _ | .fxDeadline _
  | .facetOpEnd _ _ | .alarmAutoReload | .pwrReqRise | .pwrReqFall
  | .pfWarnFall | .pfWarnRise | .powerUpStart | .minOffEnd
  | .graceExpiry | .kfSequenceTimeout | .eventRecordTimeout | .snapshotInstant
  | .freezeInstant | .pinReset | .watchdogExpiry | .resetRelease
  | .serviceStart | .dieThermalThrottle | .dieThermalRecovery | .holdupOkRise => true
  | .ringSqTailWrite p ring idx | .ringCqHeadWrite p ring idx => p.wf && decide (ring < 4096) && decide (idx < 65536)
  | .ringAbort p ring tag => p.wf && decide (ring < 4096) && decide (tag < 65536)
  | .chainDispatch ring q => decide (ring < 4096) && decide (q < 32)
  | .mgmtRead m | .mgmtWrite m => m.wf
  | .mgmtDatagramMalformed op m => decide (op < 256) && m.wf
  | .regWrite p addr _ | .kfErase p addr | .kfConfirm p addr => p.wf && decide (addr < 2 ^ 50)
  | .blkXaccWrite p cls u _ | .faultAck p cls u => unitOk cls u && p.wf
  | .expertIdleClose cls u | .quietPeriodEnd cls u => unitOk cls u
  | .nrtWrite k | .nrtReadReq k | .nrtAtomic k | .nrtPersist k
  | .nrtReadResp k | .nrtAtomicResp k | .nrtCompletion k | .nrtAck k
  | .nrtError k | .roceRdmaWrite k | .roceWriteWithImmediate k | .roceReadRequest k
  | .roceCmpSwap k | .roceFetchAdd k | .ptpSync k | .ptpFollowUp k
  | .ptpDelayResp k | .ptpAnnounce k | .faultRaise k | .boot k
  | .bootResume k => k.wf
  | .rtoExpiry qp | .ackDelayExpiry qp | .ackCoalesceCount qp | .creditWindowGrow qp
  | .holdAckTimer qp | .creditTimeout qp | .contextArrived qp | .orderQueueRelease qp
  | .qpResetFlushDone qp | .roceCnpReceived qp | .roceRateRestore qp => decide (qp < 2 ^ 20)
  | .writeMessageEnd qp msg => decide (qp < 2 ^ 20) && decide (msg < 2 ^ 32)
  | .qpCreate p qp | .qpReady p qp | .qpError p qp | .qpReset p qp
  | .qpModify p qp => p.wf && decide (qp < 2 ^ 20)
  | .qpQuery p qp quarter => p.wf && decide (qp < 2 ^ 20) && decide (quarter < 4)
  | .windowFetchDone idx es => decide (idx < 2 ^ 20) && errsOk es
  | .winOpen p | .locketDisable p | .locketEnable p | .injectNow p
  | .merTimeSRead p | .suspectClear p | .twinResync p | .twinHandover p
  | .twinAssume p | .dropAll p | .reclaim p | .tmNeighWrite p _
  | .ksReload p | .lcAlarmClear p _ | .lcProvision p | .lcDeploy p
  | .lcReturn p _ | .lcScrap p _ | .lcSvnBump p _ | .psStandby p
  | .psDormant p | .psWake p | .kfProgram p _ | .evCursorWrite p _
  | .lpSnapArm p | .lpSnapNow p | .lpFreezeArm p | .lpFreezeNow p
  | .lpThaw p => p.wf
  | .winRevoke p key | .winQuery p key | .commandReset p key | .wdtKick p key => p.wf && decide (key < 2 ^ 32)
  | .winRecycle p idx => p.wf && decide (idx < 2 ^ 20)
  | .revokeCut idx | .revokeComplete idx => decide (idx < 2 ^ 20)
  | .heldWriteRelease line | .sbWindowExpiry line _ | .linePlaced line _ | .locketWriteThrough line => decide (line < 2 ^ 44)
  | .rmwReadDone line es | .locketFillDone line es => decide (line < 2 ^ 44) && errsOk es
  | .sealTimeCondition e => decide (e < 2 ^ 40)
  | .lineReadDone _ es => errsOk es
  | .dimmTempPoll ch _ | .channelTrainingDone ch _ => decide (ch < 16)
  | .sidebandIbi bus dimm => decide (bus < 32) && decide (dimm < 2)
  | .sidebandCmd p ch k => p.wf && decide (ch < 16) && k.wf
  | .refreshDue ch subch bank | .pageIdleClose ch subch bank => decide (ch < 16) && decide (subch < 2) && decide (bank < 1024)
  | .retrainBoundary subch _ => decide (subch < 32)
  | .markSet p idx dev => p.wf && decide (idx < 4096) && decide (dev < 10)
  | .markClear p idx => p.wf && decide (idx < 4096)
  | .markAutoSet idx dev => decide (idx < 4096) && decide (dev < 10)
  | .bzRetirePage p off | .bzRetireBank p off => p.wf && decide (off < 2 ^ 50)
  | .plateWriteError pos => decide (pos < 2 ^ 64)
  | .driveLost d | .driveReplaced d => decide (d < 8)
  | .budgetLimitWrite p gib => p.wf && decide (gib < 2 ^ 16)
  | .restoreGo p kind e => p.wf && decide (kind < 2 ^ 2) && decide (e < 2 ^ 40)
  | .onDemandFill g _ => decide (g < 2 ^ 38)
  | .ppsEdge input _ => decide (input < 2)
  | .ptpDelayReq port => decide (port < 3)
  | .gcutWrite p v => p.wf && decide (v < 2 ^ 64)
  | .lineFull r | .linePart r | .poisonLine r | .fence r
  | .desc r | .sealMark r | .healResp r | .resyncLine r
  | .termEnd r | .hello r | .handoverReq r | .pairState r
  | .reservedRecordType r | .forwardAckTimeout r => decide (r < 9)
  | .healReq r es => decide (r < 9) && errsOk es
  | .setPrefix p entry len => p.wf && decide (entry < 4096) && decide (len < 2 ^ 8)
  | .setClaim p entry plane claim => p.wf && decide (entry < 4096) && decide (plane < 2) && decide (claim < 4)
  | .clmQuery p entry | .clmClear p entry => p.wf && decide (entry < 4096)
  | .claimTtlExpiry entry plane => decide (entry < 4096) && decide (plane < 2)
  | .returnHoldExpiry plane => decide (plane < 2)
  | .promotionDone h tier => decide (h < 65536) && decide (tier < 3)
  | .evictionEffect h => decide (h < 65536)
  | .engineWithdraw e => decide (e < 64)
  | .neighbourReadTimeout n => decide (n < 4)
  | .tmQuery p h => p.wf && decide (h < 2 ^ 32)
  | .feDisable p e => p.wf && decide (e < 64)
  | .ksLoad p slot _ | .ksSwap p slot | .ksErase p slot | .ksQuery p slot
  | .ksPurge p slot => p.wf && decide (slot < 65536)
  | .timedKswap slot | .graceZeroize slot | .keyNearLimit slot | .slotSpent slot
  | .usesReservationProgrammed slot => decide (slot < 65536)
  | .securityAlarm bit => decide (bit < 5)
  | .lcDebug p level _ => p.wf && decide (level < 4)
  | .debugHalt core => decide (core < 33)
  | .railStable n mv | .railFallen n mv | .railWindowExit n mv _ | .railHardLimit n mv _ => decide (n < 12) && decide (mv < 2 ^ 14)
  | .railRiseTimeout n | .railFallTimeout n | .pmbusPoll n _ _ _ => decide (n < 12)
  | .vaonLost mv _ => decide (mv < 2 ^ 14)
  | .railSetWrite p mv => p.wf && decide (mv < 2 ^ 14)
  | .kfUnlock p key => p.wf && decide (key < 2 ^ 64)
  | .kfVerify p slot _ | .kfSelect p slot => p.wf && decide (slot < 4)
  | .flashProgramDone bank | .flashEraseDone bank => decide (bank < 4)
  | .lpClear p bank => p.wf && decide (bank < 64)
  | .lpEvselWrite p i v => p.wf && decide (i < 65536) && decide (v < 2 ^ 64)
  | .calBoundary quad _ | .chordHoldLimit quad => decide (quad < 16)
  | .portEnable p port | .portDisable p port => p.wf && decide (port < 64)
  | .portUp port | .portRetryWaitEnd port => decide (port < 64)
  | .portBringupTimeout port cause | .portDown port cause => decide (port < 64) && decide (cause < 16)
  | .arpRequest f ip => f.wf && decide (ip < 2 ^ 32)
  | .neighbourSolicitation f ipHi ipLo => f.wf && decide (ipHi < 2 ^ 64) && decide (ipLo < 2 ^ 64)
  | .echoRequest f ident _ => f.wf && ident < 2 ^ 32
  | .frameDiscard f kind => f.wf && kind < 2 ^ 16

end Sys2Proof
end

