-- ==== Sys2Proof/Tests/Slice0.lean ====
section
/-! SUPPORT. Tests of the model. First, for every statement about the block, concrete states and operands that meet its
hypotheses: each theorem `meets_X` applies the statement X, clause by clause, to states and operands written out here, and the
proofs it passes are those of the hypotheses. Then a few commands on small states, with results that the spec's worked examples
give, and the refusals of WellFormed. -/

namespace Sys2Proof.Tests

open Sys2Proof Sys2Proof.Machine

set_option Elab.async false

/-- Some command answers a next state. -/
def Runs : Prop := ∃ (c : Instr) (s t : State), exec c s = .next t

/-! ## The hypotheses of the statements are met -/

/-- The block in P0 with nothing else changed. -/
def on0 : State := { State.reset with pow := { State.reset.pow with state := .p0 } }

/-- A chain of ring 0 that stands at the link `l` of opcode `op`, with a `sync` after it and the registers `w`. -/
def chainOf (op : BitVec 7) (l : Link) (w : SMap Nat) : Seq :=
  let ws := encodeLink op l ++ encodeLink 0x46 ⟨0, 0, 0, 0, []⟩
  ⟨0, 5, 0, 1, 0, 1, ws, linkStarts 0 false ws, 0, w, [], 0, false, 0, none, [], 0, [], false, false, []⟩

/-- That chain on sequencer 0 of a block in P0. -/
def linkState (op : BitVec 7) (l : Link) (w : SMap Nat) : State := on0.setSeq 0 (chainOf op l w)

/-- Registers and operands of the witnesses for links that compute: w3 from w1 and w2. -/
def w12 : SMap Nat := [(1, 2 ^ 64 - 1), (2, 65)]
def l312 : Link := ⟨3, 1, 2, 0, []⟩

theorem meets_ArithmeticLinks (h : Obligations.ArithmeticLinks) : Runs := by
  have := (h 0 l312 (chainOf 0x1 l312 w12) (linkState 0x1 l312 w12) (by unfold Seq.hasNext; decide +kernel)).2.1
    (by unfold State.atLink; decide +kernel)
  have := (h 0 l312 (chainOf 0x2 l312 w12) (linkState 0x2 l312 w12) (by unfold Seq.hasNext; decide +kernel)).2.2.1
    (by unfold State.atLink; decide +kernel)
  have := (h 0 l312 (chainOf 0x3 l312 w12) (linkState 0x3 l312 w12) (by unfold Seq.hasNext; decide +kernel)).2.2.2.1
    (by unfold State.atLink; decide +kernel)
  have := (h 0 l312 (chainOf 0x4 l312 w12) (linkState 0x4 l312 w12) (by unfold Seq.hasNext; decide +kernel)).2.2.2.2.1
    (by unfold State.atLink; decide +kernel)
  have := (h 0 l312 (chainOf 0x5 l312 w12) (linkState 0x5 l312 w12) (by unfold Seq.hasNext; decide +kernel)).2.2.2.2.2.1
    (by unfold State.atLink; decide +kernel)
  have := (h 0 l312 (chainOf 0x6 l312 w12) (linkState 0x6 l312 w12) (by unfold Seq.hasNext; decide +kernel)).2.2.2.2.2.2.1
    (by unfold State.atLink; decide +kernel)
  have := (h 0 l312 (chainOf 0x7 l312 w12) (linkState 0x7 l312 w12) (by unfold Seq.hasNext; decide +kernel)).2.2.2.2.2.2.2.1
    (by unfold State.atLink; decide +kernel)
  have := (h 0 l312 (chainOf 0x8 l312 w12) (linkState 0x8 l312 w12) (by unfold Seq.hasNext; decide +kernel)).2.2.2.2.2.2.2.2.1
    (by unfold State.atLink; decide +kernel)
  have := (h 0 l312 (chainOf 0x9 l312 w12) (linkState 0x9 l312 w12) (by unfold Seq.hasNext; decide +kernel)).2.2.2.2.2.2.2.2.2.1
    (by unfold State.atLink; decide +kernel)
  have := (h 0 l312 (chainOf 0xa l312 w12) (linkState 0xa l312 w12) (by unfold Seq.hasNext; decide +kernel)).2.2.2.2.2.2.2.2.2.2.1
    (by unfold State.atLink; decide +kernel)
  have := (h 0 l312 (chainOf 0xb l312 w12) (linkState 0xb l312 w12) (by unfold Seq.hasNext; decide +kernel)).2.2.2.2.2.2.2.2.2.2.2.1
    (by unfold State.atLink; decide +kernel)
  have := (h 0 l312 (chainOf 0xc l312 w12) (linkState 0xc l312 w12)
    (by unfold Seq.hasNext; decide +kernel)).2.2.2.2.2.2.2.2.2.2.2.2.1 (by unfold State.atLink; decide +kernel)
  have := (h 0 l312 (chainOf 0xd l312 w12) (linkState 0xd l312 w12)
    (by unfold Seq.hasNext; decide +kernel)).2.2.2.2.2.2.2.2.2.2.2.2.2 (by unfold State.atLink; decide +kernel)
  exact ⟨_, _, _, (h 0 l312 (chainOf 0x0 l312 w12) (linkState 0x0 l312 w12) (by unfold Seq.hasNext; decide +kernel)).1
    (by unfold State.atLink; decide +kernel)⟩

theorem meets_ValueLinks (h : Obligations.ValueLinks) : Runs := by
  have := (h 0 ⟨3, 1, 0, -1, []⟩ (chainOf 0x11 ⟨3, 1, 0, -1, []⟩ w12) (linkState 0x11 ⟨3, 1, 0, -1, []⟩ w12)
    (by unfold Seq.hasNext; decide +kernel)).2.1 (by unfold State.atLink; decide +kernel)
  have := (h 0 ⟨3, 1, 0, -1, []⟩ (chainOf 0x12 ⟨3, 1, 0, -1, []⟩ w12) (linkState 0x12 ⟨3, 1, 0, -1, []⟩ w12)
    (by unfold Seq.hasNext; decide +kernel)).2.2.1 (by unfold State.atLink; decide +kernel)
  have := (h 0 ⟨3, 1, 0, -1, []⟩ (chainOf 0x13 ⟨3, 1, 0, -1, []⟩ w12) (linkState 0x13 ⟨3, 1, 0, -1, []⟩ w12)
    (by unfold Seq.hasNext; decide +kernel)).2.2.2.1 (by unfold State.atLink; decide +kernel)
  have := (h 0 ⟨3, 1, 0, -1, []⟩ (chainOf 0x14 ⟨3, 1, 0, -1, []⟩ w12) (linkState 0x14 ⟨3, 1, 0, -1, []⟩ w12)
    (by unfold Seq.hasNext; decide +kernel)).2.2.2.2.1 (by unfold State.atLink; decide +kernel)
  have := (h 0 ⟨3, 1, 0, -1, []⟩ (chainOf 0x15 ⟨3, 1, 0, -1, []⟩ w12) (linkState 0x15 ⟨3, 1, 0, -1, []⟩ w12)
    (by unfold Seq.hasNext; decide +kernel)).2.2.2.2.2.1 (by unfold State.atLink; decide +kernel)
  have := (h 0 ⟨3, 1, 0, -1, []⟩ (chainOf 0x16 ⟨3, 1, 0, -1, []⟩ w12) (linkState 0x16 ⟨3, 1, 0, -1, []⟩ w12)
    (by unfold Seq.hasNext; decide +kernel)).2.2.2.2.2.2.1 (by unfold State.atLink; decide +kernel)
  have := (h 0 ⟨3, 1, 0, -1, []⟩ (chainOf 0x17 ⟨3, 1, 0, -1, []⟩ w12) (linkState 0x17 ⟨3, 1, 0, -1, []⟩ w12)
    (by unfold Seq.hasNext; decide +kernel)).2.2.2.2.2.2.2.1 (by unfold State.atLink; decide +kernel) rfl
  have := (h 0 ⟨3, 1, 0, 0, [0x4000000001]⟩ (chainOf 0x17 ⟨3, 1, 0, 0, [0x4000000001]⟩ w12) (linkState 0x17 ⟨3, 1, 0, 0,
    [0x4000000001]⟩ w12) (by unfold Seq.hasNext; decide +kernel)).2.2.2.2.2.2.2.2.1 0x4000000001
    (by unfold State.atLink; decide +kernel) rfl
  have := (h 0 ⟨3, 1, 0, 0, [0x4000000001, 0x1FFFFFF]⟩ (chainOf 0x17 ⟨3, 1, 0, 0, [0x4000000001, 0x1FFFFFF]⟩ w12) (linkState 0x17
    ⟨3, 1, 0, 0, [0x4000000001, 0x1FFFFFF]⟩ w12) (by unfold Seq.hasNext; decide +kernel)).2.2.2.2.2.2.2.2.2.1 0x4000000001
    0x1FFFFFF (by unfold State.atLink; decide +kernel) rfl
  have := (h 0 ⟨3, 1, 0, 0, []⟩ (chainOf 0x18 ⟨3, 1, 0, 0, []⟩ w12) (linkState 0x18 ⟨3, 1, 0, 0, []⟩ w12)
    (by unfold Seq.hasNext; decide +kernel)).2.2.2.2.2.2.2.2.2.2.1 (by unfold State.atLink; decide +kernel) rfl
  have := (h 0 ⟨3, 1, 0, 1, []⟩ (chainOf 0x18 ⟨3, 1, 0, 1, []⟩ w12) (linkState 0x18 ⟨3, 1, 0, 1, []⟩ w12)
    (by unfold Seq.hasNext; decide +kernel)).2.2.2.2.2.2.2.2.2.2.2.1 (by unfold State.atLink; decide +kernel) rfl
  have := (h 0 ⟨3, 1, 0, 2, []⟩ (chainOf 0x18 ⟨3, 1, 0, 2, []⟩ w12) (linkState 0x18 ⟨3, 1, 0, 2, []⟩ w12)
    (by unfold Seq.hasNext; decide +kernel)).2.2.2.2.2.2.2.2.2.2.2.2.1 (by unfold State.atLink; decide +kernel) rfl
  have := (h 0 ⟨3, 1, 0, 3, []⟩ (chainOf 0x18 ⟨3, 1, 0, 3, []⟩ w12) (linkState 0x18 ⟨3, 1, 0, 3, []⟩ w12)
    (by unfold Seq.hasNext; decide +kernel)).2.2.2.2.2.2.2.2.2.2.2.2.2.1 (by unfold State.atLink; decide +kernel) rfl
  have := (h 0 ⟨3, 1, 0, 0, []⟩ (chainOf 0x63 ⟨3, 1, 0, 0, []⟩ w12) (linkState 0x63 ⟨3, 1, 0, 0, []⟩ w12)
    (by unfold Seq.hasNext; decide +kernel)).2.2.2.2.2.2.2.2.2.2.2.2.2.2.1 (by unfold State.atLink; decide +kernel)
  have := (h 0 ⟨3, 1, 0, 0, []⟩ (chainOf 0x58 ⟨3, 1, 0, 0, []⟩ w12) (linkState 0x58 ⟨3, 1, 0, 0, []⟩ w12)
    (by unfold Seq.hasNext; decide +kernel)).2.2.2.2.2.2.2.2.2.2.2.2.2.2.2 (by unfold State.atLink; decide +kernel)
  exact ⟨_, _, _, (h 0 ⟨3, 1, 0, -1, []⟩ (chainOf 0x10 ⟨3, 1, 0, -1, []⟩ w12) (linkState 0x10 ⟨3, 1, 0, -1, []⟩ w12)
    (by unfold Seq.hasNext; decide +kernel)).1 (by unfold State.atLink; decide +kernel)⟩

theorem meets_BranchLinks (h : Obligations.BranchLinks) : Runs := by
  have := ((h 0 ⟨3, 1, 2, 1, []⟩ (chainOf 0x21 ⟨3, 1, 2, 1, []⟩ w12) (linkState 0x21 ⟨3, 1, 2, 1, []⟩ w12) 1
    (by unfold Seq.hasNext; decide +kernel) (by decide +kernel)).1 rfl).2.1 (by unfold State.atLink; decide +kernel)
  have := ((h 0 ⟨3, 1, 2, 1, []⟩ (chainOf 0x22 ⟨3, 1, 2, 1, []⟩ w12) (linkState 0x22 ⟨3, 1, 2, 1, []⟩ w12) 1
    (by unfold Seq.hasNext; decide +kernel) (by decide +kernel)).1 rfl).2.2.1 (by unfold State.atLink; decide +kernel)
  have := ((h 0 ⟨3, 1, 2, 1, []⟩ (chainOf 0x23 ⟨3, 1, 2, 1, []⟩ w12) (linkState 0x23 ⟨3, 1, 2, 1, []⟩ w12) 1
    (by unfold Seq.hasNext; decide +kernel) (by decide +kernel)).1 rfl).2.2.2.1 (by unfold State.atLink; decide +kernel)
  have := ((h 0 ⟨3, 1, 2, 1, []⟩ (chainOf 0x24 ⟨3, 1, 2, 1, []⟩ w12) (linkState 0x24 ⟨3, 1, 2, 1, []⟩ w12) 1
    (by unfold Seq.hasNext; decide +kernel) (by decide +kernel)).1 rfl).2.2.2.2.1 (by unfold State.atLink; decide +kernel)
  have := ((h 0 ⟨3, 1, 2, 1, []⟩ (chainOf 0x25 ⟨3, 1, 2, 1, []⟩ w12) (linkState 0x25 ⟨3, 1, 2, 1, []⟩ w12) 1
    (by unfold Seq.hasNext; decide +kernel) (by decide +kernel)).1 rfl).2.2.2.2.2.1 (by unfold State.atLink; decide +kernel)
  have := ((h 0 ⟨3, 1, 2, 1, []⟩ (chainOf 0x26 ⟨3, 1, 2, 1, []⟩ w12) (linkState 0x26 ⟨3, 1, 2, 1, []⟩ w12) 1
    (by unfold Seq.hasNext; decide +kernel) (by decide +kernel)).1 rfl).2.2.2.2.2.2.1 (by unfold State.atLink; decide +kernel)
  have := ((h 0 ⟨3, 1, 2, 1, []⟩ (chainOf 0x27 ⟨3, 1, 2, 1, []⟩ w12) (linkState 0x27 ⟨3, 1, 2, 1, []⟩ w12) 1
    (by unfold Seq.hasNext; decide +kernel) (by decide +kernel)).1 rfl).2.2.2.2.2.2.2 (by unfold State.atLink; decide +kernel)
  have := (h 0 ⟨0, 4, 0, 0, []⟩ (chainOf 0x28 ⟨0, 4, 0, 0, []⟩ [(4, 1)]) (linkState 0x28 ⟨0, 4, 0, 0, []⟩ [(4, 1)]) 1
    (by unfold Seq.hasNext; decide +kernel) (by decide +kernel)).2 (by unfold State.atLink; decide +kernel) rfl
    (by decide +kernel)
  exact ⟨_, _, _, ((h 0 ⟨3, 1, 2, 1, []⟩ (chainOf 0x20 ⟨3, 1, 2, 1, []⟩ w12) (linkState 0x20 ⟨3, 1, 2, 1, []⟩ w12) 1
    (by unfold Seq.hasNext; decide +kernel) (by decide +kernel)).1 rfl).1 (by unfold State.atLink; decide +kernel)⟩

theorem meets_LocalStoreLinks (h : Obligations.LocalStoreLinks) : Runs := by
  have := (h 0 ⟨3, 1, 2, 0, []⟩ (chainOf 0x30 ⟨3, 1, 2, 0, []⟩ [(1, 262136), (2, 0xA5)]) (linkState 0x30 ⟨3, 1, 2, 0, []⟩ [(1,
    262136), (2, 0xA5)]) (by unfold Seq.hasNext; decide +kernel)).1 (by unfold State.atLink; decide +kernel)
  have := (h 0 ⟨3, 1, 2, 0, []⟩ (chainOf 0x30 ⟨3, 1, 2, 0, []⟩ [(1, 262137), (2, 0xA5)]) (linkState 0x30 ⟨3, 1, 2, 0, []⟩ [(1,
    262137), (2, 0xA5)]) (by unfold Seq.hasNext; decide +kernel)).1 (by unfold State.atLink; decide +kernel)
  have := (h 0 ⟨3, 1, 2, 0, []⟩ (chainOf 0x30 ⟨3, 1, 2, 0, []⟩ [(1, 262144)]) (linkState 0x30 ⟨3, 1, 2, 0, []⟩ [(1, 262144)])
    (by unfold Seq.hasNext; decide +kernel)).1 (by unfold State.atLink; decide +kernel)
  have := (h 0 ⟨3, 1, 2, 0, []⟩ (chainOf 0x32 ⟨3, 1, 2, 0, []⟩ [(2, 0xA5)]) (linkState 0x32 ⟨3, 1, 2, 0, []⟩ [(2, 0xA5)])
    (by unfold Seq.hasNext; decide +kernel)).2.1 (by unfold State.atLink; decide +kernel)
  have := (h 0 ⟨3, 1, 2, 0, []⟩ (chainOf 0x32 ⟨3, 1, 2, 0, []⟩ [(1, 262136), (2, 0xA5)]) (linkState 0x32 ⟨3, 1, 2, 0, []⟩ [(1,
    262136), (2, 0xA5)]) (by unfold Seq.hasNext; decide +kernel)).2.1 (by unfold State.atLink; decide +kernel)
  have := (h 0 ⟨3, 1, 2, 0, []⟩ (chainOf 0x32 ⟨3, 1, 2, 0, []⟩ [(1, 262137), (2, 0xA5)]) (linkState 0x32 ⟨3, 1, 2, 0, []⟩ [(1,
    262137), (2, 0xA5)]) (by unfold Seq.hasNext; decide +kernel)).2.1 (by unfold State.atLink; decide +kernel)
  have := (h 0 ⟨3, 1, 2, 0, []⟩ (chainOf 0x32 ⟨3, 1, 2, 0, []⟩ [(1, 262144)]) (linkState 0x32 ⟨3, 1, 2, 0, []⟩ [(1, 262144)])
    (by unfold Seq.hasNext; decide +kernel)).2.1 (by unfold State.atLink; decide +kernel)
  have := (h 0 ⟨3, 1, 2, 0, []⟩ (chainOf 0x34 ⟨3, 1, 2, 0, []⟩ [(2, 0xA5)]) (linkState 0x34 ⟨3, 1, 2, 0, []⟩ [(2, 0xA5)])
    (by unfold Seq.hasNext; decide +kernel)).2.2.1 (by unfold State.atLink; decide +kernel)
  have := (h 0 ⟨3, 1, 2, 0, []⟩ (chainOf 0x34 ⟨3, 1, 2, 0, []⟩ [(1, 262136), (2, 0xA5)]) (linkState 0x34 ⟨3, 1, 2, 0, []⟩ [(1,
    262136), (2, 0xA5)]) (by unfold Seq.hasNext; decide +kernel)).2.2.1 (by unfold State.atLink; decide +kernel)
  have := (h 0 ⟨3, 1, 2, 0, []⟩ (chainOf 0x34 ⟨3, 1, 2, 0, []⟩ [(1, 262137), (2, 0xA5)]) (linkState 0x34 ⟨3, 1, 2, 0, []⟩ [(1,
    262137), (2, 0xA5)]) (by unfold Seq.hasNext; decide +kernel)).2.2.1 (by unfold State.atLink; decide +kernel)
  have := (h 0 ⟨3, 1, 2, 0, []⟩ (chainOf 0x34 ⟨3, 1, 2, 0, []⟩ [(1, 262144)]) (linkState 0x34 ⟨3, 1, 2, 0, []⟩ [(1, 262144)])
    (by unfold Seq.hasNext; decide +kernel)).2.2.1 (by unfold State.atLink; decide +kernel)
  have := (h 0 ⟨3, 1, 2, 0, []⟩ (chainOf 0x31 ⟨3, 1, 2, 0, []⟩ [(2, 0xA5)]) (linkState 0x31 ⟨3, 1, 2, 0, []⟩ [(2, 0xA5)])
    (by unfold Seq.hasNext; decide +kernel)).2.2.2.1 (by unfold State.atLink; decide +kernel)
  have := (h 0 ⟨3, 1, 2, 0, []⟩ (chainOf 0x31 ⟨3, 1, 2, 0, []⟩ [(1, 262136), (2, 0xA5)]) (linkState 0x31 ⟨3, 1, 2, 0, []⟩ [(1,
    262136), (2, 0xA5)]) (by unfold Seq.hasNext; decide +kernel)).2.2.2.1 (by unfold State.atLink; decide +kernel)
  have := (h 0 ⟨3, 1, 2, 0, []⟩ (chainOf 0x31 ⟨3, 1, 2, 0, []⟩ [(1, 262137), (2, 0xA5)]) (linkState 0x31 ⟨3, 1, 2, 0, []⟩ [(1,
    262137), (2, 0xA5)]) (by unfold Seq.hasNext; decide +kernel)).2.2.2.1 (by unfold State.atLink; decide +kernel)
  have := (h 0 ⟨3, 1, 2, 0, []⟩ (chainOf 0x31 ⟨3, 1, 2, 0, []⟩ [(1, 262144)]) (linkState 0x31 ⟨3, 1, 2, 0, []⟩ [(1, 262144)])
    (by unfold Seq.hasNext; decide +kernel)).2.2.2.1 (by unfold State.atLink; decide +kernel)
  have := (h 0 ⟨3, 1, 2, 0, []⟩ (chainOf 0x33 ⟨3, 1, 2, 0, []⟩ [(2, 0xA5)]) (linkState 0x33 ⟨3, 1, 2, 0, []⟩ [(2, 0xA5)])
    (by unfold Seq.hasNext; decide +kernel)).2.2.2.2.1 (by unfold State.atLink; decide +kernel)
  have := (h 0 ⟨3, 1, 2, 0, []⟩ (chainOf 0x33 ⟨3, 1, 2, 0, []⟩ [(1, 262136), (2, 0xA5)]) (linkState 0x33 ⟨3, 1, 2, 0, []⟩ [(1,
    262136), (2, 0xA5)]) (by unfold Seq.hasNext; decide +kernel)).2.2.2.2.1 (by unfold State.atLink; decide +kernel)
  have := (h 0 ⟨3, 1, 2, 0, []⟩ (chainOf 0x33 ⟨3, 1, 2, 0, []⟩ [(1, 262137), (2, 0xA5)]) (linkState 0x33 ⟨3, 1, 2, 0, []⟩ [(1,
    262137), (2, 0xA5)]) (by unfold Seq.hasNext; decide +kernel)).2.2.2.2.1 (by unfold State.atLink; decide +kernel)
  have := (h 0 ⟨3, 1, 2, 0, []⟩ (chainOf 0x33 ⟨3, 1, 2, 0, []⟩ [(1, 262144)]) (linkState 0x33 ⟨3, 1, 2, 0, []⟩ [(1, 262144)])
    (by unfold Seq.hasNext; decide +kernel)).2.2.2.2.1 (by unfold State.atLink; decide +kernel)
  have := (h 0 ⟨3, 1, 2, 0, []⟩ (chainOf 0x35 ⟨3, 1, 2, 0, []⟩ [(2, 0xA5)]) (linkState 0x35 ⟨3, 1, 2, 0, []⟩ [(2, 0xA5)])
    (by unfold Seq.hasNext; decide +kernel)).2.2.2.2.2 (by unfold State.atLink; decide +kernel)
  have := (h 0 ⟨3, 1, 2, 0, []⟩ (chainOf 0x35 ⟨3, 1, 2, 0, []⟩ [(1, 262136), (2, 0xA5)]) (linkState 0x35 ⟨3, 1, 2, 0, []⟩ [(1,
    262136), (2, 0xA5)]) (by unfold Seq.hasNext; decide +kernel)).2.2.2.2.2 (by unfold State.atLink; decide +kernel)
  have := (h 0 ⟨3, 1, 2, 0, []⟩ (chainOf 0x35 ⟨3, 1, 2, 0, []⟩ [(1, 262137), (2, 0xA5)]) (linkState 0x35 ⟨3, 1, 2, 0, []⟩ [(1,
    262137), (2, 0xA5)]) (by unfold Seq.hasNext; decide +kernel)).2.2.2.2.2 (by unfold State.atLink; decide +kernel)
  have := (h 0 ⟨3, 1, 2, 0, []⟩ (chainOf 0x35 ⟨3, 1, 2, 0, []⟩ [(1, 262144)]) (linkState 0x35 ⟨3, 1, 2, 0, []⟩ [(1, 262144)])
    (by unfold Seq.hasNext; decide +kernel)).2.2.2.2.2 (by unfold State.atLink; decide +kernel)
  exact ⟨_, _, _, (h 0 ⟨3, 1, 2, 0, []⟩ (chainOf 0x30 ⟨3, 1, 2, 0, []⟩ [(2, 0xA5)]) (linkState 0x30 ⟨3, 1, 2, 0, []⟩ [(2, 0xA5)])
    (by unfold Seq.hasNext; decide +kernel)).1 (by unfold State.atLink; decide +kernel)⟩

/-- Descriptor 3: open for chains and for both kinds of QP, with every access right, 16 MiB from 1 MiB on. -/
def desc3 : Desc := ⟨1, 0x3F, 1, 0, false, 0x100000, 0x1000000, 3, 0, 0, 0, 0⟩

/-- The block in service as leader, descriptor 3 open and cached. -/
def served : State := { on0 with
  pipe := { on0.pipe with taking := true, pm := putBytes 0 [] 192 desc3.bytes },
  twin := { on0.twin with leader := true },
  wins := { on0.wins with cache := [3] } }

/-- A chain that stands at a link, on sequencer 0 of a state. -/
def chainOn (s : State) (op : BitVec 7) (l : Link) (w : SMap Nat) : State := s.setSeq 0 (chainOf op l w)

/-- Registers with the key of descriptor 3 in w2 and w4, and a ring that may use every privilege. -/
def wk : SMap Nat := [(2, mkKey 3 1), (4, mkKey 3 1), (5, 0x4000), (6, 128)]
def priv : State := served.setFld F.RING_CFG_PRIV 0 0xFF

/-- That block while the granule of the window table is still to be filled. -/
def unfilledTable : State := { priv with vault := { priv.vault with unfilled := [0], total := 1 } }

theorem meets_LinkOutcomes (h : Obligations.LinkOutcomes) : ∃ s t : State, s = t := by
  have := (h 0 0x00 ⟨3, 0, 2, 0, []⟩ (chainOf 0x00 l312 w12) on0 (by unfold Seq.hasNext; decide +kernel) rfl).1 .tagFail
    (by decide +kernel) (by decide +kernel)
  have := (h 0 0x00 ⟨3, 0, 2, 0, []⟩ (chainOf 0x00 l312 w12) on0 (by unfold Seq.hasNext; decide +kernel) rfl).2.1 .illegalLink
    (Or.inl rfl)
  have := (h 0 0x00 ⟨3, 0, 2, 0, []⟩ (chainOf 0x00 l312 w12) on0 (by unfold Seq.hasNext; decide +kernel) rfl).2.1 .internal (Or.inr
    rfl)
  have := (h 0 0x00 ⟨3, 0, 2, 0, []⟩ (chainOf 0x00 l312 w12) on0 (by unfold Seq.hasNext; decide +kernel) rfl).2.2.1 (.seal 7)
  have := (h 0 0x00 ⟨3, 0, 2, 0, []⟩ (chainOf 0x00 l312 w12) on0 (by unfold Seq.hasNext; decide +kernel) rfl).2.2.2.1 true
  have := (h 0 0x00 ⟨3, 0, 2, 0, []⟩ (chainOf 0x00 l312 w12) on0 (by unfold Seq.hasNext; decide +kernel) rfl).2.2.2.2.1 true
  have := (h 0 0x00 ⟨3, 0, 2, 0, []⟩ (chainOf 0x00 l312 w12) on0 (by unfold Seq.hasNext; decide +kernel) rfl).2.2.2.2.2 true
    .windowBounds
  have := (h 0 0x00 ⟨3, 0, 2, 0, []⟩ (chainOf 0x00 l312 w12) on0 (by unfold Seq.hasNext; decide +kernel) rfl).2.2.2.1 false
  have := (h 0 0x00 ⟨3, 0, 2, 0, []⟩ (chainOf 0x00 l312 w12) on0 (by unfold Seq.hasNext; decide +kernel) rfl).2.2.2.2.1 false
  have := (h 0 0x00 ⟨3, 0, 2, 0, []⟩ (chainOf 0x00 l312 w12) on0 (by unfold Seq.hasNext; decide +kernel) rfl).2.2.2.2.2 false
    .windowBounds
  have := (h 0 0x18 ⟨3, 0, 2, 0, []⟩ (chainOf 0x00 l312 w12) on0 (by unfold Seq.hasNext; decide +kernel) rfl).1 .ok
    (by decide +kernel) (by decide +kernel)
  have := (h 0 0x18 ⟨3, 0, 2, 0, []⟩ (chainOf 0x00 l312 w12) on0 (by unfold Seq.hasNext; decide +kernel) rfl).1 .tagFail
    (by decide +kernel) (by decide +kernel)
  have := (h 0 0x18 ⟨3, 0, 2, 0, []⟩ (chainOf 0x00 l312 w12) on0 (by unfold Seq.hasNext; decide +kernel) rfl).2.1 .illegalLink
    (Or.inl rfl)
  have := (h 0 0x18 ⟨3, 0, 2, 0, []⟩ (chainOf 0x00 l312 w12) on0 (by unfold Seq.hasNext; decide +kernel) rfl).2.1 .internal (Or.inr
    rfl)
  have := (h 0 0x18 ⟨3, 0, 2, 0, []⟩ (chainOf 0x00 l312 w12) on0 (by unfold Seq.hasNext; decide +kernel) rfl).2.2.1 (.seal 7)
  have := (h 0 0x18 ⟨3, 0, 2, 0, []⟩ (chainOf 0x00 l312 w12) on0 (by unfold Seq.hasNext; decide +kernel) rfl).2.2.2.1 true
  have := (h 0 0x18 ⟨3, 0, 2, 0, []⟩ (chainOf 0x00 l312 w12) on0 (by unfold Seq.hasNext; decide +kernel) rfl).2.2.2.2.1 true
  have := (h 0 0x18 ⟨3, 0, 2, 0, []⟩ (chainOf 0x00 l312 w12) on0 (by unfold Seq.hasNext; decide +kernel) rfl).2.2.2.2.2 true
    .windowBounds
  have := (h 0 0x18 ⟨3, 0, 2, 0, []⟩ (chainOf 0x00 l312 w12) on0 (by unfold Seq.hasNext; decide +kernel) rfl).2.2.2.1 false
  have := (h 0 0x18 ⟨3, 0, 2, 0, []⟩ (chainOf 0x00 l312 w12) on0 (by unfold Seq.hasNext; decide +kernel) rfl).2.2.2.2.1 false
  have := (h 0 0x18 ⟨3, 0, 2, 0, []⟩ (chainOf 0x00 l312 w12) on0 (by unfold Seq.hasNext; decide +kernel) rfl).2.2.2.2.2 false
    .windowBounds
  exact ⟨_, _, (h 0 0x00 ⟨3, 0, 2, 0, []⟩ (chainOf 0x00 l312 w12) on0 (by unfold Seq.hasNext; decide +kernel) rfl).1 .ok
    (by decide +kernel) (by decide +kernel)⟩

theorem meets_WaitingLinks (h : Obligations.WaitingLinks) : Runs := by
  have := (h 0 ⟨3, 0, 0, 0, []⟩ (chainOf 0x45 ⟨3, 0, 0, 0, []⟩ w12) (chainOn on0 0x45 ⟨3, 0, 0, 0, []⟩ w12)
    (by unfold Seq.hasNext; decide +kernel) rfl).2.1 (by unfold State.atLink; decide +kernel) rfl
  have := (h 0 ⟨3, 2, 0, 0, []⟩ (chainOf 0x60 ⟨3, 2, 0, 0, []⟩ []) (chainOn (on0.setFld F.MER_STAT_UNSURE 0 0) 0x60 ⟨3, 2, 0, 0, []⟩
    []) (by unfold Seq.hasNext; decide +kernel) rfl).2.2.1 (by unfold State.atLink; decide +kernel) (by decide +kernel)
    (by decide +kernel)
  have := (h 0 ⟨3, 2, 0, 0, []⟩ (chainOf 0x60 ⟨3, 2, 0, 0, []⟩ []) (chainOn (on0.setFld F.MER_STAT_UNSURE 0 1) 0x60 ⟨3, 2, 0, 0, []⟩
    []) (by unfold Seq.hasNext; decide +kernel) rfl).2.2.2.1 (by unfold State.atLink; decide +kernel) (by decide +kernel)
    (by decide +kernel)
  have := (h 0 ⟨3, 2, 0, 0, []⟩ (chainOf 0x60 ⟨3, 2, 0, 0, []⟩ [(2, 1), (3, 1)]) (chainOn on0 0x60 ⟨3, 2, 0, 0, []⟩ [(2, 1), (3,
    1)]) (by unfold Seq.hasNext; decide +kernel) rfl).2.2.2.2.1 (by unfold State.atLink; decide +kernel) (by decide +kernel)
  have := (h 0 ⟨3, 2, 0, 0, []⟩ (chainOf 0x62 ⟨3, 2, 0, 0, []⟩ [(2, 9)]) (chainOn
    { on0 with time := 2 ^ 79, pipe := { on0.pipe with sealedE := 9 } } 0x62 ⟨3, 2, 0, 0, []⟩ [(2, 9)])
    (by unfold Seq.hasNext; decide +kernel) rfl).2.2.2.2.2.1 (by unfold State.atLink; decide +kernel) (by decide +kernel)
    (by decide +kernel)
  have := (h 0 ⟨3, 2, 0, 0, []⟩ (chainOf 0x62 ⟨3, 2, 0, 0, []⟩ [(2, 9)]) (chainOn
    { on0 with time := 2 ^ 79, pipe := { on0.pipe with sealedE := 9 }, twin := { on0.twin with leader := true } } 0x62 ⟨3, 2,
    0, 0, []⟩ [(2, 9)]) (by unfold Seq.hasNext; decide +kernel) rfl).2.2.2.2.2.2.1 (by unfold State.atLink; decide +kernel)
    (by decide +kernel) (by decide +kernel)
  have := (h 0 ⟨3, 2, 0, 0, []⟩ (chainOf 0x7C ⟨3, 2, 0, 0, []⟩ [(2, 0x103)]) (chainOn on0 0x7C ⟨3, 2, 0, 0, []⟩ [(2, 0x103)])
    (by unfold Seq.hasNext; decide +kernel) rfl).2.2.2.2.2.2.2 .aborted (by unfold State.atLink; decide +kernel)
    (by decide +kernel) (by decide +kernel)
  exact ⟨_, _, _, (h 0 ⟨3, 0, 0, 0, []⟩ (chainOf 0x46 ⟨3, 0, 0, 0, []⟩ w12) (chainOn on0 0x46 ⟨3, 0, 0, 0, []⟩ w12)
    (by unfold Seq.hasNext; decide +kernel) rfl).1 (by unfold State.atLink; decide +kernel) ⟩

theorem meets_DataLinks (h : Obligations.DataLinks) : Runs := by
  have := (h.1 0 ⟨3, 4, 6, 1, []⟩ (chainOf 0x41 ⟨3, 4, 6, 1, []⟩ wk) (chainOn served 0x41 ⟨3, 4, 6, 1, []⟩ wk) desc3 0x104000).2.1 _
    _ rfl rfl (by unfold State.atLink; decide +kernel) (by decide +kernel) (by decide +kernel) (show _ by decide +kernel)
    (by decide +kernel) (by decide +kernel) rfl
  have := (h.1 0 ⟨3, 2, 6, 0, [0x1000000007]⟩ (chainOf 0x43 ⟨3, 2, 6, 0, [0x1000000007]⟩ (wk ++ [(7, 2)])) (chainOn served 0x43 ⟨3,
    2, 6, 0, [0x1000000007]⟩ (wk ++ [(7, 2)])) desc3 0x100000).2.2.1 _ _ rfl rfl (by unfold State.atLink; decide +kernel)
    (by decide +kernel) (by decide +kernel) (show _ by decide +kernel) rfl
  have := (h.1 0 ⟨3, 2, 6, 0, [0x1000000007]⟩ (chainOf 0x43 ⟨3, 2, 6, 0, [0x1000000007]⟩ (wk ++ [(7, 131071)])) (chainOn served 0x43
    ⟨3, 2, 6, 0, [0x1000000007]⟩ (wk ++ [(7, 131071)])) desc3 0x100000).2.2.1 _ _ rfl rfl
    (by unfold State.atLink; decide +kernel) (by decide +kernel) (by decide +kernel) (show _ by decide +kernel) rfl
  have := (h.1 0 ⟨3, 2, 6, 2, []⟩ (chainOf 0x43 ⟨3, 2, 6, 2, []⟩ wk) (chainOn served 0x43 ⟨3, 2, 6, 2, []⟩ wk) desc3 0).2.2.2.1 ⟨0,
    mkKey 3 1, 0, 1, 7, 0⟩ served (desc3, .mem 0x100000) (by decide +kernel) rfl
  have := (h.1 0 ⟨3, 2, 6, 2, []⟩ (chainOf 0x43 ⟨3, 2, 6, 2, []⟩ wk) (chainOn served 0x43 ⟨3, 2, 6, 2, []⟩ wk) desc3 0).2.2.2.1 ⟨0,
    mkKey 3 1, 0, 20, 7, 0⟩ served (desc3, .mem 0x100000) (by decide +kernel) rfl
  have := (h.1 0 ⟨3, 2, 6, 2, []⟩ (chainOf 0x43 ⟨3, 2, 6, 2, []⟩ wk) (chainOn served 0x43 ⟨3, 2, 6, 2, []⟩ wk) desc3 0).2.2.2.1 ⟨0,
    mkKey 3 1, 0, 9, 7, 8⟩ served (desc3, .mem 0x100000) (by decide +kernel) rfl
  have := (h.1 0 ⟨3, 2, 6, 0, []⟩ (chainOf 0x44 ⟨3, 2, 6, 0, []⟩ wk) (chainOn served 0x44 ⟨3, 2, 6, 0, []⟩ wk) desc3
    0x100000).2.2.2.2.1 _ _ rfl rfl (by unfold State.atLink; decide +kernel) rfl (by decide +kernel) (by decide +kernel)
    (show _ by decide +kernel)
  have := (h.1 0 ⟨3, 2, 6, 2, []⟩ (chainOf 0x44 ⟨3, 2, 6, 2, []⟩ wk) (chainOn served 0x44 ⟨3, 2, 6, 2, []⟩ wk) desc3
    0x100000).2.2.2.2.1 _ _ rfl rfl (by unfold State.atLink; decide +kernel) rfl (by decide +kernel) (by decide +kernel)
    (show _ by decide +kernel)
  have := (h.1 0 ⟨3, 2, 6, 7, []⟩ (chainOf 0x44 ⟨3, 2, 6, 7, []⟩ wk) (chainOn served 0x44 ⟨3, 2, 6, 7, []⟩ wk) desc3
    0x100000).2.2.2.2.1 _ _ rfl rfl (by unfold State.atLink; decide +kernel) rfl (by decide +kernel) (by decide +kernel)
    (show _ by decide +kernel)
  have := (h.1 0 ⟨3, 2, 6, 65536, [0x5000000007]⟩ (chainOf 0x40 ⟨3, 2, 6, 65536, [0x5000000007]⟩ wk) (chainOn priv 0x40 ⟨3, 2, 6,
    65536, [0x5000000007]⟩ wk) desc3 0).2.2.2.2.2.1 _ _ 7 rfl rfl (by unfold State.atLink; decide +kernel) rfl rfl rfl
    (by decide +kernel) (by decide +kernel) (show _ by decide +kernel)
  have := (h.1 0 ⟨3, 2, 6, 0, [0x1000000007]⟩ (chainOf 0x40 ⟨3, 2, 6, 0, [0x1000000007]⟩ (wk ++ [(7, 131071)])) (chainOn served 0x40
    ⟨3, 2, 6, 0, [0x1000000007]⟩ (wk ++ [(7, 131071)])) desc3 0).2.2.2.2.2.2.1 _ _ rfl rfl
    (by unfold State.atLink; decide +kernel) rfl (by decide +kernel)
  have := (h.1 0 ⟨3, 2, 6, 0, [0x1000000007]⟩ (chainOf 0x40 ⟨3, 2, 6, 0, [0x1000000007]⟩ (wk ++ [(7, 65537)])) (chainOn served 0x40
    ⟨3, 2, 6, 0, [0x1000000007]⟩ (wk ++ [(7, 65537)])) desc3 0).2.2.2.2.2.2.1 _ _ rfl rfl
    (by unfold State.atLink; decide +kernel) rfl (by decide +kernel)
  have := (h.1 0 ⟨3, 2, 6, 8, []⟩ (chainOf 0x40 ⟨3, 2, 6, 8, []⟩ [(2, 196609), (6, 262137)]) (chainOn served 0x40 ⟨3, 2, 6, 8, []⟩
    [(2, 196609), (6, 262137)]) desc3 0).2.2.2.2.2.2.1 _ _ rfl rfl (by unfold State.atLink; decide +kernel) rfl
    (by decide +kernel)
  have := (h.1 0 ⟨3, 2, 6, 8, [0x10]⟩ (chainOf 0x40 ⟨3, 2, 6, 8, [0x10]⟩ [(2, 0x310028)]) (chainOn priv 0x40 ⟨3, 2, 6, 8, [0x10]⟩
    [(2, 0x310028)]) desc3 0).2.2.2.2.2.2.2.1 _ _ rfl rfl (by unfold State.atLink; decide +kernel) rfl (by decide +kernel)
    (by decide +kernel) (show _ by decide +kernel) (by decide +kernel) (by decide +kernel)
  have := (h.1 0 ⟨3, 2, 6, 512, [0x10]⟩ (chainOf 0x40 ⟨3, 2, 6, 512, [0x10]⟩ [(2, 0x310028)]) (chainOn priv 0x40 ⟨3, 2, 6, 512,
    [0x10]⟩ [(2, 0x310028)]) desc3 0).2.2.2.2.2.2.2.1 _ _ rfl rfl (by unfold State.atLink; decide +kernel) rfl
    (by decide +kernel) (by decide +kernel) (show _ by decide +kernel) (by decide +kernel) (by decide +kernel)
  have := (h.1 0 ⟨3, 2, 6, 8, [0x10]⟩ (chainOf 0x41 ⟨3, 2, 6, 8, [0x10]⟩ [(2, 0x310028)]) (chainOn priv 0x41 ⟨3, 2, 6, 8, [0x10]⟩
    [(2, 0x310028)]) desc3 0).2.2.2.2.2.2.2.2.1 _ _ rfl rfl (by unfold State.atLink; decide +kernel) rfl (by decide +kernel)
    (by decide +kernel) (show _ by decide +kernel) (by decide +kernel) (by decide +kernel)
  have := (h.1 0 ⟨3, 2, 6, 512, [0x10]⟩ (chainOf 0x41 ⟨3, 2, 6, 512, [0x10]⟩ [(2, 0x310028)]) (chainOn priv 0x41 ⟨3, 2, 6, 512,
    [0x10]⟩ [(2, 0x310028)]) desc3 0).2.2.2.2.2.2.2.2.1 _ _ rfl rfl (by unfold State.atLink; decide +kernel) rfl
    (by decide +kernel) (by decide +kernel) (show _ by decide +kernel) (by decide +kernel) (by decide +kernel)
  have := (h.1 0 ⟨3, 2, 6, 65536, []⟩ (chainOf 0x40 ⟨3, 2, 6, 65536, []⟩ wk) (chainOn
    { served with wins := { served.wins with cache := [] } } 0x40 ⟨3, 2, 6, 65536, []⟩ wk) desc3 0x100000).2.2.2.2.2.2.2.2.2 _
    _ rfl rfl (by unfold State.atLink; decide +kernel) (by decide +kernel) (by decide +kernel) (show _ by decide +kernel)
    (by decide +kernel) (by decide +kernel) (show _ by decide +kernel)
  have := (h.2 0 ⟨3, 4, 2, 1, []⟩ (chainOf 0x42 ⟨3, 4, 2, 1, []⟩ wk) (chainOn served 0x42 ⟨3, 4, 2, 1, []⟩ wk) _ _ desc3 desc3
    0x104000 0x100000 rfl rfl (by unfold State.atLink; decide +kernel) rfl rfl (by decide +kernel) (by decide +kernel)
    (show _ by decide +kernel) (by decide +kernel) rfl rfl) _ rfl
  have := (h.2 0 ⟨3, 4, 2, 4, []⟩ (chainOf 0x42 ⟨3, 4, 2, 4, []⟩ wk) (chainOn served 0x42 ⟨3, 4, 2, 4, []⟩ wk) _ _ desc3 desc3
    0x104000 0x100000 rfl rfl (by unfold State.atLink; decide +kernel) rfl rfl (by decide +kernel) (by decide +kernel)
    (show _ by decide +kernel) (by decide +kernel) rfl rfl) _ rfl
  exact ⟨_, _, _, (h.1 0 ⟨3, 2, 6, 65536, []⟩ (chainOf 0x40 ⟨3, 2, 6, 65536, []⟩ wk) (chainOn served 0x40 ⟨3, 2, 6, 65536, []⟩ wk) desc3
    0x100000).1 _ _ rfl rfl (by unfold State.atLink; decide +kernel) (by decide +kernel) (by decide +kernel)
    (show _ by decide +kernel) (by decide +kernel) (by decide +kernel) rfl⟩

theorem meets_WindowAndTwinLinks (h : Obligations.WindowAndTwinLinks) : Runs := by
  have := (h 0 ⟨3, 2, 6, 0, []⟩ (chainOf 0x50 ⟨3, 2, 6, 0, []⟩ wk) (chainOn priv 0x50 ⟨3, 2, 6, 0, []⟩ wk)).1
    (by unfold State.atLink; decide +kernel) (by decide +kernel) (by decide +kernel)
  have := (h 0 ⟨3, 2, 6, 0, []⟩ (chainOf 0x51 ⟨3, 2, 6, 0, []⟩ []) (chainOn priv 0x51 ⟨3, 2, 6, 0, []⟩ [])).2.2.1
    (by unfold State.atLink; decide +kernel) (by decide +kernel) (by decide +kernel) (show _ by decide +kernel)
  have := (h 0 ⟨3, 2, 6, 0, []⟩ (chainOf 0x51 ⟨3, 2, 6, 0, []⟩ wk) (chainOn unfilledTable 0x51 ⟨3, 2, 6, 0, []⟩ wk)).2.2.2.1
    (by unfold State.atLink; decide +kernel) (by decide +kernel)
  have := (h 0 ⟨3, 2, 6, 0, []⟩ (chainOf 0x52 ⟨3, 2, 6, 0, []⟩ wk) (chainOn (priv.setChk 3 poisonDelta) 0x52 ⟨3, 2, 6, 0, []⟩
    wk)).2.2.2.2.1 (by unfold State.atLink; decide +kernel) (by decide +kernel) (by decide +kernel) (show _ by decide +kernel)
  have := (h 0 ⟨3, 2, 6, 0, []⟩ (chainOf 0x52 ⟨3, 2, 6, 0, []⟩ wk) (chainOn priv 0x52 ⟨3, 2, 6, 0, []⟩ wk)).2.2.2.2.2.1
    (by unfold State.atLink; decide +kernel) (by decide +kernel) (by decide +kernel) (show _ by decide +kernel)
  have := (h 0 ⟨3, 0, 0, 0, []⟩ (chainOf 0x59 ⟨3, 0, 0, 0, []⟩ wk) (chainOn priv 0x59 ⟨3, 0, 0, 0, []⟩ wk)).2.2.2.2.2.2
    (by unfold State.atLink; decide +kernel)
  exact ⟨_, _, _, (h 0 ⟨3, 2, 6, 0, []⟩ (chainOf 0x51 ⟨3, 2, 6, 0, []⟩ wk) (chainOn priv 0x51 ⟨3, 2, 6, 0, []⟩ wk)).2.1
    (by unfold State.atLink; decide +kernel) (by decide +kernel) (by decide +kernel) (show _ by decide +kernel)
    (by decide +kernel)⟩

/-- A tensor of 64 INT8 elements at the start of descriptor 3's window. -/
def tensor64 : List Byte := leBytes 8 (mkKey 3 1 + 1 * 2 ^ 32 + 3 * 2 ^ 40) ++ leBytes 8 0 ++ leBytes 4 64 ++ leBytes 4 1 ++
  leBytes 4 1 ++ leBytes 4 1 ++ leBytes 8 0 ++ leBytes 8 0 ++ leBytes 8 0 ++ leBytes 8 0

/-- A `CONVERT` of the tensor of handle 1 to INT8 at 64 KiB of the same window. -/
def fx64 : List Byte := leBytes 8 (6 + 1 * 2 ^ 12) ++ leBytes 8 65537 ++ leBytes 8 0 ++ leBytes 8 0 ++
  leBytes 8 (mkKey 3 1) ++ leBytes 8 0x10000 ++ leBytes 8 0x3F800000 ++ leBytes 8 0

/-- A state with that tensor registered as handle 1, with `refs` references and `h` copies. -/
def tiered (refs : Nat) (c : Option TierCopy) : State :=
  let s := (priv.tload 0 tensor64).2.2
  s.modHandle 1 (fun h => { h with refs := refs, girdle := c })

/-- A chain with bytes in its local store, standing at a link; that chain on sequencer 0 of a state. -/
def chainMem (op : BitVec 7) (l : Link) (w : SMap Nat) (bs : List Byte) : Seq :=
  { chainOf op l w with store := putBytes 0 [] 128 bs }

/-- An accepted operation of chain 0 of sequencer 0. -/
def queuedOp : FxOp := ⟨0, 1, 0, 0, [], 1, none, 0, 0, 0, [], .queued, .ok, [], 0, 0, [], [], none, false⟩
def full16 : State := { tiered 0 none with
  tiers := { (tiered 0 none).tiers with ops := (List.range 16).map (fun i => (i, queuedOp)) } }

/-- An envelope for slot 5, version 1, mode 1, with a limit of 1,000 uses. -/
def env5 : List Byte :=
  leBytes 8 (0x4B454E31 + 2 ^ 32 + 2 ^ 40) ++ leBytes 8 (5 + 2 ^ 32) ++ leBytes 8 1000 ++ List.replicate 104 0

/-- The armed link `addi` w4 = 7 of word 1, and a chain that waits in its `sync` for it. -/
def armed7 (tried : Bool) : ArmedLink := ⟨2 ^ 40, 0x10, ⟨4, 0, 0, 7, []⟩, 0, 1, tried⟩
def armedChain (tried : Bool) : Seq :=
  { chainOf 0x46 ⟨3, 0, 0, 0, []⟩ [] with asyncs := [⟨0, .armed⟩], nextAsync := 1, armed := [armed7 tried] }

/-- The bytes of an image of one `halt`, which needs the privileges of `op`, installed in slot 3 of the chain library. -/
def image1 (op : BitVec 7) (l : Link) : List Byte :=
  leBytes 8 (0x4B584331 + 1 * 2 ^ 32) ++ leBytes 8 0 ++ leBytes 5 ((encodeLink op l).headD 0).toNat
def library (op : BitVec 7) (l : Link) : State := { on0 with
  pipe := { on0.pipe with pm := putBytes 0 [] (65536 * 3) (image1 op l) }, kex := { on0.kex with installing := some 3 } }

/-- One entry for slot 3 in the queue of ring 0. -/
def submitted (op : BitVec 7) (l : Link) (lib : SMap LibSlot) : State :=
  let s := library op l
  let s := { s with
    pipe := { s.pipe with pm := putBytes 0 s.pipe.pm 0x100000 (leBytes 8 (3 + 9 * 2 ^ 16) ++ leBytes 8 11) },
    kex := { s.kex with installing := none, lib := lib } }
  ((s.setFld F.RING_SQ_BASE_ADDR 0 0x100).setFld F.RING_CFG_EN 0 1).setFld F.RING_SQ_TAIL_IDX 0 1

theorem meets_TierLinks (h : Obligations.TierLinks) : Runs := by
  have := (h 0 ⟨3, 2, 6, 0, []⟩ (chainMem 0x68 ⟨3, 2, 6, 0, []⟩ [(6, 128)] [])
    (({ priv with wins := { priv.wins with cache := [0] } }).setSeq 0 (chainMem 0x68 ⟨3, 2, 6, 0, []⟩ [(6, 128)] []))
    ((((({ priv with wins := { priv.wins with cache := [0] } }).setSeq 0 (chainMem 0x68 ⟨3, 2, 6, 0, []⟩ [(6, 128)]
    [])).issuing 0 (chainMem 0x68 ⟨3, 2, 6, 0, []⟩ [(6, 128)] [])).winTouch 0).tload 0 (List.replicate 64 0)).2.2).2.1
    .windowRevoked 0 (by unfold State.atLink; decide +kernel) (by decide +kernel) (by decide +kernel)
    (show _ by decide +kernel) (by decide +kernel)
  have := (h 0 ⟨3, 2, 0, 1, []⟩ (chainMem 0x69 ⟨3, 2, 0, 1, []⟩ [(2, 65537), (6, 128)] []) (((tiered 0 (some ⟨[], false, 0, 0,
    0⟩))).setSeq 0 (chainMem 0x69 ⟨3, 2, 0, 1, []⟩ [(2, 65537), (6, 128)] [])) (((((tiered 0 (some ⟨[], false, 0, 0,
    0⟩))).setSeq 0 (chainMem 0x69 ⟨3, 2, 0, 1, []⟩ [(2, 65537), (6, 128)] [])).issuing 0 (chainMem 0x69 ⟨3, 2, 0, 1, []⟩ [(2,
    65537), (6, 128)] [])).tpromote 65537 0 1 none).2).2.2.1 .ok (by unfold State.atLink; decide +kernel) rfl
    (by decide +kernel)
  have := (h 0 ⟨3, 2, 0, 0, []⟩ (chainMem 0x69 ⟨3, 2, 0, 0, []⟩ [(2, 65537), (6, 128)] []) (((tiered 0 none)).setSeq 0 (chainMem
    0x69 ⟨3, 2, 0, 0, []⟩ [(2, 65537), (6, 128)] [])) (((((tiered 0 none)).setSeq 0 (chainMem 0x69 ⟨3, 2, 0, 0, []⟩ [(2,
    65537), (6, 128)] [])).issuing 0 (chainMem 0x69 ⟨3, 2, 0, 0, []⟩ [(2, 65537), (6, 128)] [])).tpromote 65537 0 0
    none).2).2.2.2.1 1 0 (by unfold State.atLink; decide +kernel) rfl (by decide +kernel)
  have := (h 0 ⟨3, 2, 0, 0, []⟩ (chainMem 0x6A ⟨3, 2, 0, 0, []⟩ [(2, 65537), (6, 128)] []) (((tiered 0 none)).setSeq 0 (chainMem
    0x6A ⟨3, 2, 0, 0, []⟩ [(2, 65537), (6, 128)] [])) on0).2.2.2.2.1 1 (((tiered 0 none).tiers.handles.head?.map
    (fun p => p.2)).getD ⟨0, [], ⟨0,0,0,false,false,0,0,[],[]⟩, 0, none, none, none, false, false, 0, 0, 0, [], false, 0, 0,
    0, 0⟩) (by unfold State.atLink; decide +kernel) (by decide +kernel) (by decide +kernel) (show _ by decide +kernel)
    (by decide +kernel)
  have := (h 0 ⟨3, 2, 0, 0, []⟩ (chainMem 0x6A ⟨3, 2, 0, 0, []⟩ [(2, 65537), (6, 128)] []) (((tiered 2 none)).setSeq 0 (chainMem
    0x6A ⟨3, 2, 0, 0, []⟩ [(2, 65537), (6, 128)] [])) on0).2.2.2.2.2.1 1 (((tiered 2 none).tiers.handles.head?.map
    (fun p => p.2)).getD ⟨0, [], ⟨0,0,0,false,false,0,0,[],[]⟩, 0, none, none, none, false, false, 0, 0, 0, [], false, 0, 0,
    0, 0⟩) (by unfold State.atLink; decide +kernel) (by decide +kernel) (by decide +kernel) (show _ by decide +kernel)
  have := (h 0 ⟨3, 2, 6, 0, []⟩ (chainMem 0x6B ⟨3, 2, 6, 0, []⟩ [(2, 65537), (6, 128)] fx64) (((tiered 0 none)).setSeq 0 (chainMem
    0x6B ⟨3, 2, 6, 0, []⟩ [(2, 65537), (6, 128)] fx64)) on0).2.2.2.2.2.2.1 _ rfl (by unfold State.atLink; decide +kernel) rfl
    (by decide +kernel) (by decide +kernel) (show _ by decide +kernel) (by decide +kernel) (by decide +kernel)
  have := (h 0 ⟨3, 2, 6, 0, []⟩ (chainMem 0x6B ⟨3, 2, 6, 0, []⟩ [(2, 65537), (6, 128)] fx64) ((full16).setSeq 0 (chainMem 0x6B ⟨3,
    2, 6, 0, []⟩ [(2, 65537), (6, 128)] fx64)) on0).2.2.2.2.2.2.2.1 _ rfl (by unfold State.atLink; decide +kernel)
    (by decide +kernel) (by decide +kernel) (show _ by decide +kernel) (Or.inl (by decide +kernel))
  have := (h 0 ⟨3, 2, 0, 0, []⟩ (chainMem 0x6C ⟨3, 2, 0, 0, []⟩ [(2, 9)] [])
    (({ priv with tiers := { priv.tiers with ops := [(9, queuedOp)] } }).setSeq 0 (chainMem 0x6C ⟨3, 2, 0, 0, []⟩ [(2, 9)]
    [])) on0).2.2.2.2.2.2.2.2.1 queuedOp (by unfold State.atLink; decide +kernel) rfl rfl rfl
  have := (h 0 ⟨3, 2, 0, 0, []⟩ (chainMem 0x6C ⟨3, 2, 0, 0, []⟩ [(2, 8)] [])
    (({ priv with tiers := { priv.tiers with ops := [(9, queuedOp)] } }).setSeq 0 (chainMem 0x6C ⟨3, 2, 0, 0, []⟩ [(2, 8)]
    [])) on0).2.2.2.2.2.2.2.2.2 (by unfold State.atLink; decide +kernel) rfl
  exact ⟨_, _, _, (h 0 ⟨3, 2, 6, 0, []⟩ (chainMem 0x68 ⟨3, 2, 6, 0, []⟩ [(6, 128)] tensor64) ((priv).setSeq 0 (chainMem 0x68 ⟨3, 2, 6, 0,
    []⟩ [(6, 128)] tensor64)) (((((priv).setSeq 0 (chainMem 0x68 ⟨3, 2, 6, 0, []⟩ [(6, 128)] tensor64)).issuing 0 (chainMem
    0x68 ⟨3, 2, 6, 0, []⟩ [(6, 128)] tensor64)).winTouch 3).tload 0 tensor64).2.2).1 65537
    (by unfold State.atLink; decide +kernel) (by decide +kernel) (by decide +kernel) (show _ by decide +kernel)⟩

theorem meets_KeyLinks (h : Obligations.KeyLinks) : Runs := by
  have := ((h 0 ⟨3, 2, 6, 0, []⟩ (chainMem 0x70 ⟨3, 2, 6, 0, []⟩ [(2, 7), (6, 128)] []) (((priv.setFld F.KS_CFG_VAULT_SLOT 0
    7)).setSeq 0 (chainMem 0x70 ⟨3, 2, 6, 0, []⟩ [(2, 7), (6, 128)] []))).1 (Or.inr rfl)).1
    (by unfold State.atLink; decide +kernel) (by decide +kernel)
  have := ((h 0 ⟨3, 2, 0, 0, []⟩ (chainMem 0x71 ⟨3, 2, 0, 0, []⟩ [(6, 128)] []) ((priv).setSeq 0 (chainMem 0x71 ⟨3, 2, 0, 0, []⟩
    [(6, 128)] []))).1 (Or.inl rfl)).2.1 (by unfold State.atLink; decide +kernel)
  have := ((h 0 ⟨3, 2, 0, 0, []⟩ (chainMem 0x71 ⟨3, 2, 0, 0, []⟩ [(2, 7), (6, 128)] []) (((priv.setFld F.KS_CFG_VAULT_SLOT 0
    7)).setSeq 0 (chainMem 0x71 ⟨3, 2, 0, 0, []⟩ [(2, 7), (6, 128)] []))).1 (Or.inr rfl)).2.1
    (by unfold State.atLink; decide +kernel)
  have := ((h 0 ⟨3, 2, 0, 0, []⟩ (chainMem 0x72 ⟨3, 2, 0, 0, []⟩ [(6, 128)] []) ((priv).setSeq 0 (chainMem 0x72 ⟨3, 2, 0, 0, []⟩
    [(6, 128)] []))).1 (Or.inl rfl)).2.2 (by unfold State.atLink; decide +kernel)
  have := ((h 0 ⟨3, 2, 0, 0, []⟩ (chainMem 0x72 ⟨3, 2, 0, 0, []⟩ [(2, 7), (6, 128)] []) (((priv.setFld F.KS_CFG_VAULT_SLOT 0
    7)).setSeq 0 (chainMem 0x72 ⟨3, 2, 0, 0, []⟩ [(2, 7), (6, 128)] []))).1 (Or.inr rfl)).2.2
    (by unfold State.atLink; decide +kernel)
  have := ((h 0 ⟨3, 2, 6, 0, []⟩ (chainMem 0x70 ⟨3, 2, 6, 0, []⟩ [(2, 5), (6, 261888)] []) ((priv).setSeq 0 (chainMem 0x70 ⟨3, 2, 6,
    0, []⟩ [(2, 5), (6, 261888)] []))).2 (by decide +kernel) (by decide +kernel)).1 _ rfl
    (by unfold State.atLink; decide +kernel) (by decide +kernel)
  have := ((h 0 ⟨3, 2, 6, 0, []⟩ (chainMem 0x70 ⟨3, 2, 6, 0, []⟩ [(2, 5), (6, 128)] env5) ((priv).setSeq 0 (chainMem 0x70 ⟨3, 2, 6,
    0, []⟩ [(2, 5), (6, 128)] env5))).2 (by decide +kernel) (by decide +kernel)).1 _ rfl
    (by unfold State.atLink; decide +kernel) (by decide +kernel)
  have := ((h 0 ⟨3, 2, 0, 0, []⟩ (chainMem 0x71 ⟨3, 2, 0, 0, []⟩ [(2, 5), (6, 261888)] []) ((priv).setSeq 0 (chainMem 0x71 ⟨3, 2, 0,
    0, []⟩ [(2, 5), (6, 261888)] []))).2 (by decide +kernel) (by decide +kernel)).2.1 (by unfold State.atLink; decide +kernel)
    rfl
  have := ((h 0 ⟨3, 2, 0, 0, []⟩ (chainMem 0x71 ⟨3, 2, 0, 0, []⟩ [(2, 5), (6, 261888)] []) (((priv.setSlot 5
    { emptySlot with staged := .loaded ⟨2, 0, 100⟩ })).setSeq 0 (chainMem 0x71 ⟨3, 2, 0, 0, []⟩ [(2, 5), (6, 261888)] []))).2
    (by decide +kernel) (by decide +kernel)).2.1 (by unfold State.atLink; decide +kernel) rfl
  have := ((h 0 ⟨3, 2, 0, 0, [0x2000000008]⟩ (chainMem 0x71 ⟨3, 2, 0, 0, [0x2000000008]⟩ [(2, 5), (8, 1)] []) (((priv.setSlot 5
    { emptySlot with staged := .loaded ⟨2, 0, 100⟩ })).setSeq 0 (chainMem 0x71 ⟨3, 2, 0, 0, [0x2000000008]⟩ [(2, 5), (8, 1)]
    []))).2 (by decide +kernel) (by decide +kernel)).2.2.1 8 (by unfold State.atLink; decide +kernel) rfl (by decide +kernel)
    rfl
  have := ((h 0 ⟨3, 2, 0, 0, [0x2000000008]⟩ (chainMem 0x71 ⟨3, 2, 0, 0, [0x2000000008]⟩ [(2, 5), (8, 1)] []) (((priv.setSlot 5
    { emptySlot with staged := .loaded ⟨2, 0, 100⟩, swapAt := some (2 ^ 41, none) })).setSeq 0 (chainMem 0x71 ⟨3, 2, 0, 0,
    [0x2000000008]⟩ [(2, 5), (8, 1)] []))).2 (by decide +kernel) (by decide +kernel)).2.2.2.1 8
    (by unfold State.atLink; decide +kernel) rfl (by decide +kernel) rfl
  have := ((h 0 ⟨3, 2, 0, 0, []⟩ (chainMem 0x72 ⟨3, 2, 0, 0, []⟩ [(2, 5), (6, 261888)] []) (((priv.setSlot 5
    { emptySlot with staged := .loaded ⟨2, 0, 100⟩ })).setSeq 0 (chainMem 0x72 ⟨3, 2, 0, 0, []⟩ [(2, 5), (6, 261888)] []))).2
    (by decide +kernel) (by decide +kernel)).2.2.2.2 (by unfold State.atLink; decide +kernel)
  exact ⟨_, _, _, ((h 0 ⟨3, 2, 6, 0, []⟩ (chainMem 0x70 ⟨3, 2, 6, 0, []⟩ [(6, 128)] []) ((priv).setSeq 0 (chainMem 0x70 ⟨3, 2, 6, 0, []⟩
    [(6, 128)] []))).1 (Or.inl rfl)).1 (by unfold State.atLink; decide +kernel) (by decide +kernel)⟩

theorem meets_SystemLinks (h : Obligations.SystemLinks) : Runs := by
  have := (h 0 ⟨3, 2, 0, 0, []⟩ (chainMem 0x78 ⟨3, 2, 0, 0, []⟩ [(2, 0x5000)] []) ((priv).setSeq 0 (chainMem 0x78 ⟨3, 2, 0, 0, []⟩
    [(2, 0x5000)] [])) ((((priv).setSeq 0 (chainMem 0x78 ⟨3, 2, 0, 0, []⟩ [(2, 0x5000)] [])).issuing 0 (chainMem 0x78 ⟨3, 2,
    0, 0, []⟩ [(2, 0x5000)] [])).retire 0x5000 false (some 0)).2).2.1 .windowBounds (by unfold State.atLink; decide +kernel)
    (by decide +kernel) (by decide +kernel)
  have := (h 0 ⟨3, 2, 6, 255, []⟩ (chainMem 0x79 ⟨3, 2, 6, 255, []⟩ [(2, 1), (6, 128)] [])
    (({ priv with ev := { priv.ev with head := 3 } }).setSeq 0 (chainMem 0x79 ⟨3, 2, 6, 255, []⟩ [(2, 1), (6, 128)] []))
    on0).2.2.1 (by unfold State.atLink; decide +kernel) (by decide +kernel) (by decide +kernel) (show _ by decide +kernel)
  have := (h 0 ⟨3, 2, 6, 255, []⟩ (chainMem 0x79 ⟨3, 2, 6, 255, []⟩ [(2, 3), (6, 128)] [])
    (({ priv with ev := { priv.ev with head := 3 } }).setSeq 0 (chainMem 0x79 ⟨3, 2, 6, 255, []⟩ [(2, 3), (6, 128)] []))
    on0).2.2.1 (by unfold State.atLink; decide +kernel) (by decide +kernel) (by decide +kernel) (show _ by decide +kernel)
  have := (h 0 ⟨3, 2, 6, 255, []⟩ (chainMem 0x79 ⟨3, 2, 6, 255, []⟩ [(2, 0), (6, 128)] [])
    (({ priv with ev := { priv.ev with head := 3 } }).setSeq 0 (chainMem 0x79 ⟨3, 2, 6, 255, []⟩ [(2, 0), (6, 128)] []))
    on0).2.2.2.1 (by unfold State.atLink; decide +kernel) (by decide +kernel) (by decide +kernel)
  have := (h 0 ⟨3, 2, 6, 255, []⟩ (chainMem 0x79 ⟨3, 2, 6, 255, []⟩ [(2, 5), (6, 128)] [])
    (({ priv with ev := { priv.ev with head := 3 } }).setSeq 0 (chainMem 0x79 ⟨3, 2, 6, 255, []⟩ [(2, 5), (6, 128)] []))
    on0).2.2.2.1 (by unfold State.atLink; decide +kernel) (by decide +kernel) (by decide +kernel)
  have := (h 0 ⟨3, 0, 0, 0, []⟩ (chainMem 0x7A ⟨3, 0, 0, 0, []⟩ [] []) ((priv).setSeq 0 (chainMem 0x7A ⟨3, 0, 0, 0, []⟩ [] []))
    on0).2.2.2.2.1 (by unfold State.atLink; decide +kernel) rfl
  have := (h 0 ⟨3, 2, 0, 0, []⟩ (chainMem 0x7A ⟨3, 2, 0, 0, []⟩ [(2, 1)] []) ((priv).setSeq 0 (chainMem 0x7A ⟨3, 2, 0, 0, []⟩ [(2,
    1)] [])) on0).2.2.2.2.2.1 (by unfold State.atLink; decide +kernel) (by decide +kernel) (by decide +kernel)
  have := (h 0 ⟨3, 2, 0, 0, []⟩ (chainMem 0x7B ⟨3, 2, 0, 0, []⟩ [(2, 0x600000)] []) ((priv).setSeq 0 (chainMem 0x7B ⟨3, 2, 0, 0, []⟩
    [(2, 0x600000)] [])) on0).2.2.2.2.2.2.1 _ _ rfl rfl (by unfold State.atLink; decide +kernel) (by decide +kernel)
  have := (h 0 ⟨3, 2, 0, 0, []⟩ (chainMem 0x7B ⟨3, 2, 0, 0, []⟩ [(2, 0x600000)] []) (((priv.setFldOf 0x60 F.BLK_FSTAT_UNACK 0
    3)).setSeq 0 (chainMem 0x7B ⟨3, 2, 0, 0, []⟩ [(2, 0x600000)] [])) on0).2.2.2.2.2.2.1 _ _ rfl rfl
    (by unfold State.atLink; decide +kernel) (by decide +kernel)
  have := (h 0 ⟨3, 2, 0, 0, []⟩ (chainMem 0x7B ⟨3, 2, 0, 0, []⟩ [(2, 0x600001)] []) (((priv.setFldOf 0x60 F.BLK_FSTAT_UNACK 0
    3)).setSeq 0 (chainMem 0x7B ⟨3, 2, 0, 0, []⟩ [(2, 0x600001)] [])) on0).2.2.2.2.2.2.2 _ _ rfl rfl
    (by unfold State.atLink; decide +kernel) (by decide +kernel)
  have := (h 0 ⟨3, 2, 0, 0, []⟩ (chainMem 0x7B ⟨3, 2, 0, 0, []⟩ [(2, 0x990000)] []) (((priv.setFldOf 0x60 F.BLK_FSTAT_UNACK 0
    3)).setSeq 0 (chainMem 0x7B ⟨3, 2, 0, 0, []⟩ [(2, 0x990000)] [])) on0).2.2.2.2.2.2.2 _ _ rfl rfl
    (by unfold State.atLink; decide +kernel) (by decide +kernel)
  exact ⟨_, _, _, (h 0 ⟨3, 2, 0, 0, []⟩ (chainMem 0x78 ⟨3, 2, 0, 0, []⟩ [(2, 0x5000)] [])
    (({ ((priv.setFld F.MC_STAT_GIB 0 16).setFld F.MC_STAT_DPC 0 1) with vault := { priv.vault with pmBytes := 2 ^ 36 } }).setSeq
    0 (chainMem 0x78 ⟨3, 2, 0, 0, []⟩ [(2, 0x5000)] []))
    (((({ ((priv.setFld F.MC_STAT_GIB 0 16).setFld F.MC_STAT_DPC 0 1) with vault := { priv.vault with pmBytes := 2 ^ 36 } }).setSeq
    0 (chainMem 0x78 ⟨3, 2, 0, 0, []⟩ [(2, 0x5000)] [])).issuing 0 (chainMem 0x78 ⟨3, 2, 0, 0, []⟩ [(2, 0x5000)] [])).retire
    0x5000 false (some 0)).2).1 (by unfold State.atLink; decide +kernel) (Prod.ext (by decide +kernel) rfl)⟩

theorem meets_ArmedLinks (h : Obligations.ArmedLinks) : Runs := by
  have := ((h 0 l312 l312 (armedChain false) (priv.setSeq 0 (armedChain false)) 0 []).2.1 (armed7 false) _ (by decide +kernel) rfl
    rfl rfl rfl rfl rfl rfl).1 rfl (by decide +kernel)
  have := ((h 0 l312 l312 (armedChain true) (priv.setSeq 0 (armedChain true)) 0 []).2.1 (armed7 true) _ (by decide +kernel) rfl rfl
    rfl rfl rfl rfl rfl).2 rfl
  have := ((h 0 l312 l312 (armedChain false) (priv.setSeq 0 (armedChain false)) 0 []).2.2 (armed7 false) .sync .tagFail rfl).1
  have := ((h 0 l312 l312 (armedChain false) (priv.setSeq 0 (armedChain false)) 0 []).2.2 (armed7 false) .sync .tagFail rfl).2.1
  have := ((h 0 l312 l312 (armedChain false) (priv.setSeq 0 (armedChain false)) 0 []).2.2 (armed7 false) .sync .tagFail rfl).2.2.1
    (by decide +kernel) (by decide +kernel)
  have := ((h 0 l312 l312 (armedChain false) (priv.setSeq 0 (armedChain false)) 0 []).2.2 (armed7 false) .sync .tagFail rfl).2.2.2
  exact ⟨_, _, _, (h 0 ⟨3, 2, 0, 0, []⟩ ⟨4, 0, 0, 7, []⟩
    { chainOf 0x61 ⟨3, 2, 0, 0, []⟩ [(2, 9)] with words := encodeLink 0x61 ⟨3, 2, 0, 0, []⟩ ++ encodeLink 0x10 ⟨4, 0, 0, 7, []⟩ ++ encodeLink 0x46 ⟨0, 0, 0, 0, []⟩, starts := [0, 1, 2] }
    (priv.setSeq 0
    { chainOf 0x61 ⟨3, 2, 0, 0, []⟩ [(2, 9)] with words := encodeLink 0x61 ⟨3, 2, 0, 0, []⟩ ++ encodeLink 0x10 ⟨4, 0, 0, 7, []⟩ ++ encodeLink 0x46 ⟨0, 0, 0, 0, []⟩, starts := [0, 1, 2] })
    0x10 (encodeLink 0x46 ⟨0, 0, 0, 0, []⟩)).1 (by unfold State.atLink; decide +kernel) rfl rfl rfl (by decide +kernel)
    (by decide +kernel)⟩

theorem meets_ChainEvents (h : Obligations.ChainEvents) : Runs := by
  have := (h 0 ({ chainOf 0x46 ⟨3, 0, 0, 0, []⟩ [] with wait := some ⟨3, .ready .tagFail⟩ }) ((priv).setSeq 0
    ({ chainOf 0x46 ⟨3, 0, 0, 0, []⟩ [] with wait := some ⟨3, .ready .tagFail⟩ })) (by decide +kernel) rfl).1 3 .tagFail rfl
    rfl rfl rfl (by unfold Seq.hasNext; decide +kernel) (by decide +kernel) (by decide +kernel)
  have := (h 0 ({ chainOf 0x46 ⟨3, 0, 0, 0, []⟩ [] with wait := some ⟨3, .ready .illegalLink⟩ }) ((priv).setSeq 0
    ({ chainOf 0x46 ⟨3, 0, 0, 0, []⟩ [] with wait := some ⟨3, .ready .illegalLink⟩ })) (by decide +kernel) rfl).2.1 3
    .illegalLink rfl rfl rfl rfl (Or.inl rfl)
  have := (h 0 ({ chainOf 0x46 ⟨3, 0, 0, 0, []⟩ [] with wait := some ⟨3, .ready .internal⟩ }) ((priv).setSeq 0
    ({ chainOf 0x46 ⟨3, 0, 0, 0, []⟩ [] with wait := some ⟨3, .ready .internal⟩ })) (by decide +kernel) rfl).2.1 3 .internal
    rfl rfl rfl rfl (Or.inr rfl)
  have := (h 0 ({ chainOf 0x46 ⟨3, 0, 0, 0, []⟩ [] with asyncs := [], wait := some ⟨3, .sync⟩ }) ((priv).setSeq 0
    ({ chainOf 0x46 ⟨3, 0, 0, 0, []⟩ [] with asyncs := [], wait := some ⟨3, .sync⟩ })) (by decide +kernel) rfl).2.2.1 3 rfl
    rfl (by decide +kernel) rfl (by decide +kernel) (by unfold Seq.hasNext; decide +kernel) (by decide +kernel)
    (by decide +kernel)
  have := (h 0
    ({ chainOf 0x46 ⟨3, 0, 0, 0, []⟩ [] with asyncs := [⟨0, .ready .ok⟩, ⟨1, .ready .windowBounds⟩], wait := some ⟨3, .sync⟩ })
    ((priv).setSeq 0
    ({ chainOf 0x46 ⟨3, 0, 0, 0, []⟩ [] with asyncs := [⟨0, .ready .ok⟩, ⟨1, .ready .windowBounds⟩], wait := some ⟨3, .sync⟩ }))
    (by decide +kernel) rfl).2.2.1 3 rfl rfl (by decide +kernel) rfl (by decide +kernel)
    (by unfold Seq.hasNext; decide +kernel) (by decide +kernel) (by decide +kernel)
  have := (h 0 ({ chainOf 0x60 ⟨3, 2, 0, 0, []⟩ [] with wait := some ⟨3, .await (2 ^ 41)⟩ }) ((priv).setSeq 0
    ({ chainOf 0x60 ⟨3, 2, 0, 0, []⟩ [] with wait := some ⟨3, .await (2 ^ 41)⟩ })) (by decide +kernel) rfl).2.2.2.1 3 (2 ^ 41)
    rfl rfl rfl rfl (by unfold Seq.hasNext; decide +kernel) (by decide +kernel)
  have := (h 0 ({ chainOf 0x60 ⟨3, 2, 0, 0, []⟩ [] with wait := some ⟨3, .await 0⟩ }) ((priv).setSeq 0
    ({ chainOf 0x60 ⟨3, 2, 0, 0, []⟩ [] with wait := some ⟨3, .await 0⟩ })) (by decide +kernel) rfl).2.2.2.1 3 0 rfl rfl rfl
    rfl (by unfold Seq.hasNext; decide +kernel) (by decide +kernel)
  have := (h 0 (chainOf 0x7F ⟨3, 0, 0, 0, []⟩ []) ((priv).setSeq 0 (chainOf 0x7F ⟨3, 0, 0, 0, []⟩ [])) (by decide +kernel)
    rfl).2.2.2.2.1 _ (by decide +kernel) rfl rfl
  have := (h 0 ({ chainOf 0x00 l312 [] with count := 2 ^ 24 }) ((priv).setSeq 0 ({ chainOf 0x00 l312 [] with count := 2 ^ 24 }))
    (by decide +kernel) rfl).2.2.2.2.2.1 _ (by decide +kernel) rfl (Or.inl ⟨rfl, rfl⟩)
  have := (h 0 ({ armedChain false with count := 2 ^ 24, wait := some ⟨3, .sync⟩ }) ((priv).setSeq 0
    ({ armedChain false with count := 2 ^ 24, wait := some ⟨3, .sync⟩ })) (by decide +kernel) rfl).2.2.2.2.2.1 _
    (by decide +kernel) rfl (Or.inr ⟨armed7 false, rfl, rfl, rfl⟩)
  have := (h 0 ({ chainOf 0x00 l312 [] with aborted := true }) ((priv).setSeq 0 ({ chainOf 0x00 l312 [] with aborted := true }))
    (by decide +kernel) rfl).2.2.2.2.2.2 rfl rfl
  exact ⟨_, _, _, (h 0 ({ chainOf 0x46 ⟨3, 0, 0, 0, []⟩ [] with wait := some ⟨3, .ready .ok⟩ }) ((priv).setSeq 0
    ({ chainOf 0x46 ⟨3, 0, 0, 0, []⟩ [] with wait := some ⟨3, .ready .ok⟩ })) (by decide +kernel) rfl).1 3 .ok rfl rfl rfl rfl
    (by unfold Seq.hasNext; decide +kernel) (by decide +kernel) (by decide +kernel)⟩

theorem meets_RingCommands (h : Obligations.RingCommands) : Runs := by
  have := (h State.reset .firmware 4095 31).1 4095 ⟨rfl, by decide +kernel⟩ (by decide +kernel) (by decide +kernel)
  have := (h (library 0x7C ⟨0, 0, 0, 0, []⟩) .mgmt 0 0).2.1 3 ⟨[0x7C00000000], [0], 0, 0⟩ rfl (by decide +kernel)
  have := (h (library 0x7F ⟨0, 0, 0, 0, []⟩) .mgmt 0 0).2.2.1 3 0 rfl (by decide +kernel)
  have := ((h State.reset .mgmt 4095 0).2.2.2 (by decide +kernel) ⟨rfl, by decide +kernel⟩).1 15 (by decide +kernel)
  have := ((h State.reset .mgmt 4095 0).2.2.2 (by decide +kernel) ⟨rfl, by decide +kernel⟩).2.1 16 (by decide +kernel)
  have := ((h State.reset .mgmt 4095 0).2.2.2 (by decide +kernel) ⟨rfl, by decide +kernel⟩).2.2.1 0 (by decide +kernel)
    (by decide +kernel)
  have := ((h State.reset .mgmt 4095 0).2.2.2 (by decide +kernel) ⟨rfl, by decide +kernel⟩).2.2.2.1 7
  have := (((h (submitted 0x7C ⟨0, 0, 0, 0, []⟩ []) .mgmt 0 31).2.2.2 (by decide +kernel) ⟨rfl, by decide +kernel⟩).2.2.2.2
    (by decide +kernel) rfl (by decide +kernel) (by decide +kernel) rfl (by decide +kernel)).1 rfl
  have := ((((h (submitted 0x72 ⟨0, 2, 0, 0, []⟩ [(3, ⟨[0], 16, false⟩)]) .mgmt 0 31).2.2.2 (by decide +kernel)
    ⟨rfl, by decide +kernel⟩).2.2.2.2 (by decide +kernel) rfl (by decide +kernel) (by decide +kernel) rfl
    (by decide +kernel)).2 ⟨[0x7200800000], [0], 16, 0⟩ (by decide +kernel)).1 (by decide +kernel)
  have := ((((h (submitted 0x7C ⟨0, 0, 0, 0, []⟩ [(3, ⟨[0], 0, false⟩)]) .mgmt 0 31).2.2.2 (by decide +kernel)
    ⟨rfl, by decide +kernel⟩).2.2.2.2 (by decide +kernel) rfl (by decide +kernel) (by decide +kernel) rfl
    (by decide +kernel)).2 ⟨[0x7C00000000], [0], 0, 0⟩ (by decide +kernel)).2 (by decide +kernel)
  exact ⟨_, _, _, (h State.reset .mgmt 0 0).1 0 ⟨rfl, by decide +kernel⟩ (by decide +kernel) (by decide +kernel)⟩

/-- A state with fields set: field, unit, value. -/
def fields (s : State) (fs : List (Fld × Nat × Nat)) : State := fs.foldl (fun t x => t.setFld x.1 x.2.1 x.2.2) s

/-- A block with 16 GiB on channel 0, one subchannel-rank pair, whose channel 0 serves. -/
def dram : State := fields { priv with vault := { priv.vault with pmBytes := 2 ^ 34 } }
  [(F.MC_STAT_GIB, 0, 16), (F.MC_STAT_DPC, 0, 1), (F.MC_STAT_RANKS, 0, 1), (F.MC_STAT_STATE, 0, 2)]

/-- One write of request 0 to line 64, in an entry of the setting buffer that opened at 0 with a window of 500 ns. -/
def part64 : Merge := ⟨0, [(0, 7)], 0, 0⟩
def entry64 (closing : Bool) : SbEntry := ⟨64, [part64], 0, 500, closing⟩
def buffered (closing : Bool) : State :=
  let s := (dram.newOp (.link 0 0) .write 1 1).2
  let s := (s.stampAs 0 64 0).2
  { s with pipe := { s.pipe with sb := [entry64 closing] } }

/-- A line of bytes, in a store on its way and in the locket cache. -/
def line7 : List Byte := List.replicate 64 7
def lk64 (dirty : Bool) : LkLine := ⟨64, line7, line7, true, dirty, 0, [], 0⟩
def cached (dirty flushing : Bool) : State := { dram with pipe := { dram.pipe with
  locket := { dram.pipe.locket with lines := [(0, lk64 dirty)], flushing := flushing } } }
def onWay : State := { dram with pipe := { dram.pipe with stores := [⟨64, line7, [part64], false⟩] } }
def filling64 : State := { dram with pipe := { dram.pipe with
  locket := { dram.pipe.locket with fills := [⟨64, false, false, 0⟩] } } }

/-- A read of line 64 that stands as stored, or with the given deviation, and its state. -/
def read64 (chk : BitVec 64 × BitVec 64) (stale : Bool) : ReadRec :=
  ⟨.request 0 0 0 64, 64, line7, chk, [], stale, false, none, 0, false⟩
def reading (chk : BitVec 64 × BitVec 64) (stale : Bool) : State := { dram with pipe := { dram.pipe with
  reads := [(5, read64 chk stale)], nextRead := 6 } }

/-- Two reads of one subchannel: an older one whose turn comes first. -/
def behind : State := { reading (0, 0) false with pipe := { (reading (0, 0) false).pipe with
  reads := [(4, { read64 (0, 0) false with line := 98 }), (5, { read64 (0, 0) false with at_ := 7 })] } }

/-- Sixteen lines of device 3 of subchannel-rank 0 seen with a corrected error. -/
def seen16 : State := { dram with bezel := { dram.bezel with
  seen := (List.range 16).map (fun i => ⟨2, 0, 3, 64 * i, 0⟩) } }

theorem meets_PipelineAndLocket (h : Obligations.PipelineAndLocket) : Runs := by
  have := ((h.1 (buffered false) 64).2.1 (entry64 false) rfl).1
  have := ((h.1 (buffered false) 64).2.1 (entry64 false) rfl).2
  have := ((h.1 (buffered true) 64).2.2.1 (entry64 true) rfl (by decide +kernel)).2 _ (by decide +kernel) (Prod.ext
    (by decide +kernel) rfl) (by decide +kernel) (by decide +kernel)
  have := ((h.1 { buffered true with pipe := { (buffered true).pipe with stores := [⟨64, line7, [part64], false⟩] } } 64).2.2.1
    (entry64 true) rfl (by decide +kernel)).1 line7 (by decide +kernel)
  have := (h.1 onWay 64).2.2.2.1 ⟨64, line7, [part64], false⟩ true rfl (by decide +kernel)
  have := (h.1 onWay 64).2.2.2.1 ⟨64, line7, [part64], false⟩ false rfl (by decide +kernel)
  have := (h.1 filling64 64).2.2.2.2.1 ⟨64, false, false, 0⟩ _ _ rfl (by decide +kernel) (Prod.ext (by decide +kernel) rfl) rfl
    (by decide +kernel) rfl
  have := (h.1 (cached true false) 64).2.2.2.2.2 (lk64 true) rfl rfl
  have := ((h.2 (dram.setFld F.LK_CTL_EN 0 1) .mgmt).1 ⟨rfl, by decide +kernel⟩ (by decide +kernel)).1 rfl rfl
  have := ((h.2 (cached true false |>.setFld F.LK_CTL_EN 0 1) (.fabric 0)).1 ⟨rfl, by decide +kernel⟩ (by decide +kernel)).1 rfl rfl
  have := ((h.2 dram .mgmt).1 ⟨rfl, by decide +kernel⟩ (by decide +kernel)).2.1 rfl rfl
  have := ((h.2 dram .firmware).1 ⟨rfl, by decide +kernel⟩ (by decide +kernel)).2.2.1 rfl
  have := ((h.2 (cached true true) .mgmt).1 ⟨rfl, by decide +kernel⟩ (by decide +kernel)).2.2.2 true rfl
  have := ((h.2 (cached true true) .mgmt).1 ⟨rfl, by decide +kernel⟩ (by decide +kernel)).2.2.2 false rfl
  have := (h.2
    { cached false true with pipe := { (cached false true).pipe with locket := { (cached false true).pipe.locket with again := true } } }
    .mgmt).2 rfl (by decide +kernel) (by decide +kernel)
  have := (h.2
    { cached false true with pipe := { (cached false true).pipe with locket := { (cached false true).pipe.locket with again := false } } }
    .mgmt).2 rfl (by decide +kernel) (by decide +kernel)
  exact ⟨_, _, _, (h.1 State.reset 64).1⟩

theorem meets_LineReads (h : Obligations.LineReads) : Runs := by
  have := ((h (reading (0, 0) true) ((reading (0, 0) true).takeTurn (.read 5) 64).2 5 (read64 (0, 0) true) [(3, 0x81)] rfl rfl).2.1
    (Prod.ext (by decide +kernel) rfl)).2.1 3 0x81 (by decide +kernel)
  have := ((h (reading (0, 0) false) ((reading (0, 0) false).takeTurn (.read 5) 64).2 5 (read64 (0, 0) false) [(3, 0x81)] rfl
    rfl).2.1 (Prod.ext (by decide +kernel) rfl)).2.1 3 0x81 (by decide +kernel)
  have := ((h (reading poisonDelta false) ((reading poisonDelta false).takeTurn (.read 5) 64).2 5 (read64 poisonDelta false) [] rfl
    rfl).2.1 (Prod.ext (by decide +kernel) rfl)).2.2.1 (by decide +kernel) (by decide +kernel) (show _ by decide +kernel)
  have := ((h (reading (0, 0) false) ((reading (0, 0) false).takeTurn (.read 5) 64).2 5 (read64 (0, 0) false) [(3, 0x81), (4, 0x80)]
    rfl rfl).2.1 (Prod.ext (by decide +kernel) rfl)).2.2.2 (by decide +kernel) (by decide +kernel) rfl
  have := (h (reading (0, 0) false) dram 5 (read64 (0, 0) false) [] rfl rfl).2.2 0
  have := (h behind behind 5 { read64 (0, 0) false with at_ := 7 } [] rfl rfl).1 (by decide +kernel)
  exact ⟨_, _, _, ((h (reading (0, 0) false) ((reading (0, 0) false).takeTurn (.read 5) 64).2 5 (read64 (0, 0) false) [] rfl rfl).2.1
    (Prod.ext (by decide +kernel) rfl)).1 (by decide +kernel)⟩

theorem meets_BezelDecodes (h : Obligations.BezelDecodes) : decodeBezel none (syndromes (0, 0) []) = .clean := by
  have := h.2.1 0 0x8000000000000001 (by decide +kernel) (by decide +kernel)
  have := h.2.1 7 0x8000000000000001 (by decide +kernel) (by decide +kernel)
  have := h.2.1 8 0x8000000000000001 (by decide +kernel) (by decide +kernel)
  have := h.2.1 9 0x8000000000000001 (by decide +kernel) (by decide +kernel)
  have := h.2.2 none
  have := h.2.2 (some 3)
  have := h.2.2 (some 8)
  have := h.2.2 (some 9)
  exact h.1

theorem meets_Sealing (h : Obligations.Sealing) : Runs := by
  have := (h { (priv.setFld F.MER_STAT_UNSURE 0 0) with pipe := { priv.pipe with timeReached := some 3 } } 3).1.2.1 3
    (by decide +kernel) rfl
  have := (h { (priv.setFld F.MER_STAT_UNSURE 0 0) with pipe := { priv.pipe with timeReached := some 9 } } 3).1.2.1 9
    (by decide +kernel) rfl
  have := (h (priv.setFld F.MER_STAT_UNSURE 0 1) 3).1.2.2 (by decide +kernel)
  have := (h ({ (priv.setFld F.MER_STAT_UNSURE 0 0) with pipe := { priv.pipe with timeReached := some 9, sealedE := 5 } }) 9).2.1
    rfl (by decide +kernel) (by decide +kernel)
  have := (h ({ (priv.setFld F.MER_STAT_UNSURE 0 0) with pipe := { priv.pipe with timeReached := some 9, sealedE := 9 } }) 9).2.2.1
    rfl (by decide +kernel) (by decide +kernel)
  have := (h (priv.setFld F.MER_STAT_UNSURE 0 1) 9).2.2.2 rfl
  exact ⟨_, _, _, (h (priv.setFld F.MER_STAT_UNSURE 0 0) 3).1.1 (by decide +kernel) rfl⟩

theorem meets_ChannelEvents (h : Obligations.ChannelEvents) : Runs := by
  have := (h (dram.setFld F.MC_TEMP_THROTTLE 0 90 |>.setFld F.MC_TEMP_CRIT 0 95) 0 0 0 (by decide +kernel) (by decide +kernel)
    (show _ by decide +kernel)).1 85 rfl rfl (by decide +kernel) (by decide +kernel) (show _ by decide +kernel)
    (by decide +kernel)
  have := (h (dram.setFld F.MC_TEMP_THROTTLE 0 90 |>.setFld F.MC_TEMP_CRIT 0 95) 0 0 0 (by decide +kernel) (by decide +kernel)
    (show _ by decide +kernel)).1 0 rfl rfl (by decide +kernel) (by decide +kernel) (show _ by decide +kernel)
    (by decide +kernel)
  have := (h (dram.setFldOf 0x50 F.BLK_XACC_OPEN 0 1) 0 0 0 (by decide +kernel) (by decide +kernel)
    (show _ by decide +kernel)).2.2.1 .mgmt ⟨9, 0x40, true, 3, false⟩ ⟨rfl, by decide +kernel⟩ (by decide +kernel) rfl rfl
  have := (h (dram.setFldOf 0x50 F.BLK_XACC_OPEN 0 1) 0 0 0 (by decide +kernel) (by decide +kernel)
    (show _ by decide +kernel)).2.2.2.1 .firmware ⟨9, 0x40, true, 3, true⟩ ⟨rfl, by decide +kernel⟩ (by decide +kernel) rfl
    rfl
  have := (h dram 0 0 0 (by decide +kernel) (by decide +kernel) (show _ by decide +kernel)).2.2.2.2.1 .mgmt ⟨9, 0x40, true, 3, true⟩
    ⟨rfl, by decide +kernel⟩ (by decide +kernel)
  have := (h (dram.setFldOf 0x50 F.BLK_XACC_OPEN 0 1) 0 0 0 (by decide +kernel) (by decide +kernel)
    (show _ by decide +kernel)).2.2.2.2.1 .chain ⟨9, 0x40, false, 3, false⟩ ⟨rfl, by decide +kernel⟩ (by decide +kernel)
  have := ((h dram 0 1 0 (by decide +kernel) (by decide +kernel) (show _ by decide +kernel)).2.2.2.2.2.1 _ rfl
    (by decide +kernel)).1 (by decide +kernel) (by decide +kernel)
  have := ((h dram 0 1 1023 (by decide +kernel) (by decide +kernel) (show _ by decide +kernel)).2.2.2.2.2.1 _ rfl
    (by decide +kernel)).1 (by decide +kernel) (by decide +kernel)
  have := ((h { dram with pipe := { dram.pipe with reads := [(5, { read64 (0, 0) false with line := 0 })] } } 0 0 3
    (by decide +kernel) (by decide +kernel) (show _ by decide +kernel)).2.2.2.2.2.1 _ rfl (by decide +kernel)).2
    (by decide +kernel) (by decide +kernel)
  have := (h
    ({ dram with chan := { dram.chan with banks := SMap.put newBank [] (bankKey 0 1 9) { newBank with row := some 4, counter := 0 } } })
    0 1 9 (by decide +kernel) (by decide +kernel) (show _ by decide +kernel)).2.2.2.2.2.2.1 _ rfl (by decide +kernel)
    (by decide +kernel) (show _ by decide +kernel) (by decide +kernel) (by decide +kernel)
  have := (h dram 0 0 9 (by decide +kernel) (by decide +kernel) (show _ by decide +kernel)).2.2.2.2.2.2.2 0 (by decide +kernel)
    (Nat.zero_le _) (Nat.zero_le _)
  have := (h dram 0 1 9 (by decide +kernel) (by decide +kernel) (show _ by decide +kernel)).2.2.2.2.2.2.2 0 (by decide +kernel)
    (Nat.zero_le _) (Nat.zero_le _)
  exact ⟨_, _, _, (h { dram with chan := { dram.chan with i3c := [0, 1, 2, 3] } } 15 1 1023 (by decide +kernel) (by decide +kernel)
    (show _ by decide +kernel)).2.1 3 7 (by decide +kernel) (by decide +kernel) (show _ by decide +kernel)⟩

theorem meets_MarksRetirementAndScrub (h : Obligations.MarksRetirementAndScrub) : Runs := by
  have := ((h.1 dram .chain 3 9 0).1 ⟨rfl, by decide +kernel⟩ rfl).2.1
  have := ((h.1 dram .chain 3 9 0).1 ⟨rfl, by decide +kernel⟩ rfl).2.2.1
  have := ((h.1 dram .chain 3 9 0).1 ⟨rfl, by decide +kernel⟩ rfl).2.2.2
  have := ((h.1 dram .mgmt 4 9 0).2.1 ⟨rfl, by decide +kernel⟩ rfl (by decide +kernel) (by decide +kernel)).1
  have := ((h.1 dram .firmware 0 0 0).2.1 ⟨rfl, by decide +kernel⟩ rfl (by decide +kernel) (by decide +kernel)).2
  have := (h.1 seen16 .mgmt 0 3 0).2.2.1 ⟨2, 0, 3, 960, 0⟩ rfl rfl (by decide +kernel) rfl
  have := ((h.1 dram .mgmt 0 0 0x5000).2.2.2.1 ⟨rfl, by decide +kernel⟩ rfl (by decide +kernel) (by decide +kernel)
    (show _ by decide +kernel)).1 (by decide +kernel) (by decide +kernel) (show _ by decide +kernel)
  have := ((h.1 dram .mgmt 0 0 (2 ^ 34 - 1)).2.2.2.1 ⟨rfl, by decide +kernel⟩ rfl (by decide +kernel) (by decide +kernel)
    (show _ by decide +kernel)).2 (by decide +kernel) (by decide +kernel)
  have := (h.1 { dram with bezel := { dram.bezel with retiring := [⟨true, 0x5000, 64, none, true⟩], moved := 64 } } .mgmt 0 0
    0).2.2.2.2.1 ⟨true, 0x5000, 64, none, true⟩ [] rfl rfl (by decide +kernel)
  have := (h.1 { dram with bezel := { dram.bezel with retiring := [⟨false, 0x5000, 64, none, true⟩], moved := 64 } } .mgmt 0 0
    0).2.2.2.2.1 ⟨false, 0x5000, 64, none, true⟩ [] rfl rfl (by decide +kernel)
  have := (h.1 (dram.setFldOf 0x51 F.BLK_XACC_OPEN 0 1) .mgmt 0 0 0).2.2.2.2.2.1 0 ⟨rfl, by decide +kernel⟩ (by decide +kernel)
    (by decide +kernel) (show _ by decide +kernel)
  have := (h.1 dram .chain 0 0 0).2.2.2.2.2.2 ⟨rfl, by decide +kernel⟩ (by decide +kernel)
  have := (h.2 (dram.setFld F.BZ_SCRUB_EN 0 1)).1 rfl rfl
  have := (h.2 { (dram.setFld F.BZ_SCRUB_WIN_DUTY 0 15) with bezel := { dram.bezel with window := true } }).2.1 rfl
    (by decide +kernel)
  have := (h.2 { dram with bezel := { dram.bezel with next := 2 ^ 28 } }).2.2.1 86400 (by decide +kernel) (by decide +kernel)
  have := (h.2 { dram with bezel := { dram.bezel with next := 1 } }).2.2.2 (by decide +kernel) rfl
  exact ⟨_, _, _, ((h.1 dram .chain 3 9 0).1 ⟨rfl, by decide +kernel⟩ rfl).1⟩

/-- A vault that is measured, with eight drives, an active key in the vault slot 7 and one dirty granule. -/
def drives8 : SMap Drive := (List.range 8).map (fun d => (d, ⟨false, false, none, none⟩))
def vaulted : State :=
  let s := fields priv [(F.VLT_CFG_EN, 0, 1), (F.VLT_STAT_STATE, 0, 3), (F.VLT_STAT_DRIVES, 0, 255), (F.VLT_HOLDUP_E_HOLD, 0, 1000),
    (F.VLT_HOLDUP_P_DRAIN, 0, 100), (F.VLT_HOLDUP_COVER, 0, 40), (F.VLT_BUDGET_SIGNED_MAX, 0, 30), (F.KS_CFG_VAULT_SLOT, 0, 7),
    (F.CE_STAT_PIPES, 0, 16)]
  let s := s.setSlot 7 { emptySlot with active := some ⟨3, 0, 1000⟩ }
  { s with vault := { s.vault with drives := drives8, dirty := [(2, ⟨9, 9, 0, 0, true, none⟩)], pmBytes := 2 ^ 34, slots := 9 } }

/-- A strand of one plate of granule 2 in a state, and a vault with that strand. -/
def plate2 : Plate := ⟨1, 2, 9, 0, [], []⟩
def strand1 (st : Nat) : Strand := ⟨0, 3, 0, 0, false, false, 0, 0, [plate2], st, 0, [], none⟩
def stranded (st : Nat) : State := { vaulted with vault := { vaulted.vault with
  strands := [(1, strand1 st)], nextSeq := 2, dirty := [(2, ⟨9, 9, 0, 0, false, some 1⟩)] } }

theorem meets_Strands (h : Obligations.Strands) : Runs := by
  have := ((h vaulted 1 2 (strand1 0)).1 0 [] ⟨9, 9, 0, 0, true, none⟩ rfl).1
  have := ((h vaulted 1 2 (strand1 0)).1 0 [] ⟨9, 9, 0, 0, true, none⟩ rfl).2.1 (2, ⟨9, 9, 0, 0, true, none⟩) (by decide +kernel)
    rfl
  have := ((h (vaulted.setFld F.CE_STAT_PIPES 0 0) 1 2 (strand1 0)).1 0 [] ⟨9, 9, 0, 0, true, none⟩ rfl).2.2.2.1 (by decide +kernel)
    (by decide +kernel)
  have := (((h vaulted 1 2 (strand1 0)).1 0 [] ⟨9, 9, 0, 0, true, none⟩ rfl).2.2.2.2 rfl (by decide +kernel)).2
    (((((vaulted.waitPlate false).paced 0).vaultGranule 2 []).2.2.2.sealPlates 3 1).getD on0) ⟨9, 9, 0, 0, true, none⟩
    (by decide +kernel) (by decide +kernel) (show _ by decide +kernel)
  have := (((h ({ vaulted with twin := { vaulted.twin with state := .inSync } }) 1 2 (strand1 0)).1 0 [(3, [(3, 1), (4, 2)])] ⟨9, 9,
    0, 0, true, none⟩ rfl).2.2.2.2 rfl (by decide +kernel)).1 (by decide +kernel)
  have := (h (stranded 0) 1 3 (strand1 0)).2.1 0 [] rfl
  have := (h (stranded 0) 1 3 (strand1 0)).2.2.1 (by decide +kernel)
  have := (h (stranded 1) 1 3 (strand1 1)).2.2.2.1 (((stranded 1).sealPlates 3 447).getD on0) (by decide +kernel)
    (by decide +kernel)
  have := (h (stranded 0) 1 3 (strand1 0)).2.2.2.2.1 0 plate2 (((stranded 0).sealPlates (stranded 0).plateVer 1).getD on0) rfl rfl
    (by decide +kernel)
  have := (h (stranded 1) 1 3 (strand1 1)).2.2.2.2.1 0 plate2 (((stranded 1).sealPlates (stranded 1).plateVer 1).getD on0) rfl rfl
    (by decide +kernel)
  have := ((h
    { stranded 2 with time := 100 * 2 ^ 40, vault := { (stranded 2).vault with strands := [(1, { strand1 2 with plates := [] })] } }
    1 3 { strand1 2 with plates := [] }).2.2.2.2.2 rfl rfl rfl rfl rfl rfl (by decide +kernel) (by decide +kernel)
    (show _ by decide +kernel)).1 rfl
  have := ((h
    { stranded 2 with time := 100 * 2 ^ 40, vault := { (stranded 2).vault with strands := [(1, { strand1 2 with plates := [plate2] })] } }
    1 3 { strand1 2 with plates := [plate2] }).2.2.2.2.2 rfl rfl rfl rfl rfl rfl (by decide +kernel) (by decide +kernel)
    (show _ by decide +kernel)).2
    ((({ stranded 2 with time := 100 * 2 ^ 40, vault := { (stranded 2).vault with strands := [(1, { strand1 2 with plates := [plate2] })] } }).sealPlates
    3 1).getD on0) (by decide +kernel) (by decide +kernel) (show _ by decide +kernel)
  exact ⟨_, _, _, ((h { vaulted with chan := { vaulted.chan with held := true } } 1 2 (strand1 0)).1 0 [] ⟨9, 9, 0, 0, true, none⟩
    rfl).2.2.1 (by decide +kernel)⟩

theorem meets_Drives (h : Obligations.Drives) : Runs := by
  have := (h
    ({ stranded 2 with vault := { (stranded 2).vault with drives := drives8.map (fun p => if p.1 ∈ [1] then (p.1, ⟨true, false, none, none⟩) else p) } })
    0 ⟨false, false, none, none⟩ (by decide +kernel) rfl).2.1 rfl (by decide +kernel)
  have := (h
    ({ stranded 2 with vault := { (stranded 2).vault with drives := drives8.map (fun p => if p.1 ∈ [1] then (p.1, ⟨true, false, none, none⟩) else p) } })
    1 ⟨true, false, none, none⟩ (by decide +kernel) rfl).2.2.1 rfl
  have := (h
    ({ stranded 2 with vault := { (stranded 2).vault with drives := drives8.map (fun p => if p.1 ∈ [1] then (p.1, ⟨true, false, none, none⟩) else p) } })
    1 ⟨true, false, none, none⟩ (by decide +kernel) rfl).2.2.2 rfl
  exact ⟨_, _, _, (h (stranded 2) 7 ⟨false, false, none, none⟩ (by decide +kernel) rfl).1 rfl (by decide +kernel)⟩

theorem meets_Measurement (h : Obligations.Measurement) : Runs := by
  have := (h (vaulted.setFld F.VLT_STAT_STATE 0 1) 0).2.1 (by decide +kernel)
  have := (h (vaulted.setFld F.VLT_STAT_STATE 0 2) 0).2.1 (by decide +kernel)
  have := (h vaulted 60000).2.2.1 rfl
  have := ((h
    ({ (fields vaulted [(F.VLT_STAT_STATE, 0, 2)]) with vault := { vaulted.vault with measuring := true }, pow := { vaulted.pow with holdupOk := true } })
    51199).2.2.2.1 rfl).1 (by decide +kernel) (by decide +kernel)
  have := ((h
    ({ (fields vaulted [(F.VLT_STAT_STATE, 0, 2), (F.VLT_HOLDUP_E_HOLD, 0, 1)]) with vault := { vaulted.vault with measuring := true }, pow := { vaulted.pow with holdupOk := true } })
    51200).2.2.2.1 rfl).2.1 (by decide +kernel) (by decide +kernel) (show _ by decide +kernel)
  have := ((h
    ({ (fields vaulted [(F.VLT_STAT_STATE, 0, 2)]) with vault := { vaulted.vault with measuring := true }, pow := { vaulted.pow with holdupOk := false } })
    51200).2.2.2.1 rfl).2.2.1 (by decide +kernel) (by decide +kernel) (show _ by decide +kernel) rfl
  have := ((h
    ({ (fields vaulted [(F.VLT_STAT_STATE, 0, 2)]) with vault := { vaulted.vault with measuring := true }, pow := { vaulted.pow with holdupOk := true } })
    51200).2.2.2.1 rfl).2.2.2.1 (by decide +kernel) (by decide +kernel) (show _ by decide +kernel) rfl
  have := ((h
    ({ (fields vaulted [(F.VLT_STAT_STATE, 0, 3)]) with vault := { vaulted.vault with measuring := true }, pow := { vaulted.pow with holdupOk := true } })
    0).2.2.2.1 rfl).2.2.2.2 (by decide +kernel)
  have := ((h
    ({ (fields vaulted [(F.VLT_STAT_STATE, 0, 3), (F.VLT_HOLDUP_COVER, 0, 40), (F.VLT_BUDGET_LIMIT, 0, 60)]) with vault := { vaulted.vault with measuring := true }, pow := { vaulted.pow with holdupOk := false } })
    0).2.2.2.1 rfl).2.2.2.2 (by decide +kernel)
  have := ((h
    ({ (fields vaulted [(F.VLT_STAT_STATE, 0, 3)]) with vault := { vaulted.vault with measuring := true }, pow := { vaulted.pow with holdupOk := true } })
    51199).2.2.2.1 rfl).2.2.2.2 (by decide +kernel)
  have := ((h
    ({ (fields vaulted [(F.VLT_STAT_STATE, 0, 3), (F.VLT_HOLDUP_COVER, 0, 40), (F.VLT_BUDGET_LIMIT, 0, 60)]) with vault := { vaulted.vault with measuring := true }, pow := { vaulted.pow with holdupOk := false } })
    51199).2.2.2.1 rfl).2.2.2.2 (by decide +kernel)
  have := ((h
    ({ (fields vaulted [(F.VLT_STAT_STATE, 0, 3)]) with vault := { vaulted.vault with measuring := true }, pow := { vaulted.pow with holdupOk := true } })
    51200).2.2.2.1 rfl).2.2.2.2 (by decide +kernel)
  have := ((h
    ({ (fields vaulted [(F.VLT_STAT_STATE, 0, 3), (F.VLT_HOLDUP_COVER, 0, 40), (F.VLT_BUDGET_LIMIT, 0, 60)]) with vault := { vaulted.vault with measuring := true }, pow := { vaulted.pow with holdupOk := false } })
    51200).2.2.2.1 rfl).2.2.2.2 (by decide +kernel)
  have := ((h
    ({ (fields vaulted [(F.VLT_STAT_STATE, 0, 3)]) with vault := { vaulted.vault with measuring := true }, pow := { vaulted.pow with holdupOk := true } })
    70000).2.2.2.1 rfl).2.2.2.2 (by decide +kernel)
  have := ((h
    ({ (fields vaulted [(F.VLT_STAT_STATE, 0, 3), (F.VLT_HOLDUP_COVER, 0, 40), (F.VLT_BUDGET_LIMIT, 0, 60)]) with vault := { vaulted.vault with measuring := true }, pow := { vaulted.pow with holdupOk := false } })
    70000).2.2.2.1 rfl).2.2.2.2 (by decide +kernel)
  have := (h vaulted 0).2.2.2.2.1 rfl
  have := (h (vaulted.setFld F.VLT_STAT_STATE 0 2) 0).2.2.2.2.2.1 (by decide +kernel)
  have := (h vaulted 0).2.2.2.2.2.2
  have := (h { vaulted with vault := { vaulted.vault with zeroed := true } } 0).2.2.2.2.2.2
  exact ⟨_, _, _, (h vaulted 0).1 rfl⟩

theorem meets_DrainAndFill (h : Obligations.DrainAndFill) : Runs := by
  have := ((h vaulted (.fabric 1) 2 1 0 0 true).1 ⟨rfl, by decide +kernel⟩ rfl).2
  have := (h vaulted .mgmt 2 1 0 0 true).2.1 ⟨rfl, by decide +kernel⟩ rfl (by decide +kernel) (by decide +kernel)
    (show _ by decide +kernel) (by decide +kernel)
  have := (h vaulted .mgmt 2 30 0 0 true).2.1 ⟨rfl, by decide +kernel⟩ rfl (by decide +kernel) (by decide +kernel)
    (show _ by decide +kernel) (by decide +kernel)
  have := (h vaulted .mgmt 2 31 0 0 true).2.2.1 ⟨rfl, by decide +kernel⟩ rfl (by decide +kernel) (by decide +kernel) (Or.inl
    (by decide +kernel))
  have := (h vaulted .firmware 2 127 0 0 true).2.2.1 ⟨rfl, by decide +kernel⟩ rfl (by decide +kernel) (by decide +kernel) (Or.inr
    (by decide +kernel))
  have := (h { vaulted with pow := { vaulted.pow with warn := true, warnAt := some 5 } } .mgmt 2 1 0 0 true).2.2.2.1 5 rfl rfl rfl
    (by decide +kernel) rfl rfl rfl
  have := (h ({ stranded 2 with vault := { (stranded 2).vault with unfilled := [2, 5] } }) .mgmt 2 1 0 0 true).2.2.2.2.1
    (by decide +kernel) rfl (by decide +kernel)
  have := (h ({ stranded 2 with vault := { (stranded 2).vault with unfilled := [2, 5] } }) .mgmt 2 1 0 0 false).2.2.2.2.1
    (by decide +kernel) rfl (by decide +kernel)
  have := (h ({ stranded 2 with vault := { (stranded 2).vault with unfilled := [2, 5] } }) .mgmt 3 1 0 0 true).2.2.2.2.2.1
    (by decide +kernel)
  have := (h ({ stranded 2 with vault := { (stranded 2).vault with unfilled := [2, 5] } }) .mgmt 2 1 0 0 true).2.2.2.2.2.2.1 [5] rfl
    rfl (by decide +kernel)
  have := (h ({ stranded 2 with vault := { (stranded 2).vault with unfilled := [2, 5] } }) .mgmt 2 1 0 0 false).2.2.2.2.2.2.1 [5]
    rfl rfl (by decide +kernel)
  have := (h vaulted .mgmt 2 1 2 7 true).2.2.2.2.2.2.2.1 ⟨rfl, by decide +kernel⟩ rfl rfl
  have := (h ({ (vaulted.setFld F.BT_STAT_STATE 0 5) with vault := { vaulted.vault with awaiting := true } }) .mgmt 2 1 0 7
    true).2.2.2.2.2.2.2.2.1 ⟨rfl, by decide +kernel⟩ rfl rfl (by decide +kernel)
  have := ((h (vaulted.setFld F.BT_STAT_STATE 0 7) .mgmt 2 1 0 7 true).2.2.2.2.2.2.2.2.2).1 (by decide +kernel)
  have := ((h vaulted .mgmt 2 1 0 7 true).2.2.2.2.2.2.2.2.2).2 (by decide +kernel)
  exact ⟨_, _, _, ((h vaulted .chain 2 1 0 0 true).1 ⟨rfl, by decide +kernel⟩ rfl).1⟩

/-- A block in P0 whose Meridian Unit has been changed. -/
def meridian (f : Meridian → Meridian) (fs : List (Fld × Nat × Nat)) : State :=
  fields { priv with mer := f priv.mer } fs

/-- A Sync of source 9 on the management port, from the time transmitter heard there, and an exchange begun by it. -/
def sync9 : Ptp := ⟨0, 9, 0, 77, true, 5, -40, false⟩
def heard9 (x : Option Exchange) : State :=
  meridian (fun m => { m with heard := [⟨0, 9, 5, false⟩], exchanges := x.toList }) [(F.MER_PTP_EN, 0, 1)]

theorem meets_PulseEdges (h : Obligations.PulseEdges) : Runs := by
  have := ((h (meridian (fun m => { m with runs := SMap.put (0, 0) [] 1 (8, 0) }) [(F.MER_SRC_P0, 0, 2)]) 1 (-50000) 0).1 8 0
    (by decide +kernel) (by decide +kernel)).1 (by decide +kernel) (by decide +kernel)
  have := ((h (meridian (fun m => { m with runs := SMap.put (0, 0) [] 1 (7, 3) }) [(F.MER_SRC_P0, 0, 2)]) 1 (0) 0).1 7 3
    (by decide +kernel) (by decide +kernel)).1 (by decide +kernel) (by decide +kernel)
  have := ((h (meridian (fun m => { m with runs := SMap.put (0, 0) [] 1 (0, 2) }) [(F.MER_SRC_P0, 0, 2)]) 1 (0) 0).1 0 2
    (by decide +kernel) (by decide +kernel)).1 (by decide +kernel) (by decide +kernel)
  have := ((h (meridian (fun m => { m with runs := SMap.put (0, 0) [] 1 (0, 3) }) [(F.MER_SRC_P0, 0, 2)]) 1 (1) 0).1 0 3
    (by decide +kernel) (by decide +kernel)).2.1 (by decide +kernel) (by decide +kernel) (show _ by decide +kernel)
  have := ((h (meridian (fun m => { m with runs := SMap.put (0, 0) [] 1 (6, 3) }) [(F.MER_SRC_P0, 0, 2)]) 1 (1) 0).1 6 3
    (by decide +kernel) (by decide +kernel)).2.1 (by decide +kernel) (by decide +kernel) (show _ by decide +kernel)
  have := ((h (meridian (fun m => { m with runs := SMap.put (0, 0) [] 1 (3, 2) }) [(F.MER_SRC_P0, 0, 2)]) 1 (50001) 0).1 3 2
    (by decide +kernel) (by decide +kernel)).2.2.1 (by decide +kernel) (by decide +kernel)
  have := ((h (meridian (fun m => { m with runs := SMap.put (0, 0) [] 1 (0, 3) }) [(F.MER_SRC_P0, 0, 2)]) 1 (-50001) 0).1 0 3
    (by decide +kernel) (by decide +kernel)).2.2.1 (by decide +kernel) (by decide +kernel)
  have := ((h (meridian (fun m => { m with runs := SMap.put (0, 0) [] 1 (5, 0) }) [(F.MER_SRC_P0, 0, 2)]) 1 (50001) 0).1 5 0
    (by decide +kernel) (by decide +kernel)).2.2.2 (by decide +kernel) (by decide +kernel)
  have := ((h (meridian (fun m => { m with runs := SMap.put (0, 0) [] 1 (5, 1) }) [(F.MER_SRC_P0, 0, 2)]) 1 (50001) 0).1 5 1
    (by decide +kernel) (by decide +kernel)).2.2.2 (by decide +kernel) (by decide +kernel)
  have := (h priv 2 0 0).2.1 (by decide +kernel)
  have := (h (priv.setFld F.MER_CAL_LOOP_EN 0 1) 0 0 0).2.2.1.1 (by decide +kernel)
  have := (h { priv with time := 2 ^ 39 } 0 0 0).2.2.1.2 (by decide +kernel)
  have := (h priv 0 0 500).2.2.2.1 (by decide +kernel)
  have := ((h (meridian (fun m => { m with loops := [], loopBad := 3 }) [(F.MER_CAL_LOOP_EN, 0, 1)]) 0 0 500).2.2.2.2
    (by decide +kernel)).1 (by decide +kernel)
  have := ((h (meridian (fun m => { m with loops := List.replicate 16 1000, loopBad := 3 }) [(F.MER_CAL_LOOP_EN, 0, 1)]) 0 0
    3000).2.2.2.2 (by decide +kernel)).1 (by decide +kernel)
  have := (((h (meridian (fun m => { m with loops := [1000], loopBad := 14 }) [(F.MER_CAL_LOOP_EN, 0, 1)]) 0 0 3001).2.2.2.2
    (by decide +kernel)).2 (by decide +kernel)).1 (by decide +kernel)
  have := (((h (meridian (fun m => { m with loops := [1000], loopBad := 15 }) [(F.MER_CAL_LOOP_EN, 0, 1)]) 0 0 3001).2.2.2.2
    (by decide +kernel)).2 (by decide +kernel)).2 (by decide +kernel)
  exact ⟨_, _, _, ((h (meridian (fun m => { m with runs := SMap.put (0, 0) [] 1 (7, 0) }) [(F.MER_SRC_P0, 0, 2)]) 1 (50000) 0).1 7 0
    (by decide +kernel) (by decide +kernel)).1 (by decide +kernel) (by decide +kernel)⟩

theorem meets_PtpMessages (h : Obligations.PtpMessages) : Runs := by
  have := (h (heard9 none) { sync9 with twoStep := false }).1 (by decide +kernel)
  have := ((h priv sync9).2.1 (by decide +kernel)).1
  have := ((h priv sync9).2.1 (by decide +kernel)).2.1
  have := ((h priv sync9).2.1 (by decide +kernel)).2.2
  have := ((h (heard9 (some ⟨0, 9, 77, false, false⟩)) sync9).2.2.1 ⟨0, 9, 77, false, false⟩ rfl).1 (by decide +kernel) rfl
  have := ((h (heard9 (some ⟨0, 9, 77, true, false⟩)) sync9).2.2.1 ⟨0, 9, 77, true, false⟩ rfl).2.1 rfl rfl
  have := ((h (heard9 (some ⟨0, 9, 77, false, false⟩)) sync9).2.2.1 ⟨0, 9, 77, false, false⟩ rfl).2.2.1 (by decide +kernel)
  have := ((h (heard9 (some ⟨0, 9, 77, true, true⟩)) sync9).2.2.1 ⟨0, 9, 77, true, true⟩ rfl).2.2.1 (by decide +kernel)
  have := ((h (heard9 (some ⟨0, 9, 77, true, true⟩)) sync9).2.2.1 ⟨0, 9, 77, true, true⟩ rfl).2.2.2 (by decide +kernel) rfl rfl
  have := (h (heard9 none) { sync9 with src := 10 }).2.2.2.1 (by decide +kernel) (by decide +kernel) (show _ by decide +kernel)
  have := (h (heard9 none) { sync9 with dataset := 7 }).2.2.2.2.1 (by decide +kernel) (by decide +kernel)
  have := (h priv sync9).2.2.2.2.2.1 (by decide +kernel)
  have := (h (meridian (fun m => { m with lastPtp := [(5, 7)] }) []) sync9).2.2.2.2.2.2 5 7 rfl
  exact ⟨_, _, _, (h (heard9 none) sync9).1 (by decide +kernel)⟩

theorem meets_MeridianStates (h : Obligations.MeridianStates) : Runs := by
  have := (h (meridian (fun m => { m with calmSince := some 5, locked := true, lastMeas := some 0 }) [(F.MER_EST_EST, 0, 100)]) 0
    5).2.1 rfl (by decide +kernel) (by decide +kernel)
  have := (h (priv.setFld F.MER_STAT_UNSURE 0 0) 0 5).2.2.1 (by decide +kernel)
  have := ((h (meridian (fun m => { m with usableSince := some 5, locked := false }) []) (2 ^ 70) 5).2.2.2.1 rfl rfl rfl).1
    (by decide +kernel)
  have := ((h (meridian (fun m => { m with usableSince := some 5, locked := false }) [(F.MER_CFG_START_UNSURE, 0, 1)]) 7 5).2.2.2.1
    rfl rfl rfl).2 (by decide +kernel)
  have := (h priv 0 0).2.2.2.2.1 rfl
  have := (h (meridian (fun m => { m with refLost := true, locked := true }) [(F.MER_STAT_SOURCE, 0, 2), (F.MER_STAT_USABLE, 0, 2),
    (F.MER_SRC_P0, 0, 2)]) 0 0).2.2.2.2.2.1 rfl rfl (by decide +kernel) (by decide +kernel)
  have := (h (meridian (fun m => { m with refLost := true, locked := true }) []) 0 0).2.2.2.2.2.2.1 rfl rfl (by decide +kernel)
  have := (h (meridian (fun m => { m with epochHold := some 9 }) []) 0 0).2.2.2.2.2.2.2 9 rfl
  exact ⟨_, _, _, (h priv 3 0).1⟩

theorem meets_MeridianRegisters (h : Obligations.MeridianRegisters) : Runs := by
  have := (h { priv with time := 3 * 2 ^ 40 + 5 } (.fabric 1) 0).1 rfl (by decide +kernel)
  have := (h ({ (priv.setFld F.MER_GCUT_CUT 0 20) with pipe := { priv.pipe with sealedE := 9 } }) .mgmt 30).2.1
    ⟨rfl, by decide +kernel⟩ (by decide +kernel)
  have := (h ({ (priv.setFld F.MER_GCUT_CUT 0 20) with pipe := { priv.pipe with sealedE := 90 } }) .mgmt 3).2.1
    ⟨rfl, by decide +kernel⟩ (by decide +kernel)
  have := (h ({ (priv.setFld F.MER_GCUT_CUT 0 20) with pipe := { priv.pipe with sealedE := 90 } }) .mgmt 90).2.2.1
    ⟨rfl, by decide +kernel⟩ (by decide +kernel) (by decide +kernel) (Or.inr rfl)
  have := (h ({ (priv.setFld F.MER_GCUT_CUT 0 20) with pipe := { priv.pipe with sealedE := 90 } }) .mgmt 21).2.2.1
    ⟨rfl, by decide +kernel⟩ (by decide +kernel) (by decide +kernel) (Or.inl (by decide +kernel))
  have := (h ({ (priv.setFld F.MER_GCUT_CUT 0 20) with pipe := { priv.pipe with sealedE := 90 } }) .mgmt 91).2.2.2.1
    ⟨rfl, by decide +kernel⟩ (by decide +kernel) (by decide +kernel) (show _ by decide +kernel) (by decide +kernel)
    (by decide +kernel)
  have := (h priv .chain 0).2.2.2.2.1 ⟨rfl, by decide +kernel⟩
  have := (h (meridian (fun m => m) [(F.MER_PPSO_EN, 0, 1), (F.MER_STAT_STATE, 0, 2), (F.MER_STAT_UNSURE, 0, 0)]) .mgmt
    0).2.2.2.2.2.1 (by decide +kernel) (by decide +kernel) (show _ by decide +kernel) rfl
  have := (h priv .mgmt 0).2.2.2.2.2.2.1 (by decide +kernel)
  have := (h (meridian (fun m => { m with ppsHigh := some 9 }) []) .mgmt 0).2.2.2.2.2.2.2.1 9 rfl
  have := (h priv .mgmt 0).2.2.2.2.2.2.2.2 rfl
  exact ⟨_, _, _, (h { priv with time := 3 * 2 ^ 40 + 5 } .mgmt 0).1 rfl (by decide +kernel)⟩

/-- A block in service whose twin has been changed. -/
def twinned (f : Twin → Twin) (fs : List (Fld × Nat × Nat)) : State :=
  fields { dram with twin := f dram.twin } fs

/-- A follower in sync with one record at the front of the twin QP of role r. -/
def record (typ line term : Nat) (body : List Byte) : TwinRec := ⟨typ, false, line, 5, 0, term, body, 0, false⟩
def hearsRecord (r : Nat) (x : TwinRec) (leads : Bool) : State := twinned (fun w => { w with
  leader := leads, state := .inSync, term := 4, rx := [(r, { emptyRx with records := [x] })] }) []

/-- A leader whose nine twin QPs are READY, and a QP with one message of the controller's own. -/
def readyQp : Qp := { emptyQp with st := 2, kind := 1, credPeer := 100, pmtu := 4 }
def ready (st : TwinSt) : State := { twinned (fun w => { w with leader := true, state := st }) [] with
  tr := { priv.tr with qps := (List.range 9).map (fun r => (r, readyQp)) } }
def owning : Qp := { readyQp with own := [⟨3, .control, [], 0, 0, 77⟩] }

theorem ended_all : ∀ r, r < 8 → ∃ x, SMap.look ((List.range 8).map (fun r => (r, { emptyRx with termEnd := true }))) r = some x ∧
    x.termEnd = true := fun r hr => ⟨{ emptyRx with termEnd := true }, by interval_cases r <;> rfl, rfl⟩

/-- A record that carries the key of descriptor 3, and a follower that hears it with the descriptor on chip or not. -/
def keyed (typ : Nat) : TwinRec := { record typ 16384 4 (leBytes 8 5 ++ List.replicate 64 3) with wkey := mkKey 3 1 }
def hearsKeyed (typ : Nat) (cache : List Nat) : State :=
  { hearsRecord 0 (keyed typ) false with wins := { priv.wins with cache := cache } }

theorem meets_Clasp (h : Obligations.Clasp) : Runs := by
  have := (h (twinned (fun w => { w with holding := true }) []) 0).1
  have := (h priv 0).2.1
  have := (h (twinned (fun w => { w with leader := false, state := .inSync }) []) 0).2.2.1 rfl (Or.inl rfl)
  have := (h (twinned (fun w => { w with state := .resync }) []) 0).2.2.1 rfl (Or.inr rfl)
  have := (h (twinned (fun w => { w with state := .single }) []) 0).2.2.2.1 rfl (by decide +kernel) (by decide +kernel)
  have := (h (twinned (fun w => { w with holding := true, sense := .lost }) []) 0).2.2.2.2.1 rfl rfl (by decide +kernel) rfl
  have := ((h (twinned
    (fun w => { w with leader := false, state := .inSync, sense := .released, termWaitEnd := some 9, rx := (List.range 8).map (fun r => (r, { emptyRx with termEnd := true })) })
    []) 9).2.2.2.2.2.1 (by decide +kernel) rfl).1 ended_all
  have := ((h (twinned
    (fun w => { w with leader := false, state := .inSync, sense := .released, termWaitEnd := some 9, rx := (List.range 8).map (fun r => (r, { emptyRx with termEnd := true })) })
    []) 9).2.2.2.2.2.1 (by decide +kernel) rfl).2
  have := ((h (twinned (fun w => { w with sense := .held }) []) 9).2.2.2.2.2.2.1 (by decide +kernel)).1
  have := ((h (twinned (fun w => { w with sense := .held }) []) 9).2.2.2.2.2.2.1 (by decide +kernel)).2.1
  have := ((h (twinned (fun w => { w with sense := .held }) []) 9).2.2.2.2.2.2.1 (by decide +kernel)).2.2.1
  have := ((h (twinned (fun w => { w with sense := .held }) []) 9).2.2.2.2.2.2.1 (by decide +kernel)).2.2.2
  have := ((h (twinned
    (fun w => { w with state := .unpaired, sense := .released, term := 4, peerHello := some ⟨List.replicate 48 0, 2, 0, false, false, 2, 9, 3⟩ })
    []) 9).2.2.2.2.2.2.2.1 (by decide +kernel) (Or.inl rfl)).1 (by decide +kernel)
  have := ((h (twinned (fun w => { w with state := .single, sense := .released, releasedSince := some 9 }) []) 9).2.2.2.2.2.2.2.1
    (by decide +kernel) (Or.inr (Or.inl rfl))).2 rfl rfl rfl
  have := ((h (twinned (fun w => { w with settleEnd := some 9, holding := true, sense := .released }) []) 9).2.2.2.2.2.2.2.2.1 rfl
    (by decide +kernel)).1 rfl rfl
  have := ((h (twinned (fun w => { w with settleEnd := some 9, holding := true, assumed := true, sense := .released }) [])
    9).2.2.2.2.2.2.2.2.1 rfl (by decide +kernel)).2 rfl (by decide +kernel)
  have := ((h (twinned (fun w => { w with settleEnd := some 9, holding := true, assumed := true, sense := .lost }) [])
    9).2.2.2.2.2.2.2.2.1 rfl (by decide +kernel)).2 rfl (by decide +kernel)
  have := (h (twinned (fun w => { w with settleEnd := some 9, sense := .held }) []) 9).2.2.2.2.2.2.2.2.2.1 rfl (by decide +kernel)
    (by decide +kernel)
  have := (h (twinned (fun w => { w with settleEnd := some 9, sense := .lost }) []) 9).2.2.2.2.2.2.2.2.2.1 rfl (by decide +kernel)
    (Or.inl rfl)
  have := (h (twinned (fun w => { w with bothSince := some 9, peerTerm := some 8, term := 7, holding := true }) [])
    9).2.2.2.2.2.2.2.2.2.2.1 8 rfl rfl (by decide +kernel)
  have := (h (twinned (fun w => { w with bothSince := some 9, peerTerm := some 6, term := 7, holding := true }) [])
    9).2.2.2.2.2.2.2.2.2.2.2.1 6 rfl rfl (by decide +kernel)
  have := (h { (twinned (fun w => { w with holding := true }) []) with diagFail := true } 9).2.2.2.2.2.2.2.2.2.2.2.2.1 rfl
    (by decide +kernel) rfl
  have := (h (twinned (fun w => { w with holding := false }) [(F.MC_STAT_STATE, 5, 4)]) 9).2.2.2.2.2.2.2.2.2.2.2.2.1 rfl
    (by decide +kernel) rfl
  have := (h (twinned (fun w => { w with holding := true, leader := true, handover := true }) [(F.TWIN_RES_STATUS, 0,
    Status.busy.code)]) 9).2.2.2.2.2.2.2.2.2.2.2.2.2.1 rfl (by decide +kernel) rfl rfl rfl (by decide +kernel)
  have := (h priv 9).2.2.2.2.2.2.2.2.2.2.2.2.2.2.1 rfl (by decide +kernel) rfl
  have := (h (twinned (fun w => { w with healthSince := some 9, state := .inSync, leader := false }) [(F.TWIN_CFG_PREFERRED, 0, 1)])
    9).2.2.2.2.2.2.2.2.2.2.2.2.2.2.2 rfl rfl rfl (by decide +kernel) (by decide +kernel)
  exact ⟨_, _, _, (h priv 0).1⟩

theorem meets_TwinRecords (h : Obligations.TwinRecords) : Runs := by
  have := ((h (hearsRecord 0 (record 2 64 4 (List.replicate 64 3)) false) 0 (record 2 64 4 (List.replicate 64 3)) []
    (by decide +kernel) (by decide +kernel)).1 (.lineFull 0) 1 (by decide +kernel)).2 (by decide +kernel)
  have := ((h (hearsRecord 8 (record 2 64 3 (List.replicate 64 3)) false) 8 (record 2 64 3 (List.replicate 64 3)) []
    (by decide +kernel) (by decide +kernel)).1 (.linePart 8) 2 (by decide +kernel)).1 rfl (by decide +kernel)
  have := ((h (hearsRecord 0 (record 3 64 4 (List.replicate 64 3)) false) 0 (record 3 64 4 (List.replicate 64 3)) []
    (by decide +kernel) (by decide +kernel)).1 (.linePart 0) 2 (by decide +kernel)).2 (by decide +kernel)
  have := ((h (hearsRecord 8 (record 3 64 3 (List.replicate 64 3)) false) 8 (record 3 64 3 (List.replicate 64 3)) []
    (by decide +kernel) (by decide +kernel)).1 (.poisonLine 8) 3 (by decide +kernel)).1 rfl (by decide +kernel)
  have := ((h (hearsRecord 0 (record 4 64 4 (List.replicate 64 3)) false) 0 (record 4 64 4 (List.replicate 64 3)) []
    (by decide +kernel) (by decide +kernel)).1 (.poisonLine 0) 3 (by decide +kernel)).2 (by decide +kernel)
  have := ((h (hearsRecord 8 (record 4 64 3 (List.replicate 64 3)) false) 8 (record 4 64 3 (List.replicate 64 3)) []
    (by decide +kernel) (by decide +kernel)).1 (.fence 8) 4 (by decide +kernel)).1 rfl (by decide +kernel)
  have := ((h (hearsRecord 0 (record 5 64 4 (List.replicate 64 3)) false) 0 (record 5 64 4 (List.replicate 64 3)) []
    (by decide +kernel) (by decide +kernel)).1 (.fence 0) 4 (by decide +kernel)).2 (by decide +kernel)
  have := ((h (hearsRecord 8 (record 6 64 3 (List.replicate 64 3)) false) 8 (record 6 64 3 (List.replicate 64 3)) []
    (by decide +kernel) (by decide +kernel)).1 (.sealMark 8) 6 (by decide +kernel)).1 rfl (by decide +kernel)
  have := ((h (hearsRecord 0 (record 7 64 4 (List.replicate 64 3)) false) 0 (record 7 64 4 (List.replicate 64 3)) []
    (by decide +kernel) (by decide +kernel)).1 (.sealMark 0) 6 (by decide +kernel)).2 (by decide +kernel)
  have := ((h (hearsRecord 8 (record 7 64 3 (List.replicate 64 3)) false) 8 (record 7 64 3 (List.replicate 64 3)) []
    (by decide +kernel) (by decide +kernel)).1 (.healReq 8 []) 7 (by decide +kernel)).1 rfl (by decide +kernel)
  have := ((h (hearsRecord 0 (record 8 64 4 (List.replicate 64 3)) false) 0 (record 8 64 4 (List.replicate 64 3)) []
    (by decide +kernel) (by decide +kernel)).1 (.healReq 0 []) 7 (by decide +kernel)).2 (by decide +kernel)
  have := ((h (hearsRecord 8 (record 8 64 3 (List.replicate 64 3)) false) 8 (record 8 64 3 (List.replicate 64 3)) []
    (by decide +kernel) (by decide +kernel)).1 (.healResp 8) 8 (by decide +kernel)).1 rfl (by decide +kernel)
  have := ((h (hearsRecord 0 (record 9 64 4 (List.replicate 64 3)) false) 0 (record 9 64 4 (List.replicate 64 3)) []
    (by decide +kernel) (by decide +kernel)).1 (.healResp 0) 8 (by decide +kernel)).2 (by decide +kernel)
  have := ((h (hearsRecord 8 (record 9 64 3 (List.replicate 64 3)) false) 8 (record 9 64 3 (List.replicate 64 3)) []
    (by decide +kernel) (by decide +kernel)).1 (.resyncLine 8) 9 (by decide +kernel)).1 rfl (by decide +kernel)
  have := ((h (hearsRecord 0 (record 10 64 4 (List.replicate 64 3)) false) 0 (record 10 64 4 (List.replicate 64 3)) []
    (by decide +kernel) (by decide +kernel)).1 (.resyncLine 0) 9 (by decide +kernel)).2 (by decide +kernel)
  have := ((h (hearsRecord 8 (record 10 64 3 (List.replicate 64 3)) false) 8 (record 10 64 3 (List.replicate 64 3)) []
    (by decide +kernel) (by decide +kernel)).1 (.termEnd 8) 10 (by decide +kernel)).1 rfl (by decide +kernel)
  have := ((h (hearsRecord 0 (record 11 64 4 (List.replicate 64 3)) false) 0 (record 11 64 4 (List.replicate 64 3)) []
    (by decide +kernel) (by decide +kernel)).1 (.termEnd 0) 10 (by decide +kernel)).2 (by decide +kernel)
  have := ((h (hearsRecord 8 (record 11 64 3 (List.replicate 64 3)) false) 8 (record 11 64 3 (List.replicate 64 3)) []
    (by decide +kernel) (by decide +kernel)).1 (.hello 8) 11 (by decide +kernel)).1 rfl (by decide +kernel)
  have := ((h (hearsRecord 0 (record 12 64 4 (List.replicate 64 3)) false) 0 (record 12 64 4 (List.replicate 64 3)) []
    (by decide +kernel) (by decide +kernel)).1 (.hello 0) 11 (by decide +kernel)).2 (by decide +kernel)
  have := ((h (hearsRecord 8 (record 12 64 3 (List.replicate 64 3)) false) 8 (record 12 64 3 (List.replicate 64 3)) []
    (by decide +kernel) (by decide +kernel)).1 (.handoverReq 8) 12 (by decide +kernel)).1 rfl (by decide +kernel)
  have := ((h (hearsRecord 0 (record 13 64 4 (List.replicate 64 3)) false) 0 (record 13 64 4 (List.replicate 64 3)) []
    (by decide +kernel) (by decide +kernel)).1 (.handoverReq 0) 12 (by decide +kernel)).2 (by decide +kernel)
  have := ((h (hearsRecord 8 (record 13 64 3 (List.replicate 64 3)) false) 8 (record 13 64 3 (List.replicate 64 3)) []
    (by decide +kernel) (by decide +kernel)).1 (.pairState 8) 13 (by decide +kernel)).1 rfl (by decide +kernel)
  have := ((h (hearsRecord 0 (record 1 64 4 (List.replicate 64 3)) false) 0 (record 1 64 4 (List.replicate 64 3)) []
    (by decide +kernel) (by decide +kernel)).1 (.pairState 0) 13 (by decide +kernel)).2 (by decide +kernel)
  have := (((h (hearsRecord 0 (record 1 64 4 (List.replicate 64 3)) false) 0 (record 1 64 4 (List.replicate 64 3)) []
    (by decide +kernel) (by decide +kernel)).2.1 (by decide +kernel)).1 (Or.inl rfl)).1 rfl (by decide +kernel)
  have := (((h (hearsRecord 0 (record 1 268435455 4 (List.replicate 64 3)) false) 0 (record 1 268435455 4 (List.replicate 64 3)) []
    (by decide +kernel) (by decide +kernel)).2.1 (by decide +kernel)).1 (Or.inl rfl)).1 rfl (by decide +kernel)
  have := (((h (hearsRecord 0 (record 1 268435456 4 (List.replicate 64 3)) false) 0 (record 1 268435456 4 (List.replicate 64 3)) []
    (by decide +kernel) (by decide +kernel)).2.1 (by decide +kernel)).1 (Or.inl rfl)).2.1 .windowBounds rfl
    (by decide +kernel)
  have := (((h (hearsRecord 0 (record 2 64 4 (leBytes 8 5 ++ List.replicate 64 3)) false) 0 (record 2 64 4 (leBytes 8 5 ++
    List.replicate 64 3)) [] (by decide +kernel) (by decide +kernel)).2.1 (by decide +kernel)).1 (Or.inl rfl)).2.2.1 rfl
    (by decide +kernel)
  have := (((h (hearsRecord 0 (record 2 268435456 4 (List.replicate 64 3)) false) 0 (record 2 268435456 4 (List.replicate 64 3)) []
    (by decide +kernel) (by decide +kernel)).2.1 (by decide +kernel)).1 (Or.inl rfl)).2.2.2 .windowBounds rfl
    (by decide +kernel)
  have := (((h (hearsKeyed 1 [3]) 0 (keyed 1) [] (by decide +kernel) (by decide +kernel)).2.1 (by decide +kernel)).1 (Or.inr
    (by decide +kernel))).1 rfl (by decide +kernel)
  have := (((h (hearsKeyed 2 [3]) 0 (keyed 2) [] (by decide +kernel) (by decide +kernel)).2.1 (by decide +kernel)).1 (Or.inr
    (by decide +kernel))).2.2.1 rfl (by decide +kernel)
  have := (((h (hearsKeyed 1 []) 0 (keyed 1) [] (by decide +kernel) (by decide +kernel)).2.1 (by decide +kernel)).2.1
    (by decide +kernel) (by decide +kernel) (show _ by decide +kernel)).1 rfl
  have := (((h (hearsKeyed 2 []) 0 (keyed 2) [] (by decide +kernel) (by decide +kernel)).2.1 (by decide +kernel)).2.1
    (by decide +kernel) (by decide +kernel) (show _ by decide +kernel)).2 rfl
  have := ((h (hearsRecord 0 (record 3 64 4 (List.replicate 64 3)) false) 0 (record 3 64 4 (List.replicate 64 3)) []
    (by decide +kernel) (by decide +kernel)).2.1 (by decide +kernel)).2.2.1 rfl (by decide +kernel)
  have := ((h (hearsRecord 0 (record 4 64 4 (List.replicate 64 3)) false) 0 (record 4 64 4 (List.replicate 64 3)) []
    (by decide +kernel) (by decide +kernel)).2.1 (by decide +kernel)).2.2.2.1 rfl
  have := (((h (hearsRecord 8 (record 5 9 4 desc3.bytes) false) 8 (record 5 9 4 desc3.bytes) [] (by decide +kernel)
    (by decide +kernel)).2.1 (by decide +kernel)).2.2.2.2.1 rfl (by decide +kernel)).1 (by decide +kernel)
  have := (((h (hearsRecord 7 (record 5 9 4 desc3.bytes) false) 7 (record 5 9 4 desc3.bytes) [] (by decide +kernel)
    (by decide +kernel)).2.1 (by decide +kernel)).2.2.2.2.1 rfl (by decide +kernel)).1 (by decide +kernel)
  have := (((h (twinned
    (fun w => { w with state := .inSync, term := 4, rx := [(2, { emptyRx with records := [(record 5 9 4 desc3.bytes)], fence := 3 })] })
    []) 2 (record 5 9 4 desc3.bytes) [] (by decide +kernel) (by decide +kernel)).2.1 (by decide +kernel)).2.2.2.2.1 rfl
    (by decide +kernel)).2 1 (by decide +kernel) (by decide +kernel) (show _ by decide +kernel)
  have := ((h (hearsRecord 0 (record 6 64 4 (List.replicate 64 3)) false) 0 (record 6 64 4 (List.replicate 64 3)) []
    (by decide +kernel) (by decide +kernel)).2.1 (by decide +kernel)).2.2.2.2.2.1 rfl
  have := ((h { hearsRecord 0 (record 7 64 4 (leBytes 8 9)) false with pipe := (cached true false).pipe } 0 (record 7 64 4 (leBytes
    8 9)) [] (by decide +kernel) (by decide +kernel)).2.1 (by decide +kernel)).2.2.2.2.2.2.1 rfl rfl
  have := ((h (hearsRecord 0 (record 8 64 4 (leBytes 8 9 ++ List.replicate 64 3)) false) 0 (record 8 64 4 (leBytes 8 9 ++
    List.replicate 64 3)) [] (by decide +kernel) (by decide +kernel)).2.1 (by decide +kernel)).2.2.2.2.2.2.2.1 rfl
  have := ((h (hearsRecord 0 (record 8 64 4 (leBytes 8 (9 + 0x21 * 65536))) false) 0 (record 8 64 4 (leBytes 8 (9 + 0x21 * 65536)))
    [] (by decide +kernel) (by decide +kernel)).2.1 (by decide +kernel)).2.2.2.2.2.2.2.1 rfl
  have := ((h (hearsRecord 0 (record 9 64 4 (List.replicate 64 3)) false) 0 (record 9 64 4 (List.replicate 64 3)) []
    (by decide +kernel) (by decide +kernel)).2.1 (by decide +kernel)).2.2.2.2.2.2.2.2.1 rfl (by decide +kernel)
  have := ((h (hearsRecord 0 (record 10 64 4 (List.replicate 64 3)) false) 0 (record 10 64 4 (List.replicate 64 3)) []
    (by decide +kernel) (by decide +kernel)).2.1 (by decide +kernel)).2.2.2.2.2.2.2.2.2.1 rfl
  have := (((h (hearsRecord 8 (record 11 64 4 (List.replicate 64 3)) false) 8 (record 11 64 4 (List.replicate 64 3)) []
    (by decide +kernel) (by decide +kernel)).2.1 (by decide +kernel)).2.2.2.2.2.2.2.2.2.2).1 rfl
  have := (((h (hearsRecord 8 (record 12 64 4 (List.replicate 64 3)) true) 8 (record 12 64 4 (List.replicate 64 3)) []
    (by decide +kernel) (by decide +kernel)).2.1 (by decide +kernel)).2.2.2.2.2.2.2.2.2.2).2.1 rfl rfl rfl
  have := (((h (hearsRecord 8 (record 12 64 4 (List.replicate 64 3)) false) 8 (record 12 64 4 (List.replicate 64 3)) []
    (by decide +kernel) (by decide +kernel)).2.1 (by decide +kernel)).2.2.2.2.2.2.2.2.2.2).2.2.1 rfl rfl
  have := (((h (hearsRecord 8 (record 13 64 4 (List.replicate 64 3)) true) 8 (record 13 64 4 (List.replicate 64 3)) []
    (by decide +kernel) (by decide +kernel)).2.1 (by decide +kernel)).2.2.2.2.2.2.2.2.2.2).2.2.2.1 rfl rfl
  have := ((((h (hearsRecord 8 (record 13 64 4 (leBytes 8 0x502)) false) 8 (record 13 64 4 (leBytes 8 0x502)) [] (by decide +kernel)
    (by decide +kernel)).2.1 (by decide +kernel)).2.2.2.2.2.2.2.2.2.2).2.2.2.2 rfl rfl).1 (by decide +kernel)
  have := ((((h (hearsRecord 8 (record 13 64 4 (leBytes 8 0x503)) false) 8 (record 13 64 4 (leBytes 8 0x503)) [] (by decide +kernel)
    (by decide +kernel)).2.1 (by decide +kernel)).2.2.2.2.2.2.2.2.2.2).2.2.2.2 rfl rfl).2 (by decide +kernel)
  have := (h (hearsRecord 0 (record 0 64 4 (List.replicate 64 3)) false) 0 (record 0 64 4 (List.replicate 64 3)) []
    (by decide +kernel) (by decide +kernel)).2.2.1 (Or.inl rfl)
  have := (h (hearsRecord 8 (record 14 64 4 (List.replicate 64 3)) false) 8 (record 14 64 4 (List.replicate 64 3)) []
    (by decide +kernel) (by decide +kernel)).2.2.1 (Or.inr (by decide +kernel))
  have := (h (hearsRecord 0 (record 1 64 4 (List.replicate 64 3)) false) 0 (record 1 64 4 (List.replicate 64 3)) []
    (by decide +kernel) (by decide +kernel)).2.2.2 (by decide +kernel) (by decide +kernel)
  have := (h (hearsRecord 0 (record 13 64 4 (List.replicate 64 3)) false) 0 (record 13 64 4 (List.replicate 64 3)) []
    (by decide +kernel) (by decide +kernel)).2.2.2 (by decide +kernel) (by decide +kernel)
  exact ⟨_, _, _, ((h (hearsRecord 8 (record 1 64 3 (List.replicate 64 3)) false) 8 (record 1 64 3 (List.replicate 64 3)) []
    (by decide +kernel) (by decide +kernel)).1 (.lineFull 8) 1 (by decide +kernel)).1 rfl (by decide +kernel)⟩

theorem meets_TwinCommands (h : Obligations.TwinCommands) : Runs := by
  have := (((h priv (.fabric 0) 0).1 ⟨rfl, by decide +kernel⟩).1 rfl).2
  have := ((h priv .firmware 0).1 ⟨rfl, by decide +kernel⟩).2.1 (by decide +kernel)
  have := ((h (twinned (fun w => { w with leader := false, state := .inSync }) []) .mgmt 0).1 ⟨rfl, by decide +kernel⟩).2.2.1 rfl
    rfl
  have := ((h (twinned (fun w => { w with leader := true, state := .inSync }) []) .mgmt 0).1 ⟨rfl, by decide +kernel⟩).2.2.2.1 rfl
    rfl (Or.inl rfl)
  have := ((h (twinned (fun w => { w with leader := true, state := .resync }) []) .mgmt 0).1 ⟨rfl, by decide +kernel⟩).2.2.2.1 rfl
    rfl (Or.inr rfl)
  have := ((h (ready .single) .mgmt 0).1 ⟨rfl, by decide +kernel⟩).2.2.2.2.1 rfl rfl rfl (by decide +kernel)
  have := ((h (twinned (fun w => { w with leader := true, state := .inSync }) []) .firmware 0).1
    ⟨rfl, by decide +kernel⟩).2.2.2.2.2.1 rfl rfl rfl
  have := ((h (twinned (fun w => { w with leader := false, state := .inSync }) []) .mgmt 0).1
    ⟨rfl, by decide +kernel⟩).2.2.2.2.2.2.1 rfl rfl
  have := ((h (twinned (fun w => { w with leader := true }) []) .mgmt 0).1 ⟨rfl, by decide +kernel⟩).2.2.2.2.2.2.2.1 rfl
  have := ((h (twinned (fun w => { w with leader := false, sense := .released }) []) .mgmt 0).1
    ⟨rfl, by decide +kernel⟩).2.2.2.2.2.2.2.2.1 rfl (by decide +kernel)
  have := ((h (twinned (fun w => { w with leader := false, sense := .lost }) []) .mgmt 0).1
    ⟨rfl, by decide +kernel⟩).2.2.2.2.2.2.2.2.1 rfl (by decide +kernel)
  have := ((h (twinned (fun w => { w with leader := false, sense := .held }) []) .mgmt 0).1
    ⟨rfl, by decide +kernel⟩).2.2.2.2.2.2.2.2.2 rfl (by decide +kernel)
  have := (h (ready .refused) .mgmt 0).2.1 rfl (by decide +kernel)
  have := (h (twinned (fun w => { w with leader := true }) []) .mgmt 0).2.2.1 rfl
  have := (h (twinned (fun w => { w with leader := false }) []) .mgmt 0).2.2.2.1 rfl
  have := (h
    { (twinned (fun w => { w with leader := true, state := .inSync }) []) with tr := { priv.tr with qps := [(0, owning), (8, owning)] } }
    .mgmt 0).2.2.2.2.1 ⟨3, .control, [], 0, 0, 77⟩ [] (by decide +kernel) (by decide +kernel) (show _ by decide +kernel)
  have := (h
    { (twinned (fun w => { w with leader := true, state := .inSync }) []) with tr := { priv.tr with qps := [(0, owning), (8, owning)] } }
    .mgmt 8).2.2.2.2.1 ⟨3, .control, [], 0, 0, 77⟩ [] (by decide +kernel) (by decide +kernel) (show _ by decide +kernel)
  have := (h
    { (twinned (fun w => { w with leader := true, state := .resync, allFrom := 1, regions := [0] }) []) with vault := { priv.vault with pmBytes := 128 } }
    .mgmt 0).2.2.2.2.2.1 0 rfl rfl (by decide +kernel)
  have := (h priv .mgmt 0).2.2.2.2.2.2 (by decide +kernel)
  exact ⟨_, _, _, (((h priv .chain 0).1 ⟨rfl, by decide +kernel⟩).1 rfl).1⟩

theorem meets_Claims (h : Obligations.Claims) : Runs := by
  have := ((h priv .mgmt 0 0 70000 129).1 ⟨rfl, by decide +kernel⟩ (by decide +kernel)).1 rfl
  have := ((h priv .mgmt 4095 0 70000 128).1 ⟨rfl, by decide +kernel⟩ (by decide +kernel)).2.1 (Or.inl rfl)
  have := ((h priv (.fabric 1) 4095 1 70000 128).1 ⟨rfl, by decide +kernel⟩ (by decide +kernel)).2.1 (Or.inr rfl)
  have := ((h priv .mgmt 4095 0 70000 128).1 ⟨rfl, by decide +kernel⟩ (by decide +kernel)).2.2.1 rfl
  have := ((h priv .mgmt 4095 0 70000 128).1 ⟨rfl, by decide +kernel⟩ (by decide +kernel)).2.2.2.1 rfl
  have := (((h priv .chain 4095 0 70000 128).1 ⟨rfl, by decide +kernel⟩ (by decide +kernel)).2.2.2.2.1 rfl).1
  have := (((h priv .chain 4095 0 70000 128).1 ⟨rfl, by decide +kernel⟩ (by decide +kernel)).2.2.2.2.1 rfl).2.1
  have := (((h priv .chain 4095 0 70000 128).1 ⟨rfl, by decide +kernel⟩ (by decide +kernel)).2.2.2.2.1 rfl).2.2
  have := ((h priv (.fabric 1) 4095 0 70000 128).1 ⟨rfl, by decide +kernel⟩ (by decide +kernel)).2.2.2.2.2.1 rfl (by decide +kernel)
  have := ((h (priv.setFld F.CLM_CFG_TTL 0 5) .mgmt 7 0 0 0).1 ⟨rfl, by decide +kernel⟩ (by decide +kernel)).2.2.2.2.2.2.1
    (by decide +kernel)
  have := ((h (priv.setFld F.CLM_CFG_TTL 0 5) .mgmt 4095 1 0 0).1 ⟨rfl, by decide +kernel⟩ (by decide +kernel)).2.2.2.2.2.2.1
    (by decide +kernel)
  have := ((h (priv.setFld F.CLM_CFG_TTL 0 0) .mgmt 7 1 0 0).1 ⟨rfl, by decide +kernel⟩ (by decide +kernel)).2.2.2.2.2.2.2 rfl
  have := (h priv .mgmt 4096 0 0 0).2.1 ⟨rfl, by decide +kernel⟩ (by decide +kernel)
  have := (h { priv with fab := { priv.fab with hold := [(0, 9)] } } .mgmt 0 0 0 0).2.2.1 9 (by decide +kernel) (by decide +kernel)
  have := (h { priv with fab := { priv.fab with hold := [(1, 9)] } } .mgmt 0 1 0 0).2.2.1 9 (by decide +kernel) (by decide +kernel)
  have := (h priv .mgmt 0 1 0 0).2.2.2.1 (by decide +kernel) rfl
  have := (h priv .mgmt 0 2 0 0).2.2.2.2 (by decide +kernel)
  exact ⟨_, _, _, ((h priv .mgmt 4095 0 70000 128).1 ⟨rfl, by decide +kernel⟩ (by decide +kernel)).1 rfl⟩

/-- A frame of port 0 to the plane's IPv6 address, with a UDP datagram to a port. -/
def udpFrame (dport : Nat) : Frame := ⟨0, 1500, true, 0, [], 0x86DD, 0, 0, true, true, 9, 0, 0, 17, 49152, dport, some true⟩

/-- A leader in service with DRAM whose port 0 is up and whose key slot 0 holds version 1; QP 9 is on chip. -/
def heardBy (q : Qp) : State :=
  let s := fields dram [(F.TR_CFG_EN, 0, 1), (F.PORT_CFG_MODE, 0, 1), (F.PORT_STAT_STATE, 0, 2), (F.PORT_CFG_MTU, 0, 9000),
    (F.RING_CFG_EN, 0, 1), (F.RING_CFG_LOG2, 0, 6), (F.CE_STAT_PIPES, 0, 16)]
  { s.setSlot 0 { emptySlot with active := some ⟨1, 0, 1000⟩ } with
    fab := { s.fab with dark := false }, tr := { s.tr with qps := [(9, q)], cache := [9] } }
def inQp : Qp := { emptyQp with st := 2, kind := 0, credInit := 32, credMax := 64, credGrant := 32, w := 32, retry := 2, rto := 4, pmtu := 4 }
def pkt (typ psn : Nat) (x : Option ReqX) (a : Option AckX) (data : List Byte) : Pkt :=
  ⟨udpFrame (on0.fld F.TR_CFG_UDP_PORT), 1, typ, true, true, true, false, 0, 9, 3, psn, 1, 0, 1, 0, false, false, data.length, 0,
    5, x, a, data, true⟩
def req (typ : Nat) (data : List Byte) (psn : Nat) : Pkt := pkt typ psn (some ⟨mkKey 3 1, 64, 0x4000, 0, 1, 0, 0⟩) none data
def withholding (q : Qp) : State := let s := heardBy q; { s with pow := { s.pow with warn := true } }

def outQp : Qp := { inQp with kind := 2, own := [⟨1, .control, [], 8, 0, 77⟩] }

def stalled (f : Qp → Qp) : State := heardBy (f { inQp with sent := [⟨0, req 1 (List.replicate 64 3) 0, 0, none, 1⟩] })
def opOf (lvl : Nat) : Op := ⟨.nrt 9 1, .write, lvl, .ok, 0, 0, 0, none, [], 64, 0, true⟩
def finished : State := let s := heardBy { inQp with rx := [⟨1, 1, some 0, true, false, none, 1, 1, 64⟩] }
  { s with pipe := { s.pipe with ops := [(0, opOf 1)] } }
def away (s : State) : State := { s with tr := { s.tr with cache := [], fetches := [9] } }

def described (d : Nat) : State := (priv.setFld F.TR_QP_DATA 0 d).setFld F.TR_QP_DATA 0 0x0040002000040000 1
def qpAt (q : Qp) : State := { fields (described 0x400) [(F.TR_QP_RES_QPN, 0, 9)] with
  tr := { priv.tr with qps := [(9, q)], cache := [9] } }

def roceQp : Qp := { emptyQp with st := 2, kind := 3, credInit := 32, credMax := 64, immRing := 0, pmtu := 4 }
def roce (op psn len va : Nat) (data : List Byte) : Roce :=
  ⟨udpFrame 4791, 9, psn, op, 0xFFFF, mkKey 3 1, va, len, 0, 0, 0, true, true, data⟩
def midWrite : Qp := { roceQp with ce := { roceQp.ce with cur := some (mkKey 3 1, 0x4000, 2080, 1024) } }
def lastWrite : Qp := { roceQp with ce := { roceQp.ce with cur := some (mkKey 3 1, 0x4000, 1056, 1024) } }

/-- A QP with sixteen reads in progress. -/
def reads16 : Qp := { roceQp with ce := { roceQp.ce with open_ := (List.range 16).map (fun i => (i, i, 0x0C)) } }

def fetching (ks : List Pkt) : State := let s := heardBy inQp
  { s with tr := { s.tr with cache := [], fetches := [9], parked := ks } }
def awaited (w : WinWait) : State := let s := heardBy inQp
  { s with wins := { s.wins with cache := [], waiting := [(3, w)] }, pipe := { s.pipe with locket := { s.pipe.locket with
    lines := [(0, ⟨3, desc3.bytes, desc3.bytes, true, false, 0, [], 0⟩)] } } }
def awaitedBare : State := { awaited (.link 0) with
  pipe := (heardBy inQp).pipe, twin := { (heardBy inQp).twin with state := .inSync } }

def opener (d : Desc) : State := (List.range 8).foldl (fun (t : State) i => t.setFld F.WIN_DATA 0 (wordAt d.bytes i) i) dram
def far : Desc := { desc3 with base := 2 ^ 29 }
def openedWin (d : Desc) : State := ((opener d).openWindow (Desc.parse ((List.range 8).flatMap (fun i => leBytes 8 ((opener d).fld F.WIN_DATA 0 i)))) none .command).2
def revoking (b : WinBy) (cut : Bool) : State := { priv with wins := { priv.wins with revokes := [⟨3, mkKey 3 1, b, cut, [], none⟩] } }

theorem meets_NrtPackets (h : Obligations.NrtPackets) : Runs := by
  have := ((h.1 (heardBy inQp) (req 1 (List.replicate 64 3) 512) 1 1 (.nrtWrite (req 1 (List.replicate 64 3) 512))
    (by decide +kernel) (by unfold State.opens; decide +kernel) (by decide +kernel) (by decide +kernel)).1 (by decide +kernel)
    (by decide +kernel)).1 (by decide +kernel) (by decide +kernel) (show _ by decide +kernel)
  have := ((h.1 (withholding inQp) (req 1 (List.replicate 64 3) 512) 1 1 (.nrtWrite (req 1 (List.replicate 64 3) 512))
    (by decide +kernel) (by unfold State.opens; decide +kernel) (by decide +kernel) (by decide +kernel)).1 (by decide +kernel)
    (by decide +kernel)).2 (by decide +kernel) (by decide +kernel)
  have := (h.1 (heardBy { inQp with rcvNxt := 5 }) (req 1 (List.replicate 64 3) 4) 1 1 (.nrtWrite (req 1 (List.replicate 64 3) 4))
    (by decide +kernel) (by unfold State.opens; decide +kernel) (by decide +kernel) (by decide +kernel)).2 (by decide +kernel)
  have := ((h.1 (heardBy inQp) (req 2 [] 0) 1 2 (.nrtReadReq (req 2 [] 0)) (by decide +kernel)
    (by unfold State.opens; decide +kernel) (by decide +kernel) (by decide +kernel)).1 (by decide +kernel)
    (by decide +kernel)).1 (by decide +kernel) (by decide +kernel) (show _ by decide +kernel)
  have := ((h.1 (heardBy inQp) (req 2 [] 512) 1 2 (.nrtReadReq (req 2 [] 512)) (by decide +kernel)
    (by unfold State.opens; decide +kernel) (by decide +kernel) (by decide +kernel)).1 (by decide +kernel)
    (by decide +kernel)).1 (by decide +kernel) (by decide +kernel) (show _ by decide +kernel)
  have := (h.1 (heardBy { inQp with rcvNxt := 5 }) (req 2 [] 4) 1 2 (.nrtReadReq (req 2 [] 4)) (by decide +kernel)
    (by unfold State.opens; decide +kernel) (by decide +kernel) (by decide +kernel)).2 (by decide +kernel)
  have := ((h.1 (heardBy inQp) (req 3 (List.replicate 16 3) 0) 1 3 (.nrtAtomic (req 3 (List.replicate 16 3) 0)) (by decide +kernel)
    (by unfold State.opens; decide +kernel) (by decide +kernel) (by decide +kernel)).1 (by decide +kernel)
    (by decide +kernel)).1 (by decide +kernel) (by decide +kernel) (show _ by decide +kernel)
  have := ((h.1 (heardBy inQp) (req 3 (List.replicate 16 3) 512) 1 3 (.nrtAtomic (req 3 (List.replicate 16 3) 512))
    (by decide +kernel) (by unfold State.opens; decide +kernel) (by decide +kernel) (by decide +kernel)).1 (by decide +kernel)
    (by decide +kernel)).1 (by decide +kernel) (by decide +kernel) (show _ by decide +kernel)
  have := ((h.1 (withholding inQp) (req 3 (List.replicate 16 3) 512) 1 3 (.nrtAtomic (req 3 (List.replicate 16 3) 512))
    (by decide +kernel) (by unfold State.opens; decide +kernel) (by decide +kernel) (by decide +kernel)).1 (by decide +kernel)
    (by decide +kernel)).2 (by decide +kernel) (by decide +kernel)
  have := (h.1 (heardBy { inQp with rcvNxt := 5 }) (req 3 (List.replicate 16 3) 4) 1 3 (.nrtAtomic (req 3 (List.replicate 16 3) 4))
    (by decide +kernel) (by unfold State.opens; decide +kernel) (by decide +kernel) (by decide +kernel)).2 (by decide +kernel)
  have := ((h.1 (heardBy inQp) (req 4 [] 0) 1 4 (.nrtPersist (req 4 [] 0)) (by decide +kernel)
    (by unfold State.opens; decide +kernel) (by decide +kernel) (by decide +kernel)).1 (by decide +kernel)
    (by decide +kernel)).1 (by decide +kernel) (by decide +kernel) (show _ by decide +kernel)
  have := ((h.1 (heardBy inQp) (req 4 [] 512) 1 4 (.nrtPersist (req 4 [] 512)) (by decide +kernel)
    (by unfold State.opens; decide +kernel) (by decide +kernel) (by decide +kernel)).1 (by decide +kernel)
    (by decide +kernel)).1 (by decide +kernel) (by decide +kernel) (show _ by decide +kernel)
  have := ((h.1 (withholding inQp) (req 4 [] 512) 1 4 (.nrtPersist (req 4 [] 512)) (by decide +kernel)
    (by unfold State.opens; decide +kernel) (by decide +kernel) (by decide +kernel)).1 (by decide +kernel)
    (by decide +kernel)).2 (by decide +kernel) (by decide +kernel)
  have := (h.1 (heardBy { inQp with rcvNxt := 5 }) (req 4 [] 4) 1 4 (.nrtPersist (req 4 [] 4)) (by decide +kernel)
    (by unfold State.opens; decide +kernel) (by decide +kernel) (by decide +kernel)).2 (by decide +kernel)
  have := (h.2 (heardBy outQp) (pkt 16 0 none none (List.replicate 8 3)) 1).1 16 (.nrtReadResp (pkt 16 0 none none (List.replicate 8
    3))) (by decide +kernel) (by unfold State.opens; decide +kernel) (by decide +kernel) (by decide +kernel)
    (show _ by decide +kernel)
  have := (h.2 (heardBy outQp) (pkt 17 0 none none (List.replicate 8 3)) 1).1 17 (.nrtAtomicResp (pkt 17 0 none none (List.replicate
    8 3))) (by decide +kernel) (by unfold State.opens; decide +kernel) (by decide +kernel) (by decide +kernel)
    (show _ by decide +kernel)
  have := (h.2 (heardBy outQp) (pkt 18 0 none none (List.replicate 8 0)) 1).1 18 (.nrtCompletion (pkt 18 0 none none (List.replicate
    8 0))) (by decide +kernel) (by unfold State.opens; decide +kernel) (by decide +kernel) (by decide +kernel)
    (show _ by decide +kernel)
  have := (h.2 (heardBy outQp) (pkt 19 0 none (some ⟨0, 5, 1, 0, false, false, 0⟩) []) 1).2.1 ⟨0, 5, 1, 0, false, false, 0⟩
    (by unfold State.opens; decide +kernel) rfl
  have := (h.2 (heardBy outQp) (pkt 20 0 none none []) 1).2.2 (by unfold State.opens; decide +kernel) (by decide +kernel)
  exact ⟨_, _, _, ((h.1 (heardBy inQp) (req 1 (List.replicate 64 3) 0) 1 1 (.nrtWrite (req 1 (List.replicate 64 3) 0)) (by decide +kernel)
    (by unfold State.opens; decide +kernel) (by decide +kernel) (by decide +kernel)).1 (by decide +kernel)
    (by decide +kernel)).1 (by decide +kernel) (by decide +kernel) (show _ by decide +kernel)⟩

theorem meets_NrtTimers (h : Obligations.NrtTimers) : Runs := by
  have := (((h (stalled id) 9).1 (by decide +kernel) rfl).1 ⟨0, req 1 (List.replicate 64 3) 0, 0, none, 1⟩ [] rfl ⟨rfl, rfl⟩).2
    (by decide +kernel)
  have := ((h (away (stalled id)) 9).1 (by decide +kernel) rfl).2.1 (by decide +kernel) rfl rfl
  have := ((h (heardBy inQp) 9).1 (by decide +kernel) rfl).2.2.1 rfl
  have := ((h (heardBy { inQp with ackSince := some 3 }) 9).1 (by decide +kernel) rfl).2.2.2.1 3 rfl
  have := ((h (heardBy { inQp with ackCount := 16 }) 9).1 (by decide +kernel) rfl).2.2.2.2.1 (by decide +kernel)
  have := ((h (heardBy inQp) 9).1 (by decide +kernel) rfl).2.2.2.2.2.1 (by decide +kernel)
  have := ((h (heardBy inQp) 9).1 (by decide +kernel) rfl).2.2.2.2.2.2.1 (by decide +kernel)
  have := ((h (withholding inQp) 9).1 (by decide +kernel) rfl).2.2.2.2.2.2.2.1 (by decide +kernel) rfl
  have := ((h (heardBy { inQp with waitSince := some 3, sendq := [(req 1 [] 0, 1)] }) 9).1 (by decide +kernel)
    rfl).2.2.2.2.2.2.2.2.1 3 rfl (by decide +kernel) ⟨rfl, rfl⟩
  have := ((h (heardBy inQp) 9).1 (by decide +kernel) rfl).2.2.2.2.2.2.2.2.2.1
  have := ((h (heardBy { inQp with orderq := [req 3 (List.replicate 16 1) 0] }) 9).1 (by decide +kernel) rfl).2.2.2.2.2.2.2.2.2.1
  have := ((h finished 9).1 (by decide +kernel) rfl).2.2.2.2.2.2.2.2.2.2 1 ⟨1, 1, some 0, true, false, none, 1, 1, 64⟩ 0 (opOf 1)
    .ok 1 rfl rfl rfl rfl rfl rfl
  have := (h on0 (2 ^ 20)).2 (by decide +kernel)
  exact ⟨_, _, _, (((h (stalled (fun q => { q with backoff := 2 })) 9).1 (by decide +kernel) rfl).1 ⟨0, req 1 (List.replicate 64 3) 0, 0,
    none, 1⟩ [] rfl ⟨rfl, rfl⟩).1 (by decide +kernel)⟩

theorem meets_QpCommands (h : Obligations.QpCommands) : Runs := by
  have := ((h (described 0x400) .firmware 9 5 (by decide +kernel)).1 ⟨rfl, by decide +kernel⟩).1 (by decide +kernel) |>.1 ⟨rfl, rfl,
    (by decide +kernel), (by decide +kernel), (by decide +kernel), (by decide +kernel)⟩
  have := (((h (qpAt inQp) .mgmt 9 5 (by decide +kernel)).1 ⟨rfl, by decide +kernel⟩).1 rfl).2.1
    (fun e => absurd e.1 (by decide +kernel))
  have := (((h (qpAt { inQp with st := 1 }) .mgmt 9 5 (by decide +kernel)).1 ⟨rfl, by decide +kernel⟩).1 rfl).2.2.1
    (by decide +kernel)
  have := (((h (qpAt inQp) .mgmt 9 5 (by decide +kernel)).1 ⟨rfl, by decide +kernel⟩).1 rfl).2.2.2.1 (by decide +kernel)
  have := (((h (qpAt inQp) .mgmt 9 5 (by decide +kernel)).1 ⟨rfl, by decide +kernel⟩).1 rfl).2.2.2.2.1 (by decide +kernel)
  have := (((h (qpAt emptyQp) .mgmt 9 5 (by decide +kernel)).1 ⟨rfl, by decide +kernel⟩).1 rfl).2.2.2.2.2.1 (by decide +kernel)
  have := (((h (qpAt inQp) .mgmt 9 5 (by decide +kernel)).1 ⟨rfl, by decide +kernel⟩).1 rfl).2.2.2.2.2.2.1
  have := (((h (qpAt inQp) .mgmt 9 5 (by decide +kernel)).1 ⟨rfl, by decide +kernel⟩).1 rfl).2.2.2.2.2.2.2.1
  have := (((h (qpAt inQp) .mgmt 9 5 (by decide +kernel)).1 ⟨rfl, by decide +kernel⟩).1 rfl).2.2.2.2.2.2.2.2.1 (by decide +kernel)
    (by decide +kernel)
  have := (((h (qpAt emptyQp) .mgmt 9 5 (by decide +kernel)).1 ⟨rfl, by decide +kernel⟩).1 rfl).2.2.2.2.2.2.2.2.2 (Or.inl
    (by decide +kernel))
  have := (((h ((fields (qpAt inQp) [(F.TR_QP_DATA, 0, 0)]).setFld F.TR_QP_DATA 0 0 1) .mgmt 9 5 (by decide +kernel)).1
    ⟨rfl, by decide +kernel⟩).1 rfl).2.2.2.2.2.2.2.2.2 (Or.inr (by decide +kernel))
  have := (((h (qpAt inQp) .chain 9 5 (by decide +kernel)).1 ⟨rfl, by decide +kernel⟩).2 rfl).1
  have := (((h (qpAt inQp) .chain 9 5 (by decide +kernel)).1 ⟨rfl, by decide +kernel⟩).2 rfl).2
  have := (h (qpAt { emptyQp with resetting := true }) .mgmt 9 5 (by decide +kernel)).2.1 rfl (by decide +kernel)
    (by decide +kernel)
  have := (h (qpAt emptyQp) .mgmt 9 5 (by decide +kernel)).2.2 (Or.inl rfl)
  exact ⟨_, _, _, ((h (described 0x400) .mgmt 9 5 (by decide +kernel)).1 ⟨rfl, by decide +kernel⟩).1 (by decide +kernel) |>.1 ⟨rfl, rfl,
    (by decide +kernel), (by decide +kernel), (by decide +kernel), (by decide +kernel)⟩⟩

theorem meets_RoceRequests (h : Obligations.RoceRequests) : Runs := by
  have := (((h (heardBy midWrite) (roce 7 0 2080 0x4000 (List.replicate 1024 3))).1 (by unfold State.expects; decide +kernel))
    (mkKey 3 1) 0x4000 2080 1024 rfl (by decide +kernel) (Or.inl (by decide +kernel))).1 (Or.inr rfl) (by decide +kernel)
    (by decide +kernel)
  have := (((h (heardBy lastWrite) (roce 8 0 1056 0x4000 (List.replicate 32 3))).1 (by unfold State.expects; decide +kernel)) (mkKey
    3 1) 0x4000 1056 1024 rfl (by decide +kernel) (Or.inl (by decide +kernel))).2.1 (Or.inl rfl) (by decide +kernel)
    (by decide +kernel)
  have := (((h (heardBy roceQp) (roce 10 0 1024 0x4000 (List.replicate 1024 3))).1 (by unfold State.expects; decide +kernel)) (mkKey
    3 1) 0x4000 1024 0 rfl (by decide +kernel) (Or.inl (by decide +kernel))).2.1 (Or.inr rfl) (by decide +kernel)
    (by decide +kernel)
  have := (((h (heardBy roceQp) (roce 10 0 0 0x4000 (List.replicate 0 3))).1 (by unfold State.expects; decide +kernel)) (mkKey 3 1)
    0x4000 0 0 rfl (by decide +kernel) (Or.inl (by decide +kernel))).2.1 (Or.inr rfl) (by decide +kernel) (by decide +kernel)
  have := ((((h (heardBy lastWrite) (roce 9 0 1056 0x4000 (List.replicate 32 3))).1 (by unfold State.expects; decide +kernel))
    (mkKey 3 1) 0x4000 1056 1024 rfl (by decide +kernel) (Or.inl (by decide +kernel))).2.2 (Or.inl rfl) (by decide +kernel)
    (by decide +kernel)).1 (by decide +kernel)
  have := ((((h (heardBy roceQp) (roce 11 0 64 0x4000 (List.replicate 64 3))).1 (by unfold State.expects; decide +kernel)) (mkKey 3
    1) 0x4000 64 0 rfl (by decide +kernel) (Or.inl (by decide +kernel))).2.2 (Or.inr rfl) (by decide +kernel)
    (by decide +kernel)).1 (by decide +kernel)
  have := ((((h ((heardBy roceQp).setFld F.RING_SQ_TAIL_IDX 0 63) (roce 11 0 64 0x4000 (List.replicate 64 3))).1
    (by unfold State.expects; decide +kernel)) (mkKey 3 1) 0x4000 64 0 rfl (by decide +kernel) (Or.inl
    (by decide +kernel))).2.2 (Or.inr rfl) (by decide +kernel) (by decide +kernel)).2 (by decide +kernel)
  have := ((h (heardBy roceQp) (roce 0x13 0 8 0x4000 [])).2.1 (by unfold State.expects; decide +kernel) (by decide +kernel)
    (by decide +kernel)).1 rfl
  have := ((h (heardBy roceQp) (roce 0x14 0 8 0x4000 [])).2.1 (by unfold State.expects; decide +kernel) (by decide +kernel)
    (by decide +kernel)).2 rfl
  have := ((h (heardBy roceQp) (roce 0x0C 0 64 0x4000 [])).2.2.1 (by unfold State.expects; decide +kernel) rfl).1
    (by decide +kernel) (by decide +kernel)
  have := ((h (heardBy roceQp) (roce 0x0C 0 0 0x4000 [])).2.2.1 (by unfold State.expects; decide +kernel) rfl).1 (by decide +kernel)
    (by decide +kernel)
  have := ((h (heardBy roceQp) (roce 0x0C 0 8192 0x4000 [])).2.2.1 (by unfold State.expects; decide +kernel) rfl).1
    (by decide +kernel) (by decide +kernel)
  have := ((h (heardBy reads16) (roce 0x0C 0 64 0x4000 [])).2.2.1 (by unfold State.expects; decide +kernel) rfl).2
    (by decide +kernel)
  have := (h (heardBy roceQp) (roce 0x0C 0 8 0x4000 [])).2.2.2.1 9 (by decide +kernel) (by decide +kernel)
    (show _ by decide +kernel)
  have := (h (heardBy { roceQp with ce := { roceQp.ce with divisor := 4 } }) (roce 0x0C 0 8 0x4000 [])).2.2.2.2 9
    (by decide +kernel) (by decide +kernel) (show _ by decide +kernel)
  exact ⟨_, _, _, (((h (heardBy roceQp) (roce 6 0 2080 0x4000 (List.replicate 1024 3))).1 (by unfold State.expects; decide +kernel)) (mkKey
    3 1) 0x4000 2080 0 rfl (by decide +kernel) (Or.inl (by decide +kernel))).1 (Or.inl rfl) (by decide +kernel)
    (by decide +kernel)⟩

theorem meets_Arrivals (h : Obligations.Arrivals) : Runs := by
  have := (h (fetching [(req 1 (List.replicate 64 3) 0)]) 9 (by decide +kernel)).1 (by decide +kernel)
  have := (h (fetching [(req 1 (List.replicate 64 3) 0), req 1 (List.replicate 64 3) 1]) 9 (by decide +kernel)).1
    (by decide +kernel)
  have := (h priv 9 (by decide +kernel)).2.1 (by decide +kernel)
  have := (h priv 9 (by decide +kernel)).2.2.1 (by decide +kernel)
  have := ((h (awaited (.nrt (req 1 (List.replicate 64 3) 0))) 3 (by decide +kernel)).2.2.2.1 (by decide +kernel)
    (by decide +kernel) (show _ by decide +kernel) (by decide +kernel) (by decide +kernel)).1 (req 1 (List.replicate 64 3) 0)
    rfl
  have := ((h (awaited (.link 0)) 3 (by decide +kernel)).2.2.2.1 (by decide +kernel) (by decide +kernel) (show _ by decide +kernel)
    (by decide +kernel) (by decide +kernel)).2 0 rfl
  have := (h awaitedBare 3 (by decide +kernel)).2.2.2.2 [(3, 1), (4, 2)] (by decide +kernel) (by decide +kernel)
    (show _ by decide +kernel) (by decide +kernel) (by decide +kernel)
  exact ⟨_, _, _, (h (fetching []) 9 (by decide +kernel)).1 (by decide +kernel)⟩

theorem meets_WindowCommands (h : Obligations.WindowCommands) : Runs := by
  have := (((h priv priv (.fabric 0) (mkKey 3 1) (by decide +kernel)).1 ⟨rfl, by decide +kernel⟩).1 rfl).2.1
  have := (((h priv priv (.fabric 0) (mkKey 3 1) (by decide +kernel)).1 ⟨rfl, by decide +kernel⟩).1 rfl).2.2
  have := ((((h (opener far) (openedWin far) .mgmt (mkKey 0 1) (by decide +kernel)).1 ⟨rfl, by decide +kernel⟩).2.1
    (by decide +kernel)).1 (by decide +kernel)).1
  have := ((((h (opener far) (openedWin far) .mgmt (mkKey 0 1) (by decide +kernel)).1 ⟨rfl, by decide +kernel⟩).2.1
    (by decide +kernel)).1 (by decide +kernel)).2
  have := (((h (opener desc3) (openedWin desc3) .mgmt (mkKey 3 1) (by decide +kernel)).1 ⟨rfl, by decide +kernel⟩).2.1
    (by decide +kernel)).2 .windowBounds (by decide +kernel)
  have := (((h priv priv .mgmt (mkKey 3 1) (by decide +kernel)).1 ⟨rfl, by decide +kernel⟩).2.2.1 (by decide +kernel)).1
    (by decide +kernel) (by decide +kernel) rfl
  have := (((h priv priv .mgmt (mkKey 3 2) (by decide +kernel)).1 ⟨rfl, by decide +kernel⟩).2.2.1 (by decide +kernel)).2.1
    (by decide +kernel) (by decide +kernel)
  have := (((h priv priv .mgmt (mkKey 3 1) (by decide +kernel)).1 ⟨rfl, by decide +kernel⟩).2.2.1 (by decide +kernel)).2.2.1
    (by decide +kernel)
  have := (((h priv priv .mgmt (mkKey 4 1) (by decide +kernel)).1 ⟨rfl, by decide +kernel⟩).2.2.1 (by decide +kernel)).2.2.1
    (by decide +kernel)
  have := (((h (priv.setChk 3 poisonDelta) priv .mgmt (mkKey 3 1) (by decide +kernel)).1 ⟨rfl, by decide +kernel⟩).2.2.1
    (by decide +kernel)).2.2.2 (by decide +kernel)
  have := ((h unfilledTable priv .mgmt (mkKey 3 1) (by decide +kernel)).1 ⟨rfl, by decide +kernel⟩).2.2.2.1 (by decide +kernel)
  have := ((h priv priv .mgmt (mkKey 3 1) (by decide +kernel)).1 ⟨rfl, by decide +kernel⟩).2.2.2.2 3 (by decide +kernel)
    (by decide +kernel) rfl (by decide +kernel)
  have := ((h priv priv .mgmt (mkKey 3 1) (by decide +kernel)).1 ⟨rfl, by decide +kernel⟩).2.2.2.2 1048575 (by decide +kernel)
    (by decide +kernel) rfl (by decide +kernel)
  have := (h (revoking .command false) priv .mgmt (mkKey 3 1) (by decide +kernel)).2.1 3 ⟨3, mkKey 3 1, .command, false, [], none⟩
    (by decide +kernel)
  have := ((h (revoking .command true) priv .mgmt (mkKey 3 1) (by decide +kernel)).2.2 3 ⟨3, mkKey 3 1, .command, true, [], none⟩
    (by decide +kernel)).1 rfl
  have := ((h (revoking (.link 0) true) priv .mgmt (mkKey 3 1) (by decide +kernel)).2.2 3 ⟨3, mkKey 3 1, (.link 0), true, [], none⟩
    (by decide +kernel)).2.1 0 rfl
  have := ((h (revoking .lend true) priv .mgmt (mkKey 3 1) (by decide +kernel)).2.2 3 ⟨3, mkKey 3 1, .lend, true, [], none⟩
    (by decide +kernel)).2.2 rfl (by decide +kernel)
  exact ⟨_, _, _, (((h priv priv (.fabric 0) (mkKey 3 1) (by decide +kernel)).1 ⟨rfl, by decide +kernel⟩).1 rfl).1⟩

/-- The tensor of handle 1 with a promotion to the girdle whose pavilion read is request 0. -/
def promo1 : Promo := ⟨1, 1, .ok, false, 0, some 0, false, false, 0, 0, none⟩
def readDone : Op := ⟨.promo 1 1, .read, 1, .ok, 0, 0, 0, none, [], 64, 64, true⟩
def handle1 : Handle := ((tiered 0 none).tiers.handles.head?.map (fun p => p.2)).getD
  ⟨0, [], ⟨0, 0, 0, false, false, 0, 0, [], []⟩, 0, none, none, none, false, false, 0, 0, 0, [], false, 0, 0, 0, 0⟩
def onHandle (f : Handle → Handle) : State := (tiered 0 none).modHandle 1 f
def promoting1 (p : Promo) : State := let s := tiered 0 none
  { s with tiers := { s.tiers with promos := [p] }, pipe := { s.pipe with ops := [(0, readDone)] } }

/-- Facet operation 9, and a state with it and with engine 0 on. -/
def fxOp (f : FxOp → FxOp) : FxOp := f ⟨0, 1, 0, 0, [6 + 1 * 2 ^ 12, 65537, 0, 0, mkKey 3 1, 0x10000, 0x3F800000, 0], 1, none, 0, 0, 0, [],
  .queued, .ok, [], 0, 0, [], [], none, false⟩
def faceted (o : FxOp) : State := let s := (onHandle (fun h => { h with crown := some ⟨[], false, 0, 0, 0⟩ })).setFld F.FE_CTL_EN 0 1
  { s with tiers := { s.tiers with ops := [(9, o)], neigh := [(1, ⟨5, true, true, 9, 0, 0⟩)] } }
def input1 (f : InputFrom) : FxInput := ⟨0, 1, handle1.t, 0x100000, 64, f, 1, false, 1⟩
def running1 (e : Nat) (faults : Nat) (f : InputFrom) : FxOp :=
  fxOp (fun o => { o with stage := .running, engines := [e], withdrawals := faults, parities := faults, inputs := [input1 f] })

def waiting69 : Seq := { chainOf 0x69 ⟨3, 2, 0, 0, []⟩ [] with wait := some ⟨3, .promote 1 1 (some 50)⟩ }

def reading1 : State := let s := faceted (running1 0 0 (.neighbour 1 0))
  { s with tr := { s.tr with qps := [(9, { emptyQp with st := 2, kind := 2, rto := 4, own := [⟨1, .op 0, [], 64, 0, 7⟩] })] } }

def cleared : State := { priv with pipe := { priv.pipe with pm := [] } }
theorem cleared_line (l : Nat) : cleared.lineNow l = List.replicate 64 0 := by
  have h : cleared.pmLine l = List.replicate 64 0 := rfl
  show overlay (cleared.pmLine l) [] = _
  rw [h]; decide
theorem cleared_shut (i : Nat) : (cleared.descOf i).state = 0 := by
  have h : cleared.waitPatch (cleared.descLine i) = [] := rfl
  show (Desc.parse (overlay (cleared.lineNow (cleared.descLine i)) (cleared.waitPatch (cleared.descLine i)))).state = 0
  rw [cleared_line, h]; decide +kernel
def listens (i : Nat) : State := (priv.setFld F.TM_CFG_NEIGH_EN 0 1).setFld F.TM_NEIGH_SEL_INDEX 0 i

/-- A Key Store with the envelope of version 3 for a slot in KS_ENV, kept or not, and with that slot as given. -/
def envWord (w : Nat) (i : Nat) (s : State) : State := s.setFld F.KS_ENV 0 w i
def envFor (slot : Nat) (persist : Bool) (k : KeySlot) : State :=
  (envWord (0x4B454E31 + 1 * 2 ^ 32 + 1 * 2 ^ 40 + boolNat persist * 2 ^ 48) 0
    (envWord (3 * 2 ^ 32 + slot) 1 (envWord 1000 2 priv))).setSlot slot k
def slotted (k : KeySlot) : State := envFor 0 true k
def ret1 : KeySlot := { emptySlot with mode := 1, active := some ⟨2, 0, 100⟩, staged := .retiring ⟨1, 0, 100⟩, graceEnd := some 50 }
def ld3 : KeySlot := { emptySlot with active := some ⟨2, 0, 100⟩, staged := .loaded ⟨3, 0, 100⟩ }

theorem meets_TierEvents (h : Obligations.TierEvents) : Runs := by
  have := (h (promoting1 { promo1 with revoked := true }) 1 1 9 0 0).2.1 { promo1 with revoked := true } handle1 (by decide +kernel)
    rfl rfl
  have := (h (priv.setSeq 0 (waiting69)) 1 1 9 0 0).2.2.1 (waiting69) 3 50 (by decide +kernel) rfl rfl rfl
  have := (h (onHandle (fun h => { h with evicting := true })) 1 1 9 0 0).2.2.2.1 { handle1 with evicting := true } rfl
    (by decide +kernel) rfl rfl
  have := (h (onHandle (fun h => { h with refs := 2 })) 1 1 9 0 0).2.2.2.2.1 { handle1 with refs := 2 } rfl (by decide +kernel)
  have := (h (faceted (fxOp id)) 1 1 9 0 0).2.2.2.2.2.1 (fxOp id) [0] rfl (by decide +kernel) rfl
  have := (h (faceted (fxOp (fun o => { o with deadline := some 50 }))) 1 1 9 0 0).2.2.2.2.2.2.1 (fxOp
    (fun o => { o with deadline := some 50 })) [0] 50 rfl rfl rfl (by decide +kernel) (by decide +kernel)
  have := (h (faceted (running1 0 0 (.copy []))) 1 1 9 0 0).2.2.2.2.2.2.2.1 (running1 0 0 (.copy [])) ⟨handle1.t, []⟩ _ rfl rfl rfl
    (fun x e => by rcases List.mem_singleton.1 e with rfl; rfl) rfl rfl
  have := ((h (faceted (running1 0 0 (.copy []))) 1 1 9 0 0).2.2.2.2.2.2.2.2.1 (running1 0 0 (.copy [])) (input1 (.copy [])) 0 rfl
    rfl rfl rfl).1 (by decide +kernel)
  have := ((h (faceted (running1 0 1 (.copy []))) 1 1 9 0 0).2.2.2.2.2.2.2.2.1 (running1 0 1 (.copy [])) (input1 (.copy [])) 0 rfl
    rfl rfl rfl).2 (by decide +kernel)
  have := ((h priv 1 1 9 0 0).2.2.2.2.2.2.2.2.2.1 (by decide +kernel)).1 rfl
  have := (((h (faceted (running1 0 0 (.copy []))) 1 1 9 0 0).2.2.2.2.2.2.2.2.2.1 (by decide +kernel)).2 (running1 0 0 (.copy []))
    (by decide +kernel)).1 (by decide +kernel)
  have := (((h (faceted (running1 0 1 (.copy []))) 1 1 9 0 0).2.2.2.2.2.2.2.2.2.1 (by decide +kernel)).2 (running1 0 1 (.copy []))
    (by decide +kernel)).2 (by decide +kernel)
  have := (h priv 1 1 9 64 0).2.2.2.2.2.2.2.2.2.2.1 (by decide +kernel)
  have := ((h reading1 1 1 9 0 1).2.2.2.2.2.2.2.2.2.2.2.1 ⟨5, true, true, 9, 0, 0⟩ (by decide +kernel) rfl).1 7 rfl
  have := ((h (faceted (fxOp id)) 1 1 9 0 1).2.2.2.2.2.2.2.2.2.2.2.1 ⟨5, true, true, 9, 0, 0⟩ (by decide +kernel) rfl).2 rfl
  have := (h priv 1 1 9 0 4).2.2.2.2.2.2.2.2.2.2.2.2 (by decide +kernel)
  exact ⟨_, _, _, (h (promoting1 promo1) 1 1 9 0 0).1 promo1 handle1 0 readDone (by decide +kernel) rfl rfl rfl rfl rfl rfl
    (by decide +kernel) rfl rfl rfl rfl⟩

theorem meets_TierCommands (h : Obligations.TierCommands) : Runs := by
  have := (((h priv (.fabric 1) 1 0#64 0).1 ⟨rfl, by decide +kernel⟩).1 rfl).2.1
  have := (((h priv (.fabric 1) 1 0#64 0).1 ⟨rfl, by decide +kernel⟩).1 rfl).2.2.1
  have := (((h priv (.fabric 1) 1 0#64 0).1 ⟨rfl, by decide +kernel⟩).1 rfl).2.2.2
  have := (((h (tiered 0 none) .mgmt 1 0#64 0).1 ⟨rfl, by decide +kernel⟩).2 rfl).1 handle1 rfl (by decide +kernel)
  have := ((((h (tiered 0 none) .mgmt 65537 0#64 0).1 ⟨rfl, by decide +kernel⟩).2 rfl).2.1 handle1 rfl (by decide +kernel)).1
  have := ((((h (tiered 0 none) .mgmt 65537 0#64 0).1 ⟨rfl, by decide +kernel⟩).2 rfl).2.1 handle1 rfl (by decide +kernel)).2.1
  have := (((h (tiered 2 none) .mgmt 1 0#64 0).1 ⟨rfl, by decide +kernel⟩).2 rfl).2.2.1
  have := (((h on0 .mgmt 1 0#64 0).1 ⟨rfl, by decide +kernel⟩).2 rfl).2.2.2.1 rfl
  have := (((h cleared .mgmt 1 0#64 0).1 ⟨rfl, by decide +kernel⟩).2 rfl).2.2.2.2.1 rfl rfl
    (fun i _ _ e => absurd ((cleared_shut i).symm.trans e) (by decide))
  have := (((h priv .mgmt 1 0x4000#64 0).1 ⟨rfl, by decide +kernel⟩).2 rfl).2.2.2.2.2.1 rfl rfl
  have := (((h (listens 3) .mgmt 1 0x4000#64 0).1 ⟨rfl, by decide +kernel⟩).2 rfl).2.2.2.2.2.2 (Or.inr rfl)
  have := (((h (listens 3) .mgmt 1 0xFFFFFFFFFFFFFFFF#64 0).1 ⟨rfl, by decide +kernel⟩).2 rfl).2.2.2.2.2.2 (Or.inr rfl)
  have := (((h priv .mgmt 1 0#64 0).1 ⟨rfl, by decide +kernel⟩).2 rfl).2.2.2.2.2.2 (Or.inl rfl)
  have := ((h priv .mgmt 0 0#64 0).2 ⟨rfl, by decide +kernel⟩ (by decide +kernel) rfl).1 (by decide +kernel)
  have := ((h (priv.setFld F.FE_STAT_STATE 63 1) .firmware 0 0#64 63).2 ⟨rfl, by decide +kernel⟩ (by decide +kernel) rfl).2 rfl
  exact ⟨_, _, _, (((h priv (.fabric 1) 1 0#64 0).1 ⟨rfl, by decide +kernel⟩).1 rfl).1⟩

theorem meets_KeyStore (h : Obligations.KeyStore) : Runs := by
  have := (((h.1 (slotted emptySlot) .firmware 0 true (by decide +kernel) ⟨rfl, by decide +kernel⟩).1 rfl).1 ⟨0, 3, 1, 1000, true⟩
    (by decide +kernel)).2.1 (fun _ => nofun) rfl
  have := (((h.1 (envFor 7 false emptySlot) .mgmt 7 true (by decide +kernel) ⟨rfl, by decide +kernel⟩).1 rfl).1 ⟨7, 3, 1, 1000,
    false⟩ (by decide +kernel)).1 (fun _ => nofun) rfl
  have := (((h.1 (slotted ret1) .mgmt 0 true (by decide +kernel) ⟨rfl, by decide +kernel⟩).1 rfl).1 ⟨0, 3, 1, 1000, true⟩
    (by decide +kernel)).2.2 ⟨1, 0, 100⟩ rfl
  have := ((h.1 (slotted emptySlot) .mgmt 0 false (by decide +kernel) ⟨rfl, by decide +kernel⟩).1 rfl).2.1 .privilege
    (by decide +kernel)
  have := ((h.1 priv .mgmt 0 true (by decide +kernel) ⟨rfl, by decide +kernel⟩).1 rfl).2.1 .privilege (by decide +kernel)
  have := ((h.1 (slotted { emptySlot with active := some ⟨3, 0, 100⟩ }) .mgmt 0 true (by decide +kernel) ⟨rfl, by decide +kernel⟩).1
    rfl).2.1 .privilege (by decide +kernel)
  have := ((h.1 (slotted ld3) .mgmt 0 true (by decide +kernel) ⟨rfl, by decide +kernel⟩).1 rfl).2.2.1 ⟨3, 0, 100⟩ rfl
  have := ((h.1 (slotted { ld3 with active := none }) .mgmt 0 true (by decide +kernel) ⟨rfl, by decide +kernel⟩).1 rfl).2.2.1 ⟨3, 0,
    100⟩ rfl
  have := ((h.1 (slotted emptySlot) .mgmt 0 true (by decide +kernel) ⟨rfl, by decide +kernel⟩).1 rfl).2.2.2.1 (fun _ => nofun)
  have := ((h.1 (slotted ret1) .mgmt 0 true (by decide +kernel) ⟨rfl, by decide +kernel⟩).1 rfl).2.2.2.2.1
  have := ((h.1 (slotted ret1) .mgmt 0 true (by decide +kernel) ⟨rfl, by decide +kernel⟩).1 rfl).2.2.2.2.2.1
  have := ((h.1 (slotted ret1) .mgmt 0 true (by decide +kernel) ⟨rfl, by decide +kernel⟩).1 rfl).2.2.2.2.2.2
  have := (h.1 (slotted ret1) .mgmt 0 true (by decide +kernel) ⟨rfl, by decide +kernel⟩).2.1
  have := (h.1 (slotted ret1) .firmware 0 true (by decide +kernel) ⟨rfl, by decide +kernel⟩).2.2.1 (by decide +kernel)
  have := ((h.1 (slotted ret1) .chain 0 true (by decide +kernel) ⟨rfl, by decide +kernel⟩).2.2.2.1 rfl).1
  have := ((h.1 (slotted ret1) .chain 0 true (by decide +kernel) ⟨rfl, by decide +kernel⟩).2.2.2.1 rfl).2
  have := (h.1 (slotted ret1) .mgmt 0 true (by decide +kernel) ⟨rfl, by decide +kernel⟩).2.2.2.2
  have := (h.2 (slotted { ld3 with swapAt := some (50, some 0) }) 0).1 50 (some 0) rfl
  have := (h.2 (slotted ld3) 0).2.1 rfl
  have := (h.2 ((slotted ret1).setFld F.KS_CFG_VAULT_SLOT 0 7) 0).2.2.1 ⟨1, 0, 100⟩ 50 rfl rfl (by decide +kernel) rfl
  have := (h.2 ((slotted ret1).setFld F.KS_CFG_VAULT_SLOT 0 0) 0).2.2.2.1 ⟨1, 0, 100⟩ rfl rfl rfl
  have := (h.2
    { (slotted { emptySlot with staged := .retiring ⟨0, 0, 100⟩ }).setFld F.KS_CFG_VAULT_SLOT 0 7 with tr := { priv.tr with qps := [(9, { inQp with sent := [⟨0, req 1 [] 0, 0, none, 0⟩] })] } }
    0).2.2.2.2.1 ⟨0, 0, 100⟩ rfl (by decide +kernel)
  have := (h.2 (slotted { emptySlot with active := some ⟨3, 875, 1000⟩ }) 0).2.2.2.2.2.1 ⟨3, 875, 1000⟩ rfl (by decide +kernel) rfl
  have := (h.2 ((slotted { emptySlot with active := some ⟨3, 875, 1000⟩ }).setFld F.KS_CFG_VAULT_SLOT 0 7) 0).2.2.2.2.2.1 ⟨3, 875,
    1000⟩ rfl (by decide +kernel) rfl
  have := (h.2 (slotted { emptySlot with active := some ⟨3, 874, 1000⟩ }) 0).2.2.2.2.2.2.1 ⟨3, 874, 1000⟩ rfl (by decide +kernel)
  have := ((h.2 ((slotted { emptySlot with active := some ⟨3, 1000, 1000⟩ }).setFld F.KS_CFG_VAULT_SLOT 0 7) 0).2.2.2.2.2.2.2.1
    (by decide +kernel) rfl).1 (by decide +kernel)
  have := ((h.2 ((slotted { emptySlot with active := some ⟨3, 1000, 1000⟩ }).setFld F.KS_CFG_VAULT_SLOT 0 0) 0).2.2.2.2.2.2.2.1
    (by decide +kernel) rfl).2 rfl rfl
  have := (h.2 (slotted ld3) 0).2.2.2.2.2.2.2.2 rfl
  exact ⟨_, _, _, (((h.1 (slotted emptySlot) .mgmt 0 true (by decide +kernel) ⟨rfl, by decide +kernel⟩).1 rfl).1 ⟨0, 3, 1, 1000, true⟩
    (by decide +kernel)).2.1 (fun _ => nofun) rfl⟩

/-- A keepsake whose command sequence stands at a stage of operation `op`. -/
def sequenced (stage op addr : Nat) (verified : List Nat) : State :=
  { priv with kf := { priv.kf with sequence := some ⟨stage, .mgmt, 0, op, addr, []⟩, verified := verified } }
def seqAt (stage op addr : Nat) : KfSeq := ⟨stage, .mgmt, 0, op, addr, []⟩
def banked (b : Nat) (x : FlashOp) (active : Option Nat) : State :=
  { priv with kf := { priv.kf with banks := [(b, x)], active := active } }
def rec1 : EvRec := ⟨0x60, 0, 1, 0, 0, 7, 0, 0, 0, 0, 0⟩

def quiet60 (c : Nat) : State := (priv.raise 0x60 0 c 0x01).setFldOf 0x60 F.BLK_FSTAT_ESCALATED 0 2

theorem meets_KeepsakeCommands (h : Obligations.KeepsakeCommands) : Runs := by
  have := ((h priv .firmware (seqAt 1 0 0) 0 0#64).1 ⟨rfl, by decide +kernel⟩).1 rfl rfl rfl
  have := ((h priv .mgmt (seqAt 1 0 0) 5 0#64).1 ⟨rfl, by decide +kernel⟩).2.1 rfl (by decide +kernel)
  have := ((h (sequenced 1 0 0 []) .firmware (seqAt 1 0 0) 0 0#64).1 ⟨rfl, by decide +kernel⟩).2.2.1 rfl rfl (by decide +kernel)
  have := ((((h (sequenced 1 0 0 []) .mgmt (seqAt 1 0 0) 0 0#64).1 ⟨rfl, by decide +kernel⟩).2.2.2 rfl rfl rfl
    (by decide +kernel)).1 rfl)
  have := ((((h (sequenced 1 0 0 []) .mgmt (seqAt 1 0 0) 5 0#64).1 ⟨rfl, by decide +kernel⟩).2.2.2 rfl rfl rfl
    (by decide +kernel)).2.1 rfl (by decide +kernel))
  have := ((((h (sequenced 3 2 0 []) .mgmt (seqAt 3 2 0) 0x80000 0#64).1 ⟨rfl, by decide +kernel⟩).2.2.2 rfl rfl rfl
    (by decide +kernel)).2.2.1 rfl rfl (by decide +kernel) (by decide +kernel))
  have := ((((h (sequenced 3 2 0 []) .mgmt (seqAt 3 2 0) 0x80001 0#64).1 ⟨rfl, by decide +kernel⟩).2.2.2 rfl rfl rfl
    (by decide +kernel)).2.2.2.1 rfl rfl (by decide +kernel))
  have := ((((h (sequenced 3 3 0 []) .mgmt (seqAt 3 3 0) 3 0#64).1 ⟨rfl, by decide +kernel⟩).2.2.2 rfl rfl rfl
    (by decide +kernel)).2.2.2.2.1 rfl rfl (by decide +kernel)).1
  have := ((((h (sequenced 3 3 0 []) .mgmt (seqAt 3 3 0) 3 0#64).1 ⟨rfl, by decide +kernel⟩).2.2.2 rfl rfl rfl
    (by decide +kernel)).2.2.2.2.1 rfl rfl (by decide +kernel)).2
  have := ((((h (sequenced 3 4 0 [1]) .mgmt (seqAt 3 4 0) 1 0#64).1 ⟨rfl, by decide +kernel⟩).2.2.2 rfl rfl rfl
    (by decide +kernel)).2.2.2.2.2.1 rfl rfl (by decide +kernel) (by decide +kernel))
  have := ((((h (sequenced 3 4 0 [3]) .mgmt (seqAt 3 4 0) 3 0#64).1 ⟨rfl, by decide +kernel⟩).2.2.2 rfl rfl rfl
    (by decide +kernel)).2.2.2.2.2.2.1 rfl rfl (by decide +kernel) (show _ by decide +kernel) (by decide +kernel))
  have := ((((h (sequenced 3 4 0 []) .mgmt (seqAt 3 4 0) 3 0#64).1 ⟨rfl, by decide +kernel⟩).2.2.2 rfl rfl rfl
    (by decide +kernel)).2.2.2.2.2.2.2.1 rfl rfl (by decide +kernel) (by decide +kernel))
  have := ((((h (sequenced 3 5 0 []) .mgmt (seqAt 3 5 0) 0x434F4E46 0#64).1 ⟨rfl, by decide +kernel⟩).2.2.2 rfl rfl rfl
    (by decide +kernel)).2.2.2.2.2.2.2.2.1 rfl rfl)
  have := ((((h (sequenced 4 1 0x80000 []) .mgmt (seqAt 4 1 0x80000) 0 0#64).1 ⟨rfl, by decide +kernel⟩).2.2.2 rfl rfl rfl
    (by decide +kernel)).2.2.2.2.2.2.2.2.2 rfl (by decide +kernel))
  have := (h (sequenced 3 3 0 []) .mgmt (seqAt 3 3 0) 0 0#64).2.1 rfl
  have := (h priv .mgmt (seqAt 1 0 0) 0 0#64).2.2 rfl
  exact ⟨_, _, _, ((h priv .mgmt (seqAt 1 0 0) 0 0#64).1 ⟨rfl, by decide +kernel⟩).1 rfl rfl rfl⟩

theorem meets_FlashEnds (h : Obligations.FlashEnds) : Runs := by
  have := ((h { banked 1 (.program 0x100 [1, 2] .recorder) none with ev := { priv.ev with queue := [rec1] } } 1).1
    (by decide +kernel)).2.1 0x100 [1, 2] rec1 [] (by decide +kernel) rfl
  have := ((h (banked 2 (.journal (.term 5)) none) 2).1 (by decide +kernel)).2.2.1 5 (by decide +kernel)
  have := ((h (banked 0 (.envelope ⟨9, 3, 1, 1000, true⟩ 0) none) 0).1 (by decide +kernel)).2.2.2.1 ⟨9, 3, 1, 1000, true⟩
    (by decide +kernel)
  have := ((h (banked 3 (.erase 9 true .command) none) 3).1 (by decide +kernel)).2.2.2.2.1 9 true .command (by decide +kernel)
    (by decide +kernel) (show _ by decide +kernel)
  have := ((h (banked 3 (.erase 9 true .retirement) (some 8)) 3).1 (by decide +kernel)).2.2.2.2.1 9 true .retirement
    (by decide +kernel) (by decide +kernel) (show _ by decide +kernel)
  have := (((h priv 0).1 (by decide +kernel)).2.2.2.2.2 (by decide +kernel)).1
  have := (((h priv 0).1 (by decide +kernel)).2.2.2.2.2 (by decide +kernel)).2
  have := (h priv 4).2.1 (by decide +kernel)
  have := (h (banked 2 (.journal (.uses 5 3 4096)) none) 0).2.2 5 3 4096 (by decide +kernel)
  exact ⟨_, _, _, ((h (banked 0 (.program 0x80000 [1, 2] .command) (some 8)) 0).1 (by decide +kernel)).1 0x80000 [1, 2] (by decide +kernel)
    rfl⟩

theorem meets_FaultRaised (h : Obligations.FaultRaised) : Runs := by
  have := h priv ⟨96, 0, 4, 0x01, 5, 6⟩ (by decide +kernel) (by decide +kernel) (show _ by decide +kernel) (by decide +kernel)
  have := h priv ⟨17, 63, 3, 0x01, 5, 6⟩ (by decide +kernel) (by decide +kernel) (show _ by decide +kernel) (by decide +kernel)
  obtain ⟨_, e, _⟩ := h priv ⟨96, 0, 0, 0x01, 5, 6⟩ (by decide +kernel) (by decide +kernel) (show _ by decide +kernel) (by decide +kernel)
  exact ⟨_, _, _, e⟩

theorem meets_FaultsEndAndRecords (h : Obligations.FaultsEndAndRecords) : Runs := by
  have := (h priv .mgmt 96 0 0 ⟨0x60, 1, 5, 1, 5, 6⟩).2.1 (by decide +kernel)
  have := (h priv .mgmt 96 0 0 ⟨0x60, 0, 5, 1, 5, 6⟩).2.2.1 ⟨rfl, by decide +kernel⟩ (by decide +kernel) (by decide +kernel) rfl
  have := (h priv .chain 96 0 0 ⟨0x60, 0, 5, 1, 5, 6⟩).2.2.2.1 ⟨rfl, by decide +kernel⟩ (by decide +kernel) (by decide +kernel) rfl
  have := (h (quiet60 0) .mgmt 96 0 0 ⟨0x60, 0, 5, 1, 5, 6⟩).2.2.2.2.1 ((SMap.look (quiet60 0).quiet (unitKey 0x60 0)).getD 0)
    (by decide +kernel) (by decide +kernel) (show _ by decide +kernel) (by decide +kernel) (by decide +kernel)
    (show _ by decide +kernel)
  have := (h (quiet60 2) .mgmt 96 0 0 ⟨0x60, 0, 5, 1, 5, 6⟩).2.2.2.2.1 ((SMap.look (quiet60 2).quiet (unitKey 0x60 0)).getD 0)
    (by decide +kernel) (by decide +kernel) (show _ by decide +kernel) (by decide +kernel) (by decide +kernel)
    (show _ by decide +kernel)
  have := (h (quiet60 3) .mgmt 96 0 0 ⟨0x60, 0, 5, 1, 5, 6⟩).2.2.2.2.1 ((SMap.look (quiet60 3).quiet (unitKey 0x60 0)).getD 0)
    (by decide +kernel) (by decide +kernel) (show _ by decide +kernel) (by decide +kernel) (by decide +kernel)
    (show _ by decide +kernel)
  have := (h { priv with ev := { priv.ev with newest := some (rec1, 5) } } .mgmt 96 0 0 ⟨0x60, 0, 5, 1, 5, 6⟩).2.2.2.2.2.1 rec1 5
    rfl
  have := (h priv .mgmt 96 0 0 ⟨0x60, 0, 5, 1, 5, 6⟩).2.2.2.2.2.2.1 (by decide +kernel)
  have := ((h priv .mgmt 96 0 5 ⟨0x60, 0, 5, 1, 5, 6⟩).2.2.2.2.2.2.2 ⟨rfl, by decide +kernel⟩).1
  have := ((h priv .mgmt 96 0 5 ⟨0x60, 0, 5, 1, 5, 6⟩).2.2.2.2.2.2.2 ⟨rfl, by decide +kernel⟩).2.1
  have := ((h priv .mgmt 96 0 5 ⟨0x60, 0, 5, 1, 5, 6⟩).2.2.2.2.2.2.2 ⟨rfl, by decide +kernel⟩).2.2.1 1
  have := ((h priv .mgmt 96 0 5 ⟨0x60, 0, 5, 1, 5, 6⟩).2.2.2.2.2.2.2 ⟨rfl, by decide +kernel⟩).2.2.2
  exact ⟨_, _, _, (h priv .mgmt 96 0 0 ⟨0x60, 0, 5, 1, 5, 6⟩).1 (by decide +kernel) (by decide +kernel) (show _ by decide +kernel)⟩

theorem meets_LoupeCommands (h : Obligations.LoupeCommands) : Runs := by
  have := (((h priv .chain 0 0 0).1 ⟨rfl, by decide +kernel⟩).1 rfl).2.1
  have := (((h priv .chain 0 0 0).1 ⟨rfl, by decide +kernel⟩).1 rfl).2.2.1
  have := (((h priv .chain 0 0 0).1 ⟨rfl, by decide +kernel⟩).1 rfl).2.2.2.1
  have := (((h priv .chain 0 0 0).1 ⟨rfl, by decide +kernel⟩).1 rfl).2.2.2.2.1
  have := (((h priv .chain 0 0 0).1 ⟨rfl, by decide +kernel⟩).1 rfl).2.2.2.2.2
  have := (((h (priv.setFld F.LP_SNAP_S_SECONDS 0 5) .mgmt 0 0 0).1 ⟨rfl, by decide +kernel⟩).2.1 rfl).1 (by decide +kernel) rfl
  have := (((h { (priv.setFld F.LP_SNAP_S_SECONDS 0 5) with loupe := { priv.loupe with armed := some 9 } } .mgmt 0 0 9).1
    ⟨rfl, by decide +kernel⟩).2.1 rfl).2.1 (by decide +kernel) rfl
  have := (((h priv .mgmt 0 0 0).1 ⟨rfl, by decide +kernel⟩).2.1 rfl).2.2.1 
  have := (((h (priv.setFld F.LP_FRZ_S_SECONDS 0 5) .mgmt 0 0 0).1 ⟨rfl, by decide +kernel⟩).2.1 rfl).2.2.2.1 (by decide +kernel)
  have := (((h priv .mgmt 0 0 0).1 ⟨rfl, by decide +kernel⟩).2.1 rfl).2.2.2.2.1 (by decide +kernel)
  have := (((h priv .mgmt 0 0 0).1 ⟨rfl, by decide +kernel⟩).2.1 rfl).2.2.2.2.2.1 
  have := (((h priv .mgmt 0 0 0).1 ⟨rfl, by decide +kernel⟩).2.1 rfl).2.2.2.2.2.2.1 
  have := (((h priv .mgmt 3 0 0).1 ⟨rfl, by decide +kernel⟩).2.1 rfl).2.2.2.2.2.2.2.1 
  have := ((((h priv .mgmt 3 65 0).1 ⟨rfl, by decide +kernel⟩).2.1 rfl).2.2.2.2.2.2.2.2 _ _ (by decide +kernel) (by decide +kernel)
    (show bankOfCounter 3 = some (_, _) from rfl) (by decide +kernel) (by decide +kernel))
  have := ((h priv .mgmt 1024 0 0).1 ⟨rfl, by decide +kernel⟩).2.2 (by decide +kernel)
  have := (h { priv with loupe := { priv.loupe with armed := some 9, freezeArmed := some 9 } } .mgmt 0 0 9).2.1 rfl
    (fun f e => by cases e; exact Nat.le_refl 9)
  have := (h { priv with loupe := { priv.loupe with armed := some 9, freezeArmed := some 8 } } .mgmt 0 0 9).2.2.1 8 rfl rfl
    (by decide +kernel)
  have := (h priv .mgmt 0 0 0).2.2.2.1 rfl
  have := (h { priv with loupe := { priv.loupe with armed := some 9, freezeArmed := some 8 } } .mgmt 0 0 8).2.2.2.2.1 rfl
    (fun f e => by cases e; decide)
  have := (h { priv with loupe := { priv.loupe with armed := some 9, freezeArmed := some 9 } } .mgmt 0 0 9).2.2.2.2.2 9 rfl rfl
    (by decide +kernel)
  exact ⟨_, _, _, (((h priv .chain 0 0 0).1 ⟨rfl, by decide +kernel⟩).1 rfl).1⟩

/-- Port 4 in a state of bring-up, on lanes of full quality, with what else is given; a quad whose chord slice carries a lane. -/
def portAt (st : Nat) (fs : List (Fld × Nat × Nat)) : State :=
  fields priv ([(F.PORT_CFG_MODE, 0, 2), (F.PORT_CFG_EN, 4, 1), (F.PORT_CFG_MTU, 4, 9000), (F.PORT_STAT_STATE, 4, st),
    (F.LANE_QUAL_SNR, 4, 255), (F.LANE_QUAL_SNR, 5, 255), (F.LANE_QUAL_SNR, 6, 255), (F.LANE_QUAL_SNR, 7, 255)] ++ fs)
def chorded (held : Nat) : State :=
  (priv.setFld F.LCAL_SHADOW_MAX_HOLD 4 5).setChord 1 { priv.chord 1 with lane := 2, active := true, held := held }
def lifeIs (st : Life) (level : Nat) : State := { priv with life := { priv.life with state := st, level := level } }
/-- A frame of port 4 to its own MAC and its plane's address, of a type and a protocol. -/
def frame4 (etype dst proto : Nat) : Frame := ⟨4, 64, true, 0, [], etype, 8, dst, true, true, 9, 0, 0, proto, 0, 0, none⟩
def addressed : State := portAt 2 [(F.PLANE_IP4_ADDR, 0, 7), (F.PLANE_IP6_LO, 0, 9)]
def echoed (n : Nat) : State := { addressed with fab := { addressed.fab with echo := [(0, 0, n)] } }

/-- LC_BUF filled with acceptable rail limits, or with a token for a use. -/
def provisionBytes : List Byte := List.replicate 128 0 ++ (vendorRails.zip nominalMv).flatMap (fun x =>
  leBytes 2 x.2 ++ leBytes 2 x.2 ++ leBytes 2 x.1.hardLo ++ leBytes 2 x.1.hardHi) ++ List.replicate 64 1
def buffers (bs : List Byte) (s : State) : State := { s with life := { s.life with buf := putBytes 0 [] 0 bs } }
def token (use item : Nat) (s : State) : State :=
  buffers (leBytes 4 0x544B4E31 ++ [BitVec.ofNat 8 use, BitVec.ofNat 8 item, 0, 0] ++ leBytes 8 s.life.dieId ++ leBytes 8 s.life.nonce) s

theorem meets_PortsAndFrames (h : Obligations.PortsAndFrames) : Runs := by
  have := (((h.1 (portAt 2 []) .mgmt 4 3 1 ⟨0, 0, 0, []⟩).1 (by decide +kernel)).1 ⟨rfl, by decide +kernel⟩).2.1 rfl
    (by decide +kernel)
  have := (((h.1 (portAt 2 []) .mgmt 4 3 1 ⟨0, 0, 0, []⟩).1 (by decide +kernel)).1 ⟨rfl, by decide +kernel⟩).2.2.1 rfl rfl rfl
  have := (((h.1 (portAt 1 []) .mgmt 4 3 1 ⟨0, 0, 0, []⟩).1 (by decide +kernel)).1 ⟨rfl, by decide +kernel⟩).2.2.2.1 rfl rfl
    (by decide +kernel)
  have := (((h.1 (portAt 1 []) .mgmt 5 3 1 ⟨0, 0, 0, []⟩).1 (by decide +kernel)).1 ⟨rfl, by decide +kernel⟩).2.2.2.2.1 rfl rfl
  have := (((h.1 (portAt 2 []) .chain 4 3 1 ⟨0, 0, 0, []⟩).1 (by decide +kernel)).1 ⟨rfl, by decide +kernel⟩).2.2.2.2.2 rfl
  have := ((h.1 (portAt 1 []) .mgmt 4 3 1 ⟨0, 0, 0, []⟩).1 (by decide +kernel)).2.1 (by decide +kernel)
  have := ((h.1 (portAt 1 [(F.LANE_CTL_PRBS, 5, 1)]) .mgmt 4 3 1 ⟨0, 0, 0, []⟩).1 (by decide +kernel)).2.1 (by decide +kernel)
  have := ((h.1 (portAt 2 []) .mgmt 4 3 1 ⟨0, 0, 0, []⟩).1 (by decide +kernel)).2.2.1 (by decide +kernel)
  have := ((h.1 (portAt 1 [(F.LANE_QUAL_SNR, 7, 0), (F.LANE_THR_FAIL, 7, 9), (F.LANE_THR_WARN, 7, 9)]) .mgmt 4 3 1 ⟨0, 0, 0, []⟩).1
    (by decide +kernel)).2.2.1 (by decide +kernel)
  have := ((h.1 (portAt 1 []) .mgmt 4 3 1 ⟨0, 0, 0, []⟩).1 (by decide +kernel)).2.2.2.1 rfl rfl
  have := ((h.1 (portAt 3 []) .mgmt 4 3 1 ⟨0, 0, 0, []⟩).1 (by decide +kernel)).2.2.2.2.1 (Or.inl (by decide +kernel))
  have := ((h.1 (portAt 1 [(F.PORT_CFG_AN, 4, 0)]) .mgmt 4 2 1 ⟨0, 0, 0, []⟩).1 (by decide +kernel)).2.2.2.2.1 (Or.inr
    (by decide +kernel))
  have := ((h.1 (portAt 3 []) .mgmt 4 3 1 ⟨0, 0, 0, []⟩).1 (by decide +kernel)).2.2.2.2.2.1 rfl
  have := ((h.1 (portAt 2 []) .mgmt 4 1 1 ⟨0, 0, 0, []⟩).1 (by decide +kernel)).2.2.2.2.2.2.1 rfl (Or.inl rfl)
  have := ((h.1 (portAt 2 []) .mgmt 4 4 1 ⟨0, 0, 0, []⟩).1 (by decide +kernel)).2.2.2.2.2.2.1 rfl (Or.inr (Or.inl rfl))
  have := ((h.1 (portAt 2 []) .mgmt 4 5 1 ⟨0, 0, 0, []⟩).1 (by decide +kernel)).2.2.2.2.2.2.1 rfl (Or.inr (Or.inr rfl))
  have := ((h.1 (portAt 1 []) .mgmt 4 3 1 ⟨0, 0, 0, []⟩).1 (by decide +kernel)).2.2.2.2.2.2.2 (by decide +kernel)
  have := (h.1 priv .mgmt 64 3 1 ⟨0, 0, 0, []⟩).2.1 (by decide +kernel)
  have := (h.1 (portAt 2 [(F.LANE_STAT_STATE, 4, 2), (F.LANE_STAT_STATE, 5, 2)]) .mgmt 4 3 1 ⟨0, 0, 0, []⟩).2.2.1
    (by decide +kernel)
  have := (h.1 (portAt 2 [(F.LANE_STAT_STATE, 4, 2), (F.LANE_STAT_STATE, 5, 2)]) .mgmt 4 3 1 ⟨9, 0, 2 ^ 20, [(1, 2, 3, 4), (5, 6, 7,
    8), (0, 0, 0, 0), (1, 1, 1, 1)]⟩).2.2.1 (by decide +kernel)
  have := ((h.1 (chorded 5) .mgmt 4 3 1 ⟨0, 0, 0, []⟩).2.2.2 (by decide +kernel)).1 rfl rfl (by decide +kernel)
  have := ((h.1 (chorded 4) .mgmt 4 3 1 ⟨0, 0, 0, []⟩).2.2.2 (by decide +kernel)).2 (by decide +kernel)
  have := (((h.2 addressed (frame4 0x806 0 0) 7 0 0 5 0 [1, 2] (by decide +kernel)).1 (by decide +kernel)).1).1 (by decide +kernel)
    (by decide +kernel) (show _ by decide +kernel)
  have := (((h.2 addressed (frame4 0x806 0 0) 8 0 0 5 0 [1, 2] (by decide +kernel)).1 (by decide +kernel)).1).2.1
    (by decide +kernel) (Or.inl (by decide +kernel))
  have := (((h.2 (portAt 2 []) (frame4 0x806 0 0) 0 0 0 5 0 [1, 2] (by decide +kernel)).1 (by decide +kernel)).1).2.1
    (by decide +kernel) (Or.inr (by decide +kernel))
  have := (((h.2 addressed { frame4 0x86DD (9 * 2 ^ 64) 58 with fcsOk := false } 7 0 0 5 0 [1, 2] (by decide +kernel)).1
    (by decide +kernel)).1).2.2 3 (by decide +kernel)
  have := (((h.2 addressed (frame4 0x86DD (9 * 2 ^ 64) 58) 0 0 9 5 0 [1, 2] (by decide +kernel)).1 (by decide +kernel)).2.1).1
    (by decide +kernel) (by decide +kernel) (show _ by decide +kernel)
  have := (((h.2 addressed (frame4 0x86DD (9 * 2 ^ 64) 58) 0 1 9 5 0 [1, 2] (by decide +kernel)).1 (by decide +kernel)).2.1).2
    (by decide +kernel) (Or.inl (by decide +kernel))
  have := (((h.2 addressed (frame4 0x86DD (9 * 2 ^ 64) 58) 0 0 8 5 0 [1, 2] (by decide +kernel)).1 (by decide +kernel)).2.1).2
    (by decide +kernel) (Or.inr (by decide +kernel))
  have := ((((h.2 (echoed 999) (frame4 0x86DD (9 * 2 ^ 64) 58) 0 0 0 5 0 [1, 2] (by decide +kernel)).1 (by decide +kernel)).2.2.1)
    (by decide +kernel) (fun _ => (by decide +kernel))).1 (by decide +kernel)
  have := ((((h.2 (echoed 1000) (frame4 0x86DD (9 * 2 ^ 64) 58) 0 0 0 5 0 [1, 2] (by decide +kernel)).1 (by decide +kernel)).2.2.1)
    (by decide +kernel) (fun _ => (by decide +kernel))).2 (by decide +kernel)
  have := ((((h.2 (echoed 999) (frame4 0x800 7 1) 0 0 0 5 0 [1, 2] (by decide +kernel)).1 (by decide +kernel)).2.2.1)
    (by decide +kernel) (fun e => absurd e (by decide +kernel))).1 (by decide +kernel)
  have := ((((h.2 (echoed 1000) (frame4 0x800 7 1) 0 0 0 5 0 [1, 2] (by decide +kernel)).1 (by decide +kernel)).2.2.1)
    (by decide +kernel) (fun e => absurd e (by decide +kernel))).2 (by decide +kernel)
  have := (((h.2 addressed { frame4 0x86DD (9 * 2 ^ 64) 58 with fcsOk := false } 0 0 0 5 0 [1, 2] (by decide +kernel)).1
    (by decide +kernel)).2.2.2).1 (by decide +kernel)
  have := (((h.2 addressed { frame4 0x86DD 0 58 with size := 63 } 0 0 0 5 0 [1, 2] (by decide +kernel)).1
    (by decide +kernel)).2.2.2).2.1 (by decide +kernel) (Or.inl (by decide +kernel))
  have := (((h.2 addressed { frame4 0x86DD 0 58 with size := 9001 } 0 0 0 5 0 [1, 2] (by decide +kernel)).1
    (by decide +kernel)).2.2.2).2.1 (by decide +kernel) (Or.inr (by decide +kernel))
  have := (((h.2 addressed (frame4 0x8808 0 0) 0 0 0 5 0 [1, 2] (by decide +kernel)).1 (by decide +kernel)).2.2.2).2.2.1
    (by decide +kernel) (by decide +kernel) (show _ by decide +kernel) (by decide +kernel)
  have := (((h.2 addressed (frame4 0x86DD 0 58) 0 0 0 5 0 [1, 2] (by decide +kernel)).1 (by decide +kernel)).2.2.2).2.2.2.1 13
    (by decide +kernel)
  have := (((h.2 addressed (frame4 0x86DD (9 * 2 ^ 64) 58) 0 0 0 5 0 [1, 2] (by decide +kernel)).1
    (by decide +kernel)).2.2.2).2.2.2.2.1 (by decide +kernel) (by decide +kernel)
  have := (((h.2 addressed (frame4 0x800 7 1) 0 0 0 5 0 [1, 2] (by decide +kernel)).1 (by decide +kernel)).2.2.2).2.2.2.2.1
    (by decide +kernel) (by decide +kernel)
  have := (((h.2 addressed (frame4 0x86DD (9 * 2 ^ 64) 58) 0 0 0 5 135 [1, 2] (by decide +kernel)).1
    (by decide +kernel)).2.2.2).2.2.2.2.2 (by decide +kernel) (by decide +kernel)
  have := (((h.2 addressed (frame4 0x800 7 1) 0 0 0 5 8 [1, 2] (by decide +kernel)).1 (by decide +kernel)).2.2.2).2.2.2.2.2
    (by decide +kernel) (by decide +kernel)
  have := (((h.2 addressed (frame4 0x86DD (9 * 2 ^ 64) 58) 0 0 0 5 128 [1, 2] (by decide +kernel)).1
    (by decide +kernel)).2.2.2).2.2.2.2.2 (by decide +kernel) (by decide +kernel)
  have := ((h.2 (portAt 1 []) (frame4 0x86DD (9 * 2 ^ 64) 58) 0 0 0 5 0 [1, 2] (by decide +kernel)).2 (by decide +kernel)).1
  have := ((h.2 (portAt 1 []) (frame4 0x86DD (9 * 2 ^ 64) 58) 0 0 0 5 0 [1, 2] (by decide +kernel)).2 (by decide +kernel)).2.1
  have := ((h.2 (portAt 1 []) (frame4 0x86DD (9 * 2 ^ 64) 58) 0 0 0 5 0 [1, 2] (by decide +kernel)).2 (by decide +kernel)).2.2.1
  have := ((h.2 (portAt 1 []) (frame4 0x86DD (9 * 2 ^ 64) 58) 0 0 0 5 0 [1, 2] (by decide +kernel)).2 (by decide +kernel)).2.2.2
  exact ⟨_, _, _, (((h.1 (portAt 0 []) .mgmt 4 3 1 ⟨0, 0, 0, []⟩).1 (by decide +kernel)).1 ⟨rfl, by decide +kernel⟩).1 rfl rfl⟩

theorem meets_Lifecycle (h : Obligations.Lifecycle) : Runs := by
  have := (h State.reset .mgmt 0 0 true).1 (by decide +kernel)
  have := (h priv .mgmt 5 0 true).2.1 (by decide +kernel)
  have := (h { priv with life := { priv.life with held := true, present := 1, latched := 1 } } .mgmt 0 0 true).2.2.1 rfl
  have := (h priv .mgmt 0 0 true).2.2.2.1 rfl
  have := ((((h { priv with life := { priv.life with present := 31 } } .mgmt 3 0 true).2.2.2.2.1 ⟨rfl, by decide +kernel⟩).1) rfl
    rfl rfl)
  have := ((((h { priv with life := { priv.life with latched := 31 } } .mgmt 31 0 true).2.2.2.2.1 ⟨rfl, by decide +kernel⟩).2.1) rfl
    rfl rfl (by decide +kernel))
  have := ((((h priv .firmware 0 0 true).2.2.2.2.1 ⟨rfl, by decide +kernel⟩).2.2.1) (by decide +kernel)).1
  have := ((((h priv .firmware 0 0 true).2.2.2.2.1 ⟨rfl, by decide +kernel⟩).2.2.1) (by decide +kernel)).2.1
  have := ((((h priv .firmware 0 0 true).2.2.2.2.1 ⟨rfl, by decide +kernel⟩).2.2.1) (by decide +kernel)).2.2.1
  have := ((((h priv .firmware 0 0 true).2.2.2.2.1 ⟨rfl, by decide +kernel⟩).2.2.1) (by decide +kernel)).2.2.2.1
  have := ((((h priv .firmware 0 0 true).2.2.2.2.1 ⟨rfl, by decide +kernel⟩).2.2.1) (by decide +kernel)).2.2.2.2
  have := ((((h (buffers provisionBytes (lifeIs .blank 1)) .mgmt 0 0 true).2.2.2.2.1 ⟨rfl, by decide +kernel⟩).2.2.2.1) rfl
    (by decide +kernel) (by decide +kernel))
  have := ((((h (lifeIs .returned 1) .mgmt 0 0 true).2.2.2.2.1 ⟨rfl, by decide +kernel⟩).2.2.2.2.1) (by decide +kernel))
  have := ((((h { priv with life := { priv.life with state := .provisioned, signedImage := true, level := 1 } } .mgmt 0 0
    true).2.2.2.2.1 ⟨rfl, by decide +kernel⟩).2.2.2.2.2.1) rfl rfl (by decide +kernel))
  have := ((((h (lifeIs .blank 1) .mgmt 0 0 true).2.2.2.2.1 ⟨rfl, by decide +kernel⟩).2.2.2.2.2.2.1) (by decide +kernel))
  have := ((((h (token 3 0 (lifeIs .provisioned 1)) .mgmt 0 0 true).2.2.2.2.1 ⟨rfl, by decide +kernel⟩).2.2.2.2.2.2.2.1) (Or.inl
    rfl) (by decide +kernel)).1 (by decide +kernel)
  have := ((((h (token 4 0 (lifeIs .provisioned 1)) .mgmt 0 0 true).2.2.2.2.1 ⟨rfl, by decide +kernel⟩).2.2.2.2.2.2.2.1) (Or.inl
    rfl) (by decide +kernel)).2.1 (by decide +kernel)
  have := ((((h (token 5 1 (lifeIs .provisioned 1)) .mgmt 0 0 true).2.2.2.2.1 ⟨rfl, by decide +kernel⟩).2.2.2.2.2.2.2.1) (Or.inl
    rfl) (by decide +kernel)).2.2 (by decide +kernel) (Or.inl (by decide +kernel))
  have := ((((h (token 5 2 (lifeIs .provisioned 1)) .mgmt 0 0 true).2.2.2.2.1 ⟨rfl, by decide +kernel⟩).2.2.2.2.2.2.2.1) (Or.inl
    rfl) (by decide +kernel)).2.2 (by decide +kernel) (Or.inr (by decide +kernel))
  have := ((((h (token 3 0 (lifeIs .deployed 1)) .mgmt 0 0 true).2.2.2.2.1 ⟨rfl, by decide +kernel⟩).2.2.2.2.2.2.2.1) (Or.inr rfl)
    (by decide +kernel)).1 (by decide +kernel)
  have := ((((h (token 4 0 (lifeIs .deployed 1)) .mgmt 0 0 true).2.2.2.2.1 ⟨rfl, by decide +kernel⟩).2.2.2.2.2.2.2.1) (Or.inr rfl)
    (by decide +kernel)).2.1 (by decide +kernel)
  have := ((((h (token 5 1 (lifeIs .deployed 1)) .mgmt 0 0 true).2.2.2.2.1 ⟨rfl, by decide +kernel⟩).2.2.2.2.2.2.2.1) (Or.inr rfl)
    (by decide +kernel)).2.2 (by decide +kernel) (Or.inl (by decide +kernel))
  have := ((((h (token 5 2 (lifeIs .deployed 1)) .mgmt 0 0 true).2.2.2.2.1 ⟨rfl, by decide +kernel⟩).2.2.2.2.2.2.2.1) (Or.inr rfl)
    (by decide +kernel)).2.2 (by decide +kernel) (Or.inr (by decide +kernel))
  have := ((((h (lifeIs .deployed 3) .mgmt 0 2 true).2.2.2.2.1 ⟨rfl, by decide +kernel⟩).2.2.2.2.2.2.2.2.1) (by decide +kernel)
    (by decide +kernel))
  have := ((((h (lifeIs .deployed 1) .mgmt 0 0 false).2.2.2.2.1 ⟨rfl, by decide +kernel⟩).2.2.2.2.2.2.2.2.1) (by decide +kernel)
    (by decide +kernel))
  have := ((((h (lifeIs .deployed 0) .mgmt 0 0 true).2.2.2.2.1 ⟨rfl, by decide +kernel⟩).2.2.2.2.2.2.2.2.2.1) ((debugCeiling
    .deployed .p0).getD 0) (by decide +kernel) rfl (by decide +kernel))
  have := ((((h priv .mgmt 0 4 true).2.2.2.2.1 ⟨rfl, by decide +kernel⟩).2.2.2.2.2.2.2.2.2.2) (by decide +kernel))
  have := (h (lifeIs .deployed 2) .mgmt 31 0 true).2.2.2.2.2.1 (by decide +kernel) (by decide +kernel)
  have := (h (lifeIs .deployed 2) .mgmt 0 0 true).2.2.2.2.2.2.1 (by decide +kernel)
  have := (h (lifeIs .deployed 1) .mgmt 32 0 true).2.2.2.2.2.2.2 (by decide +kernel) (by decide +kernel)
  exact ⟨_, _, _, (h priv .mgmt 4 0 true).1 (by decide +kernel)⟩

/-- A supervisor changed in a state with a vault; a rail in its window. -/
def supplied (f : Power → Power) : State := { dram with pow := f dram.pow }
def inWin (n : Nat) (f : Power → Power) : State := (supplied f).setRail n { (supplied f).rail n with st := .inWindow }

/-- A granule that is dirty and has no plate yet. -/
def undrained : State := { dram with vault := { dram.vault with dirty := [(7, ⟨5, 5, 0, 1, true, none⟩)], fixed := [7] } }

theorem meets_Rails (h : Obligations.Rails) : Runs := by
  have := ((h (supplied (fun w => { w with sq := .up, todo := [11], plan := .boot })) 11 4 720 [] true (by decide +kernel)).1 rfl).2
    rfl
  have := ((h (supplied (fun w => { w with sq := .up, todo := [11], plan := .wakeStandby })) 11 4 720 [] true (by decide +kernel)).1
    rfl).2 rfl
  have := ((h (supplied (fun w => { w with sq := .up, todo := [11], plan := .wakeDormant })) 11 4 720 [] true (by decide +kernel)).1
    rfl).2 rfl
  have := ((h (supplied (fun w => { w with sq := .up, todo := [3, 4] })) 3 4 800 [4] true (by decide +kernel)).2.1 rfl rfl).1 rfl
  have := ((h (supplied (fun w => { w with sq := .up, todo := [3, 4], retryUsed := true })) 3 4 800 [4] true
    (by decide +kernel)).2.1 rfl rfl).2 rfl
  have := ((h (supplied (fun w => { w with sq := .down, todo := [3, 2], plan := .off })) 3 4 5 [2] true (by decide +kernel)).2.2.1
    (by decide +kernel) rfl).1
  have := ((h (supplied (fun w => { w with sq := .down, todo := [3, 2], plan := .off })) 3 4 5 [2] true (by decide +kernel)).2.2.1
    (by decide +kernel) rfl).2
  have := ((h (supplied (fun w => { w with sq := .down, todo := [3], plan := .off })) 3 4 5 [] true (by decide +kernel)).2.2.1
    (by decide +kernel) rfl).1
  have := ((h (supplied (fun w => { w with sq := .down, todo := [3], plan := .off })) 3 4 5 [] true (by decide +kernel)).2.2.1
    (by decide +kernel) rfl).2
  have := ((h priv 3 4 5 [] true (by decide +kernel)).2.2.2.1 rfl).1
  have := ((h priv 3 4 5 [] true (by decide +kernel)).2.2.2.1 rfl).2.1
  have := ((h priv 3 4 5 [] true (by decide +kernel)).2.2.2.1 rfl).2.2.1
  have := ((h priv 3 4 5 [] true (by decide +kernel)).2.2.2.1 rfl).2.2.2
  have := ((h (inWin 3 id) 3 4 800 [] true (by decide +kernel)).2.2.2.2.1 (by decide +kernel) rfl).1 rfl rfl
  have := ((h (inWin 8 (fun w => { w with sq := .down, plan := .off })) 8 4 5 [] true (by decide +kernel)).2.2.2.2.1
    (by decide +kernel) rfl).2 rfl
  have := (h (inWin 3 id) 3 4 800 [] true (by decide +kernel)).2.2.2.2.2.2.1 (by decide +kernel) (by decide +kernel)
    (show _ by decide +kernel) rfl
  have := (h (inWin 0 (fun w => { w with sq := .idle, plan := .none, state := .p1 })) 3 4 800 [] true
    (by decide +kernel)).2.2.2.2.2.2.2.1 (by decide +kernel) (by decide +kernel)
  have := ((h (inWin 3 id) 3 4 800 [] false (by decide +kernel)).2.2.2.2.1 (by decide +kernel) rfl).1 rfl rfl
  have := ((h (inWin 8 (fun w => { w with sq := .down, plan := .off })) 8 4 5 [] false (by decide +kernel)).2.2.2.2.1
    (by decide +kernel) rfl).2 rfl
  have := (h (inWin 3 id) 3 4 800 [] false (by decide +kernel)).2.2.2.2.2.2.1 (by decide +kernel) (by decide +kernel)
    (show _ by decide +kernel) rfl
  have := (h (inWin 0 (fun w => { w with sq := .idle, plan := .none, state := .p1 })) 3 4 800 [] false
    (by decide +kernel)).2.2.2.2.2.2.2.1 (by decide +kernel) (by decide +kernel)
  have := (h priv 3 4 800 [] true (by decide +kernel)).2.2.2.2.2.1 (by decide +kernel)
  have := (h (inWin 3 id) 3 4 800 [] true (by decide +kernel)).2.2.2.2.2.2.2.2.1 1 2 3 (by decide +kernel)
  have := (h priv 3 4 800 [] true (by decide +kernel)).2.2.2.2.2.2.2.2.2 
  exact ⟨_, _, _, ((h (supplied (fun w => { w with sq := .up, todo := [3, 4] })) 3 4 800 [] true (by decide +kernel)).1 rfl).1 rfl⟩

theorem meets_PowerInputs (h : Obligations.PowerInputs) : Runs := by
  have := ((h (supplied (fun w => { w with state := .p1, sq := .idle })) 9).1 1 .pwrReqFall (by decide +kernel) rfl rfl).1 (Or.inr
    rfl)
  have := ((h (supplied (fun w => { w with state := .p3, sq := .idle })) 9).1 1 .pwrReqFall (by decide +kernel) rfl rfl).2.1 rfl rfl
  have := ((h (supplied (fun w => { w with state := .p4, sq := .idle })) 9).1 1 .pwrReqFall (by decide +kernel) rfl rfl).2.2 rfl
  have := ((h (supplied (fun w => { w with state := .p0, sq := .idle })) 9).1 2 .pfWarnFall (by decide +kernel) rfl rfl).1 (Or.inl
    rfl)
  have := ((h (supplied (fun w => { w with state := .p1, sq := .idle })) 9).1 2 .pfWarnFall (by decide +kernel) rfl rfl).1 (Or.inr
    rfl)
  have := ((h (supplied (fun w => { w with state := .p4, sq := .idle })) 9).1 2 .pfWarnFall (by decide +kernel) rfl rfl).2.2 rfl
  have := (h (supplied (fun w => { w with pwrReq := false, lowSince := none })) 9).2.1 rfl rfl rfl rfl
  have := (h (supplied (fun w => { w with warn := true, pwrReq := false, lowSince := none })) 9).2.2.1 rfl rfl rfl
  have := (h (supplied (fun w => { w with warn := true })) 9).2.2.2.1 rfl
  have := (h (supplied (fun w => { w with warn := true, rcd := some ⟨2, 15, 0, 0, false, 0, 0, [], [], 0, 0, 0⟩ })) 9).2.2.2.1 rfl
  have := (h priv 9).2.2.2.2.1 rfl
  have := (h (supplied (fun w => { w with state := .p4, sq := .idle, pwrReq := true, pfWarnN := true, upAllowed := true }))
    9).2.2.2.2.2.1 rfl rfl rfl rfl rfl
  have := (h (supplied (fun w => { w with pwrReq := false })) 9).2.2.2.2.2.2.1 rfl
  have := (h (supplied (fun w => { w with offUntil := some 9 })) 9).2.2.2.2.2.2.2.1 rfl
  have := (h (supplied (fun w => { w with graceEnd := some 9, warn := true, sq := .idle })) 9).2.2.2.2.2.2.2.2.1 rfl rfl rfl
  have := (h priv 9).2.2.2.2.2.2.2.2.2.1 rfl
  have := (h { (supplied (fun w => { w with sq := .idle, warn := true })) with vault := { dram.vault with draining := true } }
    9).2.2.2.2.2.2.2.2.2.2.1 rfl (by decide +kernel) rfl rfl
  have := (h { (supplied (fun w => { w with sq := .idle })) with vault := { dram.vault with draining := true, dormant := true } }
    9).2.2.2.2.2.2.2.2.2.2.2.1 rfl (by decide +kernel) rfl rfl rfl
  have := (h undrained 9).2.2.2.2.2.2.2.2.2.2.2.2 (by decide +kernel)
  exact ⟨_, _, _, ((h (supplied (fun w => { w with state := .p0, sq := .idle })) 9).1 1 .pwrReqFall (by decide +kernel) rfl rfl).1 (Or.inl
    rfl)⟩

theorem meets_PowerCommands (h : Obligations.PowerCommands) : Runs := by
  have := (((h priv .chain 800).1 ⟨rfl, by decide +kernel⟩).1 rfl).2.1
  have := (((h priv .chain 800).1 ⟨rfl, by decide +kernel⟩).1 rfl).2.2
  have := (((h (supplied (fun w => { w with sq := .idle, plan := .none, cmd := none })) .mgmt 800).1 ⟨rfl, by decide +kernel⟩).2
    rfl).1 (by decide +kernel) rfl
  have := (((h (supplied (fun w => { w with sq := .idle, plan := .none, cmd := none, state := .p1 })) .mgmt 800).1
    ⟨rfl, by decide +kernel⟩).2 rfl).2.1 (Or.inr (by decide +kernel))
  have := (((h (supplied (fun w => { w with cmd := some 3 })) .mgmt 800).1 ⟨rfl, by decide +kernel⟩).2 rfl).2.1 (Or.inl
    (by decide +kernel))
  have := (((h (supplied (fun w => { w with sq := .idle, plan := .none, state := .p0, cmd := none })) .mgmt 800).1
    ⟨rfl, by decide +kernel⟩).2 rfl).2.2.1 (by decide +kernel) (Or.inl rfl)
  have := (((h (supplied (fun w => { w with sq := .idle, plan := .none, state := .p1, cmd := none })) .mgmt 800).1
    ⟨rfl, by decide +kernel⟩).2 rfl).2.2.1 (by decide +kernel) (Or.inr rfl)
  have := (((h (supplied (fun w => { w with sq := .idle, plan := .none, state := .p3, cmd := none })) .mgmt 800).1
    ⟨rfl, by decide +kernel⟩).2 rfl).2.2.2.1 (Or.inr (by decide +kernel))
  have := ((((h (supplied (fun w => { w with sq := .idle, plan := .none, state := .p1, cmd := none })) .mgmt 800).1
    ⟨rfl, by decide +kernel⟩).2 rfl).2.2.2.2.1 (by decide +kernel) rfl).1 rfl
  have := ((((h (supplied (fun w => { w with sq := .idle, plan := .none, state := .p3, cmd := none })) .mgmt 800).1
    ⟨rfl, by decide +kernel⟩).2 rfl).2.2.2.2.1 (by decide +kernel) rfl).2.1 rfl
  have := ((((h (supplied (fun w => { w with sq := .idle, plan := .none, state := .p0, cmd := none })) .mgmt 800).1
    ⟨rfl, by decide +kernel⟩).2 rfl).2.2.2.2.1 (by decide +kernel) rfl).2.2 rfl
  have := ((((h
    { (((supplied (fun w => { w with cmd := none }))).setFld F.PS_RAIL_SEL_INDEX 0 3) with life := { priv.life with rails := [⟨0, 0, 0, 0⟩, ⟨0, 0, 0, 0⟩, ⟨0, 0, 0, 0⟩, ⟨650, 850, 600, 900⟩] } }
    .mgmt 650).1 ⟨rfl, by decide +kernel⟩).2 rfl).2.2.2.2.2 ⟨650, 850, 600, 900⟩ (by decide +kernel) rfl).1
    (by decide +kernel) (by decide +kernel)
  have := ((((h
    { (((supplied (fun w => { w with cmd := none }))).setFld F.PS_RAIL_SEL_INDEX 0 3) with life := { priv.life with rails := [⟨0, 0, 0, 0⟩, ⟨0, 0, 0, 0⟩, ⟨0, 0, 0, 0⟩, ⟨650, 850, 600, 900⟩] } }
    .mgmt 850).1 ⟨rfl, by decide +kernel⟩).2 rfl).2.2.2.2.2 ⟨650, 850, 600, 900⟩ (by decide +kernel) rfl).1
    (by decide +kernel) (by decide +kernel)
  have := ((((h
    { (((supplied (fun w => { w with cmd := none }))).setFld F.PS_RAIL_SEL_INDEX 0 3) with life := { priv.life with rails := [⟨0, 0, 0, 0⟩, ⟨0, 0, 0, 0⟩, ⟨0, 0, 0, 0⟩, ⟨650, 850, 600, 900⟩] } }
    .mgmt 851).1 ⟨rfl, by decide +kernel⟩).2 rfl).2.2.2.2.2 ⟨650, 850, 600, 900⟩ (by decide +kernel) rfl).2
    (by decide +kernel)
  have := (h
    { (fields dram [(F.MC_STAT_STATE, 0, 2)]) with chan := { priv.chan with held := true }, core := { priv.core with inReset := true } }
    .mgmt 800).2.1 rfl (by decide +kernel) (by decide +kernel) rfl
  have := (h
    { (fields (supplied (fun w => { w with plan := .standby, sq := .idle })) [(F.MC_STAT_STATE, 0, 2)]) with chan := { priv.chan with held := true }, core := { priv.core with inReset := false } }
    .mgmt 800).2.2.1 rfl (by decide +kernel) (by decide +kernel) rfl rfl rfl
  have := (h priv .mgmt 800).2.2.2.1 rfl
  have := (h priv .mgmt 800).2.2.2.2.1
  have := (h priv .mgmt 800).2.2.2.2.2
  exact ⟨_, _, _, (((h priv .chain 800).1 ⟨rfl, by decide +kernel⟩).1 rfl).1⟩

/-- Facts of a boot with firmware slots that pass or not, one DIMM of 64 GiB on every channel and no drive. -/
def facts (fw : List Bool) : BootFacts := ⟨none, fw, true, 5, 1, List.replicate 16 [⟨true, 1, true, 64, 1, 4800, 10, 3, 2⟩], [], []⟩
def bootAt (n : Nat) : State := { priv with core := { priv.core with inReset := false } }.setFld F.BT_STAT_STATE 0 n
def training (b : Nat) : State := fields dram ([(F.BT_STAT_STATE, 0, b), (F.BT_STAT_START, 0, 0)] ++
  (List.range 16).map (fun c => (F.MC_STAT_STATE, c, if c = 3 then 1 else 2)))
def resetting (hold : Bool) : State := { priv with core := { priv.core with inReset := true, holdDone := hold } }
def pstate (st : PState) (wdt : Option Nat) : State :=
  { priv with pow := { priv.pow with state := st }, core := { priv.core with wdtEnd := wdt } }

def tested (fw : List Bool) : State := State.bootTests (State.findTorn { bootAt 0 with pow := { (bootAt 0).pow with
  sq := if (bootAt 0).pow.sq = PSeq.checkpoint then .idle else (bootAt 0).pow.sq } }) (facts fw)

/-- A block with everything that service needs, its superblocks none; one whose epoch check fails. -/
def willServe : State := fields { dram with
    pow := { dram.pow with holdupOk := true, warn := false }, core := { dram.core with inReset := false },
    fab := { dram.fab with dark := false } }
  [(F.BT_STAT_STATE, 0, 6), (F.MER_CFG_START_UNSURE, 0, 1), (F.VLT_STAT_STATE, 0, 3), (F.PORT_CFG_MODE, 0, 1),
    (F.PORT_STAT_STATE, 0, 2), (F.PORT_CFG_MODE, 32, 1), (F.PORT_STAT_STATE, 32, 2)]
def willHold : State := { willServe.setFld F.BT_STAT_START 0 2 with pipe := { willServe.pipe with highStamp := some 1000 } }

/-- A unit of a class whose expert registers a path has open since local time 0. -/
def expertOpen (cls n : Nat) : State := { ((priv.setFldOf cls F.BLK_XACC_OPEN n 1).setFldOf cls F.BLK_XACC_HOLDER n 1).setFld
  F.BT_STAT_STATE 0 7 with xlast := [(unitKey cls n, 0)] }
def blkTr : Blk := ⟨0x20, 0x00200000, 0x100000, 1, 0x80000, true, true⟩
def blkVlt : Blk := ⟨0x60, 0x00800000, 0x100000, 1, 0x80000, true, false⟩
def classOff (fused : Bool) (cls : Nat) : State :=
  { priv with core := { priv.core with fusedOff := if fused then [cls] else [], cfgOff := if fused then [] else [cls] } }

/-- A block out of reset that has an active key in slot 0, with stored responses; a sealed datagram. -/
def managed (r : List MgmtResp) : State := { ((bootAt 7).setSlot 0 { emptySlot with active := some ⟨1, 0, 1000⟩ }) with replay := r }
def dgram (count addr : Nat) (data : List W64) : Mgmt := ⟨9, count, addr, data, true, true⟩

theorem meets_ResetBootAndService (h : Obligations.ResetBootAndService) : Runs := by
  have := (h.1 (pstate .p1 (some 9)) .mgmt 0 3 (facts [true, true])).2.1 (Or.inl rfl)
  have := (h.1 (pstate .p3 none) .mgmt 0 3 (facts [true, true])).2.1 (Or.inr rfl)
  have := (h.1 (pstate .p2 none) .mgmt 0 3 (facts [true, true])).2.2.1 (Or.inl rfl)
  have := (h.1 (pstate .p4 none) .mgmt 0 3 (facts [true, true])).2.2.1 (Or.inr rfl)
  have := (h.1 (pstate .p1 (some 9)) .mgmt 0 3 (facts [true, true])).2.2.2.1 9 rfl (Or.inr rfl)
  have := (h.1 (pstate .p0 (some 9)) .mgmt 0 3 (facts [true, true])).2.2.2.1 9 rfl (Or.inl rfl)
  have := (h.1 (pstate .p0 none) .mgmt 0 3 (facts [true, true])).2.2.2.2.1 rfl
  have := (h.1 priv .mgmt 0x5253544E 3 (facts [true, true])).2.2.2.2.2.1 ⟨rfl, by decide +kernel⟩ (Or.inl (by decide +kernel))
    (by decide +kernel)
  have := (h.1 priv .mgmt 0 3 (facts [true, true])).2.2.2.2.2.2.1 ⟨rfl, by decide +kernel⟩ (by decide +kernel)
  have := (h.1 priv .firmware 0 3 (facts [true, true])).2.2.2.2.2.2.2.1 ⟨rfl, by decide +kernel⟩ (by decide +kernel)
  have := (h.1 (pstate .p0 (some 9)) .mgmt 0x4B49434B 3 (facts [true, true])).2.2.2.2.2.2.2.2.1 ⟨rfl, by decide +kernel⟩
    (by decide +kernel) rfl
  have := (h.1 priv .mgmt 0 3 (facts [true, true])).2.2.2.2.2.2.2.2.2.1 ⟨rfl, by decide +kernel⟩ (by decide +kernel)
  have := (h.1 priv .mgmt 0 3 (facts [true, true])).2.2.2.2.2.2.2.2.2.2.1 ⟨rfl, by decide +kernel⟩ (by decide +kernel)
  have := (h.1 (resetting true) .mgmt 0 3 (facts [true, true])).2.2.2.2.2.2.2.2.2.2.2.1 rfl rfl rfl (Or.inl (by decide +kernel))
  have := (h.1 (resetting false) .mgmt 0 3 (facts [true, true])).2.2.2.2.2.2.2.2.2.2.2.2.1 rfl
  have := ((h.1 (bootAt 0) .mgmt 0 3 (facts [false, false])).2.2.2.2.2.2.2.2.2.2.2.2.2.1 (by decide +kernel) rfl rfl
    (by decide +kernel)).1 ((tested [false, false]).pickFirmware [false, false]).2 (by decide +kernel)
  have := ((h.1 (bootAt 0) .mgmt 0 3 (facts [true, true])).2.2.2.2.2.2.2.2.2.2.2.2.2.1 (by decide +kernel) rfl rfl
    (by decide +kernel)).2 ((tested [true, true]).pickFirmware [true, true]).2 0 (by decide +kernel)
  have := ((h.1 (bootAt 0) .mgmt 0 3 (facts [true, false])).2.2.2.2.2.2.2.2.2.2.2.2.2.1 (by decide +kernel) rfl rfl
    (by decide +kernel)).2 ((tested [true, false]).pickFirmware [true, false]).2 0 (by decide +kernel)
  have := ((h.1 (bootAt 0) .mgmt 0 3 (facts [false, true])).2.2.2.2.2.2.2.2.2.2.2.2.2.1 (by decide +kernel) rfl rfl
    (by decide +kernel)).2 ((tested [false, true]).pickFirmware [false, true]).2 1 (by decide +kernel)
  have := (h.1 (bootAt 2) .mgmt 0 3 (facts [true, true])).2.2.2.2.2.2.2.2.2.2.2.2.2.2.1 (by decide +kernel)
  have := (h.1 (bootAt 3) .mgmt 0 3 (facts [true, true])).2.2.2.2.2.2.2.2.2.2.2.2.2.2.2.1 (by decide +kernel) rfl rfl (Or.inl
    (by decide +kernel))
  have := (h.1 (bootAt 8) .mgmt 0 3 (facts [true, true])).2.2.2.2.2.2.2.2.2.2.2.2.2.2.2.1 (by decide +kernel) rfl rfl (Or.inr
    (by decide +kernel))
  have := (h.1 (bootAt 2) .mgmt 0 3 (facts [true, true])).2.2.2.2.2.2.2.2.2.2.2.2.2.2.2.2.1 (by decide +kernel)
    (show _ by decide +kernel)
  have := ((h.1 (training 5) .mgmt 0 3 (facts [true, true])).2.2.2.2.2.2.2.2.2.2.2.2.2.2.2.2.2.1 (by decide +kernel)
    (by decide +kernel)).1 (by decide +kernel)
  have := ((h.1 (training 4) .mgmt 0 3 (facts [true, true])).2.2.2.2.2.2.2.2.2.2.2.2.2.2.2.2.2.1 (by decide +kernel)
    (show _ by decide +kernel)).2.1 (by decide +kernel) (by decide +kernel) (show _ by decide +kernel) (by decide +kernel)
  have := ((h.1 (training 4) .mgmt 0 3 (facts [true, true])).2.2.2.2.2.2.2.2.2.2.2.2.2.2.2.2.2.1 (by decide +kernel)
    (by decide +kernel)).2.2
  have := (h.1 (training 4) .mgmt 0 4 (facts [true, true])).2.2.2.2.2.2.2.2.2.2.2.2.2.2.2.2.2.2 (by decide +kernel)
    (by decide +kernel)
  have := (h.2 willServe).1 (by decide +kernel) (by decide +kernel)
  have := (h.2 willHold).2.1 (by decide +kernel) (by decide +kernel)
  have := (h.2 priv).2.2.1 (by decide +kernel)
  have := (h.2 { priv with life := { priv.life with state := .scrapped } }).2.2.2 rfl
  exact ⟨_, _, _, (h.1 priv .mgmt 0 3 (facts [true, true])).1 (by decide +kernel)⟩

theorem meets_RegisterWrites (h : Obligations.RegisterWrites) : Runs := by
  have := ((h priv .firmware 0x200024 0x20 0 7#64 blkTr 0 0x20).1 rfl).1 (by decide +kernel)
  have := ((h priv (.fabric 0) 0x200024 0x20 0 7#64 blkTr 0 0x20).1 rfl).1 (by decide +kernel)
  have := ((h priv .chain 0x200024 0x20 0 7#64 blkTr 0 0x20).1 rfl).1 (by decide +kernel)
  have := ((h priv .mgmt 0xFF000000 0x20 0 7#64 blkTr 0 0x20).1 rfl).2.1 (by decide +kernel) (by decide +kernel)
  have := (((h priv .chain 0x800020 0x20 0 7#64 blkVlt 0 0x20).1 rfl).2.2 (by decide +kernel) (by decide +kernel)).1 (Or.inl
    (by decide +kernel))
  have := (((h (classOff true 0x20) .mgmt 0x200020 0x20 0 7#64 blkTr 0 0x20).1 rfl).2.2 (by decide +kernel) (by decide +kernel)).1
    (Or.inr (by decide +kernel))
  have := (((h priv .mgmt 0x280020 0x20 0 7#64 blkTr 0 0x80020).1 rfl).2.2 (by decide +kernel) (by decide +kernel)).2.1
    (by decide +kernel) (show _ by decide +kernel) (by decide +kernel)
  have := (((h priv .chain 0x280020 0x20 0 7#64 blkTr 0 0x80020).1 rfl).2.2 (by decide +kernel) (by decide +kernel)).2.1
    (by decide +kernel) (show _ by decide +kernel) (by decide +kernel)
  have := (((h (classOff false 0x20) .mgmt 0x200020 0x20 0 7#64 blkTr 0 0x20).1 rfl).2.2 (by decide +kernel)
    (by decide +kernel)).2.2.1 (Or.inr (by decide +kernel)) (by decide +kernel)
  have := ((((h priv .mgmt 0x200020 0x20 0 7#64 blkTr 0 0x20).1 rfl).2.2 (by decide +kernel) (by decide +kernel)).2.2.2.1
    (by decide +kernel) rfl rfl (by decide +kernel) (show _ by decide +kernel) (by decide +kernel)).1 (Or.inr
    (by decide +kernel)) (by decide +kernel)
  have := ((((h priv (.fabric 0) 0x200020 0x20 0 7#64 blkTr 0 0x20).1 rfl).2.2 (by decide +kernel) (by decide +kernel)).2.2.2.1
    (by decide +kernel) rfl rfl (by decide +kernel) (show _ by decide +kernel) (by decide +kernel)).1 (Or.inr
    (by decide +kernel)) (by decide +kernel)
  have := ((((h (expertOpen 0x20 0) .mgmt 0x280020 0x20 0 7#64 blkTr 0 0x80020).1 rfl).2.2 (by decide +kernel)
    (by decide +kernel)).2.2.2.1 (by decide +kernel) rfl rfl (by decide +kernel) (show _ by decide +kernel)
    (by decide +kernel)).2 (by decide +kernel) (show _ by decide +kernel) (by decide +kernel) (by decide +kernel)
  have := (((h priv .mgmt 0 0x20 0 7#64 ⟨0x01, 0x00000000, 0x1000, 1, 0, true, true⟩ 0 0).1 rfl).2.2 (by decide +kernel)
    (by decide +kernel)).2.2.2.2 (by decide +kernel) rfl rfl (by decide +kernel) rfl
  have := ((h priv (.fabric 0) 0x200020 0x20 0 7#64 blkTr 0 0x20).2.1 ⟨rfl, by decide +kernel⟩ (by decide +kernel) rfl
    (by decide +kernel)).1 rfl
  have := ((h priv .mgmt 0x200020 0x20 0 0x4B58504101#64 blkTr 0 0x20).2.1 ⟨rfl, by decide +kernel⟩ (by decide +kernel) rfl
    (by decide +kernel)).2.1 rfl (by decide +kernel) rfl rfl (by decide +kernel)
  have := ((h priv .firmware 0x200020 0x20 0 0x4B58504101#64 blkTr 0 0x20).2.1 ⟨rfl, by decide +kernel⟩ (by decide +kernel) rfl
    (by decide +kernel)).2.1 rfl (by decide +kernel) rfl rfl (by decide +kernel)
  have := ((h priv .mgmt 0x200020 0x20 0 0x4B58504201#64 blkTr 0 0x20).2.1 ⟨rfl, by decide +kernel⟩ (by decide +kernel) rfl
    (by decide +kernel)).2.2.1 rfl rfl (Or.inl (by decide +kernel))
  have := ((h (priv.setFldOf 0x20 F.BLK_XACC_LOCK 0 1) .mgmt 0x200020 0x20 0 0x4B58504101#64 blkTr 0 0x20).2.1
    ⟨rfl, by decide +kernel⟩ (by decide +kernel) rfl (by decide +kernel)).2.2.1 rfl rfl (Or.inr (by decide +kernel))
  have := ((h (expertOpen 0x20 0) .mgmt 0x200020 0x20 0 0#64 blkTr 0 0x20).2.1 ⟨rfl, by decide +kernel⟩ (by decide +kernel) rfl
    (by decide +kernel)).2.2.2 rfl rfl rfl
  have := (h (expertOpen 0x20 0) .mgmt 0x200020 0x20 0 7#64 blkTr 0 0x20).2.2.1 0 (by decide +kernel) (by decide +kernel) rfl
  have := (h priv .mgmt 0x200020 0x20 0 7#64 blkTr 0 0x20).2.2.2 (by decide +kernel) (by decide +kernel) rfl
  exact ⟨_, _, _, ((h priv .mgmt 0x200024 0x20 0 7#64 blkTr 0 0x20).1 rfl).1 (by decide +kernel)⟩

theorem meets_ManagementDatagrams (h : Obligations.ManagementDatagrams) : Runs := by
  have := ((((h (managed []) (dgram 2 0x200020 [7#64, 8#64]) 0).2 rfl).1 ⟨(by decide +kernel), (by decide +kernel)⟩ (Or.inl ⟨rfl,
    rfl, (by decide +kernel)⟩) rfl (by decide +kernel) rfl (by decide +kernel)).1 ((managed []).ctlRead .mgmt 0x200020).2.1
    ((managed []).ctlRead .mgmt 0x200020).2.2 (by decide +kernel) ⟨(by decide +kernel), (by decide +kernel)⟩).2
    (by decide +kernel)
  have := (((h (managed []) (dgram 1 0xFF000000 [7#64]) 0).2 rfl).1 ⟨(by decide +kernel), (by decide +kernel)⟩ (Or.inl ⟨rfl, rfl,
    (by decide +kernel)⟩) rfl (by decide +kernel) rfl (by decide +kernel)).2.1 0 .privilege ((managed []).ctlRead .mgmt
    0xFF000000).2.2 (by decide +kernel) (fun e => nomatch e) ⟨(by decide +kernel), (by decide +kernel)⟩
  have := ((((h (managed []) (dgram 1 0x200020 [7#64]) 0).2 rfl).1 ⟨(by decide +kernel), (by decide +kernel)⟩ (Or.inl ⟨rfl, rfl,
    (by decide +kernel)⟩) rfl (by decide +kernel) rfl (by decide +kernel)).2.2.1 7#64 [] ((managed []).ctlWrite .mgmt 0x200020
    7).2 rfl rfl (by decide +kernel) ⟨(by decide +kernel), (by decide +kernel)⟩).1 rfl
  have := ((((h (managed []) (dgram 2 0x200020 [7#64, 8#64]) 0).2 rfl).1 ⟨(by decide +kernel), (by decide +kernel)⟩ (Or.inl ⟨rfl,
    rfl, (by decide +kernel)⟩) rfl (by decide +kernel) rfl (by decide +kernel)).2.2.1 7#64 [8#64] ((managed []).ctlWrite .mgmt
    0x200020 7).2 rfl rfl (by decide +kernel) ⟨(by decide +kernel), (by decide +kernel)⟩).2 (by decide +kernel)
  have := (((h (managed []) (dgram 1 0xFF000000 [7#64]) 0).2 rfl).1 ⟨(by decide +kernel), (by decide +kernel)⟩ (Or.inl ⟨rfl, rfl,
    (by decide +kernel)⟩) rfl (by decide +kernel) rfl (by decide +kernel)).2.2.2 7#64 [] .privilege ((managed []).ctlWrite
    .mgmt 0xFF000000 7).2 rfl rfl (by decide +kernel) (fun e => nomatch e) ⟨(by decide +kernel), (by decide +kernel)⟩
  have := (((h (managed []) (dgram 0 0x200020 []) 0).2 rfl).2.1 ⟨(by decide +kernel), (by decide +kernel)⟩ (Or.inl ⟨rfl, rfl,
    (by decide +kernel)⟩) rfl (Or.inl rfl)).1
  have := (((h (managed []) (dgram 0 0x200020 []) 0).2 rfl).2.1 ⟨(by decide +kernel), (by decide +kernel)⟩ (Or.inl ⟨rfl, rfl,
    (by decide +kernel)⟩) rfl (Or.inl rfl)).2.1
  have := (((h (managed []) (dgram 0 0x200020 []) 0).2 rfl).2.1 ⟨(by decide +kernel), (by decide +kernel)⟩ (Or.inl ⟨rfl, rfl,
    (by decide +kernel)⟩) rfl (Or.inl rfl)).2.2
  have := (((h (managed []) (dgram 65 0x200020 []) 0).2 rfl).2.1 ⟨(by decide +kernel), (by decide +kernel)⟩ (Or.inl ⟨rfl, rfl,
    (by decide +kernel)⟩) rfl (Or.inr (Or.inl (by decide +kernel)))).1
  have := (((h (managed []) (dgram 65 0x200020 []) 0).2 rfl).2.1 ⟨(by decide +kernel), (by decide +kernel)⟩ (Or.inl ⟨rfl, rfl,
    (by decide +kernel)⟩) rfl (Or.inr (Or.inl (by decide +kernel)))).2.1
  have := (((h (managed []) (dgram 65 0x200020 []) 0).2 rfl).2.1 ⟨(by decide +kernel), (by decide +kernel)⟩ (Or.inl ⟨rfl, rfl,
    (by decide +kernel)⟩) rfl (Or.inr (Or.inl (by decide +kernel)))).2.2
  have := (((h (managed []) (dgram 1 0x200021 []) 0).2 rfl).2.1 ⟨(by decide +kernel), (by decide +kernel)⟩ (Or.inl ⟨rfl, rfl,
    (by decide +kernel)⟩) rfl (Or.inr (Or.inr (by decide +kernel)))).1
  have := (((h (managed []) (dgram 1 0x200021 []) 0).2 rfl).2.1 ⟨(by decide +kernel), (by decide +kernel)⟩ (Or.inl ⟨rfl, rfl,
    (by decide +kernel)⟩) rfl (Or.inr (Or.inr (by decide +kernel)))).2.1
  have := (((h (managed []) (dgram 1 0x200021 []) 0).2 rfl).2.1 ⟨(by decide +kernel), (by decide +kernel)⟩ (Or.inl ⟨rfl, rfl,
    (by decide +kernel)⟩) rfl (Or.inr (Or.inr (by decide +kernel)))).2.2
  have := ((h (managed []) (dgram 2 0x200020 [7#64]) 0).2 rfl).2.2.1 ⟨(by decide +kernel), (by decide +kernel)⟩ (Or.inl ⟨rfl, rfl,
    (by decide +kernel)⟩) rfl (by decide +kernel)
  have := ((h (managed []) (dgram 1 0x200020 [7#64, 8#64]) 0).2 rfl).2.2.1 ⟨(by decide +kernel), (by decide +kernel)⟩ (Or.inl ⟨rfl,
    rfl, (by decide +kernel)⟩) rfl (by decide +kernel)
  have := ((h (managed []) (dgram 1 0x200020 [7#64]) 3).2 rfl).2.2.2.1 ⟨(by decide +kernel), (by decide +kernel)⟩ (Or.inl ⟨rfl, rfl,
    (by decide +kernel)⟩) rfl (by decide +kernel) (by decide +kernel)
  have := ((h (managed [⟨9, 0x200020, .ok, 1, [5]⟩]) (dgram 1 0x200020 [7#64]) 3).1 ⟨9, 0x200020, .ok, 1, [5]⟩ ⟨(by decide +kernel),
    (by decide +kernel)⟩ (Or.inl ⟨rfl, rfl, (by decide +kernel)⟩) rfl).1
  have := ((h (managed [⟨9, 0x200020, .ok, 1, [5]⟩]) (dgram 1 0x200020 [7#64]) 3).1 ⟨9, 0x200020, .ok, 1, [5]⟩ ⟨(by decide +kernel),
    (by decide +kernel)⟩ (Or.inl ⟨rfl, rfl, (by decide +kernel)⟩) rfl).2.1
  have := ((h (managed [⟨9, 0x200020, .ok, 1, [5]⟩]) (dgram 1 0x200020 [7#64]) 3).1 ⟨9, 0x200020, .ok, 1, [5]⟩ ⟨(by decide +kernel),
    (by decide +kernel)⟩ (Or.inl ⟨rfl, rfl, (by decide +kernel)⟩) rfl).2.2 (by decide +kernel) (by decide +kernel)
  have := (((h priv (dgram 1 0x200020 [7#64]) 0).2 rfl).2.2.2.2 (by decide +kernel)).1
  have := (((h priv (dgram 1 0x200020 [7#64]) 0).2 rfl).2.2.2.2 (by decide +kernel)).2
  exact ⟨_, _, _, ((((h (managed []) (dgram 1 0x200020 [7#64]) 0).2 rfl).1 ⟨(by decide +kernel), (by decide +kernel)⟩ (Or.inl ⟨rfl, rfl,
    (by decide +kernel)⟩) rfl (by decide +kernel) rfl (by decide +kernel)).1 ((managed []).ctlRead .mgmt 0x200020).2.1
    ((managed []).ctlRead .mgmt 0x200020).2.2 (by decide +kernel) ⟨(by decide +kernel), (by decide +kernel)⟩).1 rfl⟩

theorem meets_StepTakesFront (h : Obligations.StepTakesFront) : step (priv.before (.add 0 l312)) = exec (.add 0 l312) priv := by
  have := (h priv (.add 0 l312) []).2.1
  have := (h { priv with pending := [] } (.add 0 l312) []).2.2.1 rfl
  have := (h priv (.add 0 l312) []).2.2.2 rfl rfl rfl rfl rfl rfl rfl rfl (Or.inl rfl)
  exact (h (priv.before (.add 0 l312)) (.add 0 l312) []).1 (by decide +kernel)

theorem meets_LinkRoundTrip (h : Obligations.LinkRoundTrip) : decodeLink (encodeLink 0x17 ⟨1, 31, 5, -65536, [5#39, 0x7FFFFFFFFF#39]⟩ ++ [7#40]) =
    some (0x17, ⟨1, 31, 5, -65536, [5#39, 0x7FFFFFFFFF#39]⟩, [7#40]) := by
  have := h.2 (.beq 31 ⟨0, 10, 11, -8, []⟩) 31 0x20 ⟨0, 10, 11, -8, []⟩ (encodeLink 0x20 ⟨0, 10, 11, -8, []⟩) rfl rfl
  exact h.1 0x17 ⟨1, 31, 5, -65536, [5#39, 0x7FFFFFFFFF#39]⟩ [7#40]

theorem meets_PlainWrite (h : Obligations.PlainWrite) : SMap.get 0 (priv.writePlain 0x20 0 0x20 7).regs (fieldKey 0x20 0 0x28 1) = SMap.get 0 priv.regs (fieldKey 0x20 0 0x28 1) := by
  have := ((h priv blkTr 0 0 0 F.TR_CFG_EN (by decide +kernel) (by decide +kernel) (show _ by decide +kernel) (by decide +kernel)
    (by decide +kernel)).1 (Or.inl rfl) (by decide +kernel))
  have := ((h priv blkTr 0 0 0 F.TR_ACK_COALESCE (by decide +kernel) (by decide +kernel) (show _ by decide +kernel)
    (by decide +kernel) (by decide +kernel)).1 (Or.inl rfl) (by decide +kernel))
  have := ((h priv blkTr 0 0 0 F.TR_ACK_DELAY (by decide +kernel) (by decide +kernel) (show _ by decide +kernel) (by decide +kernel)
    (by decide +kernel)).1 (Or.inl rfl) (by decide +kernel))
  have := ((h priv blkTr 0 0 0 F.TR_CFG_UDP_PORT (by decide +kernel) (by decide +kernel) (show _ by decide +kernel)
    (by decide +kernel) (by decide +kernel)).1 (Or.inr rfl) (by decide +kernel))
  have := ((h priv blkTr 0 7 0 F.TR_CFG_EN (by decide +kernel) (by decide +kernel) (show _ by decide +kernel) (by decide +kernel)
    (by decide +kernel)).1 (Or.inl rfl) (by decide +kernel))
  have := ((h priv blkTr 0 7 0 F.TR_ACK_COALESCE (by decide +kernel) (by decide +kernel) (show _ by decide +kernel)
    (by decide +kernel) (by decide +kernel)).1 (Or.inl rfl) (by decide +kernel))
  have := ((h priv blkTr 0 7 0 F.TR_ACK_DELAY (by decide +kernel) (by decide +kernel) (show _ by decide +kernel) (by decide +kernel)
    (by decide +kernel)).1 (Or.inl rfl) (by decide +kernel))
  have := ((h priv blkTr 0 7 0 F.TR_CFG_UDP_PORT (by decide +kernel) (by decide +kernel) (show _ by decide +kernel)
    (by decide +kernel) (by decide +kernel)).1 (Or.inr rfl) (by decide +kernel))
  have := ((h priv blkTr 0 0x10000 0 F.TR_CFG_EN (by decide +kernel) (by decide +kernel) (show _ by decide +kernel)
    (by decide +kernel) (by decide +kernel)).1 (Or.inl rfl) (by decide +kernel))
  have := ((h priv blkTr 0 0x10000 0 F.TR_ACK_COALESCE (by decide +kernel) (by decide +kernel) (show _ by decide +kernel)
    (by decide +kernel) (by decide +kernel)).1 (Or.inl rfl) (by decide +kernel))
  have := ((h priv blkTr 0 0x10000 0 F.TR_ACK_DELAY (by decide +kernel) (by decide +kernel) (show _ by decide +kernel)
    (by decide +kernel) (by decide +kernel)).1 (Or.inl rfl) (by decide +kernel))
  have := ((h priv blkTr 0 0x10000 0 F.TR_CFG_UDP_PORT (by decide +kernel) (by decide +kernel) (show _ by decide +kernel)
    (by decide +kernel) (by decide +kernel)).1 (Or.inr rfl) (by decide +kernel))
  have := ((h priv blkTr 0 0xFFFFFFFFFFFFFFFF 0 F.TR_CFG_EN (by decide +kernel) (by decide +kernel) (show _ by decide +kernel)
    (by decide +kernel) (by decide +kernel)).1 (Or.inl rfl) (by decide +kernel))
  have := ((h priv blkTr 0 0xFFFFFFFFFFFFFFFF 0 F.TR_ACK_COALESCE (by decide +kernel) (by decide +kernel) (show _ by decide +kernel)
    (by decide +kernel) (by decide +kernel)).1 (Or.inl rfl) (by decide +kernel))
  have := ((h priv blkTr 0 0xFFFFFFFFFFFFFFFF 0 F.TR_ACK_DELAY (by decide +kernel) (by decide +kernel) (show _ by decide +kernel)
    (by decide +kernel) (by decide +kernel)).1 (Or.inl rfl) (by decide +kernel))
  have := ((h priv blkTr 0 0xFFFFFFFFFFFFFFFF 0 F.TR_CFG_UDP_PORT (by decide +kernel) (by decide +kernel) (show _ by decide +kernel)
    (by decide +kernel) (by decide +kernel)).1 (Or.inr rfl) (by decide +kernel))
  have := ((h priv blkTr 0 5 0 F.TR_PARK_PKTS (by decide +kernel) (by decide +kernel) (show _ by decide +kernel) (by decide +kernel)
    (by decide +kernel)).2.2.1 (Or.inl rfl))
  have := ((h priv blkTr 0 8 0 F.TR_QP_CMD_GO (by decide +kernel) (by decide +kernel) (show _ by decide +kernel) (by decide +kernel)
    (by decide +kernel)).2.2.1 (Or.inr (Or.inl rfl)))
  have := ((h { priv with core := { priv.core with imageLock := true } } blkTr 0 5 0 F.TR_CFG_UDP_PORT (by decide +kernel)
    (by decide +kernel) (show _ by decide +kernel) (by decide +kernel) (by decide +kernel)).2.2.1 (Or.inr (Or.inr
    (by decide +kernel))))
  have := (h priv blkTr 0 7 0 F.TR_QP_DATA (by decide +kernel) (by decide +kernel) (show _ by decide +kernel) (by decide +kernel)
    (by decide +kernel)).2.2.2 3 0x28 (by decide +kernel) (by decide +kernel) (show _ by decide +kernel)
  have := ((h priv blkTr 0 7 7 F.TR_QP_DATA (by decide +kernel) (by decide +kernel) (show _ by decide +kernel) (by decide +kernel)
    (by decide +kernel)).1 (Or.inl rfl) (by decide +kernel))
  exact (h priv blkTr 0 7 0 F.TR_CFG_EN (by decide +kernel) (by decide +kernel) (show _ by decide +kernel) (by decide +kernel)
    (by decide +kernel)).2.2.2 1 0x28 (by decide +kernel) (by decide +kernel) (show _ by decide +kernel)

theorem meets_LineStore (h : Obligations.LineStore) : Memory.wf (State.setPmLine priv 3 (List.replicate 64 9)).pipe.pm = true := by
  have := (h priv 3 (List.replicate 64 9) 192 (by decide +kernel) (by decide +kernel)).2.1 (by decide +kernel) (by decide +kernel)
  have := (h priv 3 (List.replicate 64 9) 255 (by decide +kernel) (by decide +kernel)).2.1 (by decide +kernel) (by decide +kernel)
  have := (h priv 3 (List.replicate 64 9) 191 (by decide +kernel) (by decide +kernel)).2.2.1 (Or.inl (by decide +kernel))
  have := (h priv 3 (List.replicate 64 9) 256 (by decide +kernel) (by decide +kernel)).2.2.1 (Or.inr (by decide +kernel))
  have := (h priv 3 (List.replicate 64 9) 191 (by decide +kernel) (by decide +kernel)).2.2.2.1
  have := (h priv 3 (List.replicate 64 9) 191 (by decide +kernel) (by decide +kernel)).2.2.2.2
  exact (h priv 3 (List.replicate 64 9) 200 (by decide +kernel) (by decide +kernel)).1

theorem meets_ColdReset (h : Obligations.ColdReset) : State.reset.canonical = true := by
  have := h.2.1
  have := h.2.2.1 0x20 F.TR_ACK_COALESCE 0 0
  have := h.2.2.1 0x60 F.VLT_STAT_STATE 0 0
  have := (h.2.2.2.1 0x11 63).1
  have := h.2.2.2.2.2.1
  exact h.1

/-! ## Results that the spec's examples give -/

/-- What a state reads after a command, none where the command does not answer a next state. -/
def after {α : Type} (c : Instr) (s : State) (f : State → α) : Option α :=
  match exec c s with
  | .next t => some (f t)
  | _ => none

/-- Example 3.1: `put w2, w4, w3, 4096` with ASYNC. -/
theorem test_put_words : encodeLink 0x40 ⟨2, 4, 3, 4096, [4#39]⟩ = [0xC011061000#40, 0x0000000004#40] := by decide

theorem test_put_decodes :
    decodeInstr 7 [0xC011061000#40, 0x0000000004#40] = some (.put 7 ⟨2, 4, 3, 4096, [4#39]⟩) := by decide +kernel

/-- Example 3.2: the words of `addi w11, w0, 0x61`, `shli w10, w6, 6` and `atom w9, w4, w10, 0`. -/
theorem test_ledger_words :
    decodeInstr 0 [0x1058000061#40] = some (.addi 0 ⟨11, 0, 0, 0x61, []⟩) ∧
    decodeInstr 0 [0x1451800006#40] = some (.shli 0 ⟨10, 6, 0, 6, []⟩) ∧
    decodeInstr 0 [0x4449140000#40] = some (.atom 0 ⟨9, 4, 10, 0, []⟩) := by decide +kernel

/-- Table 3.2, Table 3.5: words written out bit by bit: `add` w3 = w1 + w2, `beq` eight words back, `ldk` with a setting word, an
opcode that is not defined. -/
theorem test_link_bits :
    decodeInstr 4 [0b0#1 ++ 0b0000000#7 ++ 0b00011#5 ++ 0b00001#5 ++ 0b00010#5 ++ 0b00000000000000000#17] =
      some (.add 4 ⟨3, 1, 2, 0, []⟩) ∧
    decodeInstr 31 [0b0#1 ++ 0b0100000#7 ++ 0b00000#5 ++ 0b01010#5 ++ 0b01011#5 ++ 0b11111111111111000#17] =
      some (.beq 31 ⟨0, 10, 11, -8, []⟩) ∧
    decodeInstr 0 [0b1#1 ++ 0b0010111#7 ++ 0b00001#5 ++ 0#5 ++ 0#5 ++ 0#17, 0b0#1 ++ 0x123456789A#39] =
      some (.ldk 0 ⟨1, 0, 0, 0, [0x123456789A#39]⟩) ∧
    decodeInstr 0 [0b1#1 ++ 0b1111110#7 ++ 0#32] = none ∧
    decodeInstr 0 [0b0#1 ++ 0b1111111#7 ++ 0#32] = some (.undefinedOpcode 0 0x7F00000000#40) := by decide +kernel

/-- Table 3.5: sums wrap at 64 bits, a source may be the destination, and w0 stays zero. -/
theorem test_add_wraps :
    after (.add 0 ⟨1, 1, 2, 0, []⟩) (linkState 0x00 ⟨1, 1, 2, 0, []⟩ [(1, 2 ^ 64 - 1), (2, 3)])
      (fun t => (t.seq? 0).map (fun x => x.r 1)) = some (some 2) := by decide +kernel

theorem test_w0_stays :
    after (.add 0 ⟨0, 1, 2, 0, []⟩) (linkState 0x00 ⟨0, 1, 2, 0, []⟩ [(1, 5), (2, 3)])
      (fun t => (t.seq? 0).map (fun x => x.r 0)) = some (some 0) := by decide +kernel

/-- Example 6.1: a key is its index and generation. -/
theorem test_key : mkKey 0x5A3C 0x017 = 0x01705A3C ∧ keyIdx 0x01705A3C = 0x5A3C ∧ keyGen 0x01805A3C = 0x018 := by decide

/-- Examples 7.1 and 8.1: offset 0x123440 is served by slice 4 and lies on subchannel 1 of channel 8. -/
theorem test_line_place :
    sliceOf (0x123440 / 64) = 4 ∧ chanOf (0x123440 / 64) = 8 ∧ subOf (0x123440 / 64) = 1 := by decide

/-- Example 10.1: 48.0 GB/s, 420 J and 552 W cover 16 GiB. -/
theorem test_cover :
    ((priv.setFld F.VLT_HOLDUP_E_HOLD 0 420).setFld F.VLT_HOLDUP_P_DRAIN 0 552).coverFor 48000 = 16 := by decide +kernel

/-- Example 11.1: at K = 27, 86,400 s and one epoch period is the boundary that ends epoch 707,788,800. -/
theorem test_epoch :
    State.epoch { priv.setFld F.MER_CFG_K 0 27 with time := 0x15180 * 2 ^ 40 + 0x08000000 } = 707788801 := by decide +kernel

/-- Example 2.1: BLK_XACC of memory channel 5 opens its expert registers to the management host. -/
theorem test_expert_open :
    after (.regWrite .mgmt 0x00650008 0x4B58504101#64) priv
      (fun t => (t.fldOf 0x50 F.BLK_XACC_OPEN 5, t.fldOf 0x50 F.BLK_XACC_HOLDER 5, t.flag F.TR_CFG_EN)) =
      some (1, 1, false) := by decide +kernel

/-- Example 16.1: `evread` from a record that is gone: WINDOW_BOUNDS, and w5 takes EV_TAIL. -/
theorem test_evread_overwritten :
    after (.evread 0 ⟨9, 5, 6, 64, []⟩)
      ({ priv with ev := { priv.ev with head := 43100, tail := 41985 } }.setSeq 0
        (chainOf 0x79 ⟨9, 5, 6, 64, []⟩ [(5, 40000), (6, 128)]))
      (fun t => (t.seq? 0).map (fun x => (x.r 9, x.r 5))) = some (some (Status.windowBounds.code, 41985)) := by
  decide +kernel

/-- Example 17.1: the fault state of lane 17. -/
def laneFault (t : State) : Nat × Nat × Nat × Nat :=
  (t.fldOf 0x10 F.BLK_FSTAT_CLASS 17, t.fldOf 0x10 F.BLK_FSTAT_UNACK 17, t.fldOf 0x10 F.BLK_FSTAT_ESCALATED 17,
    t.fldOf 0x10 F.BLK_FSTAT_RECOVERIES 17)
def minorOnce : State := priv.raise 0x10 17 1 0x02
def minorTwice : State := minorOnce.raise 0x10 17 1 0x02

theorem test_escalation :
    after (.faultRaise ⟨0x10, 17, 1, 0x02, 0, 0⟩) priv laneFault = some (1, 0b00010, 0, 0) ∧
    after (.faultRaise ⟨0x10, 17, 1, 0x02, 0, 0⟩) minorOnce laneFault = some (2, 0b00110, 1, 0) ∧
    after (.faultAck .mgmt 0x10 17) minorTwice laneFault = some (2, 0, 1, 0) := by decide +kernel

theorem test_quiet_end :
    after (.quietPeriodEnd 0x10 17) minorTwice laneFault = some (7, 0, 0, 1) := by decide +kernel

/-! ## WellFormed refuses an operand outside its field -/

theorem test_ill_paths_and_units :
    Instr.wf (.dropAll (.fabric 2)) = false ∧ Instr.wf (.dropAll (.fabric 1)) = true ∧
    Instr.wf (.faultAck .mgmt 65536 0) = false ∧ Instr.wf (.quietPeriodEnd 0 65536) = false ∧
    Instr.wf (.add 32 l312) = false ∧ Instr.wf (.chainDispatch 4096 0) = false ∧ Instr.wf (.chainDispatch 0 32) = false ∧
    Instr.wf (.portUp 64) = false ∧ Instr.wf (.chordHoldLimit 16) = false ∧ Instr.wf (.engineWithdraw 64) = false := by
  decide

theorem test_ill_messages :
    Instr.wf (.mgmtRead ⟨65536, 1, 0, [], true, true⟩) = false ∧ Instr.wf (.mgmtRead ⟨0, 256, 0, [], true, true⟩) = false ∧
    Instr.wf (.nrtWrite { req 1 [] 0 with psn := 2 ^ 32 }) = false ∧
    Instr.wf (.nrtWrite { req 1 [] 0 with reqx := some ⟨0, 0, 0, 0, 4, 0, 0⟩ }) = false ∧
    Instr.wf (.nrtWrite (req 1 [] 0)) = true ∧ Instr.wf (.roceReadRequest (roce 12 (2 ^ 24) 0 0 [])) = false ∧
    Instr.wf (.ptpDelayReq 3) = false ∧ Instr.wf (.hello 9) = false ∧ Instr.wf (.healReq 0 [(10, 1)]) = false ∧
    Instr.wf (.sidebandCmd .mgmt 16 ⟨0, 0, false, 0, false⟩) = false := by
  decide

theorem test_ill_operands :
    Instr.wf (.qpQuery .mgmt 0 4) = false ∧ Instr.wf (.rtoExpiry (2 ^ 20)) = false ∧
    Instr.wf (.winRevoke .mgmt (2 ^ 32)) = false ∧ Instr.wf (.rmwReadDone (2 ^ 44) []) = false ∧
    Instr.wf (.markSet .mgmt 0 10) = false ∧ Instr.wf (.driveLost 8) = false ∧ Instr.wf (.ksErase .mgmt 65536) = false ∧
    Instr.wf (.kfVerify .mgmt 4 true) = false ∧ Instr.wf (.railFallTimeout 12) = false ∧
    Instr.wf (.faultRaise ⟨0x60, 0, 5, 0, 0, 0⟩) = false ∧
    Instr.wf (.boot { facts [] with drives := [(8, 0)] }) = false := by
  decide

end Sys2Proof.Tests
end

/-! O44: a raised fault (R22, R399 to R402). What writing an event can touch is said once (`State.records_event`). A raise is cut
into the stages of its definition (`State.raise_eq_stages`); the register clauses are then those of the stage that writes
BLK_FSTAT (`State.faultFields`), and the others are read off one equation for the whole raise (`State.raise_eq_faultMarks`). -/

namespace Sys2Proof.Machine

/-! ## The keepsake and the event recorder change nothing else -/

/-- From s to t only the event recorder and the keepsake change. -/
def State.Records (s t : State) : Prop := ∃ ev kf, t = { s with ev := ev, kf := kf }

theorem State.Records.refl (s : State) : s.Records s := ⟨s.ev, s.kf, rfl⟩

theorem State.Records.trans {s t u : State} : s.Records t → t.Records u → s.Records u := by
  rintro ⟨_, _, rfl⟩ ⟨_, _, rfl⟩
  exact ⟨_, _, rfl⟩

theorem State.records_startWaiting (s : State) (xs : List FlashOp) : s.Records (s.startWaiting xs) := by
  induction xs generalizing s with
  | nil => exact .refl s
  | cons x xs ih =>
    unfold State.startWaiting
    split <;> exact .trans ⟨_, _, rfl⟩ (ih _)

theorem State.records_requestErase (s : State) (block : Nat) (src : FlashBy) : s.Records (s.requestErase block src) :=
  ⟨_, _, rfl⟩

theorem State.records_programRecord (s : State) : s.Records s.programRecord := by
  unfold State.programRecord
  cases s.ev.queue with
  | nil => exact .refl s
  | cons r rest =>
    dsimp only
    split_ifs
    · exact .refl s
    · exact ⟨_, _, rfl⟩
    · exact .trans ⟨_, _, rfl⟩ (State.records_requestErase _ _ _)
    · exact ⟨_, _, rfl⟩

theorem State.records_kick (s : State) : s.Records s.kick :=
  .trans (.trans ⟨s.ev, { s.kf with waiting := [] }, rfl⟩ (State.records_startWaiting _ _)) (State.records_programRecord _)

theorem State.records_event (s : State) (source u code fclass ident detail : Nat) :
    s.Records (s.event source u code fclass ident detail) := by
  unfold State.event
  dsimp only
  split
  · split
    · exact ⟨_, _, rfl⟩
    · exact .trans ⟨_, _, rfl⟩ (State.records_kick _)
  · exact ⟨_, _, rfl⟩

/-! ## The raised class -/

theorem raisedClass_eq_ite (unack c : Nat) :
    raisedClass unack c = if unack.testBit c = true ∧ c < 4 then c + 1 else c := by
  simp [raisedClass, bitAt]

theorem raisedClass_le {unack c : Nat} (h : c ≤ 4) : raisedClass unack c ≤ 4 := by
  rw [raisedClass_eq_ite]
  split <;> omega

/-! ## The register writes of a raise -/

/-- The place of a field in its unit: its register and lowest bit. -/
def Fld.place (f : Fld) : Nat := f.off / 8 * 64 + f.lo

theorem State.fldOf_setFldOf_of_place_ne (s : State) (cls : Nat) (f g : Fld) (u v : Nat) (h : g.place ≠ f.place) :
    (s.setFldOf cls f u v).fldOf cls g u = s.fldOf cls g u := by
  refine s.fldOf_setFldOf_other cls cls f g u u v 0 0 ?_
  unfold Fld.place at h
  unfold fieldKey
  omega

/-- The engine of a Critical fault leaves service (R324). -/
def State.withdrawEngine (s : State) (cls u rc : Nat) : State :=
  if rc = 3 ∧ cls = 0x80 then s.setFld F.FE_STAT_STATE u 3 else s

/-- The fault state that a raise writes (R399, Table 17.3). -/
def State.faultFields (s : State) (cls u c code : Nat) : State :=
  let rc := raisedClass (s.fldOf cls F.BLK_FSTAT_UNACK u) c
  let was := s.fldOf cls F.BLK_FSTAT_CLASS u
  let t := s.setFldOf cls F.BLK_FSTAT_UNACK u (s.fldOf cls F.BLK_FSTAT_UNACK u ||| 2 ^ rc)
  let t := if rc = c then t else t.setFldOf cls F.BLK_FSTAT_ESCALATED u 1
  let t := if was = 7 ∨ was < rc then
      (t.setFldOf cls F.BLK_FSTAT_CLASS u rc).setFldOf cls F.BLK_FSTAT_CODE u code else t
  t.setFldOf cls F.BLK_FSTAT_RAISED u (t.fldOf cls F.BLK_FSTAT_RAISED u + 1)

section
variable (s : State) (cls u : Nat)

theorem State.withdrawEngine_eq_regs (rc : Nat) : ∃ m, s.withdrawEngine cls u rc = { s with regs := m } := by
  unfold State.withdrawEngine
  split <;> exact ⟨_, rfl⟩

theorem State.withdrawEngine_fldOf (rc : Nat) (g : Fld) (h : g.place ≠ F.FE_STAT_STATE.place) :
    (s.withdrawEngine cls u rc).fldOf cls g u = s.fldOf cls g u := by
  unfold State.withdrawEngine
  split
  case isTrue e => rw [e.2]; exact s.fldOf_setFldOf_of_place_ne _ _ _ _ _ h
  case isFalse => rfl

variable (c code : Nat)

theorem State.faultFields_eq_regs : ∃ m, s.faultFields cls u c code = { s with regs := m } := by
  unfold State.faultFields
  dsimp only
  split_ifs <;> exact ⟨_, rfl⟩

/-- A raise writes no field outside UNACK, ESCALATED, CLASS, CODE and RAISED of the unit. -/
theorem State.faultFields_fldOf_other (g : Fld) (hu : g.place ≠ F.BLK_FSTAT_UNACK.place)
    (he : g.place ≠ F.BLK_FSTAT_ESCALATED.place) (hc : g.place ≠ F.BLK_FSTAT_CLASS.place)
    (hd : g.place ≠ F.BLK_FSTAT_CODE.place) (hr : g.place ≠ F.BLK_FSTAT_RAISED.place) :
    (s.faultFields cls u c code).fldOf cls g u = s.fldOf cls g u := by
  unfold State.faultFields
  dsimp only
  split_ifs <;> simp only [State.fldOf_setFldOf_of_place_ne, ne_eq, hu, he, hc, hd, hr, not_false_eq_true]

variable {s} (h : SMap.risesFrom 0 s.regs = true)
include h

theorem State.faultFields_unack :
    (s.faultFields cls u c code).fldOf cls F.BLK_FSTAT_UNACK u =
      (s.fldOf cls F.BLK_FSTAT_UNACK u ||| 2 ^ raisedClass (s.fldOf cls F.BLK_FSTAT_UNACK u) c) % 32 := by
  unfold State.faultFields
  dsimp only
  split_ifs <;> simp (disch := decide) only [State.fldOf_setFldOf_of_place_ne] <;> exact s.fldOf_setFldOf _ _ _ _ 0 h

theorem State.faultFields_class (hc : c ≤ 4) :
    (s.faultFields cls u c code).fldOf cls F.BLK_FSTAT_CLASS u =
      if s.fldOf cls F.BLK_FSTAT_CLASS u = 7 ∨
          s.fldOf cls F.BLK_FSTAT_CLASS u < raisedClass (s.fldOf cls F.BLK_FSTAT_UNACK u) c then
        raisedClass (s.fldOf cls F.BLK_FSTAT_UNACK u) c
      else s.fldOf cls F.BLK_FSTAT_CLASS u := by
  have hrc : raisedClass (s.fldOf cls F.BLK_FSTAT_UNACK u) c % 2 ^ F.BLK_FSTAT_CLASS.width =
      raisedClass (s.fldOf cls F.BLK_FSTAT_UNACK u) c :=
    Nat.mod_eq_of_lt (Nat.lt_of_le_of_lt (raisedClass_le hc) (by decide))
  unfold State.faultFields
  dsimp only
  split_ifs <;> simp (disch := decide) only [State.fldOf_setFldOf_of_place_ne] <;>
    rw [State.fldOf_setFldOf _ _ _ _ _ _ (by apply_rules [State.risesFrom_setFldOf]), hrc]

theorem State.faultFields_code :
    (s.faultFields cls u c code).fldOf cls F.BLK_FSTAT_CODE u =
      if s.fldOf cls F.BLK_FSTAT_CLASS u = 7 ∨
          s.fldOf cls F.BLK_FSTAT_CLASS u < raisedClass (s.fldOf cls F.BLK_FSTAT_UNACK u) c then code % 256
      else s.fldOf cls F.BLK_FSTAT_CODE u := by
  unfold State.faultFields
  dsimp only
  split_ifs <;> simp (disch := decide) only [State.fldOf_setFldOf_of_place_ne] <;>
    exact State.fldOf_setFldOf _ _ _ _ _ 0 (by apply_rules [State.risesFrom_setFldOf])

theorem State.faultFields_raised :
    (s.faultFields cls u c code).fldOf cls F.BLK_FSTAT_RAISED u = (s.fldOf cls F.BLK_FSTAT_RAISED u + 1) % 65536 := by
  unfold State.faultFields
  dsimp only
  split_ifs <;> rw [State.fldOf_setFldOf _ _ _ _ _ _ (by apply_rules [State.risesFrom_setFldOf])] <;>
    simp (disch := decide) only [State.fldOf_setFldOf_of_place_ne] <;> rfl

end

/-! ## A raise as a whole -/

/-- The fault state outside the registers that a raise to class rc sets: the quiet period, self-diagnosis, and the sets of
units that R399 to R402 keep. -/
def State.faultMarks (s : State) (cls u c rc : Nat) : State :=
  { s with
    quiet := SMap.ins s.quiet (unitKey cls u) (s.mono + s.fldOf cls F.BLK_FCTL_QUIET u * second),
    diagFail := s.diagFail || decide (rc = 4),
    fatalEsc := if rc = 4 ∧ c < 4 then addNew s.fatalEsc (unitKey cls u) else s.fatalEsc,
    lowOut := if rc < 4 then addNew s.lowOut (unitKey cls u) else s.lowOut,
    withdrawn := if rc = 3 then addNew s.withdrawn (unitKey cls u) else s.withdrawn }

/-- The interrupt of a raise to class rc (R402). -/
def State.faultIrq (s : State) (cls u rc : Nat) : State :=
  if s.fldOf cls F.BLK_FCTL_IE_CLASS u ≤ rc then s.emit (.irq cls u rc) else s

section
variable (s : State) (cls u c code ident detail : Nat)

/-- The stages of a raise. -/
theorem State.raise_eq_stages :
    s.raise cls u c code ident detail =
      let rc := raisedClass (s.fldOf cls F.BLK_FSTAT_UNACK u) c
      ((((s.faultFields cls u c code).faultMarks cls u c rc).withdrawEngine cls u rc).event cls u code rc ident
        detail).faultIrq cls u rc := rfl

theorem State.faultIrq_eq_out (rc : Nat) :
    s.faultIrq cls u rc =
      { s with out := s.out ++ if s.fldOf cls F.BLK_FCTL_IE_CLASS u ≤ rc then [.irq cls u rc] else [] } := by
  unfold State.faultIrq State.emit
  split
  · rfl
  · rw [List.append_nil]

/-- After a raise the registers of its unit outside FE_STAT are those that `faultFields` writes. -/
theorem State.raise_fldOf (g : Fld) (hg : g.place ≠ F.FE_STAT_STATE.place) :
    (s.raise cls u c code ident detail).fldOf cls g u = (s.faultFields cls u c code).fldOf cls g u := by
  let rc := raisedClass (s.fldOf cls F.BLK_FSTAT_UNACK u) c
  let t := (s.faultFields cls u c code).faultMarks cls u c rc
  obtain ⟨_, _, hev⟩ := (t.withdrawEngine cls u rc).records_event cls u code rc ident detail
  calc (s.raise cls u c code ident detail).fldOf cls g u
      = (((t.withdrawEngine cls u rc).event cls u code rc ident detail).faultIrq cls u rc).fldOf cls g u :=
        congrArg (State.fldOf · cls g u) (s.raise_eq_stages ..)
    _ = (t.withdrawEngine cls u rc).fldOf cls g u := by rw [State.faultIrq_eq_out, hev]; rfl
    _ = (s.faultFields cls u c code).fldOf cls g u := t.withdrawEngine_fldOf cls u rc g hg

/-- Beside what `faultMarks` sets, a raise changes registers, the event recorder, the keepsake and the outputs. -/
theorem State.raise_eq_faultMarks :
    let rc := raisedClass (s.fldOf cls F.BLK_FSTAT_UNACK u) c
    ∃ regs ev kf, s.raise cls u c code ident detail =
      { s.faultMarks cls u c rc with
        regs := regs, ev := ev, kf := kf,
        out := s.out ++ if s.fldOf cls F.BLK_FCTL_IE_CLASS u ≤ rc then [.irq cls u rc] else [] } := by
  intro rc
  let t := (s.faultFields cls u c code).faultMarks cls u c rc
  have hq : (s.faultFields cls u c code).fldOf cls F.BLK_FCTL_QUIET u = s.fldOf cls F.BLK_FCTL_QUIET u :=
    State.faultFields_fldOf_other _ _ _ _ _ _ (by decide) (by decide) (by decide) (by decide) (by decide)
  have hie : (t.withdrawEngine cls u rc).fldOf cls F.BLK_FCTL_IE_CLASS u = s.fldOf cls F.BLK_FCTL_IE_CLASS u :=
    (t.withdrawEngine_fldOf cls u rc _ (by decide)).trans
      (s.faultFields_fldOf_other cls u c code _ (by decide) (by decide) (by decide) (by decide) (by decide))
  obtain ⟨m, ht⟩ : ∃ m, t = { s.faultMarks cls u c rc with regs := m } := by
    obtain ⟨m, hm⟩ := s.faultFields_eq_regs cls u c code
    refine ⟨m, ?_⟩
    simp only [t, State.faultMarks, hq]
    rw [hm]
  obtain ⟨m', hw⟩ := t.withdrawEngine_eq_regs cls u rc
  obtain ⟨ev, kf, hev⟩ := (t.withdrawEngine cls u rc).records_event cls u code rc ident detail
  refine ⟨m', ev, kf, ?_⟩
  calc s.raise cls u c code ident detail
      = ((t.withdrawEngine cls u rc).event cls u code rc ident detail).faultIrq cls u rc := s.raise_eq_stages ..
    _ = _ := by
      rw [hev, State.faultIrq_eq_out, ← hie, hw, ht]
      rfl

end

theorem State.risesFrom_regs_of_canonical {s : State} (h : s.canonical = true) : SMap.risesFrom 0 s.regs = true := by
  simp only [State.canonical, Bool.and_eq_true] at h
  obtain ⟨⟨⟨⟨hregs, _⟩, _⟩, _⟩, _⟩ := h
  exact hregs

/-- FAULT_RAISE of a native class in a unit that holds the common registers is a raise (R399). -/
theorem exec_faultRaise (s : State) (k : Raise) (hu : k.u < unitCount k.cls) (hc : k.cls ≠ 1) (hn : k.native ≤ 4) :
    exec (.faultRaise k) s = .next (s.raise k.cls k.u k.native k.code k.ident k.detail) := by
  change execFaultRaise k s = _
  rw [execFaultRaise, onCommon, if_pos ⟨hu, hc⟩, if_pos hn]

/-- Settles O44: the fields of BLK_FSTAT are those that `faultFields` writes, and everything else is read off the frame of a
raise. -/
theorem faultRaised : Obligations.FaultRaised := by
  unfold Obligations.FaultRaised
  intro s k hs hu hc hn
  have hr := State.risesFrom_regs_of_canonical hs
  obtain ⟨_, _, _, hframe⟩ := s.raise_eq_faultMarks k.cls k.u k.native k.code k.ident k.detail
  dsimp only
  rw [← raisedClass_eq_ite]
  refine ⟨_, exec_faultRaise s k hu hc hn, ?_, ?_, ?_, ?_, ?_⟩
  · rw [State.raise_fldOf _ _ _ _ _ _ _ _ (by decide), State.faultFields_unack _ _ _ _ hr]
  · rw [State.raise_fldOf _ _ _ _ _ _ _ _ (by decide), State.faultFields_class _ _ _ _ hr hn]
  · rw [State.raise_fldOf _ _ _ _ _ _ _ _ (by decide), State.faultFields_code _ _ _ _ hr]
  · rw [State.raise_fldOf _ _ _ _ _ _ _ _ (by decide), State.faultFields_raised _ _ _ _ hr]
  · rw [hframe]
    exact ⟨SMap.look_ins_same _ _ _, rfl, rfl, rfl⟩

end Sys2Proof.Machine

/-! O54: management datagrams (R51 to R54, R413). A datagram is sorted once (`State.mgmtRun_of_discarded`, `_of_repeat`,
`_of_fresh`). What a fresh one does is then the first turn of its access (`State.jobStep`), which fails, ends the access or leaves
the rest of it waiting (`State.jobWaits_jobNext`). -/

namespace Sys2Proof.Machine

section
variable {s t : State} {m : Mgmt} {k : State → State} {r : MgmtResp} {j : CtlJob} {v n : Nat} {st : Status}

/-! ## The conditions in the spec's words -/

theorem State.mgmtLive_iff : s.mgmtLive = true ↔ s.core.inReset = false ∧ s.pow.state ≠ .p4 := by
  simp [State.mgmtLive]

theorem State.mgmtTakes_iff :
    s.mgmtTakes m = true ↔
      (m.sealing = true ∧ m.tagOk = true ∧ (s.slot 0).active.isSome = true) ∨ (m.sealing = false ∧ s.life.state = .blank) := by
  unfold State.mgmtTakes
  cases m.sealing <;> simp

theorem badDatagram_iff : badDatagram m = true ↔ m.count = 0 ∨ 64 < m.count ∨ m.addr % 8 ≠ 0 := by
  simp [badDatagram, or_assoc]

/-- Outside ROM_RECOVERY a sealed datagram reaches every address (R53, R413). -/
theorem State.mgmtMay_of_sealing (hs : m.sealing = true) (hb : s.fld F.BT_STAT_STATE ≠ 1) (a : Nat) : s.mgmtMay m a = true :=
  if_pos ⟨hs, hb⟩

/-! ## A datagram is discarded, answered from the store, or performed -/

theorem State.finishPath_of_jobs_nil (hj : s.jobs = []) (p : Path) : s.finishPath p = s :=
  if_pos (by rw [hj]; rfl)

theorem State.mgmtRun_of_discarded (h : ¬ (s.mgmtLive = true ∧ s.mgmtTakes m = true)) : s.mgmtRun m k = s :=
  if_pos (by rwa [Bool.and_eq_true])

theorem State.mgmtRun_of_repeat (hl : s.mgmtLive = true) (ht : s.mgmtTakes m = true)
    (hr : (s.finishPath .mgmt).replay.find? (fun r => r.tag == m.tag) = some r) :
    s.mgmtRun m k =
      (if m.sealing then ((s.finishPath .mgmt).sealUse 0).2 else s.finishPath .mgmt).emit
        (.mgmt m.tag r.addr r.status.code r.count r.data) := by
  simp [State.mgmtRun, hl, ht, hr]

theorem State.mgmtRun_of_fresh (hl : s.mgmtLive = true) (ht : s.mgmtTakes m = true) (hj : s.jobs = [])
    (hr : s.replay.find? (fun r => r.tag == m.tag) = none) : s.mgmtRun m k = k s := by
  simp [State.mgmtRun, hl, ht, State.finishPath_of_jobs_nil hj, hr]

/-- The answer on a port that is served (R52, R54). -/
theorem State.mgmtAnswer_of_live (hl : s.mgmtLive = true) (data : List Nat) :
    s.mgmtAnswer m st n data =
      let t := if m.sealing then (s.sealUse 0).2 else s
      State.emit { t with replay := (⟨m.tag, m.addr, st, n, data⟩ :: t.replay).take 64 }
        (.mgmt m.tag m.addr st.code n data) :=
  if_neg (not_not_intro hl)

/-! ## The first turn of an access -/

/-- An access once its next register is done, with n registers left. -/
def CtlJob.past (j : CtlJob) (n : Nat) : CtlJob :=
  { j with addr := j.addr + 8, left := n, vals := j.vals.drop 1, done := j.done + 1 }

/-- After a register the access ends with the last one and waits for its next turn otherwise (R51). -/
theorem State.jobWaits_jobNext (hl : s.mgmtLive = true) :
    State.jobWaits (s.jobNext j n) =
      if n = 0 then s.jobEnds (j.past n) .ok else { s with jobs := s.jobs ++ [j.past n] } := by
  unfold State.jobNext
  dsimp only
  split
  · rfl
  · exact if_pos hl

/-- A datagram as an access that has done no register yet. -/
def CtlJob.ofDatagram (m : Mgmt) (wr : Bool) (vals : List Nat) : CtlJob := ⟨.datagram m, wr, m.addr, m.count, vals, [], 0⟩

variable (hj : s.jobs = []) (hm : s.mgmtMay m m.addr = true) (hn : m.count = n + 1)
include hj hm hn

theorem State.startJob_read_ok (hr : s.ctlRead .mgmt m.addr = (.ok, v, t)) (hl : t.mgmtLive = true) :
    s.startJob (.ofDatagram m false []) =
      if n = 0 then t.mgmtAnswer m .ok 1 [v]
      else { t with jobs := t.jobs ++ [⟨.datagram m, false, m.addr + 8, n, [], [v], 1⟩] } := by
  have hstep : s.jobStep (.ofDatagram m false []) = t.jobNext { CtlJob.ofDatagram m false [] with got := [v] } n := by
    simp [State.jobStep, State.jobMay, CtlJob.ofDatagram, CtlBy.path, hm, hn, hr]
  rw [State.startJob, State.finishPath_of_jobs_nil hj, hstep, State.jobWaits_jobNext hl]
  rfl

theorem State.startJob_read_fails (hr : s.ctlRead .mgmt m.addr = (st, v, t)) (hst : st ≠ .ok) :
    s.startJob (.ofDatagram m false []) = t.mgmtAnswer m st 0 [] := by
  have hstep : s.jobStep (.ofDatagram m false []) = (t.mgmtAnswer m st 0 [], none) := by
    simp [State.jobStep, State.jobMay, State.jobEnds, CtlJob.ofDatagram, CtlBy.path, hm, hn, hr]
  rw [State.startJob, State.finishPath_of_jobs_nil hj, hstep]
  rfl

theorem State.startJob_write_ok {vs : List Nat} (hw : s.ctlWrite .mgmt m.addr v = (.ok, t)) (hl : t.mgmtLive = true) :
    s.startJob (.ofDatagram m true (v :: vs)) =
      if n = 0 then t.mgmtAnswer m .ok 1 []
      else { t with jobs := t.jobs ++ [⟨.datagram m, true, m.addr + 8, n, vs, [], 1⟩] } := by
  have hstep : s.jobStep (.ofDatagram m true (v :: vs)) = t.jobNext (.ofDatagram m true (v :: vs)) n := by
    simp [State.jobStep, State.jobMay, CtlJob.ofDatagram, CtlBy.path, hm, hn, hw]
  rw [State.startJob, State.finishPath_of_jobs_nil hj, hstep, State.jobWaits_jobNext hl]
  rfl

theorem State.startJob_write_fails {vs : List Nat} (hw : s.ctlWrite .mgmt m.addr v = (st, t)) (hst : st ≠ .ok) :
    s.startJob (.ofDatagram m true (v :: vs)) = t.mgmtAnswer m st 0 [] := by
  have hstep : s.jobStep (.ofDatagram m true (v :: vs)) = (t.mgmtAnswer m st 0 [], none) := by
    simp [State.jobStep, State.jobMay, State.jobEnds, CtlJob.ofDatagram, CtlBy.path, hm, hn, hw]
  rw [State.startJob, State.finishPath_of_jobs_nil hj, hstep]
  rfl

end

/-! ## The commands -/

section
variable {s t : State} {m : Mgmt} {op : Nat}

theorem exec_mgmtRead :
    exec (.mgmtRead m) s = .next (s.mgmtRun m fun t =>
      if badDatagram m then t.mgmtAnswer m .illegalLink 0 [] else t.startJob (.ofDatagram m false [])) := rfl

theorem exec_mgmtWrite :
    exec (.mgmtWrite m) s = .next (s.mgmtRun m fun t =>
      if badDatagram m || m.data.length != m.count then t.mgmtAnswer m .illegalLink 0 []
      else t.startJob (.ofDatagram m true (m.data.map BitVec.toNat))) := rfl

theorem exec_mgmtDatagramMalformed (h : op ≠ 1 ∧ op ≠ 2 ∨ badDatagram m = true) :
    exec (.mgmtDatagramMalformed op m) s = .next (s.mgmtRun m fun t => t.mgmtAnswer m .illegalLink 0 []) :=
  if_neg (by tauto)

theorem exec_mgmt_of_discarded (h : ¬ (s.mgmtLive = true ∧ s.mgmtTakes m = true)) :
    exec (.mgmtRead m) s = .next s ∧ exec (.mgmtWrite m) s = .next s := by
  rw [exec_mgmtRead, exec_mgmtWrite, State.mgmtRun_of_discarded h, State.mgmtRun_of_discarded h]
  exact ⟨rfl, rfl⟩

variable (hl : s.mgmtLive = true) (ht : s.mgmtTakes m = true)
include hl ht

theorem exec_mgmt_of_repeat {r : MgmtResp}
    (hr : (s.finishPath .mgmt).replay.find? (fun r => r.tag == m.tag) = some r) :
    let f := s.finishPath .mgmt
    let again := (if m.sealing then (f.sealUse 0).2 else f).emit (.mgmt m.tag r.addr r.status.code r.count r.data)
    exec (.mgmtRead m) s = .next again ∧ exec (.mgmtWrite m) s = .next again ∧
    (op ≠ 1 → op ≠ 2 → exec (.mgmtDatagramMalformed op m) s = .next again) := by
  refine ⟨?_, ?_, fun h1 h2 => ?_⟩
  · rw [exec_mgmtRead, State.mgmtRun_of_repeat hl ht hr]
  · rw [exec_mgmtWrite, State.mgmtRun_of_repeat hl ht hr]
  · rw [exec_mgmtDatagramMalformed (.inl ⟨h1, h2⟩), State.mgmtRun_of_repeat hl ht hr]

variable (hj : s.jobs = []) (hr : s.replay.find? (fun r => r.tag == m.tag) = none)
include hj hr

theorem exec_mgmtRead_of_bad (hb : badDatagram m = true) :
    exec (.mgmtRead m) s = .next (s.mgmtAnswer m .illegalLink 0 []) := by
  rw [exec_mgmtRead, State.mgmtRun_of_fresh hl ht hj hr, if_pos hb]

theorem exec_mgmtWrite_of_bad (hb : badDatagram m = true ∨ m.data.length ≠ m.count) :
    exec (.mgmtWrite m) s = .next (s.mgmtAnswer m .illegalLink 0 []) := by
  rw [exec_mgmtWrite, State.mgmtRun_of_fresh hl ht hj hr, if_pos (by simpa using hb)]

theorem exec_mgmtDatagramMalformed_of_fresh (h : op ≠ 1 ∧ op ≠ 2 ∨ badDatagram m = true) :
    exec (.mgmtDatagramMalformed op m) s = .next (s.mgmtAnswer m .illegalLink 0 []) := by
  rw [exec_mgmtDatagramMalformed h, State.mgmtRun_of_fresh hl ht hj hr]

variable (hb : ¬ badDatagram m = true)
include hb

theorem exec_mgmtRead_of_wellFormed :
    exec (.mgmtRead m) s = .next (s.startJob (.ofDatagram m false [])) := by
  rw [exec_mgmtRead, State.mgmtRun_of_fresh hl ht hj hr, if_neg hb]

theorem exec_mgmtWrite_of_wellFormed {v : W64} {vs : List W64} (hd : m.data = v :: vs) (hlen : m.data.length = m.count) :
    exec (.mgmtWrite m) s = .next (s.startJob (.ofDatagram m true (v.toNat :: vs.map BitVec.toNat))) := by
  rw [exec_mgmtWrite, State.mgmtRun_of_fresh hl ht hj hr, if_neg (by simp [hb, hlen]), hd]
  rfl

end

/-- Settles O54: a repeat, a malformed and a discarded datagram by what `mgmtRun` does with them, a performed one by the first
turn of its access. -/
theorem managementDatagrams : Obligations.ManagementDatagrams := by
  unfold Obligations.ManagementDatagrams
  intro s m op live taken fresh bad answer
  have hlive (t : State) : live t ↔ t.mgmtLive = true := State.mgmtLive_iff.symm
  have htaken : taken ↔ s.mgmtTakes m = true := State.mgmtTakes_iff.symm
  have hbad : bad ↔ badDatagram m = true := badDatagram_iff.symm
  have hanswer {t : State} {st : Status} {n : Nat} {data : List Nat} (h : t.mgmtLive = true) :
      answer t st n data = t.mgmtAnswer m st n data := (State.mgmtAnswer_of_live h data).symm
  clear_value live taken bad answer
  simp only [hlive, htaken, hbad]
  refine ⟨fun r hl ht hr => exec_mgmt_of_repeat hl ht hr, fun hj => ⟨?_, ?_, ?_, ?_, exec_mgmt_of_discarded⟩⟩
  · intro hl ht hf hb hs hstat
    have hm := State.mgmtMay_of_sealing hs hstat m.addr
    obtain ⟨n, hn⟩ : ∃ n, m.count = n + 1 :=
      Nat.exists_eq_add_one_of_ne_zero fun h => hb (badDatagram_iff.mpr (.inl h))
    have hread := exec_mgmtRead_of_wellFormed hl ht hj hf hb
    refine ⟨fun v t hr hlt => ?_, fun v st t hr hst hlt => ?_, fun v vs t hd hlen hw hlt => ?_,
      fun v vs st t hd hlen hw hst hlt => ?_⟩
    · rw [hread, State.startJob_read_ok hj hm hn hr hlt, hanswer hlt, hn, Nat.add_sub_cancel]
      exact ⟨fun h => by rw [if_pos (by omega)], fun h => by rw [if_neg (by omega)]⟩
    · rw [hread, State.startJob_read_fails hj hm hn hr hst, hanswer hlt]
    · have hnil : n = 0 ↔ vs = [] := by
        have hlen' : vs.length = n := by simpa [hd, hn] using hlen
        rw [← hlen', List.length_eq_zero_iff]
      rw [exec_mgmtWrite_of_wellFormed hl ht hj hf hb hd hlen, State.startJob_write_ok hj hm hn hw hlt, hanswer hlt, hn,
        Nat.add_sub_cancel]
      exact ⟨fun h => by rw [if_pos (hnil.mpr h)], fun h => by rw [if_neg (mt hnil.mp h)]⟩
    · rw [exec_mgmtWrite_of_wellFormed hl ht hj hf hb hd hlen, State.startJob_write_fails hj hm hn hw hst, hanswer hlt]
  · intro hl ht hf hb
    rw [hanswer hl]
    exact ⟨exec_mgmtRead_of_bad hl ht hj hf hb, exec_mgmtWrite_of_bad hl ht hj hf (.inl hb),
      exec_mgmtDatagramMalformed_of_fresh hl ht hj hf (.inr hb)⟩
  · intro hl ht hf hlen
    rw [hanswer hl]
    exact exec_mgmtWrite_of_bad hl ht hj hf (.inr hlen)
  · intro hl ht hf h1 h2
    rw [hanswer hl]
    exact exec_mgmtDatagramMalformed_of_fresh hl ht hj hf (.inl ⟨h1, h2⟩)

end Sys2Proof.Machine

/-! O56: the words of a link (R64, R65, R70). -/

namespace Sys2Proof

/-- Bit 39 of a word is the bit put above its 39 others (Table 3.2). -/
theorem moreWords_append (b : BitVec 1) (e : BitVec 39) : moreWords (b ++ e : BitVec 40) = b.getLsbD 0 := by
  change (b ++ e : BitVec (1 + 39)).getLsbD 39 = _
  rw [BitVec.getLsbD_append, if_neg (by decide)]

/-- The 39 bits below the bit that says whether a word follows (R65). -/
theorem extract_append (b : BitVec 1) (e : BitVec 39) : (b ++ e : BitVec 40).extractLsb' 0 39 = e :=
  BitVec.extractLsb'_append_eq_right

/-- Bit 39 of the first word of a link says whether a setting word follows (Table 3.2). -/
theorem moreWords_first (l : Link) (op : BitVec 7) : moreWords (l.first op) = !l.ext.isEmpty := by
  unfold Link.first
  rw [moreWords_append _ (op ++ (l.d ++ (l.a ++ (l.b ++ l.imm))) : BitVec 39)]
  cases l.ext with
  | nil => rfl
  | cons e es => simp

/-- Setting words are read back up to the first without bit 39 (R65). -/
theorem takeSettings_settingWords (es : List (BitVec 39)) (rest : List W40) :
    takeSettings (!es.isEmpty) (settingWords es ++ rest) = some (es, rest) := by
  induction es with
  | nil => simp [settingWords, takeSettings]
  | cons e es ih =>
    cases es with
    | nil => simp [settingWords, takeSettings, moreWords_append, extract_append]
    | cons e' es =>
      have ih : takeSettings true (settingWords (e' :: es) ++ rest) = some (e' :: es, rest) := ih
      simp [settingWords, takeSettings, moreWords_append, extract_append, ih]

/-- Fields put side by side are found in their places (Table 3.2). -/
theorem extract_fields (x : BitVec 1) (op : BitVec 7) (d a b : BitVec 5) (imm : BitVec 17) :
    let w : BitVec (1 + (7 + (5 + (5 + (5 + 17))))) := x ++ (op ++ (d ++ (a ++ (b ++ imm))))
    w.extractLsb' 32 7 = op ∧ w.extractLsb' 27 5 = d ∧ w.extractLsb' 22 5 = a ∧ w.extractLsb' 17 5 = b ∧
      w.extractLsb' 0 17 = imm := by
  refine ⟨?_, ?_, ?_, ?_, ?_⟩ <;>
    simp (disch := decide) only [BitVec.extractLsb'_append_eq_of_add_le, BitVec.extractLsb'_append_eq_of_le] <;>
    exact BitVec.extractLsb'_eq_self

/-- The opcode and the operands stand in their places of the first word (Table 3.2). -/
theorem extract_first (l : Link) (op : BitVec 7) :
    (l.first op).extractLsb' 32 7 = op ∧ (l.first op).extractLsb' 27 5 = l.d ∧ (l.first op).extractLsb' 22 5 = l.a ∧
      (l.first op).extractLsb' 17 5 = l.b ∧ (l.first op).extractLsb' 0 17 = l.imm :=
  extract_fields _ op l.d l.a l.b l.imm

/-- The words of a link decode to it and leave the words after it. -/
theorem decodeLink_encodeLink (op : BitVec 7) (l : Link) (rest : List W40) :
    decodeLink (encodeLink op l ++ rest) = some (op, l, rest) := by
  obtain ⟨hop, hd, ha, hb, himm⟩ := extract_first l op
  simp only [encodeLink, List.cons_append, decodeLink, moreWords_first, takeSettings_settingWords, hop, hd, ha, hb, himm]

/-- The opcodes of Table 3.5: the parts of a link give it back. -/
theorem linkInstr_of_linkParts {i : Instr} {q : Nat} {op : BitVec 7} {l : Link} (h : linkParts i = some (q, op, l)) :
    linkInstr q op l = some i := by
  unfold linkParts at h
  split at h <;> cases h <;> rfl

/-- Settles O56. -/
theorem linkRoundTrip : Obligations.LinkRoundTrip := by
  refine ⟨decodeLink_encodeLink, fun i q op l ws hp he => ?_⟩
  obtain rfl : encodeLink op l = ws := by simpa [encodeInstr, hp] using he
  have hd : decodeLink (encodeLink op l) = some (op, l, []) := by simpa using decodeLink_encodeLink op l []
  simp only [encodeLink] at hd ⊢
  simp only [decodeInstr, hd, linkInstr_of_linkParts hp, Option.getD_some]

end Sys2Proof

/-! O57, O58: plain register writes (R11, R13, R441) and the lines of persistent memory (R160). The fields that share a register
have different lowest bits, so the turns of a plain write do not meet. -/

namespace Sys2Proof.Machine

/-! ## The fields of one register -/

/-- The register maps: aligned registers, lowest bits inside the word, no two fields in one place. -/
theorem classFields_apart : ∀ b ∈ blocks,
    (classFields b.cls).Pairwise (fun f g => f.lo ≠ g.lo ∨ f.off + 8 * f.n ≤ g.off ∨ g.off + 8 * g.n ≤ f.off) ∧
    ∀ f ∈ classFields b.cls, f.off % 8 = 0 ∧ f.lo < 64 := by
  decide +kernel

theorem mem_fieldsAt {cls u off k : Nat} {f : Fld} :
    (f, k) ∈ fieldsAt cls u off ↔
      f ∈ classFields cls ∧ f.off ≤ off ∧ off < f.off + 8 * f.n ∧ f.inUnit u = true ∧ (off - f.off) / 8 = k := by
  simp only [fieldsAt, List.mem_filterMap, Option.ite_none_right_eq_some, Option.some.injEq, Prod.mk.injEq]
  constructor
  · rintro ⟨g, hg, ⟨h1, h2, h3⟩, rfl, rfl⟩
    exact ⟨hg, h1, h2, h3, rfl⟩
  · rintro ⟨hf, h1, h2, h3, rfl⟩
    exact ⟨f, hf, ⟨h1, h2, h3⟩, rfl, rfl⟩

section
variable {b : Blk} (hb : b ∈ blocks)
include hb

/-- The fields of a register stand in it, at lowest bits inside the word. -/
theorem place_of_mem_fieldsAt {u off : Nat} (ho : off % 8 = 0) {p : Fld × Nat} (hp : p ∈ fieldsAt b.cls u off) :
    p.1.off + 8 * p.2 = off ∧ p.1.lo < 64 := by
  obtain ⟨hf, hle, -, -, hk⟩ := mem_fieldsAt.mp hp
  obtain ⟨hoff, hlo⟩ := (classFields_apart b hb).2 p.1 hf
  exact ⟨by omega, hlo⟩

/-- Two fields of one register have different lowest bits. -/
theorem fieldsAt_pairwise (u off : Nat) : (fieldsAt b.cls u off).Pairwise (fun p q => p.1.lo ≠ q.1.lo) := by
  rw [fieldsAt, List.pairwise_filterMap]
  refine (classFields_apart b hb).1.imp fun {f g} h p hp q hq => ?_
  obtain ⟨⟨_, _, _⟩, ⟨⟩⟩ := Option.ite_none_right_eq_some.mp hp
  obtain ⟨⟨_, _, _⟩, ⟨⟩⟩ := Option.ite_none_right_eq_some.mp hq
  dsimp only at h ⊢
  omega

end

/-! ## The turns of a plain write -/

/-- The turn of one field in a plain write, judged by the locks of s. -/
def State.writeTurn (s : State) (cls u v : Nat) (t : State) (fi : Fld × Nat) : State :=
  if s.lockedOf cls fi.1 u then t else t.writeField cls u v fi

theorem State.writePlain_eq_foldl (s : State) (cls u off v : Nat) :
    s.writePlain cls u off v = (fieldsAt cls u off).foldl (s.writeTurn cls u v) s := rfl

/-- A turn either leaves the state or sets its own field. -/
theorem State.writeTurn_cases (s : State) (cls u v : Nat) (t : State) (fi : Fld × Nat) :
    s.writeTurn cls u v t fi = t ∨ ∃ x, s.writeTurn cls u v t fi = t.setFldOf cls fi.1 u x fi.2 := by
  unfold State.writeTurn State.writeField
  split
  · exact .inl rfl
  · dsimp only
    split
    · exact .inl rfl
    · exact .inl rfl
    all_goals exact .inr ⟨_, rfl⟩

section
variable (s : State) (cls u v : Nat)

/-- The turns of other places leave a place as it is, and the map canonical. -/
theorem State.foldl_writeTurn_frame (L : List (Fld × Nat)) (t : State) (key : Nat)
    (hk : ∀ p ∈ L, key ≠ fieldKey cls u (p.1.off + 8 * p.2) p.1.lo) :
    (∀ d, SMap.get d (L.foldl (s.writeTurn cls u v) t).regs key = SMap.get d t.regs key) ∧
    (L.foldl (s.writeTurn cls u v) t).core = t.core ∧
    (SMap.risesFrom 0 t.regs = true → SMap.risesFrom 0 (L.foldl (s.writeTurn cls u v) t).regs = true) := by
  induction L generalizing t with
  | nil => exact ⟨fun _ => rfl, rfl, id⟩
  | cons p L ih =>
    obtain ⟨hget, hcore, hrise⟩ := ih (s.writeTurn cls u v t p) fun q hq => hk q (List.mem_cons_of_mem _ hq)
    rw [List.foldl_cons]
    have hp := hk p List.mem_cons_self
    rcases s.writeTurn_cases cls u v t p with h | ⟨x, h⟩
    · rw [h] at hget hcore hrise ⊢
      exact ⟨hget, hcore, hrise⟩
    · rw [h] at hget hcore hrise ⊢
      exact ⟨fun d => (hget d).trans (SMap.get_put_other _ _ _ _ hp), hcore,
        fun hr => hrise (t.risesFrom_setFldOf _ _ _ _ _ hr)⟩

/-- What one turn leaves in its field (Table 0.2). -/
theorem State.writeTurn_fldOf (t : State) (f : Fld) (i : Nat) (hr : SMap.risesFrom 0 t.regs = true)
    (hcore : t.core = s.core) :
    let x := v / 2 ^ f.lo % 2 ^ f.width
    let new := (s.writeTurn cls u v t (f, i)).fldOf cls f u i
    (f.acc = .rw ∨ f.acc = .rwl → s.lockedOf cls f u = false →
      new = (if f.min ≤ x ∧ x ≤ f.max then x else s.resetOf cls f u i) % 2 ^ f.width) ∧
    (f.acc = .w1c → s.lockedOf cls f u = false →
      new = (t.fldOf cls f u i &&& (2 ^ f.width - 1 - x)) % 2 ^ f.width) ∧
    (f.acc = .ro ∨ f.acc = .wo ∨ s.lockedOf cls f u = true → new = t.fldOf cls f u i) := by
  have hreset : t.resetOf cls f u i = s.resetOf cls f u i := by simp only [State.resetOf, hcore]
  simp only [State.writeTurn, State.writeField, bits, Nat.shiftRight_eq_div_pow]
  refine ⟨?_, ?_, ?_⟩
  · rintro (h | h) hl <;> simp only [h, hl, Bool.false_eq_true, if_false, State.fldOf_setFldOf _ _ _ _ _ _ hr,
      State.settleFld, hreset]
  · rintro h hl
    simp only [h, hl, Bool.false_eq_true, if_false, State.fldOf_setFldOf _ _ _ _ _ _ hr]
  · rintro (h | h | h)
    · simp only [h, ite_self]
    · simp only [h, ite_self]
    · simp only [h, if_true]

end

/-- Settles O57: the register's list is cut at the turn of the field, which alone writes its place. -/
theorem plainWrite : Obligations.PlainWrite := by
  unfold Obligations.PlainWrite
  intro s b u v i f hs hb hf hi hu x t old new
  have hr := State.risesFrom_regs_of_canonical hs
  obtain ⟨hoff, -⟩ := (classFields_apart b hb).2 f hf
  have ho : (f.off + 8 * i) % 8 = 0 := by omega
  have hmem : (f, i) ∈ fieldsAt b.cls u (f.off + 8 * i) :=
    mem_fieldsAt.mpr ⟨hf, by omega, by omega, hu, by omega⟩
  obtain ⟨A, B, hAB⟩ := List.append_of_mem hmem
  have hpair := fieldsAt_pairwise hb u (f.off + 8 * i)
  rw [hAB, List.pairwise_append] at hpair
  obtain ⟨-, hB, hA⟩ := hpair
  have hplace (p : Fld × Nat) (hp : p ∈ A ++ (f, i) :: B) : p.1.off + 8 * p.2 = f.off + 8 * i ∧ p.1.lo < 64 :=
    place_of_mem_fieldsAt hb ho (hAB ▸ hp)
  obtain ⟨-, hlo⟩ := hplace (f, i) (by simp)
  have hne (p : Fld × Nat) (hp : p ∈ A ++ (f, i) :: B) (h : p.1.lo ≠ f.lo) :
      fieldKey b.cls u (f.off + 8 * i) f.lo ≠ fieldKey b.cls u (p.1.off + 8 * p.2) p.1.lo := by
    obtain ⟨hpo, hpl⟩ := hplace p hp
    rw [hpo]
    unfold fieldKey
    omega
  let a := A.foldl (s.writeTurn b.cls u v) s
  obtain ⟨hgetA, hcoreA, hriseA⟩ := s.foldl_writeTurn_frame b.cls u v A s _ fun p hp =>
    hne p (by simp [hp]) (hA p hp _ List.mem_cons_self)
  obtain ⟨hgetB, -, -⟩ := s.foldl_writeTurn_frame b.cls u v B (s.writeTurn b.cls u v a (f, i)) _ fun p hp =>
    hne p (by simp [hp]) (List.rel_of_pairwise_cons hB hp).symm
  have ht : t = B.foldl (s.writeTurn b.cls u v) (s.writeTurn b.cls u v a (f, i)) := by
    simp only [t, a, State.writePlain_eq_foldl, hAB, List.foldl_append, List.foldl_cons]
  have hold : a.fldOf b.cls f u i = old := hgetA _
  have hnew : new = (s.writeTurn b.cls u v a (f, i)).fldOf b.cls f u i := by
    simp only [new, ht]
    exact hgetB _
  obtain ⟨hrw, hw1c, hro⟩ := s.writeTurn_fldOf b.cls u v a f i (hriseA hr) hcoreA
  rw [← hnew, hold] at hw1c hro
  rw [← hnew] at hrw
  refine ⟨hrw, hw1c, hro, fun j w hj hw hne' => ?_⟩
  refine (s.foldl_writeTurn_frame b.cls u v (fieldsAt b.cls u (f.off + 8 * i)) s _ fun p hp => ?_).1 0
  obtain ⟨hpo, hpl⟩ := place_of_mem_fieldsAt hb ho hp
  rw [hpo]
  unfold fieldKey
  omega

/-! ## The lines of persistent memory -/

/-- Settles O58: a put of 64 bytes into the cells. -/
theorem lineStore : Obligations.LineStore := by
  unfold Obligations.LineStore
  intro s line data a hm hlen t
  have htake : data.take 64 = data := List.take_of_length_le hlen.le
  have hpm : t.pipe.pm = putBytes 0 s.pipe.pm (64 * line) data := congrArg (putBytes 0 s.pipe.pm (64 * line)) htake
  refine ⟨s.setPmLine_wf line data hm, fun h1 h2 => ?_, fun h => ?_, ?_, rfl⟩
  · have := get_putBytes_inside 0 data s.pipe.pm (64 * line) (a - 64 * line) hm (by omega)
    rwa [Nat.add_sub_cancel' h1, ← hpm] at this
  · rw [State.pmByte, hpm]
    exact get_putBytes_outside 0 0 data s.pipe.pm (64 * line) a (hlen ▸ h)
  · rw [State.pmLine, hpm]
    simpa [hlen] using bytesAt_putBytes 0 data s.pipe.pm (64 * line) hm

end Sys2Proof.Machine

/-! O55, O59: a step of the block, and the cold start. -/

namespace Sys2Proof.Machine

section
variable (s : State)

theorem State.jobTurn_of_nil (h : s.jobs = []) : s.jobTurn = s := by simp only [State.jobTurn, h]

theorem State.writeSlots_of_nil (h : s.chan.wq = []) : s.writeSlots = s := by simp [State.writeSlots, h]

theorem State.settleWork_of_nil (h1 : s.cipher.rx = []) (h2 : s.cipher.tx = []) (h3 : s.wins.waiting = []) :
    s.settleWork = s := by simp [State.settleWork, h1, h2, h3]

theorem State.sealMarks_of_not_due (h : s.twin.markDue = false) : s.sealMarks = s := by simp [State.sealMarks, h]

theorem State.moveNext_of_nil (h : s.bezel.retiring = []) : s.moveNext = s := by simp only [State.moveNext, h]

theorem State.settleDark_of_healthy (h : s.diagFail = false ∨ s.fab.dark = true) : s.settleDark = s := by
  rcases h with h | h <;> simp [State.settleDark, h]

end

/-- With nothing waiting inside the block, only the clocks move. -/
theorem State.idle_of_quiet {s : State} (hj : s.jobs = []) (hw : s.chan.wq = []) (hr : s.cipher.rx = [])
    (ht : s.cipher.tx = []) (hwin : s.wins.waiting = []) (hm : s.twin.markDue = false) (hb : s.bezel.retiring = [])
    (hd : s.diagFail = false ∨ s.fab.dark = true) : s.idle = s.advance (1 + Config.elapsed s.mono) := by
  let t := s.advance (1 + Config.elapsed s.mono)
  change (((((t.jobTurn).writeSlots).settleWork).sealMarks).moveNext).settleDark = t
  rw [t.jobTurn_of_nil hj, t.writeSlots_of_nil hw, t.settleWork_of_nil hr ht hwin, t.sealMarks_of_not_due hm,
    t.moveNext_of_nil hb, t.settleDark_of_healthy hd]

/-- Settles O55. -/
theorem stepTakesFront : Obligations.StepTakesFront := by
  unfold Obligations.StepTakesFront
  intro s c rest
  refine ⟨fun h => ?_, rfl, fun h => by simp only [step, h], fun h hj hw hr ht hwin hm hb hd => ?_⟩
  · simp only [step, h, State.popped, List.tail_cons]
  · refine ⟨s.advance (1 + Config.elapsed s.mono), ?_, ?_, rfl⟩
    · simp only [step, h, State.idle_of_quiet hj hw hr ht hwin hm hb hd]
    · rw [State.advance_mono]
      omega

/-- Settles O59: the reset state is a literal with empty containers, and an empty map reads as its default. -/
theorem coldReset : Obligations.ColdReset := by
  unfold Obligations.ColdReset
  refine ⟨rfl, rfl, fun _ _ _ _ => rfl, fun _ _ => ⟨rfl, rfl⟩, ?_, rfl, rfl, fun _ => rfl, fun _ => rfl, fun _ => rfl,
    rfl, rfl, rfl, fun _ => rfl⟩
  rfl

end Sys2Proof.Machine

/-! O1 to O4: links that compute, branch and use the local store (Table 3.5). A link that only sets register d is settled once
(`runLink_sets`); what remains of each is its value. -/

namespace Sys2Proof.Machine

section
variable {s : State} {q op : Nat} {l : Link} {x : Seq}

/-- A link whose effect is to set register d goes on with d set, its value taken modulo 2^64 (R66, R67). -/
theorem runLink_sets {f : LinkEffect} {v w : Nat} (h : s.atLink q op l x) (hn : x.hasNext)
    (h18 : (op == 0x18 && immN l == 0) = false)
    (hf : f q l (settings l op) x.counted (s.issuing q x) = (s.issuing q x).linkSets q l v)
    (hv : v % 2 ^ 64 = w % 2 ^ 64) :
    s.runLink op f q l = .next (s.linkTo q (x.wentOn l.d.toNat w)) := by
  rw [runLink_of_atLink f h, hf, linkSets_came s q op l _ x v hn h18, wentOn_congr _ _ _ _ hv]

theorem runLink_alu {f : Nat → Nat → Nat} {v : BitVec 64} (h : s.atLink q op l x) (hn : x.hasNext) (h18 : (op == 0x18) = false)
    (hv : f (x.r l.a.toNat) (x.r l.b.toNat) % 2 ^ 64 = v.toNat) :
    s.runLink op (alu f) q l = .next (s.linkTo q (x.wentOn l.d.toNat v.toNat)) :=
  runLink_sets h hn (by rw [h18, Bool.false_and]) rfl (by rw [Nat.mod_eq_of_lt v.isLt]; exact hv)

theorem runLink_aluSext {f : Nat → Nat → Nat} {v : BitVec 64} (h : s.atLink q op l x) (hn : x.hasNext) (h18 : (op == 0x18) = false)
    (hv : f (x.r l.a.toNat) (l.imm.signExtend 64).toNat % 2 ^ 64 = v.toNat) :
    s.runLink op (aluSext f) q l = .next (s.linkTo q (x.wentOn l.d.toNat v.toNat)) :=
  runLink_sets h hn (by rw [h18, Bool.false_and]) rfl (by rw [Nat.mod_eq_of_lt v.isLt]; exact hv)

theorem runLink_aluZext {f : Nat → Nat → Nat} {v : BitVec 64} (h : s.atLink q op l x) (hn : x.hasNext) (h18 : (op == 0x18) = false)
    (hv : f (x.r l.a.toNat) l.imm.toNat % 2 ^ 64 = v.toNat) :
    s.runLink op (aluZext f) q l = .next (s.linkTo q (x.wentOn l.d.toNat v.toNat)) :=
  runLink_sets h hn (by rw [h18, Bool.false_and]) rfl (by rw [Nat.mod_eq_of_lt v.isLt]; exact hv)

end

/-! ## The operations of R70 on words -/

section
variable (m n : Nat)

theorem sub64_eq : sub64 m n % 2 ^ 64 = (BitVec.ofNat 64 m - BitVec.ofNat 64 n).toNat := by
  simp only [sub64, BitVec.toNat_sub, BitVec.toNat_ofNat]
  omega

theorem shl64_eq : shl64 m n % 2 ^ 64 = (BitVec.ofNat 64 m <<< (n % 64)).toNat := by
  simp [shl64, BitVec.toNat_shiftLeft, Nat.shiftLeft_eq]

theorem shr64_eq : shr64 m n % 2 ^ 64 = (BitVec.ofNat 64 m >>> (n % 64)).toNat := by
  rw [shr64, BitVec.toNat_ushiftRight, BitVec.toNat_ofNat, Nat.shiftRight_eq_div_pow]
  exact Nat.mod_eq_of_lt (Nat.lt_of_le_of_lt (Nat.div_le_self _ _) (Nat.mod_lt _ (by decide)))

theorem sar64_eq : sar64 m n % 2 ^ 64 = ((BitVec.ofNat 64 m).sshiftRight (n % 64)).toNat :=
  Nat.mod_eq_of_lt (BitVec.isLt _)

theorem and_mod_eq : (m &&& n) % 2 ^ 64 = (BitVec.ofNat 64 m &&& BitVec.ofNat 64 n).toNat := by
  rw [BitVec.toNat_and, BitVec.toNat_ofNat, BitVec.toNat_ofNat, Nat.and_mod_two_pow]

theorem or_mod_eq : (m ||| n) % 2 ^ 64 = (BitVec.ofNat 64 m ||| BitVec.ofNat 64 n).toNat := by
  rw [BitVec.toNat_or, BitVec.toNat_ofNat, BitVec.toNat_ofNat, Nat.or_mod_two_pow]

theorem xor_mod_eq : (m ^^^ n) % 2 ^ 64 = (BitVec.ofNat 64 m ^^^ BitVec.ofNat 64 n).toNat := by
  rw [BitVec.toNat_xor, BitVec.toNat_ofNat, BitVec.toNat_ofNat, Nat.xor_mod_two_pow]

theorem slt64_eq_decide : slt64 m n = decide ((BitVec.ofNat 64 m).toInt < (BitVec.ofNat 64 n).toInt) :=
  BitVec.slt_eq_decide

/-- A flag as a register value. -/
theorem boolNat_mod_eq (c : Prop) [Decidable c] : boolNat (decide c) % 2 ^ 64 = (if c then 1 else 0 : BitVec 64).toNat := by
  by_cases h : c <;> simp [boolNat, h]

end

/-- Settles O1: the value of each operation. -/
theorem arithmeticLinks : Obligations.ArithmeticLinks := by
  unfold Obligations.ArithmeticLinks
  intro q l x s hn a b done
  have ha : a.toNat = x.r l.a.toNat := (BitVec.toNat_ofNat _ _).trans (Nat.mod_eq_of_lt (r_lt x _))
  have hb : b.toNat = x.r l.b.toNat := (BitVec.toNat_ofNat _ _).trans (Nat.mod_eq_of_lt (r_lt x _))
  refine ⟨?_, ?_, ?_, ?_, ?_, ?_, ?_, ?_, ?_, ?_, ?_, ?_, ?_, ?_⟩ <;> intro h <;>
    refine runLink_alu h hn rfl ?_
  case refine_1 => simp [a, b]
  case refine_2 => exact sub64_eq _ _
  case refine_3 => exact and_mod_eq _ _
  case refine_4 => exact or_mod_eq _ _
  case refine_5 => exact xor_mod_eq _ _
  case refine_6 => rw [hb]; exact shl64_eq _ _
  case refine_7 => rw [hb]; exact shr64_eq _ _
  case refine_8 => rw [hb]; exact sar64_eq _ _
  case refine_9 => simp [a, b]
  case refine_10 => rw [ha, hb]; exact (BitVec.toNat_ofNat _ _).symm
  case refine_11 => rw [slt64_eq_decide]; exact boolNat_mod_eq _
  case refine_12 => rw [ha, hb]; exact boolNat_mod_eq _
  case refine_13 =>
    rw [← ha, ← hb, min_def, ← apply_ite BitVec.toNat]
    exact Nat.mod_eq_of_lt (BitVec.isLt _)
  case refine_14 =>
    rw [← ha, ← hb, max_def, ← apply_ite BitVec.toNat]
    exact Nat.mod_eq_of_lt (BitVec.isLt _)

end Sys2Proof.Machine

namespace Sys2Proof.Machine

section
variable {s : State} {q : Nat} {l : Link} {x : Seq}

/-! ## What issuing a link leaves as it is -/

/-- Issuing a link changes the chain, the link counters and the steps asked for, and nothing else. -/
theorem issuing_frame (s : State) (q : Nat) (x : Seq) : ∃ steps loupe,
    s.issuing q x = { s with
      life := { s.life with steps := steps }, loupe := loupe,
      kex := { s.kex with seqs := SMap.ins s.kex.seqs q x.counted } } := by
  rw [issuing_eq, State.count_eq]
  unfold State.stepTaken
  split
  · exact ⟨_, _, rfl⟩
  · exact ⟨_, _, rfl⟩

@[simp] theorem issuing_unsure (s : State) (q : Nat) (x : Seq) : (s.issuing q x).unsure = s.unsure := by
  obtain ⟨_, _, h⟩ := issuing_frame s q x
  rw [h]
  rfl

/-- A write of a register changes the registers alone. -/
theorem setR_eq (x : Seq) (r v : Nat) :
    x.setR r v = { x with w := if r = 0 then x.w else SMap.put 0 x.w r (v % 2 ^ 64) } := by
  unfold Seq.setR
  split <;> rfl

/-- R68: `rdsp` with imm 0 latches the fraction. -/
theorem runLink_rdsp_latches (h : s.atLink q 0x18 l x) (hn : x.hasNext) (hi : immN l = 0) :
    s.runLink 0x18 rdspEffect q l =
      .next (s.linkTo q { (x.wentOn l.d.toNat s.secs) with latched := s.frac, after0 := true }) := by
  let y (s : State) : Seq := ({ x.counted with latched := s.frac } : Seq).setR l.d.toNat s.secs
  have hf : rdspEffect q l (settings l 0x18) x.counted (s.issuing q x) =
      (.next, ((s.stepTaken q).count 0x70 q 0).setSeq q (y (s.issuing q x))) := by
    simp only [rdspEffect, hi, State.linkSets, issuing_eq, State.modSeq_setSeq]
    rfl
  have hy : y (s.issuing q x) = y s := by simp only [y, State.frac, State.secs, issuing_time]
  have hpc : (y s).pc = x.pc := setR_pc _ _ _
  have hwords : (y s).words = x.words := setR_words _ _ _
  have hlw : (y s).linkWords = x.linkWords := setR_linkWords _ _ _
  rw [runLink_as h hf, hy, linkCame_next _ _ _ _ _ _ (setR_wait _ _ _) (by rw [hpc, hlw, hwords]; exact hn), hpc, hlw, hi]
  simp only [y, setR_eq, Seq.wentOn]
  rfl

end

/-- The constant of `ldk` with two setting words (Table 3.5). -/
theorem toNat_ldk (e e2 : BitVec 39) :
    (e2.extractLsb' 0 25 ++ e : BitVec 64).toNat = e.toNat + e2.toNat % 2 ^ 25 * 2 ^ 39 := by
  rw [BitVec.toNat_append, ← Nat.shiftLeft_add_eq_or_of_lt e.isLt, BitVec.extractLsb'_toNat, Nat.shiftRight_zero,
    Nat.shiftLeft_eq, Nat.add_comm]

/-- Settles O2. -/
theorem valueLinks : Obligations.ValueLinks := by
  unfold Obligations.ValueLinks
  intro q l x s hn a sext zext n done
  have hz : BitVec.ofNat 64 l.imm.toNat = zext := BitVec.ofNat_toNat _ _
  refine ⟨fun h => ?_, fun h => ?_, fun h => ?_, fun h => ?_, fun h => ?_, fun h => ?_, fun h => ?_, fun h he => ?_,
    fun e h he => ?_, fun e e2 h he => ?_, fun h hi => ?_, fun h hi => ?_, fun h hi => ?_, fun h hi => ?_, fun h => ?_,
    fun h => ?_⟩
  · refine runLink_aluSext h hn rfl ?_
    simp [a, sext]
  · refine runLink_aluZext h hn rfl ?_
    rw [and_mod_eq, hz]
  · refine runLink_aluZext h hn rfl ?_
    rw [or_mod_eq, hz]
  · refine runLink_aluZext h hn rfl ?_
    rw [xor_mod_eq, hz]
  · exact runLink_aluZext h hn rfl (shl64_eq _ _)
  · exact runLink_aluZext h hn rfl (shr64_eq _ _)
  · exact runLink_aluZext h hn rfl (sar64_eq _ _)
  · exact runLink_sets h hn rfl rfl (by simp only [ldkValue, he, sext])
  · exact runLink_sets h hn rfl rfl (by simp only [ldkValue, he])
  · exact runLink_sets h hn rfl rfl (by simp only [ldkValue, he, toNat_ldk])
  · exact runLink_rdsp_latches h hn (by simp [immN, hi])
  · exact runLink_sets h hn (by simp [immN, hi]) (by simp [rdspEffect, immN, hi, State.frac]; rfl) rfl
  · exact runLink_sets h hn (by simp [immN, hi]) (by simp [rdspEffect, immN, hi, State.epoch]) rfl
  · exact runLink_sets h hn (by simp [immN, hi]) (by simp [rdspEffect, immN, hi]) rfl
  · refine runLink_sets h hn rfl rfl ?_
    simp only [issuing_fld, issuing_unsure, boolNat, ite_mul, one_mul, zero_mul]
  · exact runLink_sets h hn rfl rfl rfl

end Sys2Proof.Machine

namespace Sys2Proof.Machine

/-! ## Branches -/

/-- A branch whose words are legal leads to the start of a link (R66, R90). -/
theorem marked_of_badWord_none {starts : List Nat} {i op : Nat} {l : Link} (h : badWord starts i op l = none)
    (hop : isBranch op = true) : marked starts (branchTo i l) = true := by
  unfold badWord at h
  by_contra hm
  have hbad : badFirst starts i op l (linkSets l op).2 = true := by
    rw [badFirst, Bool.or_eq_true]
    exact .inr (by simp [hop, hm])
  simp [hbad] at h

section
variable {s : State} {q op : Nat} {l : Link} {x : Seq} {t : Nat}

/-- The target of a branch as a word index. -/
theorem branchTo_eq {i : Nat} (ht : (t : Int) = i + l.imm.toInt) : branchTo i l = t := ht.symm

/-- A link that leaves the state as it is and jumps to word t of the image. -/
theorem runLink_jumps {f : LinkEffect} (h : s.atLink q op l x) (h18 : (op == 0x18) = false) (ht : t < x.words.length)
    (hf : f q l (settings l op) x.counted (s.issuing q x) = (.jump t, s.issuing q x)) :
    s.runLink op f q l = .next (s.linkTo q { x.counted with pc := t, after0 := false }) := by
  rw [runLink_as h hf, issuing_eq, linkCame_jump _ _ _ _ _ x.counted _ rfl ht, h18]
  rfl

/-- A link that leaves the state as it is and goes on. -/
theorem runLink_goesOn {f : LinkEffect} (h : s.atLink q op l x) (h18 : (op == 0x18) = false) (hn : x.hasNext)
    (hf : f q l (settings l op) x.counted (s.issuing q x) = (.next, s.issuing q x)) :
    s.runLink op f q l = .next (s.linkTo q { x.counted with pc := x.pc + x.linkWords, after0 := false }) := by
  rw [runLink_as h hf, issuing_eq, linkCame_next _ _ _ _ _ x.counted rfl hn, h18]
  rfl

/-- A branch goes to its target or to the next link (R66). -/
theorem runLink_branchIf {c : Nat → Nat → Bool} {p : Prop} [Decidable p] (h : s.atLink q op l x) (hn : x.hasNext)
    (hop : isBranch op = true) (h18 : (op == 0x18) = false) (ht : t < x.words.length)
    (hto : (t : Int) = x.pc + l.imm.toInt) (hc : c (x.r l.a.toNat) (x.r l.b.toNat) = decide p) :
    s.runLink op (branchIf c) q l =
      .next (s.linkTo q { x.counted with pc := if p then t else x.pc + x.linkWords, after0 := false }) := by
  have ⟨_, _, _, _, _, hb, _, _⟩ := h
  have hm := marked_of_badWord_none hb hop
  rw [branchTo_eq hto] at hm
  have hf : branchIf c q l (settings l op) x.counted (s.issuing q x) =
      if p then (.jump t, s.issuing q x) else (.next, s.issuing q x) := by
    simp only [branchIf, counted_pc, counted_starts, counted_r, branchTo_eq hto, hm, hc, not_true_eq_false, if_false,
      decide_eq_true_eq, Int.toNat_natCast]
  by_cases hp : p
  · rw [if_pos hp] at hf ⊢
    exact runLink_jumps h h18 ht hf
  · rw [if_neg hp] at hf ⊢
    exact runLink_goesOn h h18 hn hf

/-- `call` gives d the index of the next link (R66). -/
theorem runLink_call (h : s.atLink q 0x27 l x) (ht : t < x.words.length) (hto : (t : Int) = x.pc + l.imm.toInt) :
    s.runLink 0x27 callEffect q l =
      .next (s.linkTo q { (x.wentOn l.d.toNat (x.pc + x.linkWords)) with pc := t }) := by
  have ⟨_, _, _, _, _, hb, _, _⟩ := h
  have hm := marked_of_badWord_none hb rfl
  rw [branchTo_eq hto] at hm
  have hf : callEffect q l (settings l 0x27) x.counted (s.issuing q x) =
      (.jump t, ((s.stepTaken q).count 0x70 q 0).setSeq q (x.counted.setR l.d.toNat (x.pc + x.linkWords))) := by
    simp only [callEffect, counted_pc, counted_starts, counted_linkWords, branchTo_eq hto, hm, not_true_eq_false, if_false,
      Int.toNat_natCast, issuing_eq, State.modSeq_setSeq]
  rw [runLink_as h hf, linkCame_jump _ _ _ _ _ _ _ (setR_wait _ _ _) (by rwa [setR_words])]
  rfl

end

/-- Settles O3: the conditions of the branches, and the two links that jump always. -/
theorem branchLinks : Obligations.BranchLinks := by
  unfold Obligations.BranchLinks
  intro q l x s t hn ht a b at_
  have ha : a.toNat = x.r l.a.toNat := (BitVec.toNat_ofNat _ _).trans (Nat.mod_eq_of_lt (r_lt x _))
  have hb : b.toNat = x.r l.b.toNat := (BitVec.toNat_ofNat _ _).trans (Nat.mod_eq_of_lt (r_lt x _))
  have heq : (a = b) ↔ x.r l.a.toNat = x.r l.b.toNat := by rw [← ha, ← hb, BitVec.toNat_inj]
  refine ⟨fun hto => ?_, fun h hr hmem => ?_⟩
  · refine ⟨fun h => ?_, fun h => ?_, fun h => ?_, fun h => ?_, fun h => ?_, fun h => ?_, fun h => ?_, fun h => ?_⟩
    case refine_8 => exact runLink_call h ht hto
    all_goals refine runLink_branchIf h hn rfl rfl ht hto ?_
    case refine_1 => exact (beq_eq_decide _ _).trans (decide_eq_decide.mpr heq.symm)
    case refine_2 => exact (bne_iff_ne.trans (not_congr heq.symm)).trans (decide_eq_true_iff.symm) |> Bool.eq_iff_iff.mpr
    case refine_3 => exact slt64_eq_decide _ _
    case refine_4 => rw [slt64_eq_decide, ← decide_not]; exact decide_eq_decide.mpr Int.not_lt
    case refine_5 => rw [ha, hb]
    case refine_6 => rw [ha, hb]
    case refine_7 => rfl
  · have hf : jrEffect q l (settings l 0x28) x.counted (s.issuing q x) = (.jump t, s.issuing q x) := by
      simp [jrEffect, hr, hmem]
    exact runLink_jumps h rfl ht hf

/-! ## The local store -/

/-- The address of a load or store, as the words give it. -/
theorem storeAddr_eq (x : Seq) (l : Link) :
    x.storeAddr l = (BitVec.ofNat 64 (x.r l.a.toNat) + l.imm.signExtend 64).toNat := by
  rw [Seq.storeAddr, BitVec.toNat_add, BitVec.toNat_ofNat, Nat.mod_add_mod]

theorem storeOk_iff {a n : Nat} : storeOk a n = true ↔ a % n = 0 ∧ a + n ≤ 262144 := by
  rw [storeOk, inStore, storeSize, Bool.and_eq_true, decide_eq_true_eq, beq_iff_eq, and_comm]

section
variable {s : State} {q op : Nat} {l : Link} {x : Seq} (n : Nat)

theorem runLink_load (h : s.atLink q op l x) (hn : x.hasNext) (hd : isData op = false) (h18 : (op == 0x18) = false) :
    let e := (BitVec.ofNat 64 (x.r l.a.toNat) + l.imm.signExtend 64).toNat
    s.runLink op (loadEffect n) q l =
      if e % n = 0 ∧ e + n ≤ 262144 then .next (s.linkTo q (x.wentOn l.d.toNat (leNat (x.bytes e n))))
      else .next ((s.issuing q x).linkCame q op l false .illegal) := by
  intro e
  have hf : loadEffect n q l (settings l op) x.counted (s.issuing q x) =
      if storeOk e n then (s.issuing q x).linkSets q l (leNat (x.bytes e n)) else (.illegal, s.issuing q x) := by
    rw [show e = x.storeAddr l from (storeAddr_eq x l).symm]
    rfl
  by_cases he : storeOk e n = true
  · rw [if_pos he] at hf
    rw [if_pos (storeOk_iff.mp he)]
    exact runLink_sets h hn (by rw [h18, Bool.false_and]) hf rfl
  · rw [if_neg he] at hf
    rw [if_neg (mt storeOk_iff.mpr he), runLink_sync h hd hf]

theorem runLink_store (h : s.atLink q op l x) (hn : x.hasNext) (hd : isData op = false) (h18 : (op == 0x18) = false) :
    let e := (BitVec.ofNat 64 (x.r l.a.toNat) + l.imm.signExtend 64).toNat
    s.runLink op (storeEffect n) q l =
      if e % n = 0 ∧ e + n ≤ 262144 then
        .next (s.linkTo q { (x.counted.putBytes e (leBytes n (x.r l.b.toNat))) with
          pc := x.pc + x.linkWords, after0 := false })
      else .next ((s.issuing q x).linkCame q op l false .illegal) := by
  intro e
  let y := x.counted.putBytes e (leBytes n (x.r l.b.toNat))
  have hf : storeEffect n q l (settings l op) x.counted (s.issuing q x) =
      if storeOk e n then (.next, ((s.stepTaken q).count 0x70 q 0).setSeq q y) else (.illegal, s.issuing q x) := by
    simp only [storeEffect, issuing_eq, State.modSeq_setSeq, y, show e = x.storeAddr l from (storeAddr_eq x l).symm]
    rfl
  by_cases he : storeOk e n = true
  · rw [if_pos he] at hf
    rw [if_pos (storeOk_iff.mp he), runLink_as h hf, linkCame_next _ _ _ _ _ y rfl hn, h18]
    rfl
  · rw [if_neg he] at hf
    rw [if_neg (mt storeOk_iff.mpr he), runLink_sync h hd hf]

end

/-- Settles O4. -/
theorem localStoreLinks : Obligations.LocalStoreLinks := by
  unfold Obligations.LocalStoreLinks
  intro q l x s hn e load store
  exact ⟨fun h => runLink_load 8 h hn rfl rfl, fun h => runLink_load 4 h hn rfl rfl, fun h => runLink_load 1 h hn rfl rfl,
    fun h => runLink_store 8 h hn rfl rfl, fun h => runLink_store 4 h hn rfl rfl, fun h => runLink_store 1 h hn rfl rfl⟩

end Sys2Proof.Machine

/-! O5, O6: what a link comes to (R65, R74 to R77), and the links that wait (R75, R76, R79). -/

namespace Sys2Proof.Machine

section
variable {s : State} {q op : Nat} {l : Link} {y : Seq}

/-- Inside the image a chain goes on to the next link (R66). -/
theorem goOn_of_hasNext (hn : y.hasNext) :
    s.goOn q y = s.setSeq q { y with pc := y.pc + y.linkWords, wait := none } :=
  if_neg (Nat.not_le.mpr hn)

/-- A status goes to register d and the chain goes on, but for the two that end it (R77). -/
theorem linkEnds_of_hasNext {d : Nat} {st : Status} (hn : y.hasNext) (hi : st ≠ .illegalLink) (hx : st ≠ .internal) :
    s.linkEnds q y d st = s.setSeq q { y.setR d st.code with pc := y.pc + y.linkWords, wait := none } := by
  have hn' : (y.setR d st.code).hasNext := by
    unfold Seq.hasNext
    rw [setR_pc, setR_linkWords, setR_words]
    exact hn
  rw [State.linkEnds, if_neg (not_or.mpr ⟨hi, hx⟩), goOn_of_hasNext hn', setR_pc, setR_linkWords]

theorem linkEnds_of_ending {d : Nat} {st : Status} (h : st = .illegalLink ∨ st = .internal) :
    s.linkEnds q y d st = s.chainEnd q y st := if_pos h

/-- What a link came to is settled with the chain as the link left it. -/
theorem linkCame_setSeq (a : Bool) (out : LinkOut) :
    (s.setSeq q y).linkCame q op l a out =
      ((s.setSeq q { y with after0 := op == 0x18 && immN l == 0 }).settleLink q op l a out).serve := by
  rw [State.linkCame, State.modSeq_setSeq]

end

/-- Settles O5. -/
theorem linkOutcomes : Obligations.LinkOutcomes := by
  unfold Obligations.LinkOutcomes
  intro q op l y s hn hw z
  have hz : z.hasNext := hn
  simp only [linkCame_setSeq]
  simp only [State.settleLink, State.seq_setSeq]
  refine ⟨fun st hi hx => ?_, fun st h => ?_, fun w => ?_, fun _ => ?_, fun _ => ?_, fun _ _ => ?_⟩
  · rw [if_neg (by decide), linkEnds_of_hasNext hz hi hx, State.setSeq_setSeq, setR_eq, ← hw]
    rfl
  · rw [if_neg (by decide), linkEnds_of_ending h]
  · have hb : ((z.addAsync w).setR l.d.toNat Status.busy.code).hasNext := by
      rw [setR_eq]
      exact hz
    rw [if_pos trivial, goOn_of_hasNext hb, State.setSeq_setSeq, setR_eq, ← hw]
    rfl
  · rw [State.setSeq_setSeq]
  · rfl
  · rfl

/-! ## A link that waits -/

section
variable {s : State} {q d : Nat} {y : Seq} {w : WaitFor}

/-- The chain y on sequencer q waits with its link for w and nothing else: it runs, and no asynchronous operation is kept. -/
structure Waits (s : State) (q : Nat) (y : Seq) (d : Nat) (w : WaitFor) : Prop where
  seq : s.seq? q = some y
  runs : ¬ (y.stopped = true ∨ y.aborted = true)
  asyncs : y.asyncs = []
  wait : y.wait = some ⟨d, w⟩

theorem linkReturn_sync (h : Waits s q y d .sync) : s.linkReturn q = s.linkEnds q y d .ok := by
  obtain ⟨hq, hr, ha, hw⟩ := h
  have hy : ({ y with asyncs := [] } : Seq) = y := by rw [← ha]
  simp only [State.linkReturn, hq, if_neg hr, ha, State.lookAsyncs, hy]
  rw [hw]
  simp [Seq.openAsyncs, Seq.summary, ha]

theorem linkReturn_halt {st : Status} (h : Waits s q y d (.halt st)) : s.linkReturn q = s.chainEnd q y st := by
  obtain ⟨hq, hr, ha, hw⟩ := h
  simp [State.linkReturn, hq, hr, ha, State.lookAsyncs, hw, Seq.openAsyncs]

section
variable (h : Waits s q y d w) (hsync : w ≠ .sync) (hhalt : ∀ st, w ≠ .halt st) {w' : WaitFor}
  (hl : s.look q y w = (w', s))
include h hsync hhalt hl

/-- A wait other than those of `sync` and `halt` ends its link with the status that a look at it finds. -/
theorem linkReturn_of_ready {st : Status} (hst : w'.status? = some st) : s.linkReturn q = s.linkEnds q y d st := by
  obtain ⟨hq, hr, ha, hw⟩ := h
  have hla : s.lookAsyncs q y.asyncs = s := by rw [ha]; rfl
  simp only [State.linkReturn, hq, if_neg hr, hla]
  split
  next e => cases hw.symm.trans e
  next e => cases hw.symm.trans e; exact absurd rfl hsync
  next e => cases hw.symm.trans e; exact absurd rfl (hhalt _)
  next e => cases hw.symm.trans e; simp only [hl, hq, hst]

theorem linkReturn_of_waiting (hst : w'.status? = none) :
    s.linkReturn q = s.setSeq q { y with wait := some ⟨d, w'⟩ } := by
  obtain ⟨hq, hr, ha, hw⟩ := h
  have hla : s.lookAsyncs q y.asyncs = s := by rw [ha]; rfl
  simp only [State.linkReturn, hq, if_neg hr, hla]
  split
  next e => cases hw.symm.trans e
  next e => cases hw.symm.trans e; exact absurd rfl hsync
  next e => cases hw.symm.trans e; exact absurd rfl (hhalt _)
  next e => cases hw.symm.trans e; simp only [hl, hq, hst]

end

end

section
variable {s : State} {q op : Nat} {l : Link} {x : Seq}

@[simp] theorem counted_instant (p : Nat) : x.counted.instant p = x.instant p := rfl

/-- A link that waits, synchronous: what stands when its chain has taken the wait. -/
theorem runLink_waits {f : LinkEffect} {w : WaitFor} (h : s.atLink q op l x) (hd : isData op = false)
    (h18 : (op == 0x18) = false) (ha : x.asyncs = [])
    (hf : f q l (settings l op) x.counted (s.issuing q x) = (.wait w, s.issuing q x)) :
    let y : Seq := { x.counted with wait := some ⟨l.d.toNat, w⟩, after0 := false }
    let t := ((s.stepTaken q).count 0x70 q 0).setSeq q y
    Waits t q y l.d.toNat w ∧ s.runLink op f q l = .next (t.linkReturn q).serve := by
  intro y t
  have ⟨_, _, hm, _⟩ := h
  simp only [State.mayIssue, Bool.and_eq_true, Bool.not_eq_true'] at hm
  obtain ⟨⟨⟨⟨_, haborted⟩, hstopped⟩, _⟩, _⟩ := hm
  refine ⟨⟨State.seq_setSeq _ _ _, ?_, ha, rfl⟩, ?_⟩
  · simp [y, Seq.counted, haborted, hstopped]
  · rw [runLink_sync h hd hf, issuing_eq, linkCame_setSeq, h18]
    simp only [State.settleLink, State.seq_setSeq, State.setSeq_setSeq]
    rfl

/-- A chain that waited goes on with its status (R66, R67, R77). -/
theorem linkEnds_waits (hn : x.hasNext) {t : State} {w : WaitFor} {st : Status} (hi : st ≠ .illegalLink)
    (hx : st ≠ .internal) :
    (t.setSeq q { x.counted with wait := some ⟨l.d.toNat, w⟩, after0 := false }).linkEnds q
        { x.counted with wait := some ⟨l.d.toNat, w⟩, after0 := false } l.d.toNat st =
      t.setSeq q (x.wentOn l.d.toNat st.code) := by
  have h := linkEnds_of_hasNext (s := t.setSeq q { x.counted with wait := some ⟨l.d.toNat, w⟩, after0 := false })
    (q := q) (y := { x.counted with wait := some ⟨l.d.toNat, w⟩, after0 := false }) (d := l.d.toNat) hn hi hx
  rw [h, State.setSeq_setSeq, Seq.wentOn, setR_eq, setR_eq]
  rfl

/-- A wait that a look finds over when the link issues (R74, R76). -/
theorem runLink_ready {f : LinkEffect} {w : WaitFor} {st : Status} (h : s.atLink q op l x) (hd : isData op = false)
    (h18 : (op == 0x18) = false) (hn : x.hasNext) (ha : x.asyncs = [])
    (hf : f q l (settings l op) x.counted (s.issuing q x) = (.wait w, s.issuing q x)) (hsync : w ≠ .sync)
    (hhalt : ∀ st, w ≠ .halt st) (hi : st ≠ .illegalLink) (hx : st ≠ .internal)
    (hl : ∀ y : Seq, y.wrote = x.wrote → 
      (((s.stepTaken q).count 0x70 q 0).setSeq q y).look q y w = (.ready st, ((s.stepTaken q).count 0x70 q 0).setSeq q y)) :
    s.runLink op f q l = .next (s.linkTo q (x.wentOn l.d.toNat st.code)) := by
  obtain ⟨hwaits, hrun⟩ := runLink_waits h hd h18 ha hf
  rw [hrun, linkReturn_of_ready hwaits hsync hhalt (hl _ rfl) rfl, linkEnds_waits hn hi hx]
  rfl

end

/-- Settles O6. -/
theorem waitingLinks : Obligations.WaitingLinks := by
  unfold Obligations.WaitingLinks
  intro q l x s hn ha d done
  have hsealed (y : Seq) (e : Nat) : (((s.stepTaken q).count 0x70 q 0).setSeq q y).isSealed e = s.isSealed e := by
    simp [State.isSealed]
  have hunsure (y : Seq) : (((s.stepTaken q).count 0x70 q 0).setSeq q y).unsure = s.unsure := by
    simp [State.unsure]
  have hsingle (y : Seq) : (((s.stepTaken q).count 0x70 q 0).setSeq q y).single = s.single := by
    simp [State.single]
  refine ⟨fun h => ?_, fun h hw => ?_, fun h ht hu => ?_, fun h ht hu => ?_, fun h ht => ?_, fun h he hs => ?_,
    fun h he hs => ?_, fun st h hst hk => ?_⟩
  · obtain ⟨hwaits, hrun⟩ := runLink_waits (f := syncEffect) h rfl rfl ha rfl
    refine hrun.trans ?_
    rw [linkReturn_sync hwaits, linkEnds_waits hn (by decide) (by decide)]
    rfl
  · refine runLink_ready h rfl rfl hn ha rfl nofun nofun (by decide) (by decide) fun y hy => ?_
    simp [State.look, hy, hw, State.levelOf]
  · refine runLink_ready h rfl rfl hn ha rfl nofun nofun (by decide) (by decide) fun y hy => ?_
    simp [State.look, ht, hu, hunsure]
  · refine runLink_ready h rfl rfl hn ha rfl nofun nofun (by decide) (by decide) fun y hy => ?_
    simp [State.look, ht, hu, hunsure]
  · obtain ⟨hwaits, hrun⟩ := runLink_waits (f := awaitEffect) h rfl rfl ha rfl
    refine hrun.trans ?_
    rw [linkReturn_of_waiting hwaits nofun nofun (w' := .await (x.instant l.a.toNat)) ?_ rfl, State.setSeq_setSeq]
    · rfl
    · simp [State.look, ht]
  · refine runLink_ready h rfl rfl hn ha rfl nofun nofun (by decide) (by decide) fun y hy => ?_
    simp only [State.look, counted_r, hsealed, he, if_true, hsingle, hs]
    rfl
  · refine runLink_ready h rfl rfl hn ha rfl nofun nofun (by decide) (by decide) fun y hy => ?_
    simp only [State.look, counted_r, hsealed, he, if_true, hsingle, hs]
  · have hf : haltEffect q l (settings l 0x7C) x.counted (s.issuing q x) = (.wait (.halt st), s.issuing q x) := by
      simp [haltEffect, hst, hk]
    obtain ⟨hwaits, hrun⟩ := runLink_waits h rfl rfl ha hf
    refine hrun.trans ?_
    rw [linkReturn_halt hwaits]

end Sys2Proof.Machine

/-! O7: the links that move data (R72, R74, R170, R177). A link whose window stage is passed is told by its effect alone. -/

namespace Sys2Proof.Machine

/-! ## The chain that a link counts keeps what its effect reads -/

section
variable (x : Seq)

@[simp] theorem counted_key (p : Nat) : x.counted.key p = x.key p := rfl
@[simp] theorem counted_off (p : Nat) : x.counted.off p = x.off p := rfl
@[simp] theorem counted_length (l : Link) (t : Sets) : x.counted.length l t = x.length l t := rfl
@[simp] theorem counted_levelOf (t : Sets) : x.counted.levelOf t = x.levelOf t := rfl
@[simp] theorem counted_bytes (a n : Nat) : x.counted.bytes a n = x.bytes a n := rfl
@[simp] theorem counted_ring : x.counted.ring = x.ring := rfl
@[simp] theorem counted_level : x.counted.level = x.level := rfl
@[simp] theorem counted_chain : x.counted.chain = x.chain := rfl
@[simp] theorem counted_nextAsync : x.counted.nextAsync = x.nextAsync := rfl
@[simp] theorem counted_openAsyncs : x.counted.openAsyncs = x.openAsyncs := rfl

end

/-! ## The window stage of a link (R151) -/

section
variable {w : State} {q key : Nat}

theorem winGate_of_ready (h : w.winReady (keyIdx key) = true) : w.winGate q key = (true, w.winTouch (keyIdx key)) :=
  if_pos h

theorem winGate_of_cached (h : w.winCached (keyIdx key) = true) : w.winGate q key = (true, w.winTouch (keyIdx key)) :=
  winGate_of_ready (by rw [State.winReady, h, Bool.true_or])

theorem winGate_of_unready (h : w.winReady (keyIdx key) = false)
    (hw : w.wins.waiting.contains (keyIdx key, .link q) = false) :
    w.winGate q key = (false, w.winWait (keyIdx key) (.link q)) := by
  simp only [State.winGate, State.winAsk, h, hw, Bool.false_eq_true, if_false]

theorem inStore_of_le {a n : Nat} (h : a + n ≤ 262144) : inStore a n = true := decide_eq_true h

theorem inStore_of_lt {a n : Nat} (h : 262144 < a + n) : inStore a n = false := decide_eq_false (Nat.not_le.mpr h)

/-- The lengths and addresses of the local store that `put` and `get` take (R72). -/
theorem rangeOk {a n : Nat} (h1 : 1 ≤ n) (h2 : n ≤ 65536) (h : a + n ≤ 262144) :
    ¬ (n = 0 ∨ 65536 < n ∨ ¬ inStore a n = true) := by
  rw [inStore_of_le h]
  simp
  omega

theorem ctrlForm_ok {a at_ n : Nat} (ha : a % 8 = 0) (hn : n % 8 = 0) (h1 : 8 ≤ n) (h2 : n ≤ 512) (h : at_ + n ≤ 262144) :
    ¬ (¬ ctrlOk a n = true ∨ ¬ inStore at_ n = true) := by
  simp [ctrlOk, inStore_of_le h, ha, hn, h1, h2]

end

/-- A part of a fill that passes its check goes to its target, eight lines at most (R156, R170). -/
theorem fillOn_of_check {j : FillJob} {y : State} {e : Desc × Target} (hk : j.k < j.n)
    (h : y.winCheck .chain .write j.key j.off (64 * j.n) true = .ok e) :
    let m := min 8 (j.n - j.k)
    let bs := (List.range (8 * m)).flatMap (fun _ => leBytes 8 j.value)
    y.fillOn j = (.fill { j with k := j.k + m }, ((y.winTold (.ok e)).putTarget .chain j.wr e.2 (64 * j.k) bs j.key).modOp
      j.wr (fun o => { o with issued := o.issued || decide (j.k + m = j.n) })) := by
  simp only [State.fillOn, if_neg hk.ne, h]

/-- Settles O7: each clause is the effect of its link in the state that issues it. -/
theorem dataLinks : Obligations.DataLinks := by
  unfold Obligations.DataLinks
  refine ⟨?_, ?_⟩
  · intro q l x s d off
    dsimp only
    refine ⟨?_, ?_, ?_, fun j y e => fillOn_of_check, ?_, ?_, ?_, ?_, ?_, ?_⟩
    · rintro t n rfl rfl h ⟨hctl, hseal, hrem⟩ h1 h2 hst hc hv
      refine runLink_as h ?_
      simp only [putEffect, counted_length, counted_r, counted_key, counted_off, counted_levelOf, counted_bytes, hctl,
        hseal, hrem, Bool.false_eq_true, if_false, if_true, Nat.add_zero, if_neg (rangeOk h1 h2 hst), winGate_of_cached hc,
        hv, State.putBytes?]
      rfl
    · rintro t n rfl rfl h ⟨hctl, hseal, hrem⟩ h1 h2 hst hc hv
      refine runLink_as h ?_
      simp only [getEffect, counted_length, counted_r, counted_key, counted_off, hctl, hseal, hrem, Bool.false_eq_true,
        if_false, if_true, Nat.add_zero, if_neg (rangeOk h1 h2 hst), winGate_of_cached hc, hv, Sets.sealSlot]
      rfl
    · rintro t n rfl rfl h h1 h2 hc hv
      refine runLink_as h ?_
      have hok : ¬ (x.length l (settings l 0x43) = 0 ∨ 131071 < x.length l (settings l 0x43)) := by omega
      simp only [fillEffect, counted_length, counted_r, counted_key, counted_off, counted_levelOf, if_neg hok,
        winGate_of_cached hc, hv]
      rfl
    · rintro t n rfl rfl h hrem h1 hc hv
      refine runLink_as h ?_
      simp only [atomEffect, counted_r, counted_key, counted_off, counted_levelOf, hrem, if_neg (Nat.not_lt.mpr h1),
        winGate_of_cached hc, hv]
      rfl
    · rintro t n dev rfl rfl h hctl hseal hrem h1 h2 hst
      let r := (s.issuing q x).newOp (.link q x.pc) .control (x.levelOf (settings l 0x40)) 0
      let m := r.2.sendRemote r.1 dev 0x01 ⟨x.key l.a.toNat, x.length l (settings l 0x40), x.off l.a.toNat, 0,
        x.levelOf (settings l 0x40), 0, 0⟩ (x.bytes (x.r l.b.toNat) (x.length l (settings l 0x40)))
      have hf : putEffect q l (settings l 0x40) x.counted (s.issuing q x) =
          if m.1 then (.wait (.op r.1 none), m.2.wrote q r.1 (x.key l.a.toNat))
          else (.status .qpFlushed, m.2.endOp r.1) := by
        simp only [putEffect, counted_length, counted_r, counted_key, counted_off, counted_levelOf, counted_bytes, hctl,
          hseal, hrem, Bool.false_eq_true, if_false, if_true, Nat.add_zero, if_neg (rangeOk h1 h2 hst), State.putBytes?]
        rfl
      by_cases hm : m.1 = true
      · rw [if_pos hm] at hf
        exact (runLink_as h hf).trans (if_pos hm).symm
      · rw [if_neg hm] at hf
        exact (runLink_as h hf).trans (if_neg hm).symm
    · rintro t n rfl rfl h hctl hbad
      refine runLink_as h ?_
      have hbad' : x.length l (settings l 0x40) = 0 ∨ 65536 < x.length l (settings l 0x40) ∨
          ¬ inStore (x.r l.b.toNat) (x.length l (settings l 0x40)) = true := by
        rcases hbad with hbad | hbad | hbad
        · exact .inl hbad
        · exact .inr (.inl hbad)
        · exact .inr (.inr (by rw [inStore_of_lt hbad]; exact Bool.false_ne_true))
      simp only [putEffect, counted_length, counted_r, hctl, Bool.false_eq_true, if_false]
      exact if_pos hbad'
    · rintro t n rfl rfl h hctl ha hn h1 h2 hst
      refine runLink_as h ?_
      simp only [putEffect, counted_length, counted_r, counted_bytes, hctl, if_true]
      exact if_neg (ctrlForm_ok ha hn h1 h2 hst)
    · rintro t n rfl rfl h hctl ha hn h1 h2 hst
      refine runLink_as h ?_
      simp only [getEffect, counted_length, counted_r, hctl, if_true]
      exact if_neg (ctrlForm_ok ha hn h1 h2 hst)
    · rintro t n rfl rfl h ⟨hctl, hseal, hrem⟩ h1 h2 hst hr hw
      refine runLink_as h ?_
      simp only [putEffect, counted_length, counted_r, counted_key, hctl, hrem, Bool.false_eq_true, if_false,
        if_neg (rangeOk h1 h2 hst), winGate_of_unready hr hw]
  · rintro q l x s t n d e src dst rfl rfl h hseal hrem h1 h2
    dsimp only
    intro hcs hcd hvd hvs u hu
    refine runLink_as h ?_
    have hok : ¬ (x.length l (settings l 0x42) = 0 ∨ 131071 < x.length l (settings l 0x42)) := by omega
    simp only [copyEffect, counted_length, counted_key, counted_off, counted_levelOf, hseal, hrem, if_neg hok,
      winGate_of_cached hcs, winGate_of_cached hcd, Option.isSome_none, Bool.false_eq_true, if_false, CopyJob.dstLen,
      CopyJob.srcLen, zero_ne_one, OfNat.zero_ne_ofNat, Nat.add_zero, hvd, hvs, State.linkOp, counted_pc, Target.kindOf,
      CopyJob.whole, bne_self_eq_false, Bool.or_self, hu]

end Sys2Proof.Machine

/-! O8 to O12: links that act on other units (Table 3.5). Each clause is the effect of its link in the state that issues it. -/

namespace Sys2Proof.Machine

@[simp] theorem issuing_tiers (s : State) (q : Nat) (x : Seq) : (s.issuing q x).tiers = s.tiers := by simp [State.issuing]

/-- Settles O8. -/
theorem windowAndTwinLinks : Obligations.WindowAndTwinLinks := by
  unfold Obligations.WindowAndTwinLinks
  intro q l x s
  dsimp only
  refine ⟨fun h hst hw => ?_, fun h ht hs hk hr => ?_, fun h ht hs hk => ?_, fun h ht => ?_,
    fun h hst ht hd => ?_, fun h hst ht hd => ?_, fun h => ?_⟩
  · split
    all_goals
      next hop =>
      refine runLink_sync h rfl ?_
      simp only [wopenEffect, counted_r, counted_bytes, counted_ring, inStore_of_le hst, hw, not_true_eq_false,
        Bool.false_eq_true, if_false, hop]
  · refine runLink_sync h rfl ?_
    simp only [wrevokeEffect, counted_r, ht, State.revoke, hs, hk, hr, Bool.false_eq_true, not_true_eq_false, or_self,
      if_false]
  · refine runLink_sync h rfl ?_
    simp only [wrevokeEffect, counted_r, ht, State.revoke, hs, hk, Bool.false_eq_true, not_true_eq_false, not_false_eq_true,
      true_or, if_true, if_false]
  · refine runLink_sync h rfl ?_
    simp only [wrevokeEffect, counted_r, ht, if_true]
  · refine runLink_sync h rfl ?_
    simp only [wqueryEffect, counted_r, inStore_of_le hst, ht, State.queryDesc, hd, not_true_eq_false, Bool.false_eq_true,
      if_false]
  · refine runLink_sync h rfl ?_
    simp only [wqueryEffect, counted_r, inStore_of_le hst, ht, State.queryDesc, hd, not_true_eq_false, Bool.false_eq_true,
      if_false, if_true]
    rfl
  · exact runLink_sync h rfl rfl

/-- Settles O9. -/
theorem tierLinks : Obligations.TierLinks := by
  unfold Obligations.TierLinks
  intro q l x s u
  dsimp only
  refine ⟨fun h hl hst hr ht => ?_, fun st h hl hst hr hok ht => ?_, fun st hl hs ht => ?_, fun h tier hl hs ht => ?_,
    fun i h hl ha hh hr hp => ?_, fun i h hl ha hh hr => ?_, fun words hw hl hs hst hr hc ho hq => ?_,
    fun words hw hl hst hr hc ho => ?_, fun o hl ho hq hc => ?_, fun hl ho => ?_⟩
  · refine runLink_sync hl rfl ?_
    simp only [tloadEffect, counted_r, counted_bytes, counted_ring, inStore_of_le hst, not_true_eq_false, if_false,
      winGate_of_ready hr, ht]
  · refine runLink_sync hl rfl ?_
    simp only [tloadEffect, counted_r, counted_bytes, counted_ring, inStore_of_le hst, not_true_eq_false, if_false,
      winGate_of_ready hr, ht]
  · refine runLink_sync hl rfl ?_
    simp only [tpromoteEffect, hs, noSets, counted_r, counted_ring, Option.isSome_none, Bool.false_eq_true, if_false, ht]
  · refine runLink_sync hl rfl ?_
    simp only [tpromoteEffect, hs, noSets, counted_r, counted_ring, Option.isSome_none, Bool.false_eq_true, if_false, ht,
      Option.map_none]
  · refine runLink_sync hl rfl ?_
    simp only [tevictEffect, counted_openAsyncs, counted_r, counted_ring, counted_chain, counted_nextAsync,
      if_neg (Nat.not_le.mpr ha), State.tevict, hh, hr, hp]
    rfl
  · refine runLink_sync hl rfl ?_
    simp only [tevictEffect, counted_openAsyncs, counted_r, counted_ring, counted_chain, counted_nextAsync,
      if_neg (Nat.not_le.mpr ha), State.tevict, hh, hr, false_and, if_false]
  · subst hw
    refine runLink_sync hl rfl ?_
    simp only [fxEffect, hs, noSets, counted_r, counted_bytes, counted_ring, counted_chain, counted_level, inStore_of_le hst,
      not_true_eq_false, if_false, winGate_of_ready hr, hc, ne_eq, Nat.not_le.mpr ho, Nat.not_le.mpr hq, or_self,
      State.fallbackOf, Option.map_none]
  · subst hw
    refine runLink_sync hl rfl ?_
    simp only [fxEffect, counted_r, counted_bytes, counted_ring, counted_chain, inStore_of_le hst,
      not_true_eq_false, if_false, winGate_of_ready hr, hc, ne_eq]
    exact if_pos ho
  · refine runLink_sync hl rfl ?_
    simp only [fwaitEffect, counted_r, counted_chain, issuing_tiers, ho, hq, hc, and_self, if_true]
  · refine runLink_sync hl rfl ?_
    simp only [fwaitEffect, counted_r, issuing_tiers, ho]

/-- A slot that KS_CMD alone may change is no slot for a link (R338). -/
theorem keySlotOf_of_reserved {w : State} {v : Nat} (h : v % 65536 = 0 ∨ v % 65536 = w.vaultSlot) : w.keySlotOf v = none :=
  if_pos h

theorem keySlotOf_of_free {w : State} {v : Nat} (h0 : v % 65536 ≠ 0) (hv : v % 65536 ≠ w.vaultSlot) :
    w.keySlotOf v = some (v % 65536) := if_neg (not_or.mpr ⟨h0, hv⟩)

/-- Settles O10. -/
theorem keyLinks : Obligations.KeyLinks := by
  unfold Obligations.KeyLinks
  intro q l x s
  dsimp only
  refine ⟨fun hn => ⟨fun h hst => ?_, fun h => ?_, fun h => ?_⟩, fun h0 hv => ⟨fun b hb h hst => ?_, fun h ht => ?_,
    fun p h ht hp hs => ?_, fun p h ht hp hs => ?_, fun h => ?_⟩⟩
  · refine runLink_sync h rfl ?_
    simp only [kloadEffect, counted_r, inStore_of_le hst, not_true_eq_false, if_false, keySlotOf_of_reserved hn]
  · refine runLink_sync h rfl ?_
    simp only [kswapEffect, counted_r, keySlotOf_of_reserved hn]
  · refine runLink_sync h rfl ?_
    simp only [keraseEffect, counted_r, keySlotOf_of_reserved hn]
  · subst hb
    split
    next hc =>
      refine runLink_sync h rfl ?_
      simp only [kloadEffect, counted_r, counted_bytes, inStore_of_le hst, not_true_eq_false, if_false,
        keySlotOf_of_free h0 hv, hc]
    next e hc =>
      rcases hl : (s.issuing q x).envOpened.load e (some q) with ⟨b, t⟩
      cases b
      all_goals
        refine runLink_sync h rfl ?_
        simp only [kloadEffect, counted_r, counted_bytes, inStore_of_le hst, not_true_eq_false, if_false,
          keySlotOf_of_free h0 hv, hc, hl]
  · refine runLink_sync h rfl ?_
    simp only [kswapEffect, counted_r, keySlotOf_of_free h0 hv, ht, Nat.zero_le, if_true]
  · refine runLink_sync h rfl ?_
    simp only [kswapEffect, counted_r, counted_instant, keySlotOf_of_free h0 hv, ht, issuing_time,
      if_neg (Nat.not_le.mpr hp), hs, Option.isSome_none, Bool.false_eq_true, if_false]
  · refine runLink_sync h rfl ?_
    simp only [kswapEffect, counted_r, counted_instant, keySlotOf_of_free h0 hv, ht, issuing_time,
      if_neg (Nat.not_le.mpr hp), hs, if_true]
  · refine runLink_sync h rfl ?_
    simp only [keraseEffect, counted_r, keySlotOf_of_free h0 hv]

/-! ## O11: a class without fault registers -/

/-- Register 3 of the chain on sequencer 0 after a command. -/
def reg3After : Res → Option Nat
  | .next t => (t.seq? 0).map (fun x => x.r 3)
  | _ => none

/-- A `fack` of register 2 with its status to register 3, alone in its image. -/
def fackLink : Link := ⟨3, 2, 0, 0, []⟩

/-- A chain at that link whose register 2 names unit 0 of class 1, the Hallmark Table. -/
def fackHallmark : Seq := Tests.chainMem 0x7B fackLink [(2, 0x10000)] []

/-- Refutes O11: the Hallmark Table (class 1) has a unit but none of the common registers (R57), so `fack` of it ends with
WINDOW_BOUNDS in the model, where the statement has ALREADY_DONE. -/
theorem not_systemLinks : ¬ Obligations.SystemLinks := by
  unfold Obligations.SystemLinks
  intro h
  obtain ⟨-, -, -, -, -, -, hfack, -⟩ := h 0 fackLink fackHallmark (Tests.priv.setSeq 0 fackHallmark) Tests.priv
  have hx := hfack 1 0 (by decide +kernel) (by decide +kernel) (by unfold State.atLink; decide +kernel) (by decide +kernel)
  exact absurd (congrArg reg3After hx) (by decide +kernel)

end Sys2Proof.Machine

/-! O12, O13: armed links and the events of a chain (R74 to R79, R87 to R90). -/

namespace Sys2Proof.Machine

/-- The sequencers are 0 to 31 (Table 2.4). -/
theorem onUnit_sequencer {q : Nat} (h : q < 32) (k : Res) : onUnit 0x70 q k = k := if_pos h

/-- The privileges that a link lacks depend on the ring's register alone (R71). -/
theorem lacksPriv_congr {s t : State} {x y : Seq} (op : Nat) (c : Sets) (h : t.regs = s.regs) (hr : y.ring = x.ring) :
    t.lacksPriv y op c = s.lacksPriv x op c := by
  simp only [State.lacksPriv, State.fld, State.fldOf, h, hr]

/-- Settles O12. -/
theorem armedLinks : Obligations.ArmedLinks := by
  unfold Obligations.ArmedLinks
  intro q l m x s op rest
  refine ⟨fun h hdec heff hbad hpriv hopen => ?_, fun a f hq hs hready hrun hab hst heff hpriv => ?_,
    fun a w st hs => ⟨?_, ?_, fun hi hx => ?_, ?_⟩⟩
  · have hp : (s.issuing q x).lacksPriv x.counted op.toNat (settings m op.toNat) = false :=
      (lacksPriv_congr _ _ (issuing_regs s q x) rfl).trans hpriv
    have hok : ¬ ((armedEffect op.toNat).isNone = true ∨
        (badWord x.starts (x.pc + x.linkWords) op.toNat m).isSome = true) := by
      rw [hbad, Option.isNone_eq_false_iff.mpr heff]
      exact not_or.mpr ⟨Bool.false_ne_true, Bool.false_ne_true⟩
    refine runLink_sync (f := atmtEffect) h rfl ?_
    simp only [atmtEffect, counted_pc, counted_linkWords, counted_words, counted_starts, hdec, if_neg hok, hp,
      Bool.false_eq_true, if_false, counted_openAsyncs, Nat.not_le.mpr hopen]
    simp only [issuing_eq, State.modSeq_setSeq, State.setSeq_setSeq, setR_eq]
    rfl
  · have hpriv' (u : State) (y : Seq) (hu : u.regs = s.regs) (hy : y.ring = x.ring) :
        ¬ u.lacksPriv y a.op (settings a.l a.op) = true :=
      Bool.eq_false_iff.mp ((lacksPriv_congr _ _ hu hy).trans hpriv)
    refine ⟨fun ht hlim => ?_, fun ht => ?_⟩
    · have hgo : ¬ (¬ s.chainsRun = true ∨ x.aborted = true ∨ x.stopped = true ∨ ¬ a.tried = true ∧ s.linkLimit x ≤ x.count) := by
        simp [hrun, hab, hst, hlim]
      change onUnit 0x70 q _ = _
      simp only [onUnit_sequencer hq, hs, hready]
      rw [if_neg hgo]
      simp only [heff, ht, Bool.false_eq_true, if_false]
      refine if_neg (hpriv' _ _ ?_ rfl)
      simp
    · have hgo : ¬ (¬ s.chainsRun = true ∨ x.aborted = true ∨ x.stopped = true ∨ ¬ a.tried = true ∧ s.linkLimit x ≤ x.count) := by
        simp [hrun, hab, hst, ht]
      change onUnit 0x70 q _ = _
      simp only [onUnit_sequencer hq, hs, hready]
      rw [if_neg hgo]
      simp only [heff, ht, if_true]
      refine if_neg (hpriv' _ _ ?_ rfl)
      simp
  · simp only [State.settleArmed, hs]
  · simp only [State.settleArmed, hs]
  · simp only [State.settleArmed, hs, hi, hx, or_self, if_false]
  · simp only [State.settleArmed, hs]

/-- Settles O13. -/
theorem chainEvents : Obligations.ChainEvents := by
  unfold Obligations.ChainEvents
  intro q x s hq hs
  have hret : exec (.linkReturn q) s = .next (s.linkReturn q).serve := onUnit_sequencer hq _
  have hwaits {t : State} {d : Nat} {w : WaitFor} (ht : t.seq? q = some x) (hab : x.aborted = false) (hst : x.stopped = false)
      (ha : x.asyncs = []) (hw : x.wait = some ⟨d, w⟩) : Waits t q x d w :=
    ⟨ht, by simp [hab, hst], ha, hw⟩
  refine ⟨fun d st hab hst ha hw hn hi hx => ?_, fun d st hab hst ha hw hend => ?_, fun d hab hst hl hw ho hn hi hx => ?_,
    fun d t hab hst ha hw hn => ?_, fun v hm hv hop => ?_, fun k hlim hst hk => ?_, fun hab hst => ?_⟩
  · rw [hret, linkReturn_of_ready (hwaits hs hab hst ha hw) nofun nofun rfl rfl, linkEnds_of_hasNext hn hi hx]
  · rw [hret, linkReturn_of_ready (hwaits hs hab hst ha hw) nofun nofun rfl rfl, linkEnds_of_ending hend]
  · have hy : ({ x with asyncs := [] } : Seq).hasNext := hn
    have hr : s.linkReturn q = (s.lookAsyncs q x.asyncs).linkEnds q { x with asyncs := [] } d x.summary := by
      simp only [State.linkReturn, hs, hab, hst, Bool.false_eq_true, or_self, if_false, hl]
      rw [hw]
      simp only [ho, if_true]
    rw [hret, hr, linkEnds_of_hasNext hy hi hx, setR_eq, setR_eq]
    rfl
  · intro u hu
    have hwu : Waits u q x d (.await t) := hwaits (by simpa [u, State.seq?] using hs) hab hst ha hw
    have hl : u.look q x (.await t) = (.ready (if u.unsure then .timeUnsure else .ok), u) := if_pos hu
    have hexec : exec (.awaitInstant q) s = .next (u.linkReturn q).serve := by
      change onUnit 0x70 q _ = _
      simp only [onUnit_sequencer hq, hs, hw, u]
    rw [hexec, linkReturn_of_ready hwu nofun nofun hl rfl, linkEnds_of_hasNext hn (by split <;> decide) (by split <;> decide)]
  · change onUnit 0x70 q _ = _
    simp only [onUnit_sequencer hq, hs, hm, hv, hop, and_self, if_true]
    rfl
  · have hnext : x.nextLink = some k := by
      rcases hk with ⟨rfl, hw⟩ | ⟨a, hw, ha, rfl⟩
      · simp [Seq.nextLink, hw]
      · have : x.wait ≠ none := Option.isSome_iff_ne_none.mp hw
        simp [Seq.nextLink, this, ha]
    change onUnit 0x70 q _ = _
    rw [onUnit_sequencer hq]
    simp [hs, hnext, State.linkLimit, hlim, hst]
    rfl
  · change onUnit 0x70 q _ = _
    simp [onUnit_sequencer hq, hs, hab, hst]

end Sys2Proof.Machine

/-! ## O14: the ring commands, and the access of a path to a register's command -/

namespace Sys2Proof.Machine

/-- A class that is reached at once leaves a register command to its meaning. -/
theorem access_of_reaches {s : State} {cls : Nat} (h : s.reaches cls) (p : Path) (k : State → Res) :
    s.access cls p k = k s := by
  simp only [State.access, State.finishPath_of_jobs_nil h.1, h.2, Bool.false_eq_true, if_false]

/-- Writing one field of a unit leaves the unit's fields at other places. -/
theorem fld_setFld_of_place_ne (s : State) (f g : Fld) (hcls : g.cls = f.cls) (hplace : g.place ≠ f.place) (u v : Nat) :
    (s.setFld f u v).fld g u = s.fld g u := by
  unfold State.setFld State.fld
  rw [hcls]
  exact s.fldOf_setFldOf_of_place_ne f.cls f g u v hplace

theorem onUnit_ring {r : Nat} (h : r < 4096) (k : Res) : onUnit 0x71 r k = k := if_pos h

/-- Settles O14. -/
theorem ringCommands : Obligations.RingCommands := by
  unfold Obligations.RingCommands
  intro s p r q
  refine ⟨fun n hs hn hp => ?_, fun n im hi hc => ?_, fun n k hi hc => ?_, fun hr hs => ⟨fun i hlt => ?_, fun i hle => ?_,
    fun i hlt hq => ?_, fun tag => ?_, fun hq hrun hmay hturn hidle hhalt => ?_⟩⟩
  · change s.access 0x70 p _ = _
    rw [access_of_reaches hs, rowSeqInstall, if_pos hn, if_pos hp]
    rfl
  · change execInstallCheckDone s = _
    simp only [execInstallCheckDone, hi]
    rw [show State.slotBytes { s with kex := { s.kex with installing := none } } n = s.slotBytes n from rfl, hc]
    rfl
  · change execInstallCheckDone s = _
    simp only [execInstallCheckDone, hi]
    rw [show State.slotBytes { s with kex := { s.kex with installing := none } } n = s.slotBytes n from rfl, hc]
  · change s.access 0x71 p _ = _
    rw [access_of_reaches hs, rowRingSqTailWrite, onUnit_ring hr, State.sqTail, if_neg (Nat.not_le.mpr hlt)]
    rfl
  · change s.access 0x71 p _ = _
    rw [access_of_reaches hs, rowRingSqTailWrite, onUnit_ring hr, State.sqTail, if_pos hle]
    rfl
  · have hpast : ¬ (s.ringSize r ≤ i ∨
        s.unconsumed r < (i + s.ringSize r - s.fld F.RING_CQ_HEAD_IDX r) % s.ringSize r) := by omega
    change s.access 0x71 p _ = _
    rw [access_of_reaches hs, rowRingCqHeadWrite, onUnit_ring hr]
    simp only [State.cqHead]
    rw [if_neg hpast]
    rfl
  · change s.access 0x71 p _ = _
    rw [access_of_reaches hs, rowRingAbort, onUnit_ring hr]
    rfl
  · intro h e t u
    have hgo : ¬ ¬ (s.chainsRun = true ∧ s.mayDispatch r = true ∧ s.ringTurn r = true ∧ (s.seq? q).isNone = true ∧
        q ∉ s.life.halted) := by simp [hrun, hmay, hturn, hidle, hhalt]
    have hprio : (s.setFld F.RING_SQ_HEAD_IDX r ((h + 1) % s.ringSize r)).fld F.RING_CFG_PRIO r = s.fld F.RING_CFG_PRIO r :=
      fld_setFld_of_place_ne s F.RING_SQ_HEAD_IDX F.RING_CFG_PRIO rfl (by decide) r _
    have hneeds (im : Image) (u : State) (hu : u.regs = t.regs) :
        im.privs &&& u.fld F.RING_CFG_PRIV r ≠ im.privs ↔ im.privs &&& s.fld F.RING_CFG_PRIV r ≠ im.privs := by
      have hpriv := fld_setFld_of_place_ne s F.RING_SQ_HEAD_IDX F.RING_CFG_PRIV rfl (by decide) r ((h + 1) % s.ringSize r)
      rw [← hpriv, State.fld, State.fldOf, hu]
      rfl
    have hlevel : t.fld F.RING_PROFILE_LEVEL r = s.fld F.RING_PROFILE_LEVEL r :=
      fld_setFld_of_place_ne s F.RING_SQ_HEAD_IDX F.RING_PROFILE_LEVEL rfl (by decide) r _
    have hexec : exec (.chainDispatch r q) s = execChainDispatch r q s := rfl
    rw [hexec, execChainDispatch, onUnit_ring hr, onUnit_sequencer hq, if_neg hgo]
    dsimp only
    rw [hprio]
    refine ⟨fun him => ?_, fun im him => ?_⟩
    · split
      next => rfl
      next im h' => exact absurd (him.symm.trans h') nofun
    · split
      next h' => exact absurd (him.symm.trans h') nofun
      next im' h' =>
        obtain rfl : im = im' := Option.some.inj (him.symm.trans h')
        refine ⟨fun hlack => if_pos ((hneeds im _ rfl).mpr hlack), fun hhas => ⟨_,
          if_neg (fun hlack => (hneeds im _ rfl).mp hlack hhas), rfl, rfl, rfl, rfl, rfl, rfl, ?_,
          rfl, rfl, rfl, rfl, rfl, rfl, rfl⟩⟩
        exact congrArg (fun level => if e.level = 0 then level else e.level) hlevel

end Sys2Proof.Machine

/-! ## O15: lines from the setting buffer and the locket cache to the channels -/

namespace Sys2Proof.Machine

/-- Settles O15. -/
theorem pipelineAndLocket : Obligations.PipelineAndLocket := by
  unfold Obligations.PipelineAndLocket
  refine ⟨fun s line => ⟨rfl, fun e he => ?_, fun e he hheal => ⟨fun d hd => ?_, fun t hstore hturn ht => ?_⟩,
    fun x dbe hx hfull => ?_, fun f t v hf hready hturn hline hclean hdone => ?_, fun l hl hdirty => ?_⟩,
    fun s p => ⟨fun hs hp => ⟨fun hfl hen => ?_, fun hfl hen => ?_, fun hfl => ?_, fun b hfl => ?_⟩, fun hfl hlines hvic => ?_⟩⟩
  · intro t
    have hexec (dbe : Bool) : exec (.sbWindowExpiry line dbe) s = execSbWindowExpiry line dbe s := rfl
    constructor <;> rw [hexec, execSbWindowExpiry, he] <;> rfl
  · change execRmwReadDone line [] s = _
    simp [execRmwReadDone, he, hheal, hd, State.mergeReturns]
  · intro u hclean
    change execRmwReadDone line [] s = _
    simp only [execRmwReadDone, he, hheal, hstore, Option.isNone_none, hturn, Bool.false_eq_true, if_false, if_true,
      State.mergeReturns, ht]
    rw [hclean]
  · change execLinePlaced line dbe s = _
    rw [execLinePlaced, hx]
    exact if_neg (by simp [hfull])
  · change execLocketFillDone line [] s = _
    subst hline
    simp only [execLocketFillDone, hf, hready, hturn, if_true, State.fillReturns]
    rw [hclean]
    simp only [hdone, Option.getD_some]
  · change execLocketWriteThrough line s = _
    simp only [execLocketWriteThrough, hl, hdirty, if_true]
  · change s.access 0x42 p _ = _
    rw [access_of_reaches hs, rowLocketDisable, if_pos hp, State.lkEnable]
    simp only [hfl, hen, Bool.false_eq_true, if_false, if_true]
    rfl
  · change s.access 0x42 p _ = _
    rw [access_of_reaches hs, rowLocketDisable, if_pos hp, State.lkEnable]
    simp only [hfl, hen, Bool.false_eq_true, if_false]
    rfl
  · change s.access 0x42 p _ = _
    rw [access_of_reaches hs, rowLocketEnable, if_pos hp, State.lkEnable]
    simp only [hfl, Bool.false_eq_true, if_false, if_true]
    rfl
  · cases b
    · change s.access 0x42 p _ = _
      rw [access_of_reaches hs, rowLocketDisable, if_pos hp, State.lkEnable]
      simp only [hfl, Bool.false_eq_true, if_false, if_true]
      rfl
    · change s.access 0x42 p _ = _
      rw [access_of_reaches hs, rowLocketEnable, if_pos hp, State.lkEnable]
      simp only [hfl, if_true]
      rfl
  · intro t
    change execLocketFlushDone s = _
    rw [execLocketFlushDone]
    simp only [hfl, hlines, hvic, Bool.and_self, if_true]
    cases s.pipe.locket.again <;> rfl

end Sys2Proof.Machine

/-! ## O16: line reads -/

namespace Sys2Proof.Machine

/-- Settles O16. -/
theorem lineReads : Obligations.LineReads := by
  unfold Obligations.LineReads
  intro s t rid r es hr hheal u
  have hexec : exec (.lineReadDone rid es) s = execLineReadDone rid es s := rfl
  rw [hexec, execLineReadDone, hr]
  simp only [hheal, Bool.false_eq_true, if_false]
  refine ⟨fun hturn => ?_, fun hturn => ⟨fun hd => ?_, fun dev x hd => ?_, fun hd hcan hwhat => ?_, fun hd hcan hfull => ?_⟩,
    fun tag => rfl⟩
  · rw [hturn]
  · rw [hturn, hd]
  · rw [hturn, hd]
  · have hcan' : (t.touchBank r.line).canHeal = false := hcan
    rw [hturn, hd]
    simp only [hwhat, if_false, hcan', Bool.false_eq_true]
    rfl
  · have hcan' : ((t.touchBank r.line).bezelEvent 1 r.source r.line 15 7).canHeal = false := hcan
    rw [hturn, hd]
    simp only [hcan', hfull, Bool.false_eq_true, if_false]
    rfl

end Sys2Proof.Machine

/-! ## O17: the Bezel code finds one erroneous device

Multiplication by a constant of GF(2^64) is an operator that is additive and commutes with multiplication by α, and such an
operator is known by its value at 1. So one evaluation each shows that α, α^72 + 1 and α^35 + 1 have inverses; every number from
1 to 9 divides 72 or 35, so α^d and α^k differ on every error but 0 for two devices d and k. -/

namespace Sys2Proof.Machine

/-- An operator on GF(2^64) that is additive and commutes with multiplication by α. -/
def GfLinear (f : BitVec 64 → BitVec 64) : Prop :=
  (∀ a b, f (a ^^^ b) = f a ^^^ f b) ∧ ∀ v, f (gfAlpha v) = gfAlpha (f v)

theorem gfAlpha_xor (a b : BitVec 64) : gfAlpha (a ^^^ b) = gfAlpha a ^^^ gfAlpha b := by
  unfold gfAlpha
  cases ha : a.getLsbD 63 <;> cases hb : b.getLsbD 63 <;>
    simp only [BitVec.getLsbD_xor, ha, hb, BitVec.shiftLeft_xor_distrib, Bool.false_eq_true, if_false, if_true,
      Bool.xor_false, Bool.false_xor, Bool.xor_self]
  · ac_rfl
  · ac_rfl
  · calc a <<< 1 ^^^ b <<< 1 = a <<< 1 ^^^ b <<< 1 ^^^ (0x1B#64 ^^^ 0x1B#64) := by simp
      _ = a <<< 1 ^^^ 0x1B#64 ^^^ (b <<< 1 ^^^ 0x1B#64) := by ac_rfl

/-- A predicate on GF(2^64) that holds of 0 and is kept by multiplication by α and by adding 1 holds everywhere. -/
theorem gf_induction {P : BitVec 64 → Prop} (zero : P 0) (alpha : ∀ v, P v → P (gfAlpha v)) (one : ∀ v, P v → P (v ^^^ 1))
    (v : BitVec 64) : P v := by
  suffices h : ∀ n (v : BitVec 64), v.toNat < 2 ^ n → P v from h 64 v v.isLt
  intro n
  induction n with
  | zero =>
    intro v hv
    obtain rfl : v = 0 := BitVec.eq_of_toNat_eq (by simpa using hv)
    exact zero
  | succ n ih =>
    intro v hv
    have hhalf : P (v >>> 1) := ih _ (by
      rw [BitVec.toNat_ushiftRight, Nat.shiftRight_eq_div_pow]
      omega)
    have hdouble : gfAlpha (v >>> 1) = (v >>> 1) <<< 1 := by
      unfold gfAlpha
      rw [if_neg]
      simp
    have hv' : v = gfAlpha (v >>> 1) ∨ v = gfAlpha (v >>> 1) ^^^ 1 := by
      rw [hdouble]
      cases hlow : v.getLsbD 0
      · left
        ext i hi
        rcases i with _ | i <;> simp_all [Nat.add_comm 1, BitVec.getLsbD_eq_getElem]
      · right
        ext i hi
        rcases i with _ | i <;> simp_all [Nat.add_comm 1, BitVec.getLsbD_eq_getElem]
    rcases hv' with h | h <;> rw [h]
    · exact alpha _ hhalf
    · exact one _ (alpha _ hhalf)

namespace GfLinear

theorem map_zero {f : BitVec 64 → BitVec 64} (h : GfLinear f) : f 0#64 = 0#64 := by
  simpa using h.1 0 0

theorem zero : GfLinear (fun _ => 0) := ⟨fun _ _ => (BitVec.xor_self (x := 0#64)).symm, fun _ => show 0#64 = gfAlpha 0#64 by decide⟩

theorem alpha : GfLinear gfAlpha := ⟨gfAlpha_xor, fun _ => rfl⟩

theorem id : GfLinear (fun v => v) := ⟨fun _ _ => rfl, fun _ => rfl⟩

theorem comp {f g : BitVec 64 → BitVec 64} (hf : GfLinear f) (hg : GfLinear g) : GfLinear (fun v => f (g v)) :=
  ⟨fun a b => by dsimp only; rw [hg.1, hf.1], fun v => by dsimp only; rw [hg.2, hf.2]⟩

theorem xor {f g : BitVec 64 → BitVec 64} (hf : GfLinear f) (hg : GfLinear g) : GfLinear (fun v => f v ^^^ g v) :=
  ⟨fun a b => by dsimp only; rw [hf.1, hg.1]; ac_rfl, fun v => by dsimp only; rw [hf.2, hg.2, gfAlpha_xor]⟩

theorem alphaPow : ∀ n, GfLinear (gfAlphaPow n)
  | 0 => .id
  | n + 1 => (alphaPow n).comp .alpha

theorem mulStep (b : BitVec 64) : ∀ n {f : BitVec 64 → BitVec 64}, GfLinear f → GfLinear (fun v => gfMulStep n v b (f v))
  | 0, _, hf => hf
  | n + 1, f, hf => by
    unfold gfMulStep
    cases b.getLsbD n
    · exact mulStep b n (alpha.comp hf)
    · exact mulStep b n ((alpha.comp hf).xor .id)

theorem mul (b : BitVec 64) : GfLinear (fun v => gfMul v b) := mulStep b 64 .zero

/-- An operator that leaves 1 leaves everything. -/
theorem eq_self_of_one {f : BitVec 64 → BitVec 64} (h : GfLinear f) (hone : f 1 = 1) (v : BitVec 64) : f v = v := by
  induction v using gf_induction with
  | zero => exact h.map_zero
  | alpha v ih => rw [h.2, ih]
  | one v ih => rw [h.1, ih, hone]

/-- An operator that the multiplication by b undoes at 1 is 0 at 0 alone. -/
theorem eq_zero_of_mul {f : BitVec 64 → BitVec 64} (h : GfLinear f) {b : BitVec 64} (hb : gfMul (f 1) b = 1)
    {v : BitVec 64} (hv : f v = 0) : v = 0 := by
  have hundo := ((mul b).comp h).eq_self_of_one hb v
  rw [← hundo, hv]
  exact (mul b).map_zero

end GfLinear

theorem gfAlphaPow_add (m n : Nat) (v : BitVec 64) : gfAlphaPow (m + n) v = gfAlphaPow m (gfAlphaPow n v) := by
  induction n generalizing v with
  | zero => rfl
  | succ n ih => exact ih (gfAlpha v)

theorem gfAlphaPow_of_dvd {n k : Nat} {v : BitVec 64} (h : gfAlphaPow n v = v) (hdvd : n ∣ k) : gfAlphaPow k v = v := by
  obtain ⟨j, rfl⟩ := hdvd
  induction j with
  | zero => rfl
  | succ j ih => rw [Nat.mul_succ, gfAlphaPow_add, h, ih]

theorem eq_zero_of_gfAlphaPow_72 {v : BitVec 64} (h : gfAlphaPow 72 v = v) : v = 0 :=
  ((GfLinear.alphaPow 72).xor .id).eq_zero_of_mul (b := 0x43dc5d22c4a3f260#64) (by decide +kernel) (by simp [h])

theorem eq_zero_of_gfAlphaPow_35 {v : BitVec 64} (h : gfAlphaPow 35 v = v) : v = 0 :=
  ((GfLinear.alphaPow 35).xor .id).eq_zero_of_mul (b := 0xe8ca8d6f9d1951a5#64) (by decide +kernel) (by simp [h])

theorem gfAlpha_injective {a b : BitVec 64} (h : gfAlpha a = gfAlpha b) : a = b := by
  have hzero : a ^^^ b = 0 := GfLinear.alpha.eq_zero_of_mul (b := 0x800000000000000d#64) (by decide +kernel) (by
    rw [gfAlpha_xor, h]
    exact BitVec.xor_self)
  exact BitVec.xor_eq_zero_iff.mp hzero

theorem gfAlphaPow_injective : ∀ n {a b : BitVec 64}, gfAlphaPow n a = gfAlphaPow n b → a = b
  | 0, _, _, h => h
  | n + 1, _, _, h => gfAlpha_injective (gfAlphaPow_injective n h)

/-- The syndromes of an error tell two of the ten devices apart. -/
theorem gfAlphaPow_ne_of_lt {j k : Nat} (hjk : j < k) (hk : k < 10) {v : BitVec 64} (hv : v ≠ 0) :
    gfAlphaPow j v ≠ gfAlphaPow k v := by
  intro h
  obtain ⟨n, rfl⟩ : ∃ n, k = j + n := ⟨k - j, by omega⟩
  rw [gfAlphaPow_add] at h
  have hfix : gfAlphaPow n v = v := (gfAlphaPow_injective j h).symm
  have hdvd : n ∣ 72 ∨ n ∣ 35 := by
    have : ∀ n < 10, n = 0 ∨ n ∣ 72 ∨ n ∣ 35 := by decide
    have := this n (by omega)
    omega
  rcases hdvd with h72 | h35
  · exact hv (eq_zero_of_gfAlphaPow_72 (gfAlphaPow_of_dvd hfix h72))
  · exact hv (eq_zero_of_gfAlphaPow_35 (gfAlphaPow_of_dvd hfix h35))

theorem gfAlphaPow_inj {j k : Nat} (hj : j < 10) (hk : k < 10) {v : BitVec 64} (hv : v ≠ 0) :
    gfAlphaPow j v = gfAlphaPow k v ↔ j = k := by
  refine ⟨fun h => ?_, fun h => by rw [h]⟩
  rcases Nat.lt_trichotomy j k with hlt | heq | hgt
  · exact absurd h (gfAlphaPow_ne_of_lt hlt hk hv)
  · exact heq
  · exact absurd h.symm (gfAlphaPow_ne_of_lt hgt hj hv)

/-- The error of one device is located in that device alone. -/
theorem locators_of_error {d : Nat} (hd : d < 10) {e : BitVec 64} (he : e ≠ 0) : locators e (gfAlphaPow d e) = [d] := by
  have hfilter : locators e (gfAlphaPow d e) = (List.range 10).filter (fun k => k == d) := by
    refine List.filter_congr fun k hk => ?_
    rw [Bool.eq_iff_iff, beq_iff_eq, beq_iff_eq]
    exact gfAlphaPow_inj (List.mem_range.mp hk) hd he
  have hrange : ∀ d < 10, (List.range 10).filter (fun k => k == d) = [d] := by decide
  rw [hfilter, hrange d hd]

/-- Settles O17. -/
theorem bezelDecodes : Obligations.BezelDecodes := by
  unfold Obligations.BezelDecodes
  refine ⟨by decide, fun d e hd he => ?_, fun mark => ?_⟩
  · have hsyn : syndromes (0, 0) [(d, e)] = (e, gfAlphaPow d e) := by
      simp [syndromes, (GfLinear.alphaPow _).map_zero]
    have he' : e ≠ 0#64 := he
    rw [hsyn, decodeBezel]
    simp [he', locators_of_error hd he]
  · have hsyn : syndromes poisonDelta [] = (0, poisonQ) := by decide
    rw [hsyn]
    cases mark <;> simp [decodeBezel, poisonQ]

end Sys2Proof.Machine

/-! ## O18 and O19: sealing, and the events of a memory channel -/

namespace Sys2Proof.Machine

/-- Settles O18. -/
theorem sealing : Obligations.Sealing := by
  unfold Obligations.Sealing
  intro s e
  refine ⟨?_, fun hu he hlater => ?_, fun hu he hlater => ?_, fun hu => ?_⟩
  · intro guard t
    have ht : s.reach ((s.unwrapped e + 1) * 2 ^ s.fld F.MER_CFG_K +
        ceilDiv (2 * s.fld F.MER_CFG_BOUND * second) 1000000000000) = t := rfl
    have hexec : exec (.sealTimeCondition e) s = execSealTimeCondition e s := rfl
    rw [hexec, execSealTimeCondition]
    dsimp only
    rw [ht]
    clear_value t
    refine ⟨fun hu hx => ?_, fun x hu hx => ?_, fun hu => if_pos hu⟩
    · simp only [hu, hx, Bool.false_eq_true, if_false]
    · simp only [hu, hx, Bool.false_eq_true, if_false]
  · change execEpochSeal s = _
    simp only [execEpochSeal, hu, he, hlater, Bool.false_eq_true, if_false, if_true]
  · change execEpochSeal s = _
    simp only [execEpochSeal, hu, he, hlater, Bool.false_eq_true, if_false]
  · change execEpochSeal s = _
    simp only [execEpochSeal, hu, if_true]

/-- The cold start with two entries for MC_TEMP.THROTTLING of channel 0 in its register list; a state in canonical form
lists a field once. -/
def listedTwice : State :=
  let k := fieldKey 0x50 0 F.MC_TEMP_THROTTLING.off F.MC_TEMP_THROTTLING.lo
  { State.reset with regs := [(k, 1), (k, 1)] }

/-- MC_TEMP.THROTTLING of channel 0 after a poll of its temperature at 0 degrees. -/
def throttlingAfterPoll (s : State) : Option Nat :=
  match exec (.dimmTempPoll 0 [some 0]) s with
  | .next u => some (u.fld F.MC_TEMP_THROTTLING 0)
  | _ => none

theorem throttlingAfterPoll_of_next {s u : State} (h : exec (.dimmTempPoll 0 [some 0]) s = .next u) :
    throttlingAfterPoll s = some (u.fld F.MC_TEMP_THROTTLING 0) := by
  rw [throttlingAfterPoll, h]

/-- Refutes O19: the statement also speaks of states that are not in canonical form. Where the register list names
MC_TEMP.THROTTLING of a channel twice, clearing it takes out the first entry only, and the field still reads 1 after a poll
at 0 degrees. -/
theorem not_channelEvents : ¬ Obligations.ChannelEvents := by
  unfold Obligations.ChannelEvents
  intro h
  obtain ⟨hpoll, -⟩ := h listedTwice 0 0 0 (by decide) (by decide) (by decide)
  obtain ⟨u, hu, -, hthrottling, -⟩ := hpoll 0 (by decide +kernel) (by decide +kernel) (by decide) (by decide)
    (by decide +kernel) (by decide +kernel)
  have hzero := throttlingAfterPoll_of_next hu
  rw [hthrottling] at hzero
  exact absurd hzero (by decide +kernel)

end Sys2Proof.Machine

/-! ## O20: device marks, retirement, injection and the scrubber -/

namespace Sys2Proof.Machine

/-- What a BZ_RETIRE command of a trusted path comes to where its retirement is listed. -/
theorem retireCmd_of_busy {s u : State} {p : Path} {off : Nat} {bank : Bool} (hp : p.trusted = true)
    (h : s.retire off bank none = (.busy, u)) :
    s.retireCmd p off bank =
      (.ok, (u.setFld F.BZ_RETIRE_RES_STATUS 0 Status.busy.code).setFld F.BZ_RETIRE_RES_MOVED 0 0) := by
  simp [State.retireCmd, hp, h]

/-- Settles O20. -/
theorem marksRetirementAndScrub : Obligations.MarksRetirementAndScrub := by
  unfold Obligations.MarksRetirementAndScrub
  refine ⟨fun s p idx dev off => ⟨fun hs hp => ?_, fun hs hp hidx hdev => ?_, fun x hauto hnone hlines hseen => ?_,
    fun hs hp hpow hoff hbank => ?_, fun r rest hr hby hmoved => ?_, fun line hs hopen hline hlife => ?_, fun hs hopen => ?_⟩,
    fun s => ⟨fun hen hwin => ?_, fun hwin hduty => ?_, fun secs hbytes hnext => ?_, fun hnext hlate => ?_⟩⟩
  · have hno (k : State → Res) : s.access 0x51 p k = k s := access_of_reaches hs p k
    have hret (bank : Bool) : s.retireCmd p off bank = (.privilege, s) := by simp [State.retireCmd, hp]
    refine ⟨(hno _).trans (if_neg (by simp [hp])), (hno _).trans (if_neg (by simp [hp])), (hno _).trans ?_, (hno _).trans ?_⟩
    · rw [rowBzRetirePage, hret]
      rfl
    · rw [rowBzRetireBank, hret]
      rfl
  · have hmark : s.markIdx idx = idx := if_pos hidx
    refine ⟨(access_of_reaches hs p _).trans ?_, (access_of_reaches hs p _).trans ?_⟩
    · rw [rowMarkSet, if_pos hp, hmark, State.setMark, if_pos hdev]
      rfl
    · rw [rowMarkClear, if_pos hp, hmark]
      rfl
  · change execMarkAutoSet idx dev s = _
    rw [execMarkAutoSet, if_pos ⟨hauto, by simp [hnone], hlines⟩, hseen]
  · refine ⟨fun hpage hspare hroom => ?_, fun hspare hroom => ?_⟩
    · refine (access_of_reaches hs p _).trans ?_
      have hret : s.retire off false none = (.busy, State.recordRetire { s with bezel := { s.bezel with
          retiring := s.bezel.retiring ++ [⟨false, off, 64, none, false⟩], pages := s.bezel.pages ++ [off / 4096] } }) := by
        simp only [State.retire, hpow, hbank, hpage, if_false, Nat.not_le.mpr hoff, Bool.false_eq_true, Bool.or_self,
          Nat.not_lt.mpr hspare, Nat.not_le.mpr hroom, decide_false]
      rw [rowBzRetirePage, retireCmd_of_busy hp hret]
      rfl
    · refine (access_of_reaches hs p _).trans ?_
      have hret : s.retire off true none = (.busy, State.recordRetire { s with bezel := { s.bezel with
          retiring := s.bezel.retiring ++ [⟨true, off, s.bankUnits * 64, none, false⟩],
          bankList := s.bezel.bankList ++ [off] } }) := by
        simp only [State.retire, hpow, hbank, if_false, if_true, Nat.not_le.mpr hoff, Bool.false_eq_true, Bool.or_self,
          Nat.not_lt.mpr hspare, Nat.not_le.mpr hroom, decide_false]
      rw [rowBzRetireBank, retireCmd_of_busy hp hret]
      rfl
  · change execRetirementDone s = _
    rw [execRetirementDone, hr]
    dsimp only
    rw [if_neg (Nat.not_lt.mpr hmoved), hby]
    rfl
  · have hok : (s.expertUsed 0x51 0).injectOk line = true := by
      have hsame : (s.expertUsed 0x51 0).injectOk line = s.injectOk line := rfl
      rw [hsame, State.injectOk, Bool.or_eq_true]
      exact Or.inl (by simpa using hlife)
    subst hline
    refine (access_of_reaches hs p _).trans ?_
    rw [rowInjectNow, if_pos hopen, State.injectNow]
    exact congrArg (ends p) (if_pos hok)
  · exact (access_of_reaches hs p _).trans (if_neg (by simp [hopen]))
  · intro period t
    change execScrubWindowOpen s = _
    rw [execScrubWindowOpen, if_pos ⟨hen, by simp [hwin]⟩]
    rfl
  · intro period t
    change execScrubWindowClose s = _
    rw [execScrubWindowClose, if_pos ⟨hwin, hduty⟩]
    rfl
  · intro t
    change execScrubLapEnd secs s = _
    rw [execScrubLapEnd, if_neg (by omega)]
    rfl
  · change execScrubLapLate s = _
    rw [execScrubLapLate, if_neg (by simp [hnext, hlate])]
    dsimp only
    rw [State.reachLocal_bezel, show second = 2 ^ 40 from rfl]

end Sys2Proof.Machine

/-! ## O21 to O24: strands, drives, the rate measurement, drain and fill -/

namespace Sys2Proof.Machine

/-- Is a dirty granule not behind another in the order of R228? -/
def VaultLe (a b : Nat × Nat) : Prop := a.1 < b.1 ∨ a.1 = b.1 ∧ a.2 ≤ b.2

theorem VaultLe.refl (a : Nat × Nat) : VaultLe a a := Or.inr ⟨rfl, Nat.le_refl _⟩

theorem VaultLe.trans {a b c : Nat × Nat} (hab : VaultLe a b) (hbc : VaultLe b c) : VaultLe a c := by
  unfold VaultLe at *
  omega

theorem vaultLe_of_not_before {a b : Nat × Nat} (h : ¬ (a.1 < b.1 ∨ a.1 = b.1 ∧ a.2 < b.2)) : VaultLe b a := by
  unfold VaultLe
  omega

/-- The better of the granule found so far and the next one (Sequence 10.1). -/
def State.vaultPick (s : State) (b : Option (Nat × Dirty)) (p : Nat × Dirty) : Option (Nat × Dirty) :=
  match b with
  | none => some p
  | some y =>
    let x := s.vaultRank p
    let z := s.vaultRank y
    if x.1 < z.1 ∨ (x.1 = z.1 ∧ x.2 < z.2) then some p else b

theorem nextGranule_eq (s : State) :
    s.nextGranule = (s.vault.dirty.filter (fun p => s.mayVault p.1 p.2)).foldl s.vaultPick none := rfl

theorem vaultPick_some (s : State) (y p : Nat × Dirty) :
    s.vaultPick (some y) p = some p ∧ VaultLe (s.vaultRank p) (s.vaultRank y) ∨
    s.vaultPick (some y) p = some y ∧ VaultLe (s.vaultRank y) (s.vaultRank p) := by
  by_cases h : (s.vaultRank p).1 < (s.vaultRank y).1 ∨ (s.vaultRank p).1 = (s.vaultRank y).1 ∧ (s.vaultRank p).2 < (s.vaultRank y).2
  · refine Or.inl ⟨if_pos h, ?_⟩
    unfold VaultLe
    omega
  · exact Or.inr ⟨if_neg h, vaultLe_of_not_before h⟩

/-- What the search keeps from a granule on: one of those seen, in front of them all. -/
theorem foldl_vaultPick {s : State} {ps : List (Nat × Dirty)} : ∀ {y z : Nat × Dirty}, ps.foldl s.vaultPick (some y) = some z →
    (z = y ∨ z ∈ ps) ∧ VaultLe (s.vaultRank z) (s.vaultRank y) ∧ ∀ p ∈ ps, VaultLe (s.vaultRank z) (s.vaultRank p) := by
  induction ps with
  | nil =>
    intro y z h
    obtain rfl : y = z := by simpa using h
    exact ⟨Or.inl rfl, .refl _, by simp⟩
  | cons p ps ih =>
    intro y z h
    rw [List.foldl_cons] at h
    rcases vaultPick_some s y p with ⟨hpick, hle⟩ | ⟨hpick, hle⟩
    · rw [hpick] at h
      obtain ⟨hmem, hz, hall⟩ := ih h
      refine ⟨Or.inr (by simpa using hmem), hz.trans hle, fun q hq => ?_⟩
      rcases List.mem_cons.mp hq with rfl | hq
      · exact hz
      · exact hall q hq
    · rw [hpick] at h
      obtain ⟨hmem, hz, hall⟩ := ih h
      refine ⟨hmem.imp id (List.mem_cons_of_mem _), hz, fun q hq => ?_⟩
      rcases List.mem_cons.mp hq with rfl | hq
      · exact hz.trans hle
      · exact hall q hq

/-- The next granule is one that may be taken, in front of all of them. -/
theorem nextGranule_spec {s : State} {z : Nat × Dirty} (h : s.nextGranule = some z) :
    (s.mayVault z.1 z.2 = true ∧ z ∈ s.vault.dirty) ∧
    ∀ y ∈ s.vault.dirty, s.mayVault y.1 y.2 = true → VaultLe (s.vaultRank z) (s.vaultRank y) := by
  rw [nextGranule_eq] at h
  have hfilter (y : Nat × Dirty) : y ∈ s.vault.dirty.filter (fun p => s.mayVault p.1 p.2) ↔
      y ∈ s.vault.dirty ∧ s.mayVault y.1 y.2 = true := List.mem_filter
  generalize s.vault.dirty.filter (fun p => s.mayVault p.1 p.2) = ps at h hfilter
  cases ps with
  | nil => exact absurd h nofun
  | cons p ps =>
    obtain ⟨hmem, hp, hall⟩ := foldl_vaultPick (y := p) h
    obtain ⟨hdirty, hmay⟩ := (hfilter z).mp (by simpa using hmem)
    refine ⟨⟨hmay, hdirty⟩, fun y hy hmay => ?_⟩
    rcases List.mem_cons.mp ((hfilter y).mpr ⟨hy, hmay⟩) with rfl | hy
    · exact hp
    · exact hall y hy

/-- Settles O21. -/
theorem strands : Obligations.Strands := by
  unfold Obligations.Strands
  intro s n g x
  refine ⟨fun took es dd hnext => ⟨(nextGranule_spec hnext).1, (nextGranule_spec hnext).2, fun hrest => ?_,
    fun hrest hpipe => ?_, fun hrest hpipe => ?_⟩, fun took es hnext => ?_, fun hopen => ?_, fun t hclose hseal => ?_,
    fun pos p v hfind hpos hseal => ?_, fun hx hstate hinto hpow hfill hdrain hlive hmay hslot => ⟨fun hnone => ?_, fun t hsome hsparse hseal => ?_⟩⟩
  · change execGranuleVault took es s = _
    simp only [execGranuleVault, hnext, hrest, if_true]
  · change execGranuleVault took es s = _
    simp only [execGranuleVault, hnext, hrest, hpipe, Bool.false_eq_true, if_false, not_false_eq_true, if_true]
  · have hexec : exec (.granuleVault took es) s = execGranuleVault took es s := rfl
    rw [hexec]
    simp only [execGranuleVault, hnext, hrest, hpipe, Bool.false_eq_true, if_false, not_true_eq_false]
    refine ⟨fun hheal => ?_, fun u d2 hheal hseal hlook => ?_⟩
    · rw [if_pos hheal]
    · rw [if_neg (by simp [hheal]), State.putPlate, hseal]
      dsimp only
      rw [hlook]
  · change execGranuleVault took es s = _
    rw [execGranuleVault, hnext]
  · change execStrandCloseTimeout s = _
    rw [execStrandCloseTimeout, hopen]
    dsimp only
    have hsame : (s.reachLocal (x.openedAt + us (s.fld F.VLTX_STRAND_CLOSE))).openStrand = some (n, x) := by
      simpa [State.openStrand] using hopen
    rw [State.closeStrand, hsame]
  · change execStrandClosed s = _
    rw [execStrandClosed, hclose]
    have hsealed : s.closeSealed n x = some ((t.wroteClose x).strandClosed n x) := by
      change (s.sealPlates x.keyVer (445 - x.plates.length + 3)).map _ = _
      rw [hseal]
      rfl
    dsimp only
    rw [hsealed]
  · change execPlateWriteError pos s = _
    rw [execPlateWriteError, hfind]
    dsimp only
    rw [hpos, hseal]
  · have hsparse : (s.livePlates n x).length * 16 < s.fld F.VLTX_CLEAN_LIVE * plateRoom := by
      rw [hnone, plateRoom]
      simp only [List.length_nil]
      omega
    change execCleaningStart n s = _
    simp only [execCleaningStart, hx, hstate, hinto, hpow, hfill, hdrain, hmay, hslot, hsparse]
    simp [hnone]
  · have hempty : (s.livePlates n x).isEmpty = false := by simpa using hsome
    change (s.livePlates n x).length * 16 < s.fld F.VLTX_CLEAN_LIVE * plateRoom at hsparse
    change execCleaningStart n s = _
    simp only [execCleaningStart, hx, hstate, hinto, hpow, hfill, hdrain, hmay, hslot, hsparse, hempty, hseal]
    simp

end Sys2Proof.Machine

/-! ## O22 to O24: drives, the rate measurement, drain and fill -/

namespace Sys2Proof.Machine

theorem onDrive_of_lt {d : Nat} (h : d < 8) (k : Res) : onDrive d k = k := if_pos h

/-- Settles O22. -/
theorem drives : Obligations.Drives := by
  unfold Obligations.Drives
  intro s d x hd hx
  have hlost : exec (.driveLost d) s = execDriveLost d s := rfl
  have hreplaced : exec (.driveReplaced d) s = execDriveReplaced d s := rfl
  rw [hlost, hreplaced, execDriveLost, execDriveReplaced, onDrive_of_lt hd, onDrive_of_lt hd, hx]
  dsimp only
  refine ⟨fun hl hnone => ?_, fun hl hsome => ?_, fun hl => if_pos hl, fun hl => if_pos hl⟩
  · rw [hl, hnone]
    rfl
  · have hany : (!s.lostDrives.isEmpty) = true := by simpa using hsome
    rw [hl, if_neg (by decide), if_pos hany]

theorem coverFor_congr {s t : State} (h : s.regs = t.regs) (r : Nat) : s.coverFor r = t.coverFor r := by
  simp only [State.coverFor, State.fld, State.fldOf, h]

/-- The state in which a measurement of r MB/s is judged, from the instant of its end: RATE and COVER stand. -/
def State.rateMeasured (a : State) (r : Nat) : State :=
  let b : State := { a with vault := { a.vault with measuring := false } }
  (b.setFld F.VLT_HOLDUP_RATE 0 (min 65535 (r / 100))).setFld F.VLT_HOLDUP_COVER 0 (b.coverFor r)

theorem rateMeasured_pow (a : State) (r : Nat) : (a.rateMeasured r).pow = a.pow := by
  unfold State.rateMeasured
  dsimp only
  rw [State.setFld_pow, State.setFld_pow]

theorem rateMeasured_eq {a s : State} (h : a.regs = s.regs) (r : Nat) :
    a.rateMeasured r = (State.setFld { a with vault := { a.vault with measuring := false } } F.VLT_HOLDUP_RATE 0
      (min 65535 (r / 100))).setFld F.VLT_HOLDUP_COVER 0
      (min 64 (r * 1000000 * (16 * s.fld F.VLT_HOLDUP_E_HOLD - 5 * s.fld F.VLT_HOLDUP_P_DRAIN) /
        (20 * s.fld F.VLT_HOLDUP_P_DRAIN * 2 ^ 30))) := by
  have hcover : State.coverFor { a with vault := { a.vault with measuring := false } } r = s.coverFor r := coverFor_congr h r
  rw [State.rateMeasured]
  dsimp only
  rw [hcover, State.coverFor]

/-- What a rate of r MB/s comes to in that state (R234, R235). -/
def State.judgeRate (t : State) (r : Nat) : Res :=
  let short := decide (t.fld F.VLT_HOLDUP_COVER < t.coverMin)
  if t.fld F.VLT_STAT_STATE = 2 then
    if r < 48000 then .next (t.refuseVault 1)
    else if short then .next (t.refuseVault 2)
    else if ¬ t.pow.holdupOk then .next (t.refuseVault 3)
    else .next (({ t with vault := { t.vault with zeroed := false } } : State).lowerLimit.setFld F.VLT_STAT_STATE 0 3).bringUpEnds
  else
    let u := t.lowerLimit
    let v := if r < 48000 then u.raise 0x60 0 3 0x03 0 (u.fld F.VLT_HOLDUP_RATE) else u
    let w : State := { v with vault := { v.vault with zeroed := short || !v.pow.holdupOk } }
    .next (if short then w.raise 0x60 0 3 0x04 1 else w)

/-- A measurement under way ends with its judgement. -/
theorem measurementDone_eq {s : State} (mbs : Nat) (hm : s.vault.measuring = true) :
    exec (.measurementDone mbs) s =
      ((s.reachLocal (s.vault.measAt + s.measTime mbs)).rateMeasured (mbs * s.fld F.VLTX_MEAS_DERATE / 16)).judgeRate
        (mbs * s.fld F.VLTX_MEAS_DERATE / 16) := by
  have hderate : (s.reachLocal (s.vault.measAt + s.measTime mbs)).fld F.VLTX_MEAS_DERATE = s.fld F.VLTX_MEAS_DERATE := by
    rw [State.fld, State.fldOf, State.reachLocal_regs]
    rfl
  rw [← hderate]
  exact if_neg (by simp [hm])

theorem judgeRate_slow {t : State} {r : Nat} (hst : t.fld F.VLT_STAT_STATE = 2) (hslow : r < 48000) :
    t.judgeRate r = .next (t.refuseVault 1) := by
  rw [State.judgeRate, if_pos hst, if_pos hslow]

theorem judgeRate_short {t : State} {r : Nat} (hst : t.fld F.VLT_STAT_STATE = 2) (hok : 48000 ≤ r)
    (hshort : t.fld F.VLT_HOLDUP_COVER < t.coverMin) : t.judgeRate r = .next (t.refuseVault 2) := by
  rw [State.judgeRate, if_pos hst, if_neg (Nat.not_lt.mpr hok), if_pos (decide_eq_true hshort)]

theorem judgeRate_pin {t : State} {r : Nat} (hst : t.fld F.VLT_STAT_STATE = 2) (hok : 48000 ≤ r)
    (hcover : t.coverMin ≤ t.fld F.VLT_HOLDUP_COVER) (hpin : t.pow.holdupOk = false) :
    t.judgeRate r = .next (t.refuseVault 3) := by
  rw [State.judgeRate, if_pos hst, if_neg (Nat.not_lt.mpr hok), if_neg (by simpa using hcover), if_pos (by simp [hpin])]

theorem judgeRate_good {t : State} {r : Nat} (hst : t.fld F.VLT_STAT_STATE = 2) (hok : 48000 ≤ r)
    (hcover : t.coverMin ≤ t.fld F.VLT_HOLDUP_COVER) (hpin : t.pow.holdupOk = true) :
    t.judgeRate r = .next ((State.setFld (State.lowerLimit { t with vault := { t.vault with
      zeroed := false } }) F.VLT_STAT_STATE 0 3).bringUpEnds) := by
  rw [State.judgeRate, if_pos hst, if_neg (Nat.not_lt.mpr hok), if_neg (by simpa using hcover), if_neg (by simp [hpin])]

theorem judgeRate_inService {t : State} {r : Nat} (hst : t.fld F.VLT_STAT_STATE = 3) :
    let u := t.lowerLimit
    let v := if r < 48000 then u.raise 0x60 0 3 0x03 0 (u.fld F.VLT_HOLDUP_RATE) else u
    t.judgeRate r = .next (if t.fld F.VLT_HOLDUP_COVER < t.coverMin then
      State.raise { v with vault := { v.vault with zeroed := true } } 0x60 0 3 0x04 1
      else { v with vault := { v.vault with zeroed := !v.pow.holdupOk } }) := by
  rw [State.judgeRate, if_neg (by simp [hst])]
  by_cases hshort : t.fld F.VLT_HOLDUP_COVER < t.coverMin <;> simp only [hshort, decide_true, decide_false, Bool.true_or,
    Bool.false_or, if_true, if_false, Bool.false_eq_true]

/-- Settles O23. -/
theorem measurement : Obligations.Measurement := by
  unfold Obligations.Measurement
  intro s mbs
  refine ⟨fun hst => ?_, fun hst => ?_, fun hm => ?_, fun hm => ?_, fun hst => if_pos hst, fun hst => if_neg hst, rfl⟩
  · change execRateMeasurement s = _
    simp only [execRateMeasurement, hst]
    rfl
  · change execRateMeasurement s = _
    rw [execRateMeasurement]
    dsimp only
    rw [if_neg (by omega), if_neg (by omega)]
  · change execMeasurementDone mbs s = _
    simp [execMeasurementDone, hm]
  · have hexec := measurementDone_eq mbs hm
    have hregs := State.reachLocal_regs s (s.vault.measAt + s.measTime mbs)
    have hpow := State.reachLocal_pow s (s.vault.measAt + s.measTime mbs)
    dsimp only
    generalize s.reachLocal (s.vault.measAt + s.measTime mbs) = a at hexec hregs hpow ⊢
    have hsame (r : Nat) : (a.rateMeasured r).pow = s.pow := by
      rw [rateMeasured_pow, hpow]
    have heq := rateMeasured_eq hregs (mbs * s.fld F.VLTX_MEAS_DERATE / 16)
    rw [heq] at hexec
    have hholds (b : Bool) (hpin : s.pow.holdupOk = b) :
        (a.rateMeasured (mbs * s.fld F.VLTX_MEAS_DERATE / 16)).pow.holdupOk = b := by
      rw [hsame, hpin]
    rw [heq] at hholds
    exact ⟨fun hst hslow => hexec.trans (judgeRate_slow hst hslow),
      fun hst hok hshort => hexec.trans (judgeRate_short hst hok hshort),
      fun hst hok hcover hpin => hexec.trans (judgeRate_pin hst hok hcover (hholds _ hpin)),
      fun hst hok hcover hpin => hexec.trans (judgeRate_good hst hok hcover (hholds _ hpin)),
      fun hst => hexec.trans (judgeRate_inService hst)⟩

end Sys2Proof.Machine

/-! ## O24: drain and fill -/

namespace Sys2Proof.Machine

/-- The last message that an outcome leaves in the outbox. -/
def lastOut (r : Res) : Option Out :=
  match r with
  | .next u => u.out.getLast?
  | _ => none

theorem lastOut_answer (s : State) (p : Path) (st : Status) : lastOut (.next (s.answer p st)) = some (.answer p st 0) :=
  List.getLast?_concat

/-- The cold start with COVER 64 and two entries for VLT_BUDGET.STATUS in its register list; a state in canonical form
lists a field once. -/
def statusListedTwice : State :=
  let k := fieldKey 0x60 0 F.VLT_BUDGET_STATUS.off F.VLT_BUDGET_STATUS.lo
  let c := fieldKey 0x60 0 F.VLT_HOLDUP_COVER.off F.VLT_HOLDUP_COVER.lo
  { State.reset with regs := [(k, 1), (k, 1), (c, 64)] }

/-- Refutes O24: the statement also speaks of states that are not in canonical form. Where the register list names
VLT_BUDGET.STATUS twice, clearing it takes out the first entry only, the status still reads as a refusal, and a LIMIT of 1 GiB
that is in range is answered with PRIVILEGE. -/
theorem not_drainAndFill : ¬ Obligations.DrainAndFill := by
  unfold Obligations.DrainAndFill
  intro h
  obtain ⟨-, hlimit, -⟩ := h statusListedTwice .mgmt 0 1 0 0 true
  have hanswer := congrArg lastOut (hlimit ⟨rfl, by decide⟩ rfl (by decide) (by decide) (by decide +kernel) (by decide +kernel))
  rw [lastOut_answer] at hanswer
  exact absurd hanswer (by decide +kernel)

end Sys2Proof.Machine

/-! ## O25 to O28: Meridian -/

namespace Sys2Proof.Machine

/-- A field is read from the register list alone. -/
theorem fld_of_regs_eq {s t : State} (h : t.regs = s.regs) (f : Fld) (u : Nat) : t.fld f u = s.fld f u := by
  rw [State.fld, State.fldOf, h]
  rfl

theorem second_eq : second = 2 ^ 40 := rfl

/-- Settles O25. -/
theorem pulseEdges : Obligations.PulseEdges := by
  unfold Obligations.PulseEdges
  intro s input edge rtt off
  refine ⟨fun a b hin hruns => ?_, fun hin => if_pos hin, ?_, fun hoff => if_pos (by simp [hoff]), fun hon => ?_⟩
  · intro put
    have hexec : exec (.ppsEdge input edge) s = execPpsEdge input edge s := rfl
    rw [hexec, execPpsEdge, if_neg (Nat.not_le.mpr hin)]
    dsimp only
    rw [hruns]
    refine ⟨fun hwin hback => ?_, fun hwin hb ha => ?_, fun hwin hb => ?_, fun hwin hb => ?_⟩
    · have hgo : (decide (b < 3) || decide (7 ≤ a)) = true := by simpa using hback
      rw [if_pos hwin]
      simp only [hgo, if_true]
      rfl
    · have hgo : (decide (b < 3) || decide (7 ≤ a)) = false := by simp [hb, ha]
      rw [if_pos hwin]
      simp only [hgo, Bool.false_eq_true, if_false]
      rfl
    · have hmin : min 3 (b + 1) = 3 := by omega
      rw [if_neg (Nat.not_le.mpr hwin)]
      simp only [hmin, if_neg (show ¬ b + 1 < 3 by omega)]
      rfl
    · have hmin : min 3 (b + 1) = b + 1 := by omega
      rw [if_neg (Nat.not_le.mpr hwin)]
      simp only [hmin, if_pos (show b + 1 < 3 by omega)]
      rfl
  · have hexec : exec .loopTxEdge s = execLoopTxEdge s := rfl
    have hhalf : second / 2 = 2 ^ 39 := rfl
    rw [hexec, execLoopTxEdge, hhalf, second_eq]
    dsimp only
    exact ⟨fun h => congrArg _ (if_pos h), fun h => congrArg _ (if_neg (by rw [h]; decide))⟩
  · have hexec : exec (.loopRxEdge rtt) s = execLoopRxEdge rtt s := rfl
    rw [hexec, execLoopRxEdge, if_neg (by simp [hon])]
    dsimp only
    refine ⟨fun hnear => if_pos hnear, fun hfar => ⟨fun hbad => ?_, fun hbad => ?_⟩⟩
    · rw [if_neg hfar, if_neg (by omega)]
    · rw [if_neg hfar, if_pos (by omega), fld_setFld_of_place_ne _ F.MER_STAT_LOOP_FAIL F.MER_CAL_LOOP_SEL rfl (by decide)]

/-- Settles O26. -/
theorem ptpMessages : Obligations.PtpMessages := by
  unfold Obligations.PtpMessages
  intro s k
  have hsync : exec (.ptpSync k) s = execPtpSync k s := rfl
  have hfollow : exec (.ptpFollowUp k) s = execPtpFollowUp k s := rfl
  have hresp : exec (.ptpDelayResp k) s = execPtpDelayResp k s := rfl
  have hann : exec (.ptpAnnounce k) s = execPtpAnnounce k s := rfl
  refine ⟨fun hfrom => if_pos hfrom, fun hfrom => ⟨if_neg (by simp [hfrom]), ?_, ?_⟩, fun x hx => ⟨fun hfrom hseq => ?_,
    fun hc hr => ?_, fun hno => ?_, fun hfrom hr hseq => ?_⟩, fun hmine hnew hroom => ?_, fun hmine hknown => ?_,
    fun hmine => if_pos (by simp [hmine]), fun code t hlast => ?_⟩
  · rw [hfollow, execPtpFollowUp]
    split
    · rw [if_neg (by simp [hfrom])]
    · rfl
  · rw [hresp, execPtpDelayResp]
    split
    · rw [if_neg (by simp [hfrom])]
    · rfl
  · rw [hfollow, execPtpFollowUp, hx]
    exact if_pos ⟨hfrom, hseq⟩
  · change execPtpDelayReq k.port s = _
    rw [execPtpDelayReq, hx]
    exact if_pos ⟨hc, by simp [hr]⟩
  · change execPtpDelayReq k.port s = _
    rw [execPtpDelayReq, hx]
    exact if_neg (by rcases hno with h | h <;> simp [h])
  · rw [hresp, execPtpDelayResp, hx]
    dsimp only
    rw [if_pos ⟨hfrom, hr, hseq⟩]
    rw [fld_of_regs_eq (s := s) (by exact State.count_regs ..)]
  · have hothers : s.mer.heard.filter (fun x => x.port != k.port || x.src != k.src) = s.mer.heard := by
      refine List.filter_eq_self.mpr fun x hx => ?_
      have hx := List.any_eq_false.mp hnew x hx
      simpa [imp_iff_not_or] using hx
    rw [hann, execPtpAnnounce, if_neg (by simp [hmine]), hothers, if_neg (Nat.lt_irrefl _),
      if_neg (Nat.not_le.mpr hroom)]
  · have hothers : (s.mer.heard.filter (fun x => x.port != k.port || x.src != k.src)).length < s.mer.heard.length := by
      obtain ⟨x, hx, hsame⟩ := List.any_eq_true.mp hknown
      refine List.length_filter_lt_length_iff_exists.mpr ⟨x, hx, ?_⟩
      simpa using hsame
    rw [hann, execPtpAnnounce, if_neg (by simp [hmine])]
    exact if_pos hothers
  · change execPtpSourceTimeout code s = _
    rw [execPtpSourceTimeout, hlast]
    rfl

theorem serialLater_asymm {a b : Nat} (h : serialLater 40 a b = true) : serialLater 40 b a = false := by
  simp only [serialLater, decide_eq_true_eq, decide_eq_false_iff_not] at h ⊢
  omega

/-- The unit is locked in STATE 2 (R265). -/
def State.lockedNow (s : State) : State :=
  (State.setFld { s with mer := { s.mer with locked := true } } F.MER_STAT_STATE 0 2).judgeSure.serve

theorem lockedNow_of_time (s : State) (now : Nat) : State.lockedNow { s with time := now } =
    (State.setFld { s with time := now, mer := { s.mer with locked := true } } F.MER_STAT_STATE 0 2).judgeSure.serve := rfl

theorem firstLock_eq {s : State} {u : Nat} (n : Nat) (husable : s.mer.usableSince = some u) (hlock : s.mer.locked = false)
    (href : s.mer.refLost = false) :
    exec (.firstLock n) s = .next (State.lockedNow (
      if (s.reachLocal (u + 2 * 2 ^ 40)).flag F.MER_CFG_START_UNSURE = true then s.reachLocal (u + 2 * 2 ^ 40)
      else { s.reachLocal (u + 2 * 2 ^ 40) with time := n % 2 ^ 80 })) := by
  change execFirstLock n s = _
  rw [execFirstLock, husable]
  exact if_neg (by simp [hlock, href])

/-- Settles O27. -/
theorem meridianStates : Obligations.MeridianStates := by
  unfold Obligations.MeridianStates
  intro s n u
  refine ⟨rfl, fun hcalm hcause hunsure => ?_, fun hsure => ?_, fun husable hlock href => ?_, fun href => ?_,
    fun href hlock hsrc husable => ?_, fun href hlock hsrc => ?_, fun t hhold => ?_⟩
  · change execSureHoldExpiry s = _
    rw [execSureHoldExpiry, hcalm, hcause]
    dsimp only
    rw [if_pos hunsure, fld_of_regs_eq (State.reachLocal_regs _ _)]
    rfl
  · change execSureHoldExpiry s = _
    rw [execSureHoldExpiry]
    split
    · exact if_neg (by simp [hsure])
    · rfl
  · rw [firstLock_eq n husable hlock href]
    generalize s.reachLocal (u + 2 * 2 ^ 40) = a
    generalize n % 2 ^ 80 = now
    refine ⟨fun h => ?_, fun h => ?_⟩
    · rw [if_neg (Bool.eq_false_iff.mp h), lockedNow_of_time]
    · rw [if_pos h]
      rfl
  · exact if_neg (by simp [href])
  · have hok : (s.fld F.MER_STAT_SOURCE != 0 && bitAt (s.fld F.MER_STAT_USABLE) (s.fld F.MER_STAT_SOURCE - 1)) = true := by
      simp [hsrc, husable]
    change execRef10mRestored s = _
    rw [execRef10mRestored, if_pos href]
    dsimp only
    rw [if_pos hlock, if_pos]
    exact hok
  · change execRef10mRestored s = _
    rw [execRef10mRestored, if_pos href]
    dsimp only
    rw [if_pos hlock, if_neg]
    rw [Bool.and_eq_true, bne_iff_ne]
    exact fun h => h.1 hsrc
  · change execEpochCheckHoldTimeout s = _
    rw [execEpochCheckHoldTimeout, hhold, ← State.reachLocal_pipe s (t + 10 * second)]
    rfl

/-- Settles O28. -/
theorem meridianRegisters : Obligations.MeridianRegisters := by
  unfold Obligations.MeridianRegisters
  intro s p v
  refine ⟨fun hjobs hfuse => ?_, fun hs hlater => ?_, fun hs hlater hv hmin => ?_, fun hs hlater hv hseal hle hcut => ?_,
    fun hs => access_of_reaches hs p _, fun hen hst hsure hlow => ?_, fun hunsure => ?_, fun t hhigh => ?_, fun hlow => ?_⟩
  · change rowMerTimeSRead p (s.finishPath p) = _
    rw [State.finishPath_of_jobs_nil hjobs, rowMerTimeSRead, if_neg (Bool.eq_false_iff.mp hfuse)]
    rfl
  · refine (access_of_reaches hs p _).trans ?_
    rw [rowGcutWrite, State.gcut, epochMax, if_neg (Bool.eq_false_iff.mp (serialLater_asymm hlater))]
    rfl
  · have hmin' : epochMin (v % 2 ^ 40) s.pipe.sealedE = v := by
      rw [epochMin, Nat.mod_eq_of_lt hv]
      split
      · rfl
      · rename_i h
        exact (hmin.resolve_left h).symm
    refine (access_of_reaches hs p _).trans ?_
    rw [rowGcutWrite, State.gcut, hmin', epochMax, if_pos hlater]
    rfl
  · have hmin : epochMin (v % 2 ^ 40) s.pipe.sealedE = s.pipe.sealedE := by
      rw [epochMin, Nat.mod_eq_of_lt hv, if_neg (by simp [hle])]
    refine (access_of_reaches hs p _).trans ?_
    rw [rowGcutWrite, State.gcut, hmin, epochMax, if_pos hcut]
    rfl
  · have hmay : s.ppsoMay = true := by simp [State.ppsoMay, hen, hst, hsure]
    change execPpsoRise s = _
    rw [execPpsoRise, if_pos ⟨hmay, by simp [hlow]⟩, second_eq]
  · have hmay : s.ppsoMay = false := by simp [State.ppsoMay, hunsure]
    change execPpsoRise s = _
    rw [execPpsoRise, if_neg (by simp [hmay])]
  · change execPpsoFall s = _
    rw [execPpsoFall, hhigh]
    dsimp only
    rw [State.ppsoLow, State.reachLocal_mer, hhigh]
    rfl
  · change execPpsoFall s = _
    rw [execPpsoFall, hlow]

end Sys2Proof.Machine

/-! ## O29: the clasp -/

namespace Sys2Proof.Machine

/-- A clasp that settles is taken where its sense, or ASSUME, allows it. -/
theorem claspSettleExpiry_lead {s : State} {t : Nat} (hset : s.twin.settleEnd = some t)
    (h : (s.twin.sense = .released ∨ s.twin.assumed = true ∧ s.twin.sense = .lost) ∧ s.twin.diagOk = true) :
    exec .claspSettleExpiry s = .next ((s.reachLocal t).lead (if s.twin.assumed = true then 8 else 1)) := by
  change execClaspSettleExpiry s = _
  rw [execClaspSettleExpiry, hset]
  dsimp only
  rw [State.reachLocal_twin]
  exact if_pos h

theorem claspSettleExpiry_ends {s : State} {t : Nat} (hset : s.twin.settleEnd = some t)
    (h : ¬ ((s.twin.sense = .released ∨ s.twin.assumed = true ∧ s.twin.sense = .lost) ∧ s.twin.diagOk = true)) :
    exec .claspSettleExpiry s = .next { s.reachLocal t with twin := { s.twin with settleEnd := none } } := by
  change execClaspSettleExpiry s = _
  rw [execClaspSettleExpiry, hset]
  dsimp only
  rw [State.reachLocal_twin]
  exact if_neg h

/-- Settles O29. -/
theorem clasp : Obligations.Clasp := by
  unfold Obligations.Clasp
  intro s t
  have hrel : exec .senseReleased s = execSenseReleased s := rfl
  have htake : exec .takeover s = execTakeover s := rfl
  have hwait : exec .termWaitExpiry s = execTermWaitExpiry s := rfl
  have hclasp : exec .claspTake s = execClaspTake s := rfl
  have hstart : exec .startClaspTimer s = execStartClaspTimer s := rfl
  have hself : exec .selfDiagFail s = execSelfDiagFail s := rfl
  dsimp only
  refine ⟨rfl, rfl, fun hhold hstate => ?_, fun hhold hsync hresync => ?_, fun hhold hset hdiag hhand => ?_,
    fun hmay hterm => ⟨fun hall => ?_, ?_⟩, fun hmay => ⟨?_, ?_, ?_, ?_⟩, fun hmay hstate => ⟨fun hwin => ?_, fun hpeer hout hsince => ?_⟩,
    fun hset hdiag => ⟨fun has hsense => ?_, fun has hsense => ?_⟩, fun hset hsense hno => ?_, fun peer hboth hpeer hlt => ?_,
    fun peer hboth hpeer hlt => ?_, fun hdown hbad hres => ?_, fun hdown hbad hhand hlead hhold hres => ?_,
    fun hdown hbad hhand => ?_, fun hsince hhold hstate hpref hdiag => ?_⟩
  · rw [hrel]
    rcases hstate with h | h <;> simp [execSenseReleased, hhold, h] <;> rfl
  · rw [hrel]
    simp [execSenseReleased, hhold, hsync, hresync]
  · rw [hrel]
    simp [execSenseReleased, hhold, hset, hdiag, hhand]
  · rw [htake, execTakeover]
    refine if_pos ⟨by simp [hterm], List.all_eq_true.mpr fun r hr => ?_, hmay⟩
    obtain ⟨x, hx, hend⟩ := hall r (List.mem_range.mp hr)
    rw [hx]
    exact hend
  · rw [hwait, execTermWaitExpiry, hterm]
    exact if_pos hmay
  · rw [htake, execTakeover]
    exact if_neg (by simp [hmay])
  · rw [hwait, execTermWaitExpiry]
    split
    · exact if_neg (by simp [hmay])
    · rfl
  · rw [hclasp, execClaspTake]
    exact if_neg (by simp [hmay])
  · rw [hstart, execStartClaspTimer]
    split
    · exact if_neg (by simp [hmay])
    · rfl
  · rw [hclasp, execClaspTake]
    exact if_pos ⟨hwin, hmay, by rcases hstate with h | h | h <;> simp [h], by rcases hstate with h | h | h <;> simp [h]⟩
  · rw [hstart, execStartClaspTimer, hsince]
    exact if_pos ⟨by simp [hpeer], hout, hmay, by rcases hstate with h | h | h <;> simp [h],
      by rcases hstate with h | h | h <;> simp [h]⟩
  · rw [claspSettleExpiry_lead hset ⟨Or.inl hsense, hdiag⟩, has]
    rfl
  · rw [claspSettleExpiry_lead hset ⟨hsense.imp id (fun h => ⟨has, h⟩), hdiag⟩, has]
    rfl
  · refine claspSettleExpiry_ends hset ?_
    rcases hno with h | h <;> simp_all
  · change execClaspContention s = _
    rw [execClaspContention, hboth]
    dsimp only
    rw [State.reachLocal_twin, hpeer]
    exact if_pos (Or.inl hlt)
  · change execClaspContention s = _
    rw [execClaspContention, hboth]
    dsimp only
    rw [State.reachLocal_twin, hpeer]
    exact if_neg (by simp; omega)
  · have hidle : (s.fld F.TWIN_RES_STATUS == Status.busy.code) = false := by
      rw [hres]
      rfl
    rw [hself, execSelfDiagFail, hdown]
    dsimp only
    rw [hbad, hidle, if_neg (by simp)]
    simp only [Bool.false_eq_true, if_false, decide_true, Bool.not_true, Bool.and_false]
  · have hplan : (s.twin.handover && s.twin.leader) = true := by simp [hhand, hlead]
    have hbusy : (s.fld F.TWIN_RES_STATUS == Status.busy.code) = true := by simp [hres]
    rw [hself, execSelfDiagFail, hdown]
    dsimp only
    rw [hbad, hplan, hbusy, if_neg (by simp)]
    simp only [Bool.false_eq_true, if_false, if_true, decide_false, Bool.not_false, Bool.and_true]
    exact congrArg _ (if_pos hhold)
  · rw [hself, execSelfDiagFail, hdown]
    simp [hbad, hhand]
  · change execFailbackTimer s = _
    rw [execFailbackTimer, hsince]
    exact if_pos ⟨by simp [hhold], hstate, hpref, hdiag⟩

end Sys2Proof.Machine

/-! ## O30: the records of the twin QPs -/

namespace Sys2Proof.Machine

section
variable {s : State} {r typ : Nat} {x : TwinRec} {rest : List TwinRec} (hr : r < 9) (hx : (s.rx r).records = x :: rest)
include hr hx

theorem onRecord_of_other (k : TwinRec → State → State) (ht : x.typ ≠ typ) : onRecord r typ s k = .next s := by
  rw [onRecord, if_neg (Nat.not_le.mpr hr), hx]
  exact if_pos ht

theorem onRecord_of_lower (k : TwinRec → State → State) (ht : x.typ = typ) (hterm : x.term < s.twin.term) :
    onRecord r typ s k = .next (s.popRecord r x).serve := by
  rw [onRecord, if_neg (Nat.not_le.mpr hr), hx]
  dsimp only
  rw [if_neg (not_not_intro ht), if_pos hterm]

theorem onRecord_of_front (k : TwinRec → State → State) (ht : x.typ = typ) (hterm : s.twin.term ≤ x.term) :
    onRecord r typ s k = .next (k x s).serve := by
  rw [onRecord, if_neg (Nat.not_le.mpr hr), hx]
  dsimp only
  rw [if_neg (not_not_intro ht), if_neg (Nat.not_lt.mpr hterm)]

end

/-- Every record command but DESC acts on the front record of its TYPE alone. -/
theorem exec_eq_onRecord (s : State) (r : Nat) {c : Instr} {n : Nat}
    (h : (c, n) ∈ [(Instr.lineFull r, 1), (.linePart r, 2), (.poisonLine r, 3), (.fence r, 4),
      (.sealMark r, 6), (.healReq r [], 7), (.healResp r, 8), (.resyncLine r, 9), (.termEnd r, 10), (.hello r, 11),
      (.handoverReq r, 12), (.pairState r, 13)]) : ∃ k, exec c s = onRecord r n s k := by
  simp only [List.mem_cons, Prod.mk.injEq, List.not_mem_nil, or_false] at h
  rcases h with ⟨rfl, rfl⟩ | ⟨rfl, rfl⟩ | ⟨rfl, rfl⟩ | ⟨rfl, rfl⟩ | ⟨rfl, rfl⟩ | ⟨rfl, rfl⟩ | ⟨rfl, rfl⟩ | ⟨rfl, rfl⟩ |
    ⟨rfl, rfl⟩ | ⟨rfl, rfl⟩ | ⟨rfl, rfl⟩ | ⟨rfl, rfl⟩
  · rw [show exec (.lineFull r) s = execLineFull r s from rfl, execLineFull]
    exact ⟨_, rfl⟩
  · rw [show exec (.linePart r) s = execLinePart r s from rfl, execLinePart]
    exact ⟨_, rfl⟩
  · rw [show exec (.poisonLine r) s = execPoisonLine r s from rfl, execPoisonLine]
    exact ⟨_, rfl⟩
  · rw [show exec (.fence r) s = execFence r s from rfl, execFence]
    exact ⟨_, rfl⟩
  · rw [show exec (.sealMark r) s = execSealMark r s from rfl, execSealMark]
    exact ⟨_, rfl⟩
  · rw [show exec (.healReq r []) s = execHealReq r [] s from rfl, execHealReq]
    exact ⟨_, rfl⟩
  · rw [show exec (.healResp r) s = execHealResp r s from rfl, execHealResp]
    exact ⟨_, rfl⟩
  · rw [show exec (.resyncLine r) s = execResyncLine r s from rfl, execResyncLine]
    exact ⟨_, rfl⟩
  · rw [show exec (.termEnd r) s = execTermEnd r s from rfl, execTermEnd]
    exact ⟨_, rfl⟩
  · rw [show exec (.hello r) s = execHello r s from rfl, execHello]
    exact ⟨_, rfl⟩
  · rw [show exec (.handoverReq r) s = execHandoverReq r s from rfl, execHandoverReq]
    exact ⟨_, rfl⟩
  · rw [show exec (.pairState r) s = execPairState r s from rfl, execPairState]
    exact ⟨_, rfl⟩

/-- A record whose descriptor is on chip, or that names none, is checked. -/
theorem checkedRecord_of_ready {s : State} {x : TwinRec} (r : Nat) (k : State → State)
    (h : x.wkey = 0 ∨ s.winReady (keyIdx x.wkey) = true) :
    let u := if x.wkey = 0 then s else s.winTouch (keyIdx x.wkey)
    (u.recordCheck x = none → s.checkedRecord r x k = k u) ∧
    (∀ st, u.recordCheck x = some st → s.checkedRecord r x k = u.recordFails r x st) := by
  intro u
  have hask : (if x.wkey = 0 then (true, s) else s.winAsk (keyIdx x.wkey) (.record r)) = (true, u) := by
    by_cases hkey : x.wkey = 0
    · simp only [u, hkey, if_true]
    · simp only [u, hkey, if_false, State.winAsk, h.resolve_left hkey, if_true]
  refine ⟨fun hc => ?_, fun st hc => ?_⟩ <;> rw [State.checkedRecord, hask] <;> dsimp only <;> rw [hc]

/-- A record whose descriptor is not on chip waits for it. -/
theorem checkedRecord_of_unready {s : State} {x : TwinRec} {r : Nat} (k : State → State) (hkey : x.wkey ≠ 0)
    (hready : s.winReady (keyIdx x.wkey) = false) (hwait : s.wins.waiting.contains (keyIdx x.wkey, .record r) = false) :
    s.checkedRecord r x k = s.winWait (keyIdx x.wkey) (.record r) := by
  have hask : (if x.wkey = 0 then (true, s) else s.winAsk (keyIdx x.wkey) (.record r)) =
      (false, s.winWait (keyIdx x.wkey) (.record r)) := by
    simp only [hkey, if_false, State.winAsk, hready, hwait, Bool.false_eq_true]
  rw [State.checkedRecord, hask]

/-- Settles O30. -/
theorem twinRecords : Obligations.TwinRecords := by
  unfold Obligations.TwinRecords
  intro s r x rest hr hx
  have hres : exec (.reservedRecordType r) s = execReservedRecordType r s := rfl
  refine ⟨fun c n hc => ?_, fun hterm => ?_, fun htyp => ?_, fun hlo hhi => ?_⟩
  · obtain ⟨k, hk⟩ := exec_eq_onRecord s r hc
    rw [hk]
    exact ⟨fun ht hterm => onRecord_of_lower hr hx k ht hterm, fun ht => onRecord_of_other hr hx k ht⟩
  · have hfront (typ : Nat) (k : TwinRec → State → State) (ht : x.typ = typ) : onRecord r typ s k = .next (k x s).serve :=
      onRecord_of_front hr hx k ht hterm
    have hin (hpm : 64 * x.line + 64 ≤ s.vault.pmBytes) : s.inPm x.line = true := decide_eq_true hpm
    refine ⟨fun hready => ?_, fun hkey hready hwait => ⟨fun ht => ?_, fun ht => ?_⟩, fun ht hpm => ?_, fun ht => ?_,
      fun ht hpm => ⟨fun hfence => ?_, fun i hr8 hi hfence => ?_⟩, fun ht => ?_, fun ht hline => ?_, fun ht => ?_,
      fun ht hpm => ?_, fun ht => ?_, ?_⟩
    · have hcheck (k : State → State) := checkedRecord_of_ready r k hready
      refine ⟨fun ht hc => ?_, fun st ht hc => ?_, fun ht hc => ?_, fun st ht hc => ?_⟩
      · change execLineFull r s = _
        rw [execLineFull, hfront _ _ ht, (hcheck _).1 hc]
      · change execLineFull r s = _
        rw [execLineFull, hfront _ _ ht, (hcheck _).2 st hc]
      · change execLinePart r s = _
        rw [execLinePart, hfront _ _ ht, (hcheck _).1 hc]
      · change execLinePart r s = _
        rw [execLinePart, hfront _ _ ht, (hcheck _).2 st hc]
    · change execLineFull r s = _
      rw [execLineFull, hfront _ _ ht, checkedRecord_of_unready _ hkey hready hwait]
    · change execLinePart r s = _
      rw [execLinePart, hfront _ _ ht, checkedRecord_of_unready _ hkey hready hwait]
    · change execPoisonLine r s = _
      rw [execPoisonLine, hfront _ _ ht, if_pos (hin hpm)]
    · change execFence r s = _
      rw [execFence, hfront _ _ ht]
    · change execDesc r s = _
      rw [execDesc, if_neg (by simpa using fun _ => hfence), hfront _ _ ht, if_neg (not_not_intro (hin hpm))]
    · change execDesc r s = _
      exact if_pos ⟨hr8, by simpa using ⟨i, hi, hfence⟩⟩
    · change execSealMark r s = _
      rw [execSealMark, hfront _ _ ht]
    · have hans : s.healAnswer x.line [] = (some (s.lineNow x.line), s) := if_pos (Or.inl hline)
      change execHealReq r [] s = _
      rw [execHealReq, hfront _ _ ht, hans]
    · change execHealResp r s = _
      rw [execHealResp, hfront _ _ ht]
    · change execResyncLine r s = _
      rw [execResyncLine, hfront _ _ ht, if_pos (hin hpm)]
    · change execTermEnd r s = _
      rw [execTermEnd, hfront _ _ ht]
    · have hhand : exec (.handoverReq r) s = execHandoverReq r s := rfl
      have hpair : exec (.pairState r) s = execPairState r s := rfl
      dsimp only
      refine ⟨fun ht => ?_, fun ht hlead hsync => ?_, fun ht hlead => ?_, fun ht hlead => ?_, fun ht hlead => ⟨fun hbits => ?_, fun hbits => ?_⟩⟩
      · change execHello r s = _
        rw [execHello, hfront _ _ ht]
      · rw [hhand, execHandoverReq, hfront _ _ ht]
        dsimp only
        rw [if_pos ⟨hlead, hsync⟩]
      · rw [hhand, execHandoverReq, hfront _ _ ht]
        dsimp only
        rw [if_neg (by simp [hlead])]
      · rw [hpair, execPairState, hfront _ _ ht]
        dsimp only
        rw [if_pos hlead]
      · rw [hpair, execPairState, hfront _ _ ht]
        dsimp only
        rw [if_neg (Bool.eq_false_iff.mp hlead), hbits]
        simp
      · rw [hpair, execPairState, hfront _ _ ht]
        dsimp only
        rw [if_neg (Bool.eq_false_iff.mp hlead), hbits]
        have hsync : (TwinSt.single == TwinSt.inSync) = false := rfl
        have hresync : (TwinSt.single == TwinSt.resync) = false := rfl
        simp only [hsync, hresync, ne_eq, reduceCtorEq, not_false_eq_true, and_true, if_false, Bool.or_false]
  · rw [hres, execReservedRecordType, if_neg (Nat.not_le.mpr hr), hx]
    refine if_pos ?_
    rcases htyp with h | h
    · rw [h]
      rfl
    · obtain ⟨n, hn⟩ : ∃ n, x.typ = n + 14 := ⟨x.typ - 14, by omega⟩
      rw [hn]
      rfl
  · rw [hres, execReservedRecordType, if_neg (Nat.not_le.mpr hr), hx]
    refine if_neg ?_
    have hlen : ∀ n, 1 ≤ n → n ≤ 13 → (bodyLen n).isNone = false := by decide
    rw [hlen x.typ hlo hhi]
    decide

end Sys2Proof.Machine

/-! ## O31 and O32: the commands of the twin, and the claim table -/

namespace Sys2Proof.Machine

theorem code_ok : Status.ok.code = 0 := rfl

theorem resultIn_eq (f : Fld) (st : Status) (t : State) : resultIn f (st, t) = t.setFld f 0 st.code := rfl

/-- Settles O31. -/
theorem twinCommands : Obligations.TwinCommands := by
  unfold Obligations.TwinCommands
  intro s p r
  refine ⟨fun hs => ?_, fun hstate hready => if_pos ⟨hstate, hready⟩, fun hlead => if_pos hlead,
    fun hlead => if_neg (Bool.eq_false_iff.mp hlead), fun m rest hr hown hfwd => ?_, fun g hlead hstate hnext => ?_,
    fun hstate => if_pos (fun h => hstate h.2)⟩
  · have hresync (p : Path) : exec (.twinResync p) s = rowTwinResync p s := access_of_reaches hs p _
    have hhand (p : Path) : exec (.twinHandover p) s = rowTwinHandover p s := access_of_reaches hs p _
    have hassume (p : Path) : exec (.twinAssume p) s = rowTwinAssume p s := access_of_reaches hs p _
    refine ⟨fun hp => ⟨?_, ?_⟩, fun hp => ?_, fun hp hlead => ?_, fun hp hlead hstate => ?_, fun hp hlead hstate hready => ?_,
      fun hp hlead hstate => ?_, fun hp hlead => ?_, fun hlead => ?_, fun hlead hmay => ?_, fun hlead hmay => ?_⟩
    · rw [hresync, rowTwinResync, if_neg (Bool.eq_false_iff.mp hp)]
      rfl
    · rw [hhand, rowTwinHandover, if_neg (Bool.eq_false_iff.mp hp)]
      rfl
    · rw [hassume, rowTwinAssume, if_neg hp]
      rfl
    · rw [hresync, rowTwinResync, if_pos hp, State.tresync, if_pos (Bool.eq_false_iff.mp hlead), resultIn_eq]
      rfl
    · have hdone : s.tresync = (.alreadyDone, s) := by
        rcases hstate with h | h <;> simp [State.tresync, hlead, h]
      rw [hresync, rowTwinResync, if_pos hp, hdone, resultIn_eq]
      rfl
    · have hdone : s.tresync = (.ok, s.sendHello.tryPair) := by simp [State.tresync, hlead, hstate, hready]
      rw [hresync, rowTwinResync, if_pos hp, hdone, resultIn_eq, code_ok]
      rfl
    · rw [hhand, rowTwinHandover, if_pos hp, State.handoverCmd, if_pos ⟨hlead, hstate⟩, resultIn_eq]
      rfl
    · rw [hhand, rowTwinHandover, if_pos hp, State.handoverCmd, if_neg (by simp [hlead]), resultIn_eq]
      rfl
    · rw [hassume, rowTwinAssume, if_pos rfl, State.assume, if_pos hlead, resultIn_eq]
      rfl
    · rw [hassume, rowTwinAssume, if_pos rfl, State.assume, if_neg (Bool.eq_false_iff.mp hlead), if_pos hmay, resultIn_eq, code_ok]
      rfl
    · rw [hassume, rowTwinAssume, if_pos rfl, State.assume, if_neg (Bool.eq_false_iff.mp hlead),
        if_neg (Bool.eq_false_iff.mp hmay), resultIn_eq]
      rfl
  · change execForwardAckTimeout r s = _
    rw [execForwardAckTimeout, if_neg (Nat.not_le.mpr hr), hown]
    exact if_pos hfwd
  · change execResyncRegionCopy [] s = _
    rw [execResyncRegionCopy, if_neg (not_not_intro ⟨hlead, hstate⟩), hnext]
    rfl

theorem onEntry_of_lt {n : Nat} (h : n < 4096) (k : Res) : onEntry n k = k := if_pos h

/-- CLM_DATA has no part in what a claim counts for. -/
theorem claimNow_setData (s : State) (hi lo c t : Nat) :
    ((s.setFld F.CLM_DATA 0 hi 0).setFld F.CLM_DATA 0 lo 1).claimNow c t = s.claimNow c t := by
  have httl : ((s.setFld F.CLM_DATA 0 hi 0).setFld F.CLM_DATA 0 lo 1).fld F.CLM_CFG_TTL = s.fld F.CLM_CFG_TTL :=
    (State.fldOf_setFldOf_other _ _ _ _ _ _ _ _ _ _ (by decide)).trans
      (State.fldOf_setFldOf_other _ _ _ _ _ _ _ _ _ _ (by decide))
  simp only [State.claimNow, httl]
  rfl

/-- The paths that may set the claim of a plane. -/
theorem claimMay_iff (p : Path) (plane : Nat) : claimMay p plane = true ↔ p.trusted = true ∨ p = .fabric plane := by
  cases p <;> simp [claimMay, Path.trusted]

/-- Settles O32. -/
theorem claims : Obligations.Claims := by
  unfold Obligations.Claims
  intro s p n plane v len
  refine ⟨fun hs hn => ?_, fun hs hn => (access_of_reaches hs p _).trans (if_neg (Nat.not_lt.mpr hn)), fun u hplane hu => ?_,
    fun hplane hu => ?_, fun hplane => if_pos hplane⟩
  · have hset : exec (.setPrefix p n len) s = rowSetPrefix p n len s := access_of_reaches hs p _
    have hclaim : exec (.setClaim p n plane v) s = rowSetClaim p n plane v s := access_of_reaches hs p _
    have hquery : exec (.clmQuery p n) s = rowClmQuery p n s := access_of_reaches hs p _
    have hclear : exec (.clmClear p n) s = rowClmClear p n s := access_of_reaches hs p _
    have hexpire : exec (.claimTtlExpiry n plane) s = execClaimTtlExpiry n plane s := rfl
    rw [hset, hclaim, hquery, hclear, hexpire, rowSetPrefix, rowSetClaim, rowClmQuery, rowClmClear, execClaimTtlExpiry]
    simp only [onEntry_of_lt hn]
    refine ⟨fun hp => ?_, fun hp => ?_, fun hp => ?_, fun hp => ?_, fun hp => ⟨?_, ?_, ?_⟩, fun hp hplane => ?_, fun httl => ?_, fun httl => ?_⟩
    · rw [if_pos hp]
      rfl
    · rw [if_pos ((claimMay_iff p plane).mpr hp)]
      rfl
    · rw [if_pos hp, State.queryClaim]
      rw [claimNow_setData, claimNow_setData]
      rfl
    · rw [if_pos hp]
      rfl
    · exact if_neg (Bool.eq_false_iff.mp hp)
    · exact if_neg (Bool.eq_false_iff.mp hp)
    · exact if_neg (Bool.eq_false_iff.mp hp)
    · refine if_neg fun hmay => ?_
      rcases (claimMay_iff p plane).mp hmay with h | h
      · exact Bool.eq_false_iff.mp hp h
      · exact hplane h
    · rw [if_neg httl, State.setClaimEntry, State.reachLocal_claims]
      rfl
    · rw [if_pos httl]
  · change execReturnHoldExpiry plane s = _
    rw [execReturnHoldExpiry, if_neg (Nat.not_le.mpr hplane), hu]
  · change execReturnHoldExpiry plane s = _
    rw [execReturnHoldExpiry, if_neg (Nat.not_le.mpr hplane), hu]

end Sys2Proof.Machine

/-! ## O33: NRT packets that open -/

namespace Sys2Proof.Machine

theorem ctxMiss_of_cached {s : State} {n : Nat} (hf : s.tr.fetches.contains n = false) (hc : s.tr.cache.contains n = true) :
    s.ctxMiss n = (false, s.ctxTouch n) := by
  rw [State.ctxMiss, if_neg (Bool.eq_false_iff.mp hf), if_pos hc]

/-- A frame that is heard is counted, and changes nothing else. -/
theorem hears_eq {s : State} {f : Frame} {dport : Nat} (h : (s.hears f dport).1 = true) :
    s.hears f dport = (true, s.countFrame f) := by
  rw [State.hears] at h ⊢
  split at h
  next => exact absurd h nofun
  next hdeaf =>
    rw [if_neg hdeaf]
    dsimp only at h ⊢
    split at h
    next => exact absurd h nofun
    next => exact Prod.ext h rfl

theorem countFrame_tr (s : State) (f : Frame) : (s.countFrame f).tr = s.tr := by
  simp only [State.countFrame, State.countUnits]
  split <;> split <;> simp only [State.count_tr]

/-- The state that a packet finds at the cipher stage once it is through (R331). -/
def State.throughCipher (s : State) (k : Pkt) : State := ((s.hearing k).occupy 0 k.plen).count 0x90 0 1

theorem opened_eq (s : State) (k : Pkt) :
    s.opened k = (s.throughCipher k).modQp (k.dqp % 2 ^ 20) (fun q => { q with rxCtr := max q.rxCtr k.nonce }) := rfl

/-- A packet that opens reaches the transport. -/
theorem nrt_of_opens {s : State} {typ ver : Nat} {k : Pkt} (h : s.opens typ k ver) :
    let r := (s.throughCipher k).takeVerified (k.dqp % 2 ^ 20) k ver
    s.nrt typ k = (if r.1 then r.2.ackNow (k.dqp % 2 ^ 20) else r.2).serve := by
  obtain ⟨htyp, hhears, hformed, hfetch, hcache, hst, hkind, hwin, hrx, hpipe, hlen, hslot, hopen, htag, hce⟩ := h
  have htr : ((s.countFrame k.frame).count 0x20 0 0).tr = s.tr := (State.count_tr ..).trans (countFrame_tr ..)
  have hmiss : ((s.countFrame k.frame).count 0x20 0 0).ctxMiss (k.dqp % 2 ^ 20) = (false, s.hearing k) :=
    ctxMiss_of_cached (by rw [htr, hfetch]) (by rw [htr, hcache])
  have hbears : ¬ ((k.typ ≠ 0x13 ∧ k.typ ≠ 0x14) ∧ (s.hearing k).outOfWindow (k.dqp % 2 ^ 20) k.psn = true) := by
    rintro ⟨⟨hack, herr⟩, hout⟩
    rcases hwin with h | h | ⟨h, -⟩
    · exact hack h
    · exact herr h
    · exact Bool.eq_false_iff.mp h hout
  have hcredit : ¬ ((k.typ ≠ 0x13 ∧ k.typ ≠ 0x14) ∧ ((s.hearing k).qp (k.dqp % 2 ^ 20)).overdrawn k = true) := by
    rintro ⟨⟨hack, herr⟩, hover⟩
    rcases hwin with h | h | ⟨-, h⟩
    · exact hack h
    · exact herr h
    · exact Bool.eq_false_iff.mp h hover
  have hcipher : (s.hearing k).cipherStage (k.dqp % 2 ^ 20) k true =
      (s.throughCipher k).takeVerified (k.dqp % 2 ^ 20) k ver := by
    rw [State.cipherStage, if_neg (not_not_intro hst), if_neg (not_not_intro hslot), hopen]
    dsimp only
    rw [if_neg (Nat.not_lt.mpr hlen), if_neg (by simp [hrx, hpipe]), if_pos htag]
    rfl
  have htake : (s.hearing k).takePacket k = (s.throughCipher k).takeVerified (k.dqp % 2 ^ 20) k ver := by
    rw [State.takePacket]
    dsimp only
    rw [if_neg (by omega), if_neg (fun h => h.elim (absurd hst) hkind), if_neg hbears, if_neg hcredit, hcipher]
  rw [State.nrt, if_neg (fun h => h.1 htyp), hears_eq hhears]
  dsimp only
  rw [if_neg (not_not_intro hformed), hmiss]
  dsimp only
  rw [htake]

/-- A verified packet that is neither an ACK nor an ERROR goes by its PSN, once its acknowledgement has been taken. -/
theorem takeVerified_of_acked {s u : State} {n ver : Nat} {k : Pkt} (hce : k.ce = false) (hack : k.typ ≠ 0x13)
    (herr : k.typ ≠ 0x14)
    (hu : (match k.ackx with
      | some x => (s.modQp n (fun q => { q with rxCtr := max q.rxCtr k.nonce })).acked n x
      | none => s.modQp n (fun q => { q with rxCtr := max q.rxCtr k.nonce })) = u)
    (htakes : (u.qp n).takes k.typ = true) : s.takeVerified n k ver = u.takePsn n k ver := by
  rw [State.takeVerified]
  dsimp only
  rw [if_neg (Bool.eq_false_iff.mp hce), if_neg herr, if_neg hack]
  subst hu
  cases hx : k.ackx <;> simp only [hx] at htakes ⊢ <;> exact if_pos htakes

section
variable {s : State} {n ver : Nat} {k : Pkt}

theorem takePsn_of_duplicate (hdup : (s.qp n).duplicate k.psn = true) : s.takePsn n k ver = (true, s.count 0x20 0 5) := by
  rw [State.takePsn]
  exact if_pos hdup

/-- A PSN not far ahead that was not received lies in the window. -/
theorem window_of_new (hahead : (s.qp n).ahead k.psn ≤ 512) (hnew : (s.qp n).rcvd.contains k.psn = false) :
    (s.qp n).duplicate k.psn = false ∧ s.outOfWindow n k.psn = false := by
  have hdup : (s.qp n).duplicate k.psn = false := by
    rw [Qp.duplicate, hnew, Bool.or_false, decide_eq_false_iff_not]
    omega
  refine ⟨hdup, ?_⟩
  rw [State.outOfWindow]
  simp only [hdup, Bool.not_false, Bool.true_and, decide_eq_false_iff_not]
  omega

section
variable (hahead : (s.qp n).ahead k.psn ≤ 512) (hnew : (s.qp n).rcvd.contains k.psn = false)
include hahead hnew

/-- From the early warning on a request that is no read is noted as lost (R135). -/
theorem takePsn_of_warned (hover : (s.qp n).overdrawn k = false) (hreq : isResponse k.typ = false)
    (hwarn : s.pow.warn = true) (hread : k.typ ≠ 2) :
    s.takePsn n k ver = (false, s.setQp n { s.qp n with
      lost := if (s.qp n).lost.contains k.psn then (s.qp n).lost else k.psn :: (s.qp n).lost }) := by
  obtain ⟨hdup, hout⟩ := window_of_new hahead hnew
  rw [State.takePsn]
  dsimp only
  rw [if_neg (Bool.eq_false_iff.mp hdup), if_neg (Bool.eq_false_iff.mp hout), if_neg (Bool.eq_false_iff.mp hover)]
  exact if_pos ⟨by rw [hreq]; rfl, hwarn, hread⟩

/-- A request that is new, in the window and within its credit is marked, noted, and delivered or kept for its turn. -/
theorem takePsn_of_request (hover : (s.qp n).overdrawn k = false) (hreq : isResponse k.typ = false)
    (hwarn : s.pow.warn = false) (hroom : s.ingressUsed + pktCost k ≤ ingressUnits) (horder : s.orderUsed < 16384) :
    let r := (s.qp n).mark k.psn s.mono
    let now : Prop := k.typ = 1 ∨ badPersist k = true ∨ (s.qp n).mayDeliver k.psn = true
    let v := ((s.setQp n { r.2 with
      credSeen := (r.2.credSeen + pktCost k) % 2 ^ 32,
      orderq := if now then r.2.orderq else r.2.orderq ++ [k] }).grant n).noteMsg n k ver
    s.takePsn n k ver = (r.1, if now then v.deliver n k else v) := by
  obtain ⟨hdup, hout⟩ := window_of_new hahead hnew
  have hno : (!isResponse k.typ) = true := by rw [hreq]; rfl
  dsimp only
  rw [State.takePsn]
  dsimp only
  rw [if_neg (Bool.eq_false_iff.mp hdup), if_neg (Bool.eq_false_iff.mp hout), if_neg (Bool.eq_false_iff.mp hover),
    if_neg (by simp [hwarn]), if_neg (fun h => Nat.not_lt.mpr hroom h.2), if_neg (fun h => Nat.not_le.mpr horder h.2)]
  simp only [hno, if_true, not_true_eq_false, if_false, false_or]
  by_cases hnow : k.typ = 1 ∨ badPersist k = true ∨ (s.qp n).mayDeliver k.psn = true
  · simp only [hnow, if_true]
  · simp only [hnow, if_false]

/-- A response that is new and in the window is marked, and taken for the message that it answers. -/
theorem takePsn_of_response (hresp : isResponse k.typ = true) :
    let r := (s.qp n).mark k.psn s.mono
    s.takePsn n k ver = (r.1, (s.setQp n r.2).takeResponse n k) := by
  obtain ⟨hdup, hout⟩ := window_of_new hahead hnew
  have hover : (s.qp n).overdrawn k = false := by simp [Qp.overdrawn, hresp]
  dsimp only
  rw [State.takePsn]
  simp only [hdup, hout, hover, hresp, Bool.false_eq_true, if_false, Bool.not_true, false_and, not_false_eq_true, true_or,
    or_true, not_true_eq_false, if_true]

end

end

/-- The requests of Table 5.4, and the types that answer them. -/
theorem request_of_mem {k : Pkt} {typ : Nat} {c : Instr} (s : State)
    (h : (typ, c) ∈ [(1, Instr.nrtWrite k), (2, .nrtReadReq k), (3, .nrtAtomic k), (4, .nrtPersist k)]) :
    (1 ≤ typ ∧ typ ≤ 4) ∧ exec c s = .next (s.nrt typ k) := by
  simp only [List.mem_cons, Prod.mk.injEq, List.not_mem_nil, or_false] at h
  rcases h with ⟨rfl, rfl⟩ | ⟨rfl, rfl⟩ | ⟨rfl, rfl⟩ | ⟨rfl, rfl⟩ <;> exact ⟨by decide, rfl⟩

theorem response_of_mem {k : Pkt} {typ : Nat} {c : Instr} (s : State)
    (h : (typ, c) ∈ [(0x10, Instr.nrtReadResp k), (0x11, .nrtAtomicResp k), (0x12, .nrtCompletion k)]) :
    (0x10 ≤ typ ∧ typ ≤ 0x12) ∧ exec c s = .next (s.nrt typ k) := by
  simp only [List.mem_cons, Prod.mk.injEq, List.not_mem_nil, or_false] at h
  rcases h with ⟨rfl, rfl⟩ | ⟨rfl, rfl⟩ | ⟨rfl, rfl⟩ <;> exact ⟨by decide, rfl⟩

/-- A packet that opens and is neither an ACK nor an ERROR goes by its PSN. -/
theorem nrt_of_psn {s u : State} {typ ver : Nat} {k : Pkt} (h : s.opens typ k ver) (hack : typ ≠ 0x13) (herr : typ ≠ 0x14)
    (hu : (match k.ackx with | some x => (s.opened k).acked (k.dqp % 2 ^ 20) x | none => s.opened k) = u)
    (htakes : (u.qp (k.dqp % 2 ^ 20)).takes typ = true) {r : Bool × State}
    (hr : u.takePsn (k.dqp % 2 ^ 20) k ver = r) :
    s.nrt typ k = (if r.1 then r.2.ackNow (k.dqp % 2 ^ 20) else r.2).serve := by
  have hnrt := nrt_of_opens h
  obtain ⟨rfl, -, -, -, -, -, -, -, -, -, -, -, -, -, hce⟩ := h
  have htake := takeVerified_of_acked (s := s.throughCipher k) (ver := ver) hce hack herr hu htakes
  rw [hnrt, htake, hr]

/-- Settles O33. -/
theorem nrtPackets : Obligations.NrtPackets := by
  unfold Obligations.NrtPackets
  refine ⟨fun s k ver typ c hc h => ?_, fun s k ver => ⟨fun typ c hc h => ?_, fun x h hx => ?_, fun h hfresh => ?_⟩⟩
  · obtain ⟨hreq, hexec⟩ := request_of_mem s hc
    have htyp : k.typ = typ := h.1
    intro n u q hkind hover
    have htakes : (u.qp n).takes typ = true := by
      rw [Qp.takes, show (u.qp n).kind = 0 from hkind]
      exact decide_eq_true hreq
    have hresp : isResponse k.typ = false := by
      rw [htyp]
      simp [isResponse]
      omega
    have hnrt {r : Bool × State} (hr : u.takePsn n k ver = r) :
        exec c s = .next (if r.1 then r.2.ackNow n else r.2).serve := by
      rw [hexec, nrt_of_psn h (by omega) (by omega) rfl htakes hr]
    refine ⟨fun hahead hnew => ⟨fun hwarn hroom horder => ?_, fun hwarn hread => ?_⟩, fun hdup => ?_⟩
    · have hr := hnrt (takePsn_of_request hahead hnew hover hresp hwarn hroom horder)
      rw [htyp] at hr
      exact hr
    · have hr := hnrt (takePsn_of_warned hahead hnew hover hresp hwarn (htyp ▸ hread))
      simpa only [Bool.false_eq_true, if_false] using hr
    · have hr := hnrt (takePsn_of_duplicate hdup)
      simpa only [if_true] using hr
  · obtain ⟨hresp, hexec⟩ := response_of_mem s hc
    have htyp : k.typ = typ := h.1
    intro u q hkind hahead hnew
    have hresp' : isResponse typ = true := by simpa [isResponse] using hresp
    have htakes : (u.qp (k.dqp % 2 ^ 20)).takes typ = true := by
      rw [Qp.takes, show (u.qp (k.dqp % 2 ^ 20)).kind = 2 from hkind]
      exact hresp'
    have hnrt := nrt_of_psn (u := u) h (by omega) (by omega) rfl htakes (takePsn_of_response hahead hnew (htyp ▸ hresp'))
    rw [hexec]
    exact congrArg _ hnrt
  · have hce : k.ce = false := by
      obtain ⟨-, -, -, -, -, -, -, -, -, -, -, -, -, -, hce⟩ := h
      exact hce
    have htake : (s.throughCipher k).takeVerified (k.dqp % 2 ^ 20) k ver =
        (false, (s.opened k).acked (k.dqp % 2 ^ 20) x) := by
      simp only [State.takeVerified, hce, Bool.false_eq_true, if_false, h.1, hx, if_true]
      rfl
    change Host.Outcome.next (s.nrt 0x13 k) = _
    rw [nrt_of_opens h, htake]
    simp only [Bool.false_eq_true, if_false]
  · have hce : k.ce = false := by
      obtain ⟨-, -, -, -, -, -, -, -, -, -, -, -, -, -, hce⟩ := h
      exact hce
    have hctr : ((s.throughCipher k).qp (k.dqp % 2 ^ 20)).rxCtr < k.nonce := by
      rw [State.throughCipher, State.qp, State.count_tr]
      exact hfresh
    have htake : (s.throughCipher k).takeVerified (k.dqp % 2 ^ 20) k ver =
        (false, ((s.opened k).failQp (k.dqp % 2 ^ 20) 5 k.status).settleTwin) := by
      simp only [State.takeVerified, hce, Bool.false_eq_true, if_false, h.1, hctr, if_true]
      rfl
    change Host.Outcome.next (s.nrt 0x14 k) = _
    rw [nrt_of_opens h, htake]
    simp only [Bool.false_eq_true, if_false]

end Sys2Proof.Machine

/-! ## O34: the timers of a QP -/

namespace Sys2Proof.Machine

theorem onQp_of_lt {n : Nat} (h : n < 2 ^ 20) (k : Res) : onQp n k = k := if_pos h

/-- Local time reaches at least the instant asked for. -/
theorem le_mono_reachLocal (s : State) (t : Nat) : t ≤ (s.reachLocal t).mono := by
  rw [State.reachLocal]
  split
  next h => rw [State.advance_mono]; omega
  next h => omega

theorem ctxTouch_qp (s : State) (n i : Nat) : (s.ctxTouch n).qp i = s.qp i := rfl

theorem ctxTouch_mono (s : State) (n : Nat) : (s.ctxTouch n).mono = s.mono := rfl

theorem ctxTouch_regs (s : State) (n : Nat) : (s.ctxTouch n).regs = s.regs := rfl

theorem qp_of_tr_eq {s t : State} (h : t.tr = s.tr) (n : Nat) : t.qp n = s.qp n := by rw [State.qp, h]; rfl

/-- A timer of a context on chip runs once the context has been used. -/
theorem timerFires_of_cached {s : State} {n : Nat} {credit : Bool} {run : State → State}
    (hf : s.tr.fetches.contains n = false) (hc : s.tr.cache.contains n = true) :
    s.timerFires n credit run = run (s.ctxTouch n) := by
  rw [State.timerFires, ctxMiss_of_cached hf hc]

/-- A timer of a context that is being fetched waits for it. -/
theorem timerFires_of_fetching {s : State} {n : Nat} {credit : Bool} {run : State → State}
    (hf : s.tr.fetches.contains n = true) (ht : s.tr.timers.contains (n, credit) = false) :
    s.timerFires n credit run = State.ctxNext { s with tr := { s.tr with timers := s.tr.timers ++ [(n, credit)] } } := by
  rw [State.timerFires, State.ctxMiss, if_pos hf]
  dsimp only
  rw [if_neg (Bool.eq_false_iff.mp ht)]

section
variable {s : State} {n : Nat} {p : SentPkt} {rest : List SentPkt}

/-- A retransmit timer that has run out past the retry limit puts the QP into ERROR. -/
theorem rtoFires_of_spent (hsent : (s.qp n).sent = p :: rest) (hst : (s.qp n).st = 2) (hdue : (s.qp n).rtoAt ≤ s.mono)
    (hspent : (s.qp n).retry ≤ (s.qp n).backoff) :
    s.rtoFires n = (((s.count 0x20 0 4).failQp n 2 Status.qpFlushed.code).settleTwin).serve := by
  rw [State.rtoFires, hsent]
  dsimp only
  rw [if_neg (by omega), if_pos (by omega)]

/-- A retransmit timer that has run out sends the oldest packet again. -/
theorem rtoFires_of_left (hsent : (s.qp n).sent = p :: rest) (hst : (s.qp n).st = 2) (hdue : (s.qp n).rtoAt ≤ s.mono)
    (hleft : (s.qp n).backoff < (s.qp n).retry) :
    s.rtoFires n = ((s.count 0x20 0 4).modQp n
      (fun q => { q with backoff := q.backoff + 1, progressAt := (s.count 0x20 0 4).mono })).resend n p false := by
  rw [State.rtoFires, hsent]
  dsimp only
  rw [if_neg (by omega), if_neg (by omega)]

theorem creditFires_of_due {t : Nat} (ht : s.creditAt n = some t) (hdue : t ≤ s.mono) :
    s.creditFires n = ((s.failQp n 3 Status.creditTimeout.code).settleTwin).serve := by
  rw [State.creditFires, ht]
  exact if_pos hdue

end

/-- The condition under which a WRITE message's end is told, as the Booleans that the model computes. -/
theorem told_iff (fails signal : Bool) (kind : Nat) :
    ((fails || signal) && kind != 1) = true ↔ (fails = true ∨ signal = true) ∧ kind ≠ 1 := by simp

/-- Settles O34. -/
theorem nrtTimers : Obligations.NrtTimers := by
  unfold Obligations.NrtTimers
  intro s n q here
  refine ⟨fun hn hst => ⟨?_, ?_, ?_, ?_, ?_, ?_, ?_, ?_, ?_, ?_, ?_⟩, fun hn => if_neg (Nat.not_lt.mpr hn)⟩
  · rintro p rest hsent ⟨hf, hc⟩
    have hrto : exec (.rtoExpiry n) s =
        .next (((s.reachLocal q.rtoAt).ctxTouch n).rtoFires n) := by
      change execRtoExpiry n s = _
      rw [execRtoExpiry, onQp_of_lt hn]
      dsimp only
      rw [if_neg (by simp [q] at hst hsent; simp [hst, hsent]),
        timerFires_of_cached (by rw [State.reachLocal_tr, hf]) (by rw [State.reachLocal_tr, hc])]
    have hqp : ((s.reachLocal q.rtoAt).ctxTouch n).qp n = q := by
      rw [ctxTouch_qp, qp_of_tr_eq (State.reachLocal_tr _ _)]
    have hdue := le_mono_reachLocal s q.rtoAt
    rw [← ctxTouch_mono _ n] at hdue
    refine ⟨fun h => ?_, fun h => ?_⟩
    · rw [hrto, rtoFires_of_spent (by rw [hqp, hsent]) (by rw [hqp, hst]) (by rw [hqp]; exact hdue) (by rw [hqp]; exact h)]
      rfl
    · rw [hrto, rtoFires_of_left (by rw [hqp, hsent]) (by rw [hqp, hst]) (by rw [hqp]; exact hdue) (by rw [hqp]; exact h)]
      rfl
  · intro hsent hf ht
    change execRtoExpiry n s = _
    rw [execRtoExpiry, onQp_of_lt hn]
    dsimp only
    rw [if_neg (by simp [q] at hst hsent; simp [hst, hsent]),
      timerFires_of_fetching (by rw [State.reachLocal_tr, hf]) (by rw [State.reachLocal_tr, ht])]
    rfl
  · intro hsent
    change execRtoExpiry n s = _
    rw [execRtoExpiry, onQp_of_lt hn]
    exact if_pos (Or.inr (List.isEmpty_iff.mpr hsent))
  · intro t ht
    change execAckDelayExpiry n s = _
    rw [execAckDelayExpiry, onQp_of_lt hn, ht]
    exact if_neg (not_not_intro hst)
  · intro h
    change execAckCoalesceCount n s = _
    rw [execAckCoalesceCount, onQp_of_lt hn, if_pos ⟨hst, h⟩]
  · intro h
    change execAckCoalesceCount n s = _
    rw [execAckCoalesceCount, onQp_of_lt hn, if_neg (fun hc => Nat.not_le.mpr h hc.2)]
  · intro hkind
    change execCreditWindowGrow n s = _
    rw [execCreditWindowGrow, onQp_of_lt hn]
    exact if_neg (fun h => h.elim (absurd hst) hkind)
  · intro hkind hheld
    change execHoldAckTimer n s = _
    rw [execHoldAckTimer, onQp_of_lt hn, if_pos ⟨hst, hkind, hheld⟩]
  · rintro t ht hsendq ⟨hf, hc⟩
    have hat : s.creditAt n = some (t + ms (s.fld F.TR_TIMER_CREDIT)) := by
      rw [State.creditAt, if_pos ⟨hst, by simpa using hsendq⟩, ht]
      rfl
    change execCreditTimeout n s = _
    rw [execCreditTimeout, onQp_of_lt hn, hat]
    dsimp only
    rw [timerFires_of_cached (by rw [State.reachLocal_tr, hf]) (by rw [State.reachLocal_tr, hc]),
      creditFires_of_due (t := t + ms (s.fld F.TR_TIMER_CREDIT))]
    · rw [← hat, State.creditAt, State.creditAt, ctxTouch_qp, qp_of_tr_eq (State.reachLocal_tr _ _),
        fld_of_regs_eq (s := s) ((ctxTouch_regs _ _).trans (State.reachLocal_regs _ _))]
    · rw [ctxTouch_mono]
      exact le_mono_reachLocal _ _
  · change execOrderQueueRelease n s = _
    rw [execOrderQueueRelease, onQp_of_lt hn]
    exact if_neg (not_not_intro hst)
  · intro msg m i o st l hfind hended htyp hop hopi hlevel
    change execWriteMessageEnd n msg s = _
    rw [execWriteMessageEnd, onQp_of_lt hn, hfind]
    dsimp only
    rw [if_neg (by simp [hended, htyp]), hop]
    dsimp only [Option.bind_some]
    rw [hopi]
    dsimp only
    rw [hlevel]
    dsimp only
    simp only [told_iff]
    rfl

end Sys2Proof.Machine

/-! ## O35: QP commands -/

namespace Sys2Proof.Machine

section
variable {s : State} {n : Nat} {p : Path} {k : State → State}

theorem qpRow_of_trusted (hn : n < 2 ^ 20) (hp : p.trusted = true) : qpRow p n s k = .next ((k s).answer p .ok) := by
  rw [qpRow, if_pos hn, if_pos hp]
  rfl

theorem qpRow_of_untrusted (hn : n < 2 ^ 20) (hp : p.trusted = false) : qpRow p n s k = .next (s.answer p .privilege) := by
  rw [qpRow, if_pos hn, if_neg (Bool.eq_false_iff.mp hp)]
  rfl

end

/-- What the model refuses of CREATE is what does not fit. -/
theorem qpCreate_refusal_iff (s : State) (n : Nat) :
    ((s.qp n).st ≠ 0 ∨ (s.qp n).resetting = true ∨ s.descriptorReserved = true ∨ ¬ s.descriptorQp.legal = true ∨
      (s.descriptorQp.pin = true ∧ 1024 ≤ s.pinnedQps) ∨
      (s.descriptorQp.kind = 1 ∧ ¬ s.twinPlace n s.descriptorQp = true)) ↔
    ¬ ((s.qp n).st = 0 ∧ (s.qp n).resetting = false ∧ s.descriptorReserved = false ∧ s.descriptorQp.legal = true ∧
      (s.descriptorQp.pin = true → s.pinnedQps < 1024) ∧
      (s.descriptorQp.kind = 1 → s.twinPlace n s.descriptorQp = true)) := by
  simp only [← Nat.not_le, ← Bool.not_eq_true]
  tauto

/-- Settles O35. -/
theorem qpCommands : Obligations.QpCommands := by
  unfold Obligations.QpCommands
  intro s p n quarter hn
  refine ⟨fun hs => ⟨fun hp => ⟨fun hfit => ?_, fun hfit => ?_, fun hst => ?_, fun hst => ?_, fun hst => ?_,
    fun hst => ?_, ?_, ?_, fun hst hlegal => ?_, fun hno => ?_⟩, fun hp => ⟨?_, ?_⟩⟩, fun hresetting hbusy hqpn => ?_,
    fun hno => ?_⟩
  · refine (access_of_reaches hs p _).trans ?_
    rw [rowQpCreate, qpRow_of_trusted hn hp, State.qpCommand, State.qpCreate]
    dsimp only
    rw [if_neg (fun h => (qpCreate_refusal_iff s n).mp h hfit)]
    rfl
  · refine (access_of_reaches hs p _).trans ?_
    rw [rowQpCreate, qpRow_of_trusted hn hp, State.qpCommand, State.qpCreate]
    dsimp only
    rw [if_pos ((qpCreate_refusal_iff s n).mpr hfit)]
    rfl
  · refine (access_of_reaches hs p _).trans ?_
    rw [rowQpReady, qpRow_of_trusted hn hp, State.qpCommand, State.qpReady, if_neg (not_not_intro hst)]
    rfl
  · refine (access_of_reaches hs p _).trans ?_
    rw [rowQpReady, qpRow_of_trusted hn hp, State.qpCommand, State.qpReady, if_pos hst]
    rfl
  · refine (access_of_reaches hs p _).trans ?_
    rw [rowQpError, qpRow_of_trusted hn hp, State.qpCommand, State.qpFail, if_neg (not_not_intro hst)]
    rfl
  · refine (access_of_reaches hs p _).trans ?_
    rw [rowQpError, qpRow_of_trusted hn hp, State.qpCommand, State.qpFail, if_pos hst]
    rfl
  · refine (access_of_reaches hs p _).trans ?_
    rw [rowQpReset, qpRow_of_trusted hn hp]
    rfl
  · refine (access_of_reaches hs p _).trans ?_
    rw [rowQpQuery, qpRow_of_trusted hn hp]
    rfl
  · refine (access_of_reaches hs p _).trans ?_
    rw [rowQpModify, qpRow_of_trusted hn hp, State.qpCommand, State.qpModify]
    dsimp only
    rw [if_neg (fun h => h.elim (absurd hst) (not_not_intro hlegal))]
    rfl
  · refine (access_of_reaches hs p _).trans ?_
    rw [rowQpModify, qpRow_of_trusted hn hp, State.qpCommand, State.qpModify]
    dsimp only
    rw [if_pos (hno.imp_right Bool.eq_false_iff.mp)]
    rfl
  · exact (access_of_reaches hs p _).trans (qpRow_of_untrusted hn hp)
  · exact (access_of_reaches hs p _).trans (qpRow_of_untrusted hn hp)
  · change execQpResetFlushDone n s = _
    rw [execQpResetFlushDone, if_pos ⟨hresetting, Bool.eq_false_iff.mp hbusy⟩]
    dsimp only
    exact congrArg (fun v => Host.Outcome.next (State.setFld _ F.TR_QP_RES_STATUS 0 v)) (if_pos hqpn)
  · change execQpResetFlushDone n s = _
    rw [execQpResetFlushDone, if_neg]
    rintro ⟨hresetting, hidle⟩
    exact hno.elim (fun h => Bool.eq_false_iff.mp h hresetting) hidle

end Sys2Proof.Machine

/-! ## O36: RoCEv2 requests -/

namespace Sys2Proof.Machine

/-- The state that an expected RoCEv2 packet finds once it has been heard and its context used. -/
def State.heardRoce (s : State) (k : Roce) : State := (s.countFrame k.frame).ctxTouch (k.qp % 2 ^ 20)

/-- An expected packet of one of the command's opcodes goes to the part of the responder that its kind names. -/
theorem roce_of_expects {s : State} {k : Roce} (h : s.expects k (roceWants k)) :
    let n := k.qp % 2 ^ 20
    let u := s.heardRoce k
    s.roce true k =
      (if k.opcode = 0x0C then u.expectRead n k false
        else if k.opcode = 0x13 ∨ k.opcode = 0x14 then u.expectAtomic n k
        else u.expectWrite n k).serve := by
  obtain ⟨hhears, hicrc, hpkey, hfetch, hcache, hst, hkind, hce, hserves, hpsn, hexpected⟩ := h
  have htr : (s.countFrame k.frame).tr = s.tr := countFrame_tr ..
  have hmiss : (s.countFrame k.frame).ctxMiss (k.qp % 2 ^ 20) = (false, s.heardRoce k) :=
    ctxMiss_of_cached (by rw [htr, hfetch]) (by rw [htr, hcache])
  have hd : (k.psn + 2 ^ 24 - k.psn % 2 ^ 24) % 2 ^ 24 = 0 := by omega
  have htake : (s.heardRoce k).takeRoce k =
      if k.opcode = 0x0C then (s.heardRoce k).expectRead (k.qp % 2 ^ 20) k false
      else if k.opcode = 0x13 ∨ k.opcode = 0x14 then (s.heardRoce k).expectAtomic (k.qp % 2 ^ 20) k
      else (s.heardRoce k).expectWrite (k.qp % 2 ^ 20) k := by
    rw [State.heardRoce] at *
    rw [State.takeRoce]
    dsimp only
    rw [if_neg (not_not_intro hst), if_neg (not_not_intro hkind), if_neg (Bool.eq_false_iff.mp hce),
      if_neg (not_not_intro hserves), hexpected, if_pos hd]
  dsimp only
  rw [State.roce, if_neg (not_not_intro rfl), hears_eq hhears]
  dsimp only
  rw [if_neg (by simp [hicrc, hpkey]), hmiss]
  dsimp only
  rw [htake]

/-- Is a RoCEv2 opcode the last, or only, packet of a write message (Table 5.8)? -/
def lastOfWrite (k : Roce) : Prop := k.opcode = 0x08 ∨ k.opcode = 0x09 ∨ k.opcode = 0x0A ∨ k.opcode = 0x0B

section
variable {s : State} {n : Nat} {k : Roce} {key start len got : Nat}
variable (hw : s.roceWrite? n k = some (key, start, len, got)) (hlen : len ≤ 2 ^ 31)
include hw hlen

/-- A First or Middle packet of a write that fits its message is accepted, and the message goes on behind it. -/
theorem expectWrite_of_more (hheld : s.roceHeld n + k.data.length ≤ 65536 ∨ s.roceHeld n = 0) (hlast : ¬ lastOfWrite k)
    (hsize : k.data.length = s.rocePayload (s.qp n)) (hfits : got + k.data.length ≤ len) :
    s.expectWrite n k = (s.modCe n (fun c => { c with cur := some (key, start, len, got + k.data.length) })).acceptRoce n
      { k with rkey := key, va := start, dmaLen := len, cmp := got } .write k.data.length 1
      (if k.ackReq then 0x07 else 0x06) := by
  have himm : isImm k = false := by
    simp only [lastOfWrite] at hlast
    simp only [isImm, Bool.or_eq_false_iff, beq_eq_false_iff_ne]
    omega
  rw [State.expectWrite, hw]
  rw [lastOfWrite] at hlast
  simp only [hlast, if_false, hsize, not_true_eq_false, false_or, false_and, or_false, himm, Bool.false_eq_true]
  rw [hsize] at hfits hheld
  rw [if_neg (by omega), if_neg (by omega)]

/-- The last packet of a write that ends its message is accepted, unless its immediate has no free slot. -/
theorem expectWrite_of_last (hheld : s.roceHeld n + k.data.length ≤ 65536 ∨ s.roceHeld n = 0) (hlast : lastOfWrite k)
    (hsize : k.data.length ≤ s.rocePayload (s.qp n)) (hends : got + k.data.length = len)
    (himm : isImm k = false ∨ s.ringFull (s.qp n).immRing = false) :
    s.expectWrite n k = (s.modCe n (fun c => { c with cur := none })).acceptRoce n
      { k with rkey := key, va := start, dmaLen := len, cmp := got } .write k.data.length 1 0x08 := by
  rw [State.expectWrite, hw]
  rw [lastOfWrite] at hlast
  simp only [hlast, if_true, true_and]
  rw [if_neg (by simp only [not_not_intro hsize, false_or]; omega), if_neg (by rcases himm with h | h <;> simp [h]),
    if_neg (by omega)]

/-- An immediate that finds no free submission slot is refused with RNR (R140). -/
theorem expectWrite_of_ringFull (hlast : lastOfWrite k) (hsize : k.data.length ≤ s.rocePayload (s.qp n))
    (hends : got + k.data.length = len) (himm : isImm k = true) (hfull : s.ringFull (s.qp n).immRing = true) :
    s.expectWrite n k = s.roceSoftNak n k.psn synRnr := by
  rw [State.expectWrite, hw]
  rw [lastOfWrite] at hlast
  simp only [hlast, if_true, true_and]
  rw [if_neg (by simp only [not_not_intro hsize, false_or]; omega), if_pos ⟨himm, hfull⟩]

end

theorem roceWants_of_write {k : Roce} (h : k.opcode ≠ 0x0C ∧ k.opcode ≠ 0x13 ∧ k.opcode ≠ 0x14) : roceWants k = .write := by
  rw [roceWants, if_neg h.1, if_neg (by omega)]

theorem roceWants_of_atomic {k : Roce} (h : k.opcode = 0x13 ∨ k.opcode = 0x14) : roceWants k = .atomic := by
  rw [roceWants, if_neg (by omega), if_pos h]

theorem roceWants_of_read {k : Roce} (h : k.opcode = 0x0C) : roceWants k = .read := if_pos h

/-- An expected write packet goes to the write part of the responder. -/
theorem roce_of_write {s : State} {k : Roce} (h : s.expects k .write)
    (hop : k.opcode ≠ 0x0C ∧ k.opcode ≠ 0x13 ∧ k.opcode ≠ 0x14) :
    s.roce true k = ((s.heardRoce k).expectWrite (k.qp % 2 ^ 20) k).serve := by
  refine (roce_of_expects (by rw [roceWants_of_write hop]; exact h)).trans ?_
  rw [if_neg hop.1, if_neg (by omega)]

/-- An expected atomic goes to the atomic part of the responder, which accepts it while resources are free. -/
theorem roce_of_atomic {s : State} {k : Roce} (h : s.expects k .atomic) (hop : k.opcode = 0x13 ∨ k.opcode = 0x14)
    (hreads : (s.heardRoce k).roceReads (k.qp % 2 ^ 20) < 16) (hheld : (s.heardRoce k).roceHeld (k.qp % 2 ^ 20) + 8 ≤ 65536) :
    s.roce true k =
      ((s.heardRoce k).acceptRoce (k.qp % 2 ^ 20) { k with dmaLen := 8 } .atomic 8 1 k.opcode).serve := by
  refine (roce_of_expects (by rw [roceWants_of_atomic hop]; exact h)).trans ?_
  rw [if_neg (by omega), if_pos hop, State.expectAtomic, if_neg (by omega), if_neg (by omega)]

/-- An expected read goes to the read part of the responder. -/
theorem roce_of_read {s : State} {k : Roce} (h : s.expects k .read) (hop : k.opcode = 0x0C) :
    s.roce true k = ((s.heardRoce k).expectRead (k.qp % 2 ^ 20) k false).serve := by
  refine (roce_of_expects (by rw [roceWants_of_read hop]; exact h)).trans ?_
  rw [if_pos hop]

/-- Settles O36. -/
theorem roceRequests : Obligations.RoceRequests := by
  unfold Obligations.RoceRequests
  intro s k n u
  refine ⟨fun hexp key start len got hw hlen hheld => ⟨fun hop hsize hfits => ?_, fun hop hsize hends => ?_,
      fun hop hsize hends => ⟨fun hroom => ?_, fun hfull => ?_⟩⟩,
    fun hexp hreads hheld => ⟨fun hop => ?_, fun hop => ?_⟩,
    fun hexp hop => ⟨fun hreads hdma => ?_, fun hreads => ?_⟩, fun m hm hst hkind => ?_, fun m hm hkind hdiv => ?_⟩
  · have hmine : (k.opcode == 0x06 || k.opcode == 0x07 || k.opcode == 0x08 || k.opcode == 0x0A) = true := by
      simp only [Bool.or_eq_true, beq_iff_eq]; omega
    change execRoceRdmaWrite k s = _
    rw [execRoceRdmaWrite, hmine, roce_of_write hexp (by omega)]
    exact congrArg (fun t => Host.Outcome.next (State.serve t))
      (expectWrite_of_more hw hlen hheld (by simp only [lastOfWrite]; omega) hsize hfits)
  · have hmine : (k.opcode == 0x06 || k.opcode == 0x07 || k.opcode == 0x08 || k.opcode == 0x0A) = true := by
      simp only [Bool.or_eq_true, beq_iff_eq]; omega
    have himm : isImm k = false := by
      simp only [isImm, Bool.or_eq_false_iff, beq_eq_false_iff_ne]; omega
    change execRoceRdmaWrite k s = _
    rw [execRoceRdmaWrite, hmine, roce_of_write hexp (by omega)]
    exact congrArg (fun t => Host.Outcome.next (State.serve t))
      (expectWrite_of_last hw hlen hheld (by simp only [lastOfWrite]; omega) hsize hends (Or.inl himm))
  · have hmine : (k.opcode == 0x09 || k.opcode == 0x0B) = true := by
      simp only [Bool.or_eq_true, beq_iff_eq]; omega
    change execRoceWriteWithImmediate k s = _
    rw [execRoceWriteWithImmediate, hmine, roce_of_write hexp (by omega)]
    exact congrArg (fun t => Host.Outcome.next (State.serve t))
      (expectWrite_of_last hw hlen hheld (by simp only [lastOfWrite]; omega) hsize hends (Or.inr hroom))
  · have hmine : (k.opcode == 0x09 || k.opcode == 0x0B) = true := by
      simp only [Bool.or_eq_true, beq_iff_eq]; omega
    change execRoceWriteWithImmediate k s = _
    rw [execRoceWriteWithImmediate, hmine, roce_of_write hexp (by omega)]
    exact congrArg (fun t => Host.Outcome.next (State.serve t))
      (expectWrite_of_ringFull hw hlen (by simp only [lastOfWrite]; omega) hsize hends hmine hfull)
  · change execRoceCmpSwap k s = _
    rw [execRoceCmpSwap, beq_iff_eq.mpr hop, roce_of_atomic hexp (Or.inl hop) hreads hheld, hop]
    rfl
  · change execRoceFetchAdd k s = _
    rw [execRoceFetchAdd, beq_iff_eq.mpr hop, roce_of_atomic hexp (Or.inr hop) hreads hheld, hop]
    rfl
  · change execRoceReadRequest k s = _
    rw [execRoceReadRequest, beq_iff_eq.mpr hop, roce_of_read hexp hop, State.expectRead]
    rw [if_neg (fun h => h.elim (Nat.not_le.mpr hreads) (Nat.not_lt.mpr hdma))]
    rfl
  · change execRoceReadRequest k s = _
    rw [execRoceReadRequest, beq_iff_eq.mpr hop, roce_of_read hexp hop, State.expectRead]
    exact congrArg (fun t => Host.Outcome.next (State.serve t)) (if_pos (Or.inl hreads))
  · change execRoceCnpReceived m s = _
    rw [execRoceCnpReceived, onQp_of_lt hm]
    exact if_neg (fun h => h.elim (absurd hst) (absurd hkind))
  · change execRoceRateRestore m s = _
    rw [execRoceRateRestore, onQp_of_lt hm]
    dsimp only
    rw [if_neg (fun h => h.elim (absurd hkind) (Nat.not_le.mpr hdiv))]

end Sys2Proof.Machine

/-! ## O37: contexts and descriptors that arrive -/

namespace Sys2Proof.Machine

section
variable {s : State} {n : Nat}

theorem contextArrived_of_fetching (hn : n < 2 ^ 20) (hf : s.tr.fetches.contains n = true) :
    exec (.contextArrived n) s =
      let t := s.ctxHere n
      let r := (s.tr.parked.filter (fun k => k.dqp % 2 ^ 20 == n)).foldl
        (fun (a : Bool × State) k => (a.1 || (a.2.takePacket k).1, (a.2.takePacket k).2)) (false, t)
      let v := (s.tr.parkedRoce.filter (fun k => k.qp % 2 ^ 20 == n)).foldl (fun (v : State) k => v.takeRoce k) r.2
      let w := if r.1 ∨ (t.qp n).ackCount < (v.qp n).ackCount then v.ackNow n else v
      .next ((s.tr.timers.filter (fun t => t.1 == n)).foldl State.lateTimer w).serve := by
  change execContextArrived n s = _
  rw [execContextArrived, onQp_of_lt hn, if_neg (not_not_intro hf)]

theorem winTouch_waiting (s : State) (n : Nat) : (s.winTouch n).wins.waiting = s.wins.waiting := by
  simp only [State.winTouch]
  split <;> rfl

/-- A descriptor whose line stands in the locket cache needs no fresh read. -/
theorem windowFetchDone_of_cached (hn : n < 2 ^ 20) (hf : s.fetching.contains n = true) (ht : s.tableWaits n = false)
    (hh : s.pipe.heals.any (fun p => p.2.line == s.descLine n) = false) (hlk : (s.lkLine (s.descLine n)).isSome = true) :
    exec (.windowFetchDone n []) s = .next ((s.winTouch n).settleWins).serve := by
  have hgood : s.freshBad (s.descLine n) [] = false := by
    rw [State.freshBad, Option.isNone_eq_false_iff.mpr hlk]
    rfl
  change execWindowFetchDone n [] s = _
  rw [execWindowFetchDone]
  rw [if_neg (by omega), if_neg (by rw [hf, ht, hh]; simp), if_neg (by rw [hgood]; simp), State.healAnswer,
    if_pos (Or.inl hlk)]

/-- One packet or link alone waits at the window stage, and its descriptor is on chip: it goes on. -/
theorem settleWins_of_one {w : WinWait} (hw : s.wins.waiting = [(n, w)]) (hready : s.winReady n = true) :
    s.settleWins = ({ s with wins := { s.wins with waiting := [] } }).winGoes w := by
  have herase : ([(n, w)] : List (Nat × WinWait)).erase (n, w) = [] := by simp
  rw [State.settleWins, hw, State.drainWins]
  dsimp only
  rw [if_pos ⟨by cases w.qp <;> rfl, hready⟩, State.drainWins, hw, herase]

end

/-- Settles O37. -/
theorem arrivals : Obligations.Arrivals := by
  unfold Obligations.Arrivals
  intro s n hn
  refine ⟨fun hf => ?_, fun hf => ?_, fun hf => ?_, fun hf ht hh hlk => ?_,
    fun es hf ht hh hbad hheal => ?_⟩
  · exact contextArrived_of_fetching hn hf
  · change execContextArrived n s = _
    rw [execContextArrived, onQp_of_lt hn, if_pos (Bool.eq_false_iff.mp hf)]
  · change execWindowFetchDone n [] s = _
    rw [execWindowFetchDone]
    rw [if_neg (by omega), if_pos (Or.inl (Bool.eq_false_iff.mp hf))]
  · intro t u hready
    rw [windowFetchDone_of_cached hn hf ht hh hlk]
    refine ⟨fun k hw => ?_, fun q hw => ?_⟩
    · rw [settleWins_of_one (n := n) (w := .nrt k) ((winTouch_waiting s n).trans hw) hready]
      rfl
    · rw [settleWins_of_one (n := n) (w := .link q) ((winTouch_waiting s n).trans hw) hready]
      rfl
  · change execWindowFetchDone n es s = _
    rw [execWindowFetchDone]
    rw [if_neg (by omega), if_neg (by rw [hf, ht, hh]; simp), if_pos ⟨hbad, hheal⟩]

end Sys2Proof.Machine

/-! ## O38: window commands -/

namespace Sys2Proof.Machine

theorem winRow_of_trusted {p : Path} (hp : p.trusted = true) (s : State) (k : State → State) :
    winRow p s k = .next ((k s).answer p .ok) := by
  rw [winRow, if_pos hp]
  rfl

theorem winRow_of_untrusted {p : Path} (hp : p.trusted = false) (s : State) (k : State → State) :
    winRow p s k = .next (s.answer p .privilege) := by
  rw [winRow, if_neg (Bool.eq_false_iff.mp hp)]
  rfl

section
variable {s : State} {p : Path} {key : Nat}

theorem winOpen_of_opened {t : State} (hw : s.openWaits (Desc.parse s.winData) = false)
    (ho : s.openWindow (Desc.parse s.winData) none .command = (.ok key, t)) :
    s.winOpen p = (t.winRes .busy key).firmwareNote p 0x01 key := by
  rw [State.winOpen]
  rw [if_neg (Bool.eq_false_iff.mp hw), ho]

theorem winOpen_of_refused {t : State} {st : Status} (hw : s.openWaits (Desc.parse s.winData) = false)
    (ho : s.openWindow (Desc.parse s.winData) none .command = (.error st, t)) :
    s.winOpen p = (t.winRes st 0).firmwareNote p 0x01 0 := by
  rw [State.winOpen]
  rw [if_neg (Bool.eq_false_iff.mp hw), ho]

theorem firmwareNote_mgmt (s : State) (code key : Nat) : s.firmwareNote .mgmt code key = s := if_neg nofun

theorem firmwareNote_firmware (s : State) (code key : Nat) : s.firmwareNote .firmware code key = s.note 0x30 0 code key :=
  if_pos rfl

/-- A revoke of an open key whose revoke is not under way starts. -/
theorem winRevoke_of_open (ht : s.tableWaits (keyIdx key) = false) (hserves : s.serves .write = true)
    (hopen : s.keyOpen key = true) (hnone : s.wins.revokes.any (fun r => r.key == key) = false) :
    s.winRevoke .mgmt key = State.winRes { s with wins := { s.wins with
      revokes := s.wins.revokes ++ [⟨keyIdx key, key, .command, false, [], none⟩] } } .busy key := by
  rw [State.winRevoke, if_neg (Bool.eq_false_iff.mp ht), State.revoke, if_neg (not_not_intro hserves),
    if_neg (fun h => h.elim (absurd hopen) (Bool.eq_false_iff.mp hnone))]
  exact firmwareNote_mgmt ..

theorem winRevoke_of_closed (ht : s.tableWaits (keyIdx key) = false) (hserves : s.serves .write = true)
    (hopen : s.keyOpen key = false) : s.winRevoke .mgmt key = s.winRes .windowRevoked key := by
  rw [State.winRevoke, if_neg (Bool.eq_false_iff.mp ht), State.revoke, if_neg (not_not_intro hserves),
    if_pos (Or.inl (Bool.eq_false_iff.mp hopen))]
  exact firmwareNote_mgmt ..

theorem winQuery_of_filled (ht : s.tableWaits (keyIdx key) = false) :
    s.winQuery p key = (s.setWinData (s.queryDesc key).2).winRes (s.queryDesc key).1 key := by
  rw [State.winQuery, if_neg (Bool.eq_false_iff.mp ht)]

theorem winRecycle_of_filled (ht : s.tableWaits key = false) (hserves : s.serves .write = true) :
    s.winRecycle p key = (s.recycle key).2.winRes (s.recycle key).1 key := by
  rw [State.winRecycle, if_neg (not_not_intro hserves), if_neg (Bool.eq_false_iff.mp ht)]

/-- WIN_REVOKE and WIN_QUERY of a key of 32 bits from the management port. -/
theorem rowWinRevoke_mgmt (hkey : key < 2 ^ 32) : rowWinRevoke .mgmt key s = .next ((s.winRevoke .mgmt key).answer .mgmt .ok) := by
  rw [rowWinRevoke, winRow_of_trusted rfl, Nat.mod_eq_of_lt hkey]
  rfl

theorem rowWinQuery_mgmt (hkey : key < 2 ^ 32) : rowWinQuery .mgmt key s = .next ((s.winQuery .mgmt key).answer .mgmt .ok) := by
  rw [rowWinQuery, winRow_of_trusted rfl, Nat.mod_eq_of_lt hkey]
  rfl

end

/-- Settles O38. -/
theorem windowCommands : Obligations.WindowCommands := by
  unfold Obligations.WindowCommands
  intro s t p key hkey
  refine ⟨fun hs => ⟨fun hp => ⟨?_, ?_, ?_⟩, fun hw => ⟨fun ho => ⟨?_, ?_⟩, fun st ho => ?_⟩,
    fun ht => ⟨fun hserves hopen hnone => ?_, fun hserves hopen => ?_, fun hread => ?_, fun hread => ?_⟩, fun ht => ?_,
    fun idx hidx hserves hp ht => ?_⟩, fun idx r hr => ?_, fun idx r hr => ⟨fun hby => ?_, fun q hby => ?_, fun hby hnone => ?_⟩⟩
  · exact (access_of_reaches hs p _).trans (winRow_of_untrusted hp _ _)
  · exact (access_of_reaches hs p _).trans (winRow_of_untrusted hp _ _)
  · exact (access_of_reaches hs p _).trans (winRow_of_untrusted hp _ _)
  · refine (access_of_reaches hs _ _).trans ?_
    rw [rowWinOpen, winRow_of_trusted rfl, State.winCommand, winOpen_of_opened hw ho, firmwareNote_mgmt]
    rfl
  · refine (access_of_reaches hs _ _).trans ?_
    rw [rowWinOpen, winRow_of_trusted rfl, State.winCommand, winOpen_of_opened hw ho, firmwareNote_firmware]
    rfl
  · refine (access_of_reaches hs _ _).trans ?_
    rw [rowWinOpen, winRow_of_trusted rfl, State.winCommand, winOpen_of_refused hw ho, firmwareNote_mgmt]
    rfl
  · refine (access_of_reaches hs _ _).trans ?_
    rw [rowWinRevoke_mgmt hkey, winRevoke_of_open ht hserves hopen hnone]
    rfl
  · refine (access_of_reaches hs _ _).trans ?_
    rw [rowWinRevoke_mgmt hkey, winRevoke_of_closed ht hserves hopen]
    rfl
  · refine (access_of_reaches hs _ _).trans ?_
    rw [rowWinQuery_mgmt hkey, winQuery_of_filled ht, State.queryDesc, if_pos hread]
    rfl
  · refine (access_of_reaches hs _ _).trans ?_
    rw [rowWinQuery_mgmt hkey, winQuery_of_filled ht, State.queryDesc, if_neg (Bool.eq_false_iff.mp hread)]
    rfl
  · refine (access_of_reaches hs _ _).trans ?_
    rw [rowWinQuery_mgmt hkey, State.winQuery, if_pos ht]
    rfl
  · refine (access_of_reaches hs p _).trans ?_
    have hcommand : s.winCommand p 4 idx = s.winRecycle p idx := by
      change s.winRecycle p (keyIdx idx) = _
      rw [keyIdx, Nat.mod_eq_of_lt hidx]
    rw [rowWinRecycle, if_pos hidx, winRow_of_trusted hp, hcommand, winRecycle_of_filled ht hserves]
    rfl
  · change execRevokeCut idx s = _
    rw [execRevokeCut, hr]
  all_goals
    change execRevokeComplete idx s = _
    rw [execRevokeComplete, hr]
    dsimp only
    rw [State.revokeEnds]
    dsimp only
    rw [hby]
  · rfl
  · dsimp only
    rw [if_neg (Bool.eq_false_iff.mp hnone), code_ok]

end Sys2Proof.Machine

/-! ## O39: promotions, evictions, Facet operations, neighbours -/

namespace Sys2Proof.Machine

theorem onUnit_engine {e : Nat} (h : e < 64) (k : Res) : onUnit 0x80 e k = k := if_pos h

theorem promotionDone_of_revoked {s : State} {i tier : Nat} {p : Promo} {h : Handle} (hp : s.promoOf i tier = some p)
    (hh : SMap.look s.tiers.handles i = some h) (hrev : p.revoked = true) :
    exec (.promotionDone i tier) s = .next (s.endPromo p .windowRevoked) := by
  change execPromotionDone i tier s = _
  rw [execPromotionDone, hp, hh]
  exact if_pos (Or.inl hrev)

/-- Once every line has been read without a failure, a promotion to a tier of this controller makes its copy. -/
theorem promotionDone_of_read {s : State} {i tier o : Nat} {p : Promo} {h : Handle} {x : Op} (hp : s.promoOf i tier = some p)
    (hh : SMap.look s.tiers.handles i = some h) (hprev : p.revoked = false) (hhrev : h.revoked = false)
    (hpauses : p.pauses = 0) (hsent : p.sent = false) (hrestart : p.restart = false) (htier : tier < 2)
    (ho : p.op = some o) (hx : s.op? o = some x) (hreads : x.reads = 0) (hgood : x.status.isFailure = false) :
    let t := s.endOp o
    let y := { p with status := p.status.meet x.status }
    exec (.promotionDone i tier) s = .next (State.makeCopy { t with tiers := { t.tiers with
      promos := t.tiers.promos.map (fun (z : Promo) => if z.h = i ∧ z.tier = tier then y else z) } } y x.data h.span) := by
  dsimp only
  change execPromotionDone i tier s = _
  rw [execPromotionDone, hp, hh]
  dsimp only
  rw [if_neg (by simp [hprev, hhrev]), if_neg (by simp [hpauses, hsent]), if_neg (Bool.eq_false_iff.mp hrestart), ho]
  dsimp only
  rw [hx]
  dsimp only
  rw [if_neg (fun hc => hc.1 hreads), if_neg (Bool.eq_false_iff.mp hgood), if_neg (by omega)]

/-- The TIME of the only link of a sequencer that waits for a promotion passes. -/
theorem tpromoteDeadline_of_waiting {s : State} {n i tier t : Nat} {d} {x : Seq} (hn : n < 32)
    (hx : SMap.look s.kex.seqs n = some x) (hw : x.wait = some ⟨d, .promote i tier (some t)⟩) (ha : x.asyncs = []) :
    exec (.tpromoteDeadline n) s = .next ((((s.reach t).tellLinks (fun m w => match w with
      | .promote _ _ (some t1) => if m = n ∧ t1 = t then some .deadlineMiss else none
      | _ => none)).bump F.TM_MISS_DEADLINE).count 0x81 0 4) := by
  change execTpromoteDeadline n s = _
  rw [execTpromoteDeadline, onUnit_sequencer hn, hx]
  dsimp only
  rw [hw, ha]
  simp only [Option.toList_some, List.map_cons, List.map_nil, List.append_nil, List.filterMap_cons, List.filterMap_nil,
    List.foldl_nil, beq_self_eq_true, List.filter_cons, List.filter_nil, if_true, List.length_cons, List.length_nil]
  rfl

section
variable {s : State} {tk : Nat} {o : FxOp}

/-- What the inputs of an operation come to, when each has been read without an error. -/
theorem meet_inputs_ok {l : List FxInput} (h : ∀ x ∈ l, (s.inputDone x).map Prod.fst = some .ok) :
    l.foldl (fun (m : Status) x => m.meet ((s.inputDone x).map (fun y => y.1) |>.getD .ok)) .ok = .ok := by
  induction l with
  | nil => rfl
  | cons x xs ih =>
    rw [List.foldl_cons, show (s.inputDone x).map (fun y => y.1) = some .ok from h x (by simp)]
    exact ih (fun y hy => h y (by simp [hy]))

theorem inputs_done {l : List FxInput} (h : ∀ x ∈ l, (s.inputDone x).map Prod.fst = some .ok) :
    l.any (fun x => (s.inputDone x).isNone) = false := by
  rw [List.any_eq_false]
  intro x hx
  have := h x hx
  cases hd : s.inputDone x <;> simp [hd] at this ⊢

/-- A read of a neighbour that failed is not done. -/
theorem neighbour_good {x : FxInput} {m i : Nat} (h : (s.inputDone x).map Prod.fst = some .ok) (hx : x.from_ = .neighbour m i) :
    (match s.op? i with | some p => p.status.isFailure | none => true) = false := by
  rw [State.inputDone, hx] at h
  dsimp only at h
  cases ho : s.op? i with
  | none => simp [ho] at h
  | some p =>
    simp only [ho] at h
    split at h
    next hgood => exact Bool.eq_false_iff.mpr hgood.2
    next => exact absurd h nofun

/-- Its inputs read and no engine of it withdrawn, a running operation writes its result. -/
theorem facetOpEnd_of_read {a : Arg} {bs : List Byte} (ho : SMap.look s.tiers.ops tk = some o) (hrun : o.stage = .running)
    (hengines : o.engines.any (fun e => s.fld F.FE_STAT_STATE e == 3) = false)
    (hin : ∀ x ∈ o.inputs, (s.inputDone x).map Prod.fst = some .ok) (ha : o.argOf s 0 = some a)
    (hres : facetResult (FxDesc.ofWords o.words) a (o.argOf s 1) (o.argOf s 2) = .ok bs) :
    exec (.facetOpEnd tk none) s = .next (((o.engines.take 1).foldl (fun (t : State) e =>
      (t.countUnits 0x80 e 1 1024 ((FxDesc.ofWords o.words).macs a.t (((o.argOf s 1).map Arg.t).getD a.t))).countUnits
        0x80 e 2 64 ((o.inputs.map FxInput.span).sum)) s).fxWrite tk o (FxDesc.ofWords o.words) bs .ok).serve := by
  change execFacetOpEnd tk none s = _
  rw [execFacetOpEnd, ho]
  dsimp only [Option.bind_none]
  rw [if_neg (not_not_intro hrun), if_neg (Bool.eq_false_iff.mp hengines), if_neg, if_neg (by rw [inputs_done hin]; nofun), ha]
  · dsimp only
    rw [meet_inputs_ok hin, if_neg (by decide), hres]
  · rw [← ne_eq, ← Bool.eq_false_iff, List.any_eq_false]
    intro x hx
    cases hfrom : x.from_ with
    | neighbour m i =>
      have := neighbour_good (hin x hx) hfrom
      cases hop : s.op? i <;> simp [hop] at this ⊢
      exact this
    | _ => simp

/-- A parity error in a girdle copy drops it, and the operation starts again or ends. -/
theorem facetOpEnd_of_girdleParity {role e : Nat} {x : FxInput} (ho : SMap.look s.tiers.ops tk = some o)
    (hrun : o.stage = .running) (hx : o.inputs.find? (fun (x : FxInput) => x.role == role && decide (x.tier < 2)) = some x)
    (htier : x.tier = 1) :
    let t := (s.raise 0x81 0 1 0x01).modHandle x.h (fun h => h.setCopy 1 none)
    exec (.facetOpEnd tk (some (role, e))) s =
      if o.parities ≠ 0 then .next (t.fxEnd tk o .internal) else .next (t.fxRestart tk { o with parities := 1 }) := by
  dsimp only
  change execFacetOpEnd tk (some (role, e)) s = _
  rw [execFacetOpEnd, ho]
  dsimp only [Option.bind_some]
  rw [if_neg (not_not_intro hrun), hx]
  dsimp only
  rw [htier, if_neg Nat.one_ne_zero]

end

/-- Settles O39. -/
theorem tierEvents : Obligations.TierEvents := by
  unfold Obligations.TierEvents
  intro s i tier tk e n
  refine ⟨?_, fun p h hp hh hrev => promotionDone_of_revoked hp hh hrev,
    fun x d t hn hx hw ha => tpromoteDeadline_of_waiting hn hx hw ha, fun h hh hev hrefs hprom => ?_, fun h hh hrefs => ?_,
    fun o es ho hes hturn => ?_, fun o es t ho hdl hst hes hturn => ?_,
    fun o a bs ho hrun heng hin ha => facetOpEnd_of_read ho hrun heng hin ha,
    fun o x role ho hrun hx htier => ⟨fun h0 => ?_, fun h0 => ?_⟩, fun he => ⟨fun hnone => ?_, fun o ho => ⟨fun h0 => ?_, fun h0 => ?_⟩⟩,
    fun he => if_neg (by exact Nat.not_lt.mpr he), fun x hn hx => ⟨fun t ht => ?_, fun ht => ?_⟩, fun hn => if_pos hn⟩
  · intro p h o x hp hh hprev hhrev hpauses hsent hrestart htier ho hx hreads hgood
    exact promotionDone_of_read hp hh hprev hhrev hpauses hsent hrestart htier ho hx hreads hgood
  · change execEvictionEffect i s = _
    rw [execEvictionEffect, hh]
    exact if_pos ⟨hev, hrefs, Bool.eq_false_iff.mp hprom⟩
  · change execEvictionEffect i s = _
    rw [execEvictionEffect, hh]
    exact if_neg (fun hc => hrefs hc.2.1)
  · change execFacetOpStart tk s = _
    rw [execFacetOpStart, ho]
    dsimp only
    rw [hes]
    exact if_pos hturn
  · change execFxDeadline tk s = _
    rw [execFxDeadline, ho]
    dsimp only
    rw [hdl]
    dsimp only
    rw [if_pos hst, hes]
    exact if_pos hturn
  · exact (facetOpEnd_of_girdleParity ho hrun hx htier).trans (if_neg (not_not_intro h0))
  · exact (facetOpEnd_of_girdleParity ho hrun hx htier).trans (if_pos h0)
  · change execEngineWithdraw e s = _
    rw [execEngineWithdraw, onUnit_engine he]
    dsimp only
    rw [hnone]
  · change execEngineWithdraw e s = _
    rw [execEngineWithdraw, onUnit_engine he]
    dsimp only
    rw [ho]
    exact congrArg Host.Outcome.next (if_neg (not_not_intro h0))
  · change execEngineWithdraw e s = _
    rw [execEngineWithdraw, onUnit_engine he]
    dsimp only
    rw [ho]
    exact congrArg Host.Outcome.next (if_pos h0)
  · change execNeighbourReadTimeout n s = _
    rw [execNeighbourReadTimeout, if_neg (by omega), hx]
    dsimp only
    rw [ht]
  · change execNeighbourReadTimeout n s = _
    rw [execNeighbourReadTimeout, if_neg (by omega), hx]
    dsimp only
    rw [ht]

end Sys2Proof.Machine

/-! ## O40: tier commands -/

namespace Sys2Proof.Machine

/-- A handle with CHECK 0 that nothing reads. -/
def unreadHandle : Handle :=
  ⟨0, [], ⟨0, 0, 0, false, false, 0, 0, [], []⟩, 0, none, none, none, false, false, 0, 0, 0, [], false, 0, 0, 0, 0⟩

/-- The cold start with handle 0 live, REFS 0, and two entries for TM_HSTAT.REFS in its register list; a state in canonical
form lists a field once. -/
def refsListedTwice : State :=
  let k := fieldKey 0x81 0 F.TM_HSTAT_REFS.off F.TM_HSTAT_REFS.lo
  { State.reset with regs := [(k, 1), (k, 1)], tiers := { State.reset.tiers with handles := [(0, unreadHandle)] } }

/-- Refutes O40: the statement also speaks of states that are not in canonical form. Where the register list names
TM_HSTAT.REFS twice, the QUERY of a handle that nothing reads takes out the first entry only, and REFS still reads 1. -/
theorem not_tierCommands : ¬ Obligations.TierCommands := by
  unfold Obligations.TierCommands
  intro h
  obtain ⟨-, hquery, -⟩ := (h refsListedTwice .mgmt 0 0 0).1 ⟨rfl, by decide⟩ |>.2 rfl
  exact absurd (hquery unreadHandle rfl rfl).2.1 (by decide +kernel)

end Sys2Proof.Machine

/-! ## O41: the Key Store -/

namespace Sys2Proof.Machine

section
variable {p : Path} {purge : Bool} {n : Nat} {s : State} {k : State → Status × State}

theorem ksRow_of_may (hn : n < 65536) (hp : ksMay p purge = true) :
    ksRow p purge n s k = .next ((resultIn F.KS_RES_STATUS (k s)).answer p .ok) := by
  rw [ksRow, if_neg (by omega), if_pos hp]
  rfl

theorem ksRow_of_mayNot (hn : n < 65536) (hp : ksMay p purge = false) :
    ksRow p purge n s k = .next (s.answer p .privilege) := by
  rw [ksRow, if_neg (by omega), if_neg (Bool.eq_false_iff.mp hp)]
  rfl

end

section
variable {s : State} {n : Nat} {tagOk : Bool}

theorem swap_of_loaded {c : KeyCopy} (h : (s.slot n).staged = .loaded c) :
    s.swap n = (true, (s.setSlot n { s.slot n with
      active := some { c with uses := 0 }, near := false, told := false,
      staged := (match (s.slot n).active with | some a => .retiring a | none => .empty),
      graceEnd := (match (s.slot n).active with
        | some _ => some (s.mono + us (s.fld F.KS_CFG_GRACE)) | none => none) }).reserve n c.ver 0) := by
  rw [State.swap]
  dsimp only
  rw [h] <;> rfl

theorem swap_of_notLoaded (h : ∀ c, (s.slot n).staged ≠ .loaded c) : s.swap n = (false, s) := by
  rw [State.swap]
  dsimp only
  split
  next c hc => exact absurd hc (h c)
  next => rfl

/-- A load whose staged position is retiring waits there. -/
theorem load_of_retiring {e : Env} {c : KeyCopy} (h : (s.slot e.slot).staged = .retiring c) :
    s.load e none = (false, s.setSlot e.slot { s.slot e.slot with parked := some (e, none) }) := by
  rw [State.load]
  split
  next => rfl
  next hno => exact absurd h (hno c)

/-- Another load is staged at once; it is over unless the keepsake keeps its envelope. -/
theorem load_of_free {e : Env} (h : ∀ c, (s.slot e.slot).staged ≠ .retiring c) :
    s.load e none = (!s.keeps e, s.stage e) := by
  rw [State.load]
  split
  next c hc => exact absurd hc (h c)
  next => rfl

theorem setSlot_vaultSlot (s : State) (n : Nat) (k : KeySlot) : (s.setSlot n k).vaultSlot = s.vaultSlot := rfl

theorem reach_slot (s : State) (t n : Nat) : (s.reach t).slot n = s.slot n := by
  rw [State.slot, State.slot, State.reach_keys]

theorem reachLocal_vaultSlot (s : State) (t : Nat) : (s.reachLocal t).vaultSlot = s.vaultSlot := by
  rw [State.vaultSlot, State.vaultSlot, fld_of_regs_eq (State.reachLocal_regs _ _)]

end

/-- The Key Store commands of a slot, once the checks of their row are done. -/
theorem ksLoad_of_load {s u : State} {n : Nat} {tagOk done : Bool} {e : Env}
    (h : (s.ksSlot n).loadCheck n (s.ksSlot n).ksEnv tagOk = .ok e) (hl : (s.ksSlot n).envOpened.load e none = (done, u)) :
    s.ksLoad n tagOk = if done then (.ok, u) else (.busy, { u with keys := { u.keys with busy := some n } }) := by
  rw [State.ksLoad]
  dsimp only
  rw [h]
  dsimp only
  rw [hl]

theorem ksLoad_of_error {s : State} {n : Nat} {tagOk : Bool} {st : Status}
    (h : (s.ksSlot n).loadCheck n (s.ksSlot n).ksEnv tagOk = .error st) :
    s.ksLoad n tagOk = (st, (s.ksSlot n).loadFailed n (s.ksSlot n).ksEnv tagOk st) := by
  rw [State.ksLoad]
  dsimp only
  rw [h]

theorem ksSwap_of_loaded {s : State} {n : Nat} {c : KeyCopy} (h : ((s.ksSlot n).slot n).staged = .loaded c) :
    s.ksSwap n = (.ok, (((s.ksSlot n).setSlot n { (s.ksSlot n).slot n with
      active := some { c with uses := 0 }, near := false, told := false,
      staged := (match ((s.ksSlot n).slot n).active with | some a => .retiring a | none => .empty),
      graceEnd := (match ((s.ksSlot n).slot n).active with
        | some _ => some ((s.ksSlot n).mono + us ((s.ksSlot n).fld F.KS_CFG_GRACE))
        | none => none) }).reserve n c.ver 0).kick.judgeHeld) := by
  rw [State.ksSwap, swap_of_loaded h]
  rfl

theorem ksSwap_of_notLoaded {s : State} {n : Nat} (h : ∀ c, ((s.ksSlot n).slot n).staged ≠ .loaded c) :
    s.ksSwap n = (.alreadyDone, (s.ksSlot n).kick.judgeHeld) := by
  rw [State.ksSwap, swap_of_notLoaded h]
  rfl

/-- What the Key Store's command rows do from the management port and firmware. -/
theorem ksRows_of_trusted {s : State} {p : Path} {n : Nat} {tagOk : Bool} (hn : n < 65536) (hs : s.reaches 0x91)
    (hp : p.trusted = true) :
    exec (.ksLoad p n tagOk) s = .next ((resultIn F.KS_RES_STATUS (s.ksLoad n tagOk)).answer p .ok) ∧
    exec (.ksSwap p n) s = .next ((resultIn F.KS_RES_STATUS (s.ksSwap n)).answer p .ok) ∧
    exec (.ksErase p n) s = .next ((resultIn F.KS_RES_STATUS (.ok, (s.ksSlot n).eraseKeys n)).answer p .ok) ∧
    exec (.ksQuery p n) s = .next ((resultIn F.KS_RES_STATUS (s.ksQuery n)).answer p .ok) ∧
    exec (.ksReload p) s = .next ((resultIn F.KS_RES_STATUS s.ksReload).answer p .ok) :=
  ⟨(access_of_reaches hs p _).trans (ksRow_of_may hn hp), (access_of_reaches hs p _).trans (ksRow_of_may hn hp),
    (access_of_reaches hs p _).trans (ksRow_of_may hn hp), (access_of_reaches hs p _).trans (ksRow_of_may hn hp),
    (access_of_reaches hs p _).trans (ksRow_of_may (by omega) hp)⟩

section
variable {s : State} {n : Nat}

theorem graceZeroize_of_captured {c : KeyCopy} (hst : (s.slot n).staged = .retiring c) (hcap : s.captured n c.ver = true) :
    exec (.graceZeroize n) s = .next s := by
  change execGraceZeroize n s = _
  rw [execGraceZeroize]
  dsimp only
  rw [hst]
  dsimp only
  rw [if_pos hcap]

/-- The retiring copy of a slot other than the vault slot goes at the end of its grace. -/
theorem graceZeroize_of_graceEnd {c : KeyCopy} {t : Nat} (hst : (s.slot n).staged = .retiring c)
    (hcap : s.captured n c.ver = false) (hn : n ≠ s.vaultSlot) (hend : (s.slot n).graceEnd = some t) :
    exec (.graceZeroize n) s =
      .next (((s.reachLocal t).setSlot n { s.slot n with staged := .empty, graceEnd := none }).unpark n) := by
  change execGraceZeroize n s = _
  rw [execGraceZeroize]
  dsimp only
  rw [hst]
  dsimp only
  rw [if_neg (Bool.eq_false_iff.mp hcap), hend]
  dsimp only
  simp only [if_neg hn, setSlot_vaultSlot, reachLocal_vaultSlot]

/-- The retiring copy of the vault slot goes at once, with its envelope. -/
theorem graceZeroize_of_vaultSlot {c : KeyCopy} (hst : (s.slot n).staged = .retiring c)
    (hcap : s.captured n c.ver = false) (hn : n = s.vaultSlot) :
    exec (.graceZeroize n) s =
      let t := s.setSlot n { s.slot n with staged := .empty, graceEnd := none }
      .next (State.unpark { t with keys := { t.keys with envs := SMap.del t.keys.envs (2 * n + 1) } } n) := by
  change execGraceZeroize n s = _
  rw [execGraceZeroize]
  dsimp only
  rw [hst]
  dsimp only
  rw [if_neg (Bool.eq_false_iff.mp hcap)]
  cases (s.slot n).graceEnd <;> simp only [← hn, setSlot_vaultSlot, if_true]

end

/-- Settles O41. -/
theorem keyStore : Obligations.KeyStore := by
  unfold Obligations.KeyStore
  refine ⟨fun s p n tagOk hn hs => ?_, fun s n => ?_⟩
  · refine ⟨fun hp => ?_, ?_, fun hp => ?_, fun hp => ⟨?_, ?_⟩, ?_⟩
    · obtain ⟨hload, hswap, herase, hquery, hreload⟩ := ksRows_of_trusted (tagOk := tagOk) hn hs hp
      refine ⟨fun e he => ⟨fun hfree hkeeps => ?_, fun hfree hkeeps => ?_, fun c hc => ?_⟩, fun st hst => ?_,
        fun c hc => ?_, fun hc => ?_, herase, hquery, hreload⟩
      · rw [hload, ksLoad_of_load he (load_of_free hfree), if_pos (by exact congrArg not hkeeps)]
        rfl
      · rw [hload, ksLoad_of_load he (load_of_free hfree), if_neg (by exact Bool.eq_false_iff.mp (congrArg not hkeeps))]
        rfl
      · rw [hload, ksLoad_of_load he (load_of_retiring hc), if_neg Bool.false_ne_true]
        rfl
      · rw [hload, ksLoad_of_error hst, resultIn_eq, State.ksSlot]
      · rw [hswap, ksSwap_of_loaded hc, resultIn_eq, State.ksSlot] <;>
          (generalize s.setFld F.KS_RES_SLOT 0 n = t; cases (t.slot n).active <;> rfl)
      · rw [hswap, ksSwap_of_notLoaded hc, resultIn_eq, State.ksSlot]
    · exact (access_of_reaches hs _ _).trans (ksRow_of_may hn rfl)
    · exact (access_of_reaches hs p _).trans (ksRow_of_mayNot hn (beq_eq_false_iff_ne.mpr hp))
    · exact (access_of_reaches hs p _).trans (ksRow_of_mayNot hn hp)
    · exact (access_of_reaches hs p _).trans (ksRow_of_mayNot hn hp)
    · refine (access_of_reaches hs p _).trans ?_
      rw [rowKsErase, ksRow, if_pos (Nat.le_add_left ..)]
  · refine ⟨fun t q hat => ?_, fun hat => ?_, fun c t hst hcap hn hend => graceZeroize_of_graceEnd hst hcap hn hend,
      fun c hst hcap hn => graceZeroize_of_vaultSlot hst hcap hn, fun c hst hcap => graceZeroize_of_captured hst hcap,
      fun c hact hnear hfirst => ?_, fun c hact hfar => ?_, fun hspent htold => ⟨fun hn => ?_, fun hn hp0 => ?_⟩, fun hspent => ?_⟩
    · change execTimedKswap n s = _
      rw [execTimedKswap, hat]
      dsimp only
      rw [reach_slot]
    · change execTimedKswap n s = _
      rw [execTimedKswap, hat]
    · change execKeyNearLimit n s = _
      rw [execKeyNearLimit]
      dsimp only
      rw [hact]
      exact if_pos ⟨hnear, Bool.eq_false_iff.mp hfirst⟩
    · change execKeyNearLimit n s = _
      rw [execKeyNearLimit]
      rw [hact]
      exact if_neg (fun h => Nat.not_le.mpr hfar h.1)
    · change execSlotSpent n s = _
      rw [execSlotSpent]
      dsimp only
      rw [if_pos ⟨hspent, Bool.eq_false_iff.mp htold⟩, setSlot_vaultSlot, if_neg (fun h => hn h.1)]
    · change execSlotSpent n s = _
      rw [execSlotSpent]
      dsimp only
      rw [if_pos ⟨hspent, Bool.eq_false_iff.mp htold⟩, setSlot_vaultSlot, if_pos ⟨hn, hp0⟩]
    · change execSlotSpent n s = _
      rw [execSlotSpent]
      exact if_neg (fun h => Bool.eq_false_iff.mp hspent h.1)

end Sys2Proof.Machine

/-! ## O42: the command path to the keepsake -/

namespace Sys2Proof.Machine

section
variable {s : State} {p : Path} {x : KfSeq}

/-- The next step of a sequence by its owner, in time. -/
theorem kfStep_of_owner (hp : p.trusted = true) (hx : s.kf.sequence = some x) (howner : x.owner = p)
    (htime : s.mono ≤ x.last + us 100) {stage : Nat} (hstage : x.stage = stage) (k : KfSeq → Status × State) :
    s.kfStep p stage k = k x := by
  rw [State.kfStep, hx]
  dsimp only
  rw [if_neg (fun h => h.elim (absurd hp) (absurd howner)), if_neg (fun h => h.elim (absurd hstage) (Nat.not_lt.mpr htime))]

theorem kfStep_of_stranger (hx : s.kf.sequence = some x) (howner : x.owner ≠ p) (stage : Nat)
    (k : KfSeq → Status × State) : s.kfStep p stage k = (.privilege, s) := by
  rw [State.kfStep, hx]
  exact if_pos (Or.inr howner)

theorem kfUnlock_of_sequence (hx : s.kf.sequence = some x) (key : Nat) :
    s.kfUnlock p key = s.kfStep p 1 (fun x =>
      if key = 0x53414B45 then (.ok, s.setKfSeq { x with stage := 2 }) else (.ok, s.kfAbandon .privilege)) := by
  rw [State.kfUnlock, hx]

theorem kfAddrAs_of_op (hx : s.kf.sequence = some x) {op : Nat} (hop : x.op = op) (addr : Nat) (imageOk : Bool) :
    s.kfAddrAs p op addr imageOk = s.kfAddr p addr imageOk := by
  rw [State.kfAddrAs, hx]
  exact if_pos (Or.inl hop)

end

/-- The selector's fields read on as before while a selection starts. -/
theorem kfSelecting_fld (s : State) : s.kfSelecting.fld F.KF_SEL_FW = s.fld F.KF_SEL_FW ∧
    s.kfSelecting.fld F.KF_SEL_TRY = s.fld F.KF_SEL_TRY ∧ s.kfSelecting.fld F.KF_SEL_CFG = s.fld F.KF_SEL_CFG := by
  have hother (f : Fld) (hcls : f.cls = 0x04) (hstatus : f.place ≠ F.KF_RES_STATUS.place)
      (hblock : f.place ≠ F.KF_RES_BLOCK.place) : s.kfSelecting.fld f = s.fld f := by
    rw [State.kfSelecting, fld_setFld_of_place_ne _ F.KF_RES_BLOCK f hcls hblock,
      fld_setFld_of_place_ne _ F.KF_RES_STATUS f hcls hstatus]
    rfl
  exact ⟨hother _ rfl (by decide) (by decide), hother _ rfl (by decide) (by decide), hother _ rfl (by decide) (by decide)⟩

/-- What a write of `a` to KF_ADDR does in its turn (R378, R384). -/
def State.kfOperation (s : State) (x : KfSeq) (a : Nat) (imageOk : Bool) : Status × State :=
  match x.op with
  | 1 =>
    if a % 256 ≠ 0 ∨ ¬ commandBlock (a / 65536) then (.ok, s.kfAbandon .privilege)
    else (.ok, s.setKfSeq { x with stage := 4, addr := a })
  | 2 => (.ok, s.kfErase a)
  | 3 => (.ok, s.kfVerify (a % 4) imageOk)
  | 4 => (.ok, s.kfSelect (a % 4))
  | 5 => (.ok, s.kfConfirm)
  | _ => (.ok, s.kfAbandon .privilege)

section
variable {s : State} {x : KfSeq} {a : Nat} {imageOk : Bool}

theorem kfOperation_erase (hop : x.op = 2) : s.kfOperation x a imageOk = (.ok, s.kfErase a) := by
  simp only [State.kfOperation, hop]

theorem kfOperation_verify (hop : x.op = 3) : s.kfOperation x a imageOk = (.ok, s.kfVerify (a % 4) imageOk) := by
  simp only [State.kfOperation, hop]

theorem kfOperation_select (hop : x.op = 4) : s.kfOperation x a imageOk = (.ok, s.kfSelect (a % 4)) := by
  simp only [State.kfOperation, hop]

theorem kfOperation_confirm (hop : x.op = 5) : s.kfOperation x a imageOk = (.ok, s.kfConfirm) := by
  simp only [State.kfOperation, hop]

end

section
variable {s : State} {p : Path} {x : KfSeq} {a : Nat}

/-- SELECT of a firmware slot that has passed VERIFY. -/
theorem kfSelect_of_firmware (ha : a < 2) (hver : s.kf.verified.contains a = true) :
    s.kfSelect a = s.kfSelecting.appendSelector a 1 (s.fld F.KF_SEL_CFG) := by
  rw [State.kfSelect, if_pos hver, if_pos ha, (kfSelecting_fld s).2.2]

/-- SELECT of a configuration slot that has passed VERIFY. -/
theorem kfSelect_of_config (ha : 2 ≤ a) (hver : s.kf.verified.contains a = true) :
    s.kfSelect a = s.kfSelecting.appendSelector (s.fld F.KF_SEL_FW) (s.fld F.KF_SEL_TRY) (a - 2) := by
  rw [State.kfSelect, if_pos hver, if_neg (Nat.not_lt.mpr ha), (kfSelecting_fld s).1, (kfSelecting_fld s).2.1]

theorem kfSelect_of_unverified (hver : s.kf.verified.contains a = false) : s.kfSelect a = s.kfAbandon .privilege :=
  if_neg (Bool.eq_false_iff.mp hver)

theorem kfConfirm_eq (s : State) :
    s.kfConfirm = s.kfSelecting.appendSelector (s.fld F.KF_SEL_FW) 0 (s.fld F.KF_SEL_CFG) := by
  rw [State.kfConfirm, (kfSelecting_fld s).1, (kfSelecting_fld s).2.2]

/-- A sequence that waits for KF_ADDR, by its owner and in time, makes the operation that its KF_CMD named. -/
theorem kfAddrAs_of_owner (hp : p.trusted = true) (hx : s.kf.sequence = some x) (howner : x.owner = p)
    (htime : s.mono ≤ x.last + us 100) (hstage : x.stage = 3) {op : Nat} (hop : x.op = op) (a : Nat) (imageOk : Bool) :
    s.kfAddrAs p op a imageOk =
      s.kfOperation x a imageOk := by
  subst hop
  rw [kfAddrAs_of_op hx rfl, State.kfAddr, kfStep_of_owner hp hx howner htime hstage]
  rfl

section
variable (hs : s.reaches 0x04)
include hs

/-- The writes of KF_UNLOCK, KF_ADDR and KF_DATA31 that reach the keepsake. -/
theorem exec_kfUnlock (p : Path) (key : Nat) : exec (.kfUnlock p key) s = ends p (s.kfUnlock p key) :=
  access_of_reaches hs p _

theorem exec_kfProgram (p : Path) (v : W64) : exec (.kfProgram p v) s = ends p (s.kfData p 31 v.toNat) :=
  access_of_reaches hs p _

theorem exec_kfErase (p : Path) (a : Nat) : exec (.kfErase p a) s = ends p (s.kfAddrAs p 2 a false) :=
  access_of_reaches hs p _

theorem exec_kfVerify (p : Path) (a : Nat) (ok : Bool) : exec (.kfVerify p a ok) s = ends p (s.kfAddrAs p 3 a ok) :=
  access_of_reaches hs p _

theorem exec_kfSelect (p : Path) (a : Nat) : exec (.kfSelect p a) s = ends p (s.kfAddrAs p 4 a false) :=
  access_of_reaches hs p _

theorem exec_kfConfirm (p : Path) (a : Nat) : exec (.kfConfirm p a) s = ends p (s.kfAddrAs p 5 a false) :=
  access_of_reaches hs p _

end

theorem kfData_of_owner (hp : p.trusted = true) (hx : s.kf.sequence = some x) (howner : x.owner = p)
    (htime : s.mono ≤ x.last + us 100) (hstage : x.stage = 4) (htorn : s.kf.torn.contains (x.addr / 65536) = false)
    (v : Nat) :
    s.kfData p 31 v = (.ok, ((s.kfStart (x.addr / 65536)).flashWait (.program x.addr ((List.range 32).flatMap (fun j =>
      leBytes 8 (SMap.get (2 ^ 64 - 1) (SMap.ins x.data 31 v) j))) .command)).kick) := by
  rw [State.kfData, kfStep_of_owner hp hx howner htime hstage]
  dsimp only
  rw [if_pos rfl, if_neg (Bool.eq_false_iff.mp htorn)]

end

/-- Settles O42. -/
theorem keepsakeCommands : Obligations.KeepsakeCommands := by
  unfold Obligations.KeepsakeCommands
  intro s p x a v
  refine ⟨fun hs => ⟨fun hp hwarn hnone => ?_, fun hnone ha => ?_, fun hp hx howner => ?_,
    fun hp hx howner htime => ⟨fun hstage => ?_, fun hstage ha => ?_, fun hstage hop halign hblock => ?_,
      fun hstage hop halign => ?_, fun hstage hop ha => ⟨?_, ?_⟩, fun hstage hop ha hver => ?_,
      fun hstage hop hlow ha hver => ?_, fun hstage hop ha hver => ?_, fun hstage hop => ?_, fun hstage htorn => ?_⟩⟩,
    fun hx => ?_, fun hnone => ?_⟩
  · rw [exec_kfUnlock hs, State.kfUnlock, hnone]
    dsimp only
    rw [if_neg (fun h => h.elim (absurd hp) (Bool.eq_false_iff.mp hwarn)), if_pos rfl]
    rfl
  · have hrefused : s.kfUnlock p a = (.privilege, s) := by
      rw [State.kfUnlock, hnone]
      dsimp only
      rw [if_neg ha, ite_self]
    rw [exec_kfUnlock hs, hrefused]
    rfl
  · rw [exec_kfUnlock hs, kfUnlock_of_sequence hx, kfStep_of_stranger hx howner]
    rfl
  · rw [exec_kfUnlock hs, kfUnlock_of_sequence hx, kfStep_of_owner hp hx howner htime hstage, if_pos rfl]
    rfl
  · rw [exec_kfUnlock hs, kfUnlock_of_sequence hx, kfStep_of_owner hp hx howner htime hstage, if_neg ha]
    rfl
  · rw [exec_kfErase hs, kfAddrAs_of_owner hp hx howner htime hstage hop, kfOperation_erase hop, State.kfErase, if_neg (fun h => h.elim (absurd halign) (absurd hblock))]
    rfl
  · rw [exec_kfErase hs, kfAddrAs_of_owner hp hx howner htime hstage hop, kfOperation_erase hop, State.kfErase, if_pos (Or.inl halign)]
    rfl
  · rw [exec_kfVerify hs, kfAddrAs_of_owner hp hx howner htime hstage hop, kfOperation_verify hop, Nat.mod_eq_of_lt ha]
    rfl
  · rw [exec_kfVerify hs, kfAddrAs_of_owner hp hx howner htime hstage hop, kfOperation_verify hop, Nat.mod_eq_of_lt ha]
    rfl
  · rw [exec_kfSelect hs, kfAddrAs_of_owner hp hx howner htime hstage hop, kfOperation_select hop, Nat.mod_eq_of_lt (by omega), kfSelect_of_firmware ha hver, State.kfSelecting]
    rfl
  · rw [exec_kfSelect hs, kfAddrAs_of_owner hp hx howner htime hstage hop, kfOperation_select hop, Nat.mod_eq_of_lt ha, kfSelect_of_config hlow hver, State.kfSelecting]
    rfl
  · rw [exec_kfSelect hs, kfAddrAs_of_owner hp hx howner htime hstage hop, kfOperation_select hop, Nat.mod_eq_of_lt ha, kfSelect_of_unverified hver]
    rfl
  · rw [exec_kfConfirm hs, kfAddrAs_of_owner hp hx howner htime hstage hop, kfOperation_confirm hop, kfConfirm_eq, State.kfSelecting]
    rfl
  · rw [exec_kfProgram hs, kfData_of_owner hp hx howner htime hstage htorn]
    rfl
  · change execKfSequenceTimeout s = _
    rw [execKfSequenceTimeout, hx]
    rfl
  · change execKfSequenceTimeout s = _
    rw [execKfSequenceTimeout, hnone]

end Sys2Proof.Machine

/-! ## O43: the ends of flash operations -/

namespace Sys2Proof.Machine

/-- The state in which a bank of the flash is idle. -/
def State.bankIdle (s : State) (b : Nat) : State := { s with kf := { s.kf with banks := SMap.del s.kf.banks b } }

section
variable {s : State} {b : Nat}

theorem flashDone_of_program {a : Nat} {d : List Byte} {src : FlashBy}
    (h : SMap.look s.kf.banks b = some (.program a d src)) :
    s.flashDone b = ((s.bankIdle b).programmed a d src).kick.serve := by
  rw [State.flashDone, h]
  rfl

theorem flashDone_of_journal {x : JItem} (h : SMap.look s.kf.banks b = some (.journal x)) :
    s.flashDone b = (((s.bankIdle b).journalled (b - 2) x).journalSpace (b - 2)).kick.serve := by
  rw [State.flashDone, h]
  rfl

theorem flashDone_of_envelope {e : Env} {copy : Nat} (h : SMap.look s.kf.banks b = some (.envelope e copy)) :
    s.flashDone b = ((s.bankIdle b).envelopeDone e copy).kick.serve := by
  rw [State.flashDone, h]
  rfl

theorem flashDone_of_idle (h : SMap.look s.kf.banks b = none) : s.flashDone b = s := by
  rw [State.flashDone, h]

theorem kfDone_of_active (h : s.kf.active = some b) :
    s.kfDone b = State.setFld { s with kf := { s.kf with active := none } } F.KF_RES_STATUS 0 0 := if_pos h

theorem kfDone_of_inactive (h : s.kf.active ≠ some b) : s.kfDone b = s := if_neg h

theorem flashProgramDone_of_lt (h : b < 4) : exec (.flashProgramDone b) s = .next (s.flashDone b) := if_pos h

/-- A bank programs an entry of USES of a slot: it is the first bank that the slot's reservation finds. -/
theorem reservation_found {slot ver n : Nat} (h : SMap.look s.kf.banks 2 = some (.journal (.uses slot ver n))) :
    exec (.usesReservationProgrammed slot) s = .next (((s.flashDone 2).tr.qps.map (fun p => p.1)).foldl
      (fun (t : State) m => if (t.qp m).keySlot = slot then t.pump m else t) (s.flashDone 2)) := by
  change execUsesReservationProgrammed slot s = _
  rw [execUsesReservationProgrammed]
  dsimp only
  rw [List.find?_cons_of_pos (by rw [h]; exact beq_self_eq_true slot)]

end

/-- Settles O43. -/
theorem flashEnds : Obligations.FlashEnds := by
  unfold Obligations.FlashEnds
  intro s b
  refine ⟨fun hb => ⟨fun a d h hact => ?_, fun a d r rest h hq => ?_, fun n h => ?_, fun e h => ?_,
    fun k ready src h hk hact => ?_, fun h => ⟨?_, ?_⟩⟩, fun hb => if_neg (Nat.not_lt.mpr hb), fun slot ver n h => ?_⟩
  · rw [flashProgramDone_of_lt hb, flashDone_of_program h, State.programmed]
    dsimp only
    rw [kfDone_of_active (by exact hact)]
    rfl
  · rw [flashProgramDone_of_lt hb, flashDone_of_program h, State.programmed]
    dsimp only
    rw [show (s.bankIdle b).ev.queue = r :: rest from hq]
    rfl
  · rw [flashProgramDone_of_lt hb, flashDone_of_journal h]
    rfl
  · rw [flashProgramDone_of_lt hb, flashDone_of_envelope h]
    rfl
  · simp only [List.mem_cons, List.not_mem_nil, or_false, not_or] at hk
    obtain ⟨h4, h1028, h2567, h3607⟩ := hk
    change execFlashEraseDone b s = _
    rw [execFlashEraseDone, if_pos hb, h]
    dsimp only
    rw [if_neg h4, if_neg h1028, if_neg h2567, if_neg h3607, kfDone_of_inactive (by exact hact)]
  · rw [flashProgramDone_of_lt hb, flashDone_of_idle h]
  · change execFlashEraseDone b s = _
    rw [execFlashEraseDone, if_pos hb, h]
  · rw [reservation_found h, flashDone_of_journal h]
    rfl

end Sys2Proof.Machine

/-! ## O45: events, acknowledgement, the quiet period, event records -/

namespace Sys2Proof.Machine

/-- Local time does not go back. -/
theorem mono_le_reachLocal (s : State) (t : Nat) : s.mono ≤ (s.reachLocal t).mono := by
  rw [State.reachLocal]
  split
  next => exact Nat.le_add_right ..
  next => exact Nat.le_refl _

theorem onCommon_of_unit {cls n : Nat} (hn : n < unitCount cls) (hcls : cls ≠ 1) (k : Res) : onCommon cls n k = k :=
  if_pos ⟨hn, hcls⟩

theorem fldOf_of_regs_eq {s t : State} (h : t.regs = s.regs) (cls : Nat) (f : Fld) (u : Nat) :
    t.fldOf cls f u = s.fldOf cls f u := by
  rw [State.fldOf, h]
  rfl

section
variable {s : State} {cls u : Nat}

/-- The registers of a unit whose fault, not a Fatal one, is over (R401, Table 17.3). -/
def State.quietFields (s : State) (cls u : Nat) : State :=
  (((s.setFldOf cls F.BLK_FSTAT_UNACK u (s.fldOf cls F.BLK_FSTAT_UNACK u / 16 * 16)).setFldOf cls F.BLK_FSTAT_RECOVERIES u
    (s.fldOf cls F.BLK_FSTAT_RECOVERIES u + 1)).setFldOf cls F.BLK_FSTAT_CLASS u 7).setFldOf cls F.BLK_FSTAT_ESCALATED u 0

/-- At the end of its quiet period a fault that is not Fatal is over. -/
theorem endQuiet_of_class_lt (h : s.fldOf cls F.BLK_FSTAT_CLASS u < 4) :
    s.endQuiet cls u = State.quietFields { s with
      quiet := SMap.del s.quiet (unitKey cls u), lowOut := s.lowOut.filter (fun k => k != unitKey cls u) } cls u := by
  have hunack : s.fldOf cls F.BLK_FSTAT_UNACK u - s.fldOf cls F.BLK_FSTAT_UNACK u % 16 =
      s.fldOf cls F.BLK_FSTAT_UNACK u / 16 * 16 := by omega
  have hfatal : (s.fldOf cls F.BLK_FSTAT_CLASS u == 4) = false := beq_eq_false_iff_ne.mpr (by omega)
  rw [State.endQuiet]
  rw [hunack, hfatal, if_neg Bool.false_ne_true, if_pos (by simp [h]),
    State.fldOf_setFldOf_of_place_ne _ _ F.BLK_FSTAT_UNACK F.BLK_FSTAT_RECOVERIES _ _ (by decide)]
  rfl

variable (h : SMap.risesFrom 0 s.regs = true)
include h

theorem quietFields_class : (s.quietFields cls u).fldOf cls F.BLK_FSTAT_CLASS u = 7 := by
  rw [State.quietFields, State.fldOf_setFldOf_of_place_ne _ _ F.BLK_FSTAT_ESCALATED F.BLK_FSTAT_CLASS _ _ (by decide),
    State.fldOf_setFldOf _ _ _ _ _ _ (by apply_rules [State.risesFrom_setFldOf])]
  rfl

theorem quietFields_escalated : (s.quietFields cls u).fldOf cls F.BLK_FSTAT_ESCALATED u = 0 := by
  rw [State.quietFields, State.fldOf_setFldOf _ _ _ _ _ _ (by apply_rules [State.risesFrom_setFldOf])]
  rfl

theorem quietFields_unack (hu : s.fldOf cls F.BLK_FSTAT_UNACK u < 32) :
    (s.quietFields cls u).fldOf cls F.BLK_FSTAT_UNACK u = s.fldOf cls F.BLK_FSTAT_UNACK u / 16 * 16 := by
  rw [State.quietFields, State.fldOf_setFldOf_of_place_ne _ _ F.BLK_FSTAT_ESCALATED F.BLK_FSTAT_UNACK _ _ (by decide),
    State.fldOf_setFldOf_of_place_ne _ _ F.BLK_FSTAT_CLASS F.BLK_FSTAT_UNACK _ _ (by decide),
    State.fldOf_setFldOf_of_place_ne _ _ F.BLK_FSTAT_RECOVERIES F.BLK_FSTAT_UNACK _ _ (by decide),
    State.fldOf_setFldOf _ _ _ _ _ _ h]
  exact Nat.mod_eq_of_lt (Nat.lt_of_le_of_lt (Nat.div_mul_le_self ..) hu)

theorem quietFields_recoveries :
    (s.quietFields cls u).fldOf cls F.BLK_FSTAT_RECOVERIES u = (s.fldOf cls F.BLK_FSTAT_RECOVERIES u + 1) % 65536 := by
  rw [State.quietFields, State.fldOf_setFldOf_of_place_ne _ _ F.BLK_FSTAT_ESCALATED F.BLK_FSTAT_RECOVERIES _ _ (by decide),
    State.fldOf_setFldOf_of_place_ne _ _ F.BLK_FSTAT_CLASS F.BLK_FSTAT_RECOVERIES _ _ (by decide),
    State.fldOf_setFldOf _ _ _ _ _ _ (by apply_rules [State.risesFrom_setFldOf])]
  rfl

end

/-- A quiet period's end, at its instant, leaves the unit's fault over. -/
theorem quietPeriodEnd_of_quiet {s : State} {cls n t : Nat} (hcls : cls ≠ 1) (hn : n < unitCount cls)
    (hquiet : SMap.look s.quiet (unitKey cls n) = some t) :
    exec (.quietPeriodEnd cls n) s = .next ((s.reachLocal t).endQuiet cls n) := by
  change execQuietPeriodEnd cls n s = _
  rw [execQuietPeriodEnd, onCommon_of_unit hn hcls, hquiet]

/-- Settles O45. -/
theorem faultsEndAndRecords : Obligations.FaultsEndAndRecords := by
  unfold Obligations.FaultsEndAndRecords
  intro s p cls n sq k
  refine ⟨fun hu hcls hn => ?_, fun hno => ?_, fun hs hcls hn hp => ?_, fun hs hcls hn hp => ?_,
    fun t hcan hcls hn hquiet hclass hunack => ?_, fun r t hnew => ?_, fun hnone => ?_, fun hs => ⟨?_, ?_, fun plane => ?_, ?_⟩⟩
  · change execFaultRaise k s = _
    rw [execFaultRaise, onCommon_of_unit hu hcls]
    exact if_neg (by omega)
  · change execFaultRaise k s = _
    rw [execFaultRaise, onCommon, if_neg]
    rintro ⟨hu, hcls⟩
    exact hno.elim (Nat.not_le.mpr hu) hcls
  · refine (access_of_reaches hs p _).trans ?_
    rw [rowFaultAck, onCommon_of_unit hn hcls, if_pos hp]
    rfl
  · refine (access_of_reaches hs p _).trans ?_
    rw [rowFaultAck, onCommon_of_unit hn hcls, if_neg (Bool.eq_false_iff.mp hp)]
    rfl
  · have hmono := mono_le_reachLocal s t
    have hreach := le_mono_reachLocal s t
    have hfld (f : Fld) : (s.reachLocal t).fldOf cls f n = s.fldOf cls f n :=
      fldOf_of_regs_eq (State.reachLocal_regs _ _) cls f n
    have hrises : SMap.risesFrom 0 (s.reachLocal t).regs = true := by
      rw [State.reachLocal_regs]
      exact State.risesFrom_regs_of_canonical hcan
    refine ⟨_, quietPeriodEnd_of_quiet hcls hn hquiet, ?_⟩
    rw [endQuiet_of_class_lt (by rw [hfld]; exact hclass)]
    refine ⟨quietFields_class hrises, quietFields_escalated hrises,
      (quietFields_unack hrises (by exact (hfld _).trans_lt hunack)).trans (by exact congrArg (· / 16 * 16) (hfld _)),
      (quietFields_recoveries hrises).trans (by exact congrArg (fun v => (v + 1) % 65536) (hfld _)), ?_, hmono, hreach, ?_, ?_⟩
    · simp [State.quietFields]
    · simp [State.quietFields]
    · simp [State.quietFields]
  · change execEventRecordTimeout s = _
    rw [execEventRecordTimeout, hnew, second_eq]
    dsimp only
    rw [State.closeEvent, Recorder.close, State.reachLocal_ev, hnew]
  · change execEventRecordTimeout s = _
    rw [execEventRecordTimeout, hnone]
  · exact access_of_reaches hs _ _
  · exact access_of_reaches hs _ _
  · exact access_of_reaches hs _ _
  · exact access_of_reaches hs _ _

end Sys2Proof.Machine

/-! ## O46: the Loupe's commands -/

namespace Sys2Proof.Machine

/-- Filtering a map by key keeps what it lists at the keys that stay. -/
theorem look_filter_key {α : Type} (c : Nat → Bool) (m : SMap α) (k : Nat) :
    SMap.look (m.filter (fun p => c p.1)) k = if c k then SMap.look m k else none := by
  induction m with
  | nil => simp [SMap.look]
  | cons p m ih =>
    obtain ⟨j, v⟩ := p
    by_cases hjk : j = k
    · subst hjk
      cases hc : c j <;> simp_all [SMap.look]
    · cases hc : c j <;> simp_all [SMap.look]

/-- Does counter i stay when bank b is cleared? -/
def staysOfBank (b i : Nat) : Bool := match bankOfCounter i with | some (_, n) => n != b | none => true

theorem staysOfBank_of_bank {i n : Nat} {k : Bank} (h : bankOfCounter i = some (k, n)) (b : Nat) :
    staysOfBank b i = (n != b) := by
  rw [staysOfBank, h]

/-- A clear of a bank keeps the counters of the others. -/
theorem clearBank_eq (s : State) (b : Nat) :
    s.clearBank b = { s with loupe := { s.loupe with ctr := s.loupe.ctr.filter (fun p => staysOfBank b p.1) } } := rfl

section
variable {s : State} {n v m : Nat} {b : Bank}

/-- What LP_EVSEL takes of a selection whose event the bank of the counter has. -/
theorem evsel_taken (hb : bankOfCounter n = some (b, m)) (hv : v < 128) (hevents : v % 64 < b.events) :
    s.setEvsel n v = { s with loupe := { s.loupe with
      ctr := SMap.put 0 s.loupe.ctr n 0, sel := SMap.put (evselReset n) s.loupe.sel n v } } := by
  have henable : v % 64 + (if bitAt v 6 = true then 64 else 0) = v := by
    simp only [bitAt, Nat.testBit_eq_decide_div_mod_eq, decide_eq_true_eq]
    split <;> omega
  rw [State.setEvsel]
  simp only [hb, hevents, if_true, henable]
  rfl

theorem evsel_put {l : Loupe} (h : SMap.risesFrom 0 l.sel = true) :
    ({ l with sel := SMap.put (evselReset n) l.sel n v } : Loupe).evsel n = v :=
  SMap.get_put_same (evselReset n) l.sel n v h

end

section
variable {s : State} {t : Nat}

theorem fireSnap_eq (s : State) :
    s.fireSnap = (State.takeSnap { s with loupe := { s.loupe with armed := none } }).tellSnap .ok := rfl

/-- The armed snapshot is taken at its instant, unless a freeze comes before it. -/
theorem snapshotInstant_of_armed (ht : s.loupe.armed = some t) (hf : ∀ f, s.loupe.freezeArmed = some f → t ≤ f) :
    exec .snapshotInstant s = .next (s.reach t).fireSnap := by
  change execSnapshotInstant s = _
  rw [execSnapshotInstant, ht]
  cases hfreeze : s.loupe.freezeArmed with
  | none => rfl
  | some f =>
    dsimp only
    rw [if_neg (Nat.not_lt.mpr (hf f hfreeze))]

theorem snapshotInstant_of_frozenBefore {f : Nat} (ht : s.loupe.armed = some t) (hf : s.loupe.freezeArmed = some f)
    (hft : f < t) : exec .snapshotInstant s = .next (((s.reach f).freezeNow).reach t).fireSnap := by
  change execSnapshotInstant s = _
  rw [execSnapshotInstant, ht, hf]
  dsimp only
  rw [if_pos hft]

theorem freezeInstant_of_armed (ht : s.loupe.freezeArmed = some t) (ha : ∀ a, s.loupe.armed = some a → t < a) :
    exec .freezeInstant s = .next (s.reach t).freezeNow := by
  change execFreezeInstant s = _
  rw [execFreezeInstant, ht]
  cases harmed : s.loupe.armed with
  | none => rfl
  | some a =>
    dsimp only
    rw [if_neg (Nat.not_le.mpr (ha a harmed))]

theorem freezeInstant_of_snapshotBefore {a : Nat} (ht : s.loupe.freezeArmed = some t) (ha : s.loupe.armed = some a)
    (hat : a ≤ t) : exec .freezeInstant s = .next (((s.reach a).fireSnap).reach t).freezeNow := by
  change execFreezeInstant s = _
  rw [execFreezeInstant, ht, ha]
  dsimp only
  rw [if_pos hat]

/-- A later instant arms the snapshot; who waited for the one armed before learns ABORTED. -/
theorem armSnap_of_later (h : s.time < t) :
    s.armSnap t none =
      let u := if s.loupe.armed.isSome then s.tellSnap .aborted else s
      { u with loupe := { u.loupe with armed := some t, status := .busy, snapWait := [] } } := by
  rw [State.armSnap]
  cases s.loupe.armed.isSome
  · exact if_neg (Nat.not_le.mpr h)
  · exact if_neg (Nat.not_le.mpr h)

end

/-- What the Loupe's command rows do from a path without the right. -/
theorem loupeRows_of_untrusted {s : State} {p : Path} (n : Nat) (hs : s.reaches 0x06) (hp : p.trusted = false) :
    exec (.lpSnapArm p) s = .next (s.answer p .privilege) ∧
    exec (.lpSnapNow p) s = .next (s.answer p .privilege) ∧ exec (.lpFreezeArm p) s = .next (s.answer p .privilege) ∧
    exec (.lpFreezeNow p) s = .next (s.answer p .privilege) ∧ exec (.lpThaw p) s = .next (s.answer p .privilege) ∧
    exec (.lpClear p n) s = .next (s.answer p .privilege) :=
  ⟨(access_of_reaches hs p _).trans (if_neg (Bool.eq_false_iff.mp hp)),
    (access_of_reaches hs p _).trans (if_neg (Bool.eq_false_iff.mp hp)),
    (access_of_reaches hs p _).trans (if_neg (Bool.eq_false_iff.mp hp)),
    (access_of_reaches hs p _).trans (if_neg (Bool.eq_false_iff.mp hp)),
    (access_of_reaches hs p _).trans (if_neg (Bool.eq_false_iff.mp hp)),
    (access_of_reaches hs p _).trans (if_neg (Bool.eq_false_iff.mp hp))⟩

/-- What the Loupe's command rows do from the management port and firmware. -/
theorem loupeRows_of_trusted {s : State} {p : Path} (n : Nat) (hs : s.reaches 0x06) (hp : p.trusted = true) :
    exec (.lpSnapArm p) s = .next ((s.armSnap s.snapInstant none).answer p .ok) ∧
    exec (.lpSnapNow p) s = .next (s.takeSnap.answer p .ok) ∧ exec (.lpFreezeArm p) s = .next (s.armFreeze.answer p .ok) ∧
    exec (.lpFreezeNow p) s = .next (s.freezeNow.answer p .ok) ∧ exec (.lpThaw p) s = .next (s.thaw.answer p .ok) ∧
    exec (.lpClear p n) s = .next ((s.clearBank n).answer p .ok) :=
  ⟨(access_of_reaches hs p _).trans (if_pos hp), (access_of_reaches hs p _).trans (if_pos hp),
    (access_of_reaches hs p _).trans (if_pos hp), (access_of_reaches hs p _).trans (if_pos hp),
    (access_of_reaches hs p _).trans (if_pos hp), (access_of_reaches hs p _).trans (if_pos hp)⟩

/-- Settles O46. -/
theorem loupeCommands : Obligations.LoupeCommands := by
  unfold Obligations.LoupeCommands
  intro s p n v t
  refine ⟨fun hs => ⟨fun hp => loupeRows_of_untrusted n hs hp, fun hp => ?_, fun hn => ?_⟩,
    fun ht hf => snapshotInstant_of_armed ht hf, fun f ht hf hft => snapshotInstant_of_frozenBefore ht hf hft, fun hnone => ?_,
    fun ht ha => freezeInstant_of_armed ht ha, fun a ht ha hat => freezeInstant_of_snapshotBefore ht ha hat⟩
  · obtain ⟨harm, hnow, hfreezeArm, hfreeze, hthaw, hclear⟩ := loupeRows_of_trusted n hs hp
    refine ⟨fun hlater hnone => ?_, fun hlater harmed => ?_, ⟨_, hnow, rfl, rfl, rfl, rfl⟩, fun hlater => ?_, fun hpast => ?_,
      hfreeze, hthaw, ⟨s.loupe.ctr.filter (fun p => staysOfBank n p.1), hclear, fun i b hi => ?_, fun i b m hi hm => ?_⟩, fun b m hsel hv hb hevents hn => ?_⟩
    · rw [harm, armSnap_of_later (by exact hlater), hnone]
      rfl
    · rw [harm, armSnap_of_later (by exact hlater), harmed]
      rfl
    · rw [hfreezeArm, State.armFreeze, if_neg (show ¬ s.freezeInstant ≤ s.time from Nat.not_le.mpr hlater)]
      rfl
    · rw [hfreezeArm, State.armFreeze, if_pos (show s.freezeInstant ≤ s.time from hpast)]
      rfl
    · rw [SMap.get, look_filter_key (staysOfBank n), staysOfBank_of_bank hi, if_neg (by simp)]
      rfl
    · rw [SMap.get, look_filter_key (staysOfBank n), staysOfBank_of_bank hi, if_pos (by simpa using hm)]
      rfl
    · refine ⟨_, (access_of_reaches hs p _).trans ((if_pos hn).trans (if_pos hp)), ?_, ?_⟩
      · rw [evsel_taken hb hv hevents]
        exact evsel_put hsel
      · rw [evsel_taken hb hv hevents]
        rfl
  · exact (access_of_reaches hs p _).trans (if_neg (Nat.not_lt.mpr hn))
  · change execSnapshotInstant s = _
    rw [execSnapshotInstant, hnone]

end Sys2Proof.Machine

/-! ## O47: ports and frames -/

namespace Sys2Proof.Machine

theorem onUnit_port {u : Nat} (h : u < 64) (k : Res) : onUnit 0x11 u k = k := if_pos h

theorem onQuad_of_lt {q : Nat} (h : q < 16) (k : Res) : onQuad q k = k := if_pos h

/-- PORT_CFG.EN of a port and the mode of an octet are different fields. -/
theorem octetMode_setEn (s : State) (u v w : Nat) : (s.setFld F.PORT_CFG_EN u v).octetMode w = s.octetMode w := by
  refine s.fldOf_setFldOf_other 0x11 0x11 F.PORT_CFG_EN F.PORT_CFG_MODE u (w / 8 * 8) v 0 0 ?_
  simp only [fieldKey, F.PORT_CFG_EN, F.PORT_CFG_MODE]
  omega

theorem isPort_setEn (s : State) (u v w : Nat) : (s.setFld F.PORT_CFG_EN u v).isPort w = s.isPort w := by
  rw [State.isPort, State.isPort, octetMode_setEn]

theorem portState_setEn (s : State) (u v : Nat) :
    (s.setFld F.PORT_CFG_EN u v).fld F.PORT_STAT_STATE u = s.fld F.PORT_STAT_STATE u :=
  fld_setFld_of_place_ne s F.PORT_CFG_EN F.PORT_STAT_STATE rfl (by decide) u v

section
variable {s : State} {p : Path} {u : Nat}

theorem portEnable_of_dark (h : s.fld F.PORT_STAT_STATE u = 0) :
    s.portEnable u = (s.setFld F.PORT_CFG_EN u 1).bringUp u := by
  rw [State.portEnable]
  exact if_pos ((portState_setEn s u 1).trans h)

theorem portEnable_of_lit (h : s.fld F.PORT_STAT_STATE u ≠ 0) : s.portEnable u = s.setFld F.PORT_CFG_EN u 1 := by
  rw [State.portEnable]
  exact if_neg (fun hd => h ((portState_setEn s u 1).symm.trans hd))

theorem portDisable_of_up (hport : s.isPort u = true) (h : s.fld F.PORT_STAT_STATE u = 2) :
    s.portDisable u = ((s.setFld F.PORT_CFG_EN u 0).portGone u 6).judgeDiag.serve := by
  rw [State.portDisable]
  rw [isPort_setEn, portState_setEn, if_neg (not_not_intro hport), if_pos h]

theorem portDisable_of_notUp (hport : s.isPort u = true) (h : s.fld F.PORT_STAT_STATE u ≠ 2) :
    s.portDisable u = ((s.setFld F.PORT_CFG_EN u 0).portDark u).setFld F.PORT_STAT_LAST_CAUSE u 6 := by
  rw [State.portDisable]
  rw [isPort_setEn, portState_setEn, if_neg (not_not_intro hport), if_neg h]

theorem portDisable_of_noPort (hport : s.isPort u = false) : s.portDisable u = s.setFld F.PORT_CFG_EN u 0 := by
  rw [State.portDisable]
  rw [isPort_setEn, if_pos (Bool.eq_false_iff.mp hport)]

/-- A write of PORT_CFG.EN from a path that reaches the ports. -/
theorem exec_portEnable (hu : u < 64) (hs : s.reaches 0x11) (hp : pathMay p 0x11 = true) :
    exec (.portEnable p u) s = .next ((s.portEnable u).answer p .ok) :=
  (access_of_reaches hs p _).trans ((onUnit_port hu _).trans (if_pos hp))

theorem exec_portDisable (hu : u < 64) (hs : s.reaches 0x11) (hp : pathMay p 0x11 = true) :
    exec (.portDisable p u) s = .next ((s.portDisable u).answer p .ok) :=
  (access_of_reaches hs p _).trans ((onUnit_port hu _).trans (if_pos hp))

end

theorem boolNat_not (b : Bool) : boolNat (!b) = if b then 0 else 1 := by cases b <;> rfl

/-- The port clauses of O47: enable, disable, bring-up, loss. -/
theorem portsComeAndGo (s : State) (p : Path) (u : Nat) (hu : u < 64) :
    let state := s.fld F.PORT_STAT_STATE u
    (s.reaches 0x11 →
      (pathMay p 0x11 = true → state = 0 → exec (.portEnable p u) s =
        .next (((s.setFld F.PORT_CFG_EN u 1).bringUp u).answer p .ok)) ∧
      (pathMay p 0x11 = true → state ≠ 0 → exec (.portEnable p u) s =
        .next ((s.setFld F.PORT_CFG_EN u 1).answer p .ok)) ∧
      (pathMay p 0x11 = true → s.isPort u = true → state = 2 → exec (.portDisable p u) s =
        .next (((((s.setFld F.PORT_CFG_EN u 0).portGone u 6).judgeDiag).serve).answer p .ok)) ∧
      (pathMay p 0x11 = true → s.isPort u = true → state ≠ 2 → exec (.portDisable p u) s =
        .next (((((s.setFld F.PORT_CFG_EN u 0).portDark u).setFld F.PORT_STAT_LAST_CAUSE u 6)).answer p .ok)) ∧
      (pathMay p 0x11 = true → s.isPort u = false → exec (.portDisable p u) s =
        .next ((s.setFld F.PORT_CFG_EN u 0).answer p .ok)) ∧
      (pathMay p 0x11 = false → exec (.portEnable p u) s = .next (s.answer p .privilege))) := by
  refine fun hs => ⟨fun hp h => ?_, fun hp h => ?_, fun hp hport h => ?_, fun hp hport h => ?_, fun hp hport => ?_, fun hp => ?_⟩
  · rw [exec_portEnable hu hs hp, portEnable_of_dark h]
  · rw [exec_portEnable hu hs hp, portEnable_of_lit h]
  · rw [exec_portDisable hu hs hp, portDisable_of_up hport h]
  · rw [exec_portDisable hu hs hp, portDisable_of_notUp hport h]
  · rw [exec_portDisable hu hs hp, portDisable_of_noPort hport]
  · exact (access_of_reaches hs p _).trans ((onUnit_port hu _).trans (if_neg (Bool.eq_false_iff.mp hp)))

section
variable {f : Frame} {s : State} {k : State → State}

theorem onFrame_of_deaf (hu : f.port < 64) (h : s.hearsFrame f = false) : onFrame f s k = .next s :=
  (onUnit_port hu _).trans (if_pos (Bool.eq_false_iff.mp h))

theorem onFrame_of_cause {e : Nat} (hu : f.port < 64) (h : s.hearsFrame f = true)
    (he : (s.countFrame f).frameCause f = some e) : onFrame f s k = .next ((s.countFrame f).frameGone f.port e) := by
  rw [onFrame, onUnit_port hu, if_neg (not_not_intro h)]
  dsimp only
  rw [he]

theorem onFrame_of_good (hu : f.port < 64) (h : s.hearsFrame f = true) (he : (s.countFrame f).frameCause f = none) :
    onFrame f s k = .next (k (s.countFrame f)) := by
  rw [onFrame, onUnit_port hu, if_neg (not_not_intro h)]
  dsimp only
  rw [he]

end

section
variable {s : State} {f : Frame}

theorem frameCause_of_linkCause {e : Nat} (h : s.linkCause f = some e) : s.frameCause f = some e := by
  rw [State.frameCause, h]

/-- The FCS, size and MAC control rules of R106 come first. -/
theorem frameCause_of_fcs (h : f.fcsOk = false) : s.frameCause f = some 3 := by
  apply frameCause_of_linkCause
  rw [State.linkCause, if_pos (Bool.eq_false_iff.mp h)]

theorem frameCause_of_size (h : f.fcsOk = true) (hsize : f.size < 64 ∨ s.fld F.PORT_CFG_MTU f.port < f.size) :
    s.frameCause f = some 2 := by
  apply frameCause_of_linkCause
  rw [State.linkCause, if_neg (not_not_intro h), if_pos hsize]

theorem frameCause_of_pause (h : f.fcsOk = true) (hlow : 64 ≤ f.size) (hhigh : f.size ≤ s.fld F.PORT_CFG_MTU f.port)
    (htype : f.etype = 0x8808) : s.frameCause f = some 12 := by
  apply frameCause_of_linkCause
  rw [State.linkCause, if_neg (not_not_intro h), if_neg (by omega), if_pos (Or.inl htype)]

theorem frameGone_of_lt {port e : Nat} (h : e < 10) : s.frameGone port e = s.count 0x11 port e := by
  rw [State.frameGone, if_neg (Nat.not_le.mpr h)]

theorem frameGone_of_le {port e : Nat} (h : 10 ≤ e) : s.frameGone port e = (s.count 0x11 port 2).count 0x11 port e := by
  rw [State.frameGone, if_pos h]

end

/-- The frame that an echo request is taken as: ICMPv6 over IPv6, ICMP over IPv4. -/
def echoFrame (f : Frame) : Frame :=
  if f.etype = 0x86DD then { f with etype := 0x86DD, proto := 58 } else { f with etype := 0x0800, proto := 1 }

theorem echoFrame_port (f : Frame) : (echoFrame f).port = f.port := by
  rw [echoFrame]
  split <;> rfl

theorem echoFrame_dst (f : Frame) : (echoFrame f).dst = f.dst := by
  rw [echoFrame]
  split <;> rfl

theorem echoFrame_src (f : Frame) : (echoFrame f).src = f.src := by
  rw [echoFrame]
  split <;> rfl

theorem hearsFrame_echoFrame (s : State) (f : Frame) : s.hearsFrame (echoFrame f) = s.hearsFrame f := by
  rw [State.hearsFrame, State.hearsFrame, echoFrame_port]

/-- An echo request is taken as its frame, and answered when it is to the plane's address. -/
theorem execEchoRequest_eq (s : State) (f : Frame) (ident : Nat) (bs : List Byte) :
    execEchoRequest f ident bs s = onFrame (echoFrame f) s (fun s =>
      if f.etype = 0x86DD → f.dst = s.planeIp6 f.port then s.echoAnswer (echoFrame f) ident bs
      else s.frameGone f.port 13) := by
  rw [execEchoRequest]
  by_cases h : f.etype = 0x86DD
  · simp [echoFrame, h]
  · simp [echoFrame, h]

/-- The echo requests that a plane has answered in the present second of local time. -/
def State.echoes (s : State) (p : Nat) : Nat :=
  if (SMap.get (0, 0) s.fab.echo p).1 = s.mono / 2 ^ 40 then (SMap.get (0, 0) s.fab.echo p).2 else 0

theorem echoAnswer_of_lt {s : State} {g : Frame} (h : s.echoes (g.port / 32) < 1000) (ident : Nat) (bs : List Byte) :
    s.echoAnswer g ident bs =
      State.sends { s with fab := { s.fab with
        echo := SMap.put (0, 0) s.fab.echo (g.port / 32) (s.mono / 2 ^ 40, s.echoes (g.port / 32) + 1) } }
        (s.ipFrame g.port (g.etype == 0x0800) g.src (s.fld F.PORT_DSCP_HOST g.port) g.proto (8 + bs.length))
        (.echo (s.ipFrame g.port (g.etype == 0x0800) g.src (s.fld F.PORT_DSCP_HOST g.port) g.proto (8 + bs.length)) ident bs) := by
  rw [State.echoAnswer, second_eq]
  exact if_neg (Nat.not_le.mpr h)

theorem echoAnswer_of_le {s : State} {g : Frame} (h : 1000 ≤ s.echoes (g.port / 32)) (ident : Nat) (bs : List Byte) :
    s.echoAnswer g ident bs = s.count 0x11 g.port 7 := by
  rw [State.echoAnswer, second_eq]
  exact if_pos h

theorem portUp_of_may {s : State} {u : Nat} (hu : u < 64) (hup : s.mayComeUp u = true) :
    let lanes := s.portLanes u
    let t := lanes.foldl (fun (t : State) n => ((t.setFld F.LANE_STAT_STATE n 2).setFld F.LANE_STAT_SIGNAL n 1).setFld
      F.LANE_STAT_LOCK n 1) s
    let test := lanes.any (fun n => t.fld F.LANE_CTL_PRBS n != 0)
    let t := ((t.setFld F.PORT_STAT_STATE u 2).setFld F.PORT_STAT_IN_SET u (if test then 0 else 1)).setFld
      F.PORT_STAT_UP_SINCE u t.secs
    exec (.portUp u) s = .next (State.judgeDiag { t with fab := { t.fab with
      bothDown := none,
      hold := if s.planeUp (u / 32) then t.fab.hold else SMap.ins t.fab.hold (u / 32) t.mono,
      low := lanes.foldl SMap.del t.fab.low, good := lanes.foldl SMap.del t.fab.good,
      fail := lanes.foldl SMap.del t.fab.fail } }).serve := by
  dsimp only
  change execPortUp u s = _
  rw [execPortUp, onUnit_port hu, if_neg (not_not_intro hup)]
  dsimp only
  rw [boolNat_not]
  cases hplane : s.planeUp (u / 32) <;>
    simp only [planeOf, hplane, Bool.not_true, Bool.not_false, Bool.false_eq_true, if_true, if_false]

/-- Settles O47. -/
theorem portsAndFrames : Obligations.PortsAndFrames := by
  unfold Obligations.PortsAndFrames
  refine ⟨fun s p u cause quad k => ⟨fun hu => ⟨?_, fun hup => ?_, fun hup => ?_, fun hst hcause => ?_,
      fun hno => ?_, fun hst => ?_, fun hst hcause => ?_, fun hst => ?_⟩, fun hu => if_neg (Nat.not_lt.mpr hu), fun hq => ?_,
      fun hq => ⟨fun hact hrec hheld => ?_, fun hheld => ?_⟩⟩,
    fun s f ip hi lo ident kind bs hf => ⟨fun hh => ⟨⟨fun hc hip ha => ?_, fun hc hno => ?_, fun e he => ?_⟩,
      ⟨fun hc h1 h2 => ?_, fun hc hno => ?_⟩, ?_,
      ⟨fun hfcs => ?_, fun hfcs hsize => ?_, fun hfcs hlow hhigh htype => ?_, fun e he => ?_, fun hc huse => ?_,
        fun hc huse => ?_⟩⟩, fun hdeaf => ⟨?_, ?_, ?_, ?_⟩⟩⟩
  · exact portsComeAndGo s p u hu
  · exact portUp_of_may hu hup
  · change execPortUp u s = _
    rw [execPortUp, onUnit_port hu, if_pos (Bool.eq_false_iff.mp hup)]
  · change execPortBringupTimeout u cause s = _
    rw [execPortBringupTimeout, onUnit_port hu, if_neg (fun h => h.elim (absurd hst) (absurd hcause)), second_eq]
  · change execPortBringupTimeout u cause s = _
    rw [execPortBringupTimeout, onUnit_port hu, if_pos (hno.imp_right Bool.eq_false_iff.mp)]
  · change execPortRetryWaitEnd u s = _
    rw [execPortRetryWaitEnd, onUnit_port hu, if_neg (not_not_intro hst), second_eq]
  · change execPortDown u cause s = _
    rw [execPortDown, onUnit_port hu, if_neg (fun h => h.elim (absurd hst) (absurd hcause))]
  · change execPortDown u cause s = _
    rw [execPortDown, onUnit_port hu, if_pos (Or.inl hst)]
  · change execCalBoundary quad k s = _
    rw [execCalBoundary, onQuad_of_lt hq]
    rfl
  · change execChordHoldLimit quad s = _
    rw [execChordHoldLimit, onQuad_of_lt hq]
    exact if_pos ⟨hact, Bool.eq_false_iff.mp hrec, hheld⟩
  · change execChordHoldLimit quad s = _
    rw [execChordHoldLimit, onQuad_of_lt hq]
    exact if_neg (fun h => Nat.not_le.mpr hheld h.2.2)
  · change execArpRequest f ip s = _
    rw [execArpRequest, onFrame_of_good (f := { f with etype := 0x0806 }) hf hh hc, ← hip]
    exact congrArg Host.Outcome.next (if_pos ⟨hip ▸ ha, hip⟩)
  · change execArpRequest f ip s = _
    rw [execArpRequest, onFrame_of_good (f := { f with etype := 0x0806 }) hf hh hc]
    exact congrArg Host.Outcome.next (if_neg (fun h => hno.elim (absurd h.2) (fun h0 => h.1 (h.2.trans h0))))
  · change execArpRequest f ip s = _
    rw [execArpRequest]
    exact onFrame_of_cause (f := { f with etype := 0x0806 }) hf hh he
  · change execNeighbourSolicitation f hi lo s = _
    rw [execNeighbourSolicitation, onFrame_of_good (f := { f with etype := 0x86DD, proto := 58 }) hf hh hc]
    exact congrArg Host.Outcome.next (if_pos ⟨h1, h2⟩)
  · change execNeighbourSolicitation f hi lo s = _
    rw [execNeighbourSolicitation, onFrame_of_good (f := { f with etype := 0x86DD, proto := 58 }) hf hh hc]
    exact congrArg Host.Outcome.next (if_neg (fun h => hno.elim (absurd h.1) (absurd h.2)))
  · intro t hc hdst
    have hexec : exec (.echoRequest f ident bs) s = .next (t.echoAnswer (echoFrame f) ident bs) := by
      change execEchoRequest f ident bs s = _
      rw [execEchoRequest_eq, onFrame_of_good (f := echoFrame f) (by rw [echoFrame_port]; exact hf)
        (by rw [hearsFrame_echoFrame]; exact hh) hc]
      exact congrArg Host.Outcome.next (if_pos hdst)
    refine ⟨fun hroom => ?_, fun hfull => ?_⟩
    · rw [hexec, echoAnswer_of_lt (by rw [echoFrame_port]; exact hroom), echoFrame_port, echoFrame_src]
      rfl
    · rw [hexec, echoAnswer_of_le (by rw [echoFrame_port]; exact hfull), echoFrame_port]
  · change execFrameDiscard f kind s = _
    rw [execFrameDiscard, onFrame_of_cause hf hh (frameCause_of_fcs hfcs), frameGone_of_lt (by decide)]
  · change execFrameDiscard f kind s = _
    rw [execFrameDiscard, onFrame_of_cause hf hh (frameCause_of_size hfcs hsize), frameGone_of_lt (by decide)]
  · change execFrameDiscard f kind s = _
    rw [execFrameDiscard, onFrame_of_cause hf hh (frameCause_of_pause hfcs hlow hhigh htype), frameGone_of_le (by decide)]
  · change execFrameDiscard f kind s = _
    rw [execFrameDiscard, onFrame_of_cause hf hh he]
  · change execFrameDiscard f kind s = _
    rw [execFrameDiscard, onFrame_of_good hf hh hc, if_neg (Bool.eq_false_iff.mp huse)]
  · change execFrameDiscard f kind s = _
    rw [execFrameDiscard, onFrame_of_good hf hh hc, if_pos huse]
  · change execArpRequest f ip s = _
    rw [execArpRequest]
    exact onFrame_of_deaf (f := { f with etype := 0x0806 }) hf hdeaf
  · change execNeighbourSolicitation f hi lo s = _
    rw [execNeighbourSolicitation]
    exact onFrame_of_deaf (f := { f with etype := 0x86DD, proto := 58 }) hf hdeaf
  · change execEchoRequest f ident bs s = _
    rw [execEchoRequest_eq]
    exact onFrame_of_deaf (by rw [echoFrame_port]; exact hf) (by rw [hearsFrame_echoFrame]; exact hdeaf)
  · change execFrameDiscard f kind s = _
    rw [execFrameDiscard, onFrame_of_deaf hf hdeaf]

end Sys2Proof.Machine

/-! ## O48: alarms, lifecycle, debug levels -/

namespace Sys2Proof.Machine

section
variable {s : State} {r : Status × State}

theorem lcRow_mgmt (s : State) (r : Status × State) : lcRow .mgmt s r = .next ((lcEnds r).answer .mgmt .ok) := if_pos rfl

theorem lcRow_of_other {p : Path} (hp : p ≠ .mgmt) (s : State) (r : Status × State) :
    lcRow p s r = .next (s.answer p .privilege) := if_neg hp

theorem judgeHeld_of_free (h : s.life.held = false) : s.judgeHeld = s :=
  if_neg (fun hc => Bool.eq_false_iff.mp h hc.1)

/-- A clear of LC_ALARM takes the bits named whose condition has gone; a controller that is not held stays so. -/
theorem alarmClear_of_free {mask gone : Nat} (h : s.life.held = false) (hgone : mask % 32 &&& (31 - s.life.present % 32) = gone) :
    s.alarmClear mask = { s with life := { s.life with latched := s.life.latched - (s.life.latched &&& gone) } } := by
  rw [State.alarmClear]
  dsimp only
  rw [hgone, judgeHeld_of_free (by exact h)]

theorem lcAlarmClear_of_may {p : Path} {mask : Nat} (hs : s.reaches 0x08) (hp : pathMay p 0x08 = true) :
    exec (.lcAlarmClear p mask) s = .next ((s.alarmClear mask).answer p .ok) :=
  (access_of_reaches hs p _).trans (if_pos hp)

end

theorem alarmPath_eq (s : State) :
    s.alarmPath = if s.pow.state = .p0 ∧ s.pow.warn = false ∧ s.pow.sq ≠ .down ∧ s.pow.plan ≠ .standby then s.standbyPath
      else s.wakeBack := by
  rw [State.alarmPath]
  simp only [Bool.not_eq_true]

section
variable {s : State}

theorem lcReturn_of_token (hst : s.life.state = .provisioned ∨ s.life.state = .deployed) (hlevel : s.life.level < 2)
    (htok : s.tokenOk 3 true = true) :
    s.lcReturn true =
      let t := s.tokenUsed.eraseAll
      let u : State := { t with life := { t.life with owk := false }, keys := { t.keys with envs := [] } }
      (.ok, (((u.unsave (fun _ => true)).flashWait (.identity 0)).kick).enterLife 3 .returned) := by
  rw [State.lcReturn, if_pos ⟨hst, hlevel, htok⟩]

theorem lcScrap_of_token (hst : s.life.state = .provisioned ∨ s.life.state = .deployed) (hlevel : s.life.level < 2)
    (htok : s.tokenOk 4 true = true) :
    s.lcScrap true =
      let t := s.tokenUsed.eraseAll
      (.ok, (State.enterLife { t with life := { t.life with keyBlown := true } } 4 .scrapped).stopService) := by
  have hfree : (s.life.state == .returned) = false := by rcases hst with h | h <;> rw [h] <;> rfl
  have hlive : s.life.state ≠ .scrapped := by rcases hst with h | h <;> rw [h] <;> nofun
  rw [State.lcScrap, hfree]
  dsimp only
  rw [if_pos ⟨hlive, hlevel, Or.inr htok⟩, if_neg Bool.false_ne_true]

/-- SVN_BUMP raises one of the two floors, and its event changes only the recorder and the keepsake. -/
theorem lcSvnBump_of_token (hst : s.life.state = .provisioned ∨ s.life.state = .deployed) (hlevel : s.life.level < 2)
    (htok : s.tokenOk 5 true = true) (hkind : leNat (s.lcBytes 5 1) = 1 ∨ leNat (s.lcBytes 5 1) = 2) :
    ∃ ev kf, s.lcSvnBump true = (.ok, { s.tokenUsed with
      life := { s.tokenUsed.life with
        svnFw := if leNat (s.lcBytes 5 1) = 1 then min 63 (s.life.svnFw + 1) else s.life.svnFw,
        svnCfg := if leNat (s.lcBytes 5 1) = 2 then min 63 (s.life.svnCfg + 1) else s.life.svnCfg },
      ev := ev, kf := kf }) := by
  rw [State.lcSvnBump]
  dsimp only
  rw [if_pos ⟨hst, hlevel, htok, hkind⟩]
  obtain ⟨ev, kf, hnote⟩ := State.records_event { s.tokenUsed with life := { s.tokenUsed.life with
    svnFw := if leNat (s.lcBytes 5 1) = 1 then min 63 (s.tokenUsed.life.svnFw + 1) else s.tokenUsed.life.svnFw,
    svnCfg := if leNat (s.lcBytes 5 1) = 2 then min 63 (s.tokenUsed.life.svnCfg + 1) else s.tokenUsed.life.svnCfg } }
      0x08 0 7 7 (5 + 256 * (match s.tokenUsed.life.state with | .provisioned => 1 | _ => 2)) 0
  exact ⟨ev, kf, congrArg (Prod.mk Status.ok) hnote⟩

end

/-- Settles O48. -/
theorem lifecycle : Obligations.Lifecycle := by
  unfold Obligations.Lifecycle
  intro s p n level ok
  refine ⟨fun hn => ?_, fun hn => if_pos hn, fun hheld => ?_, fun hheld => if_neg (Bool.eq_false_iff.mp hheld),
    fun hs => ⟨fun hp hpres hheld => ?_, fun hp hpres hheld hn => ?_, fun hp => ⟨?_, ?_, ?_, ?_, ?_⟩, fun hst hlev hrails => ?_,
      fun hst => ?_, fun hst himg hlev => ?_, fun hst => ?_, fun hst hlev => ⟨fun htok => ?_, fun htok => ?_, fun htok hkind => ?_⟩,
      fun hlt hle => ?_, fun c hlev hc h1 => ?_, fun hle => ?_⟩, fun hlev hn => ?_, fun hlev => ?_, fun hlev hn => ?_⟩
  · change execSecurityAlarm n s = _
    rw [execSecurityAlarm, if_neg (Nat.not_le.mpr hn)]
    exact congrArg Host.Outcome.next (alarmPath_eq _)
  · change execAlarmAutoReload s = _
    rw [execAlarmAutoReload, if_pos hheld, second_eq]
  · rw [lcAlarmClear_of_may hs hp, alarmClear_of_free (gone := 0) hheld (by rw [hpres]; exact Nat.and_zero _), Nat.and_zero]
    rfl
  · rw [lcAlarmClear_of_may hs hp, alarmClear_of_free (gone := n) hheld]
    rw [hpres]
    exact (Nat.and_two_pow_sub_one_eq_mod (n % 32) 5).trans (by omega)
  · exact (access_of_reaches hs p _).trans (lcRow_of_other hp _ _)
  · exact (access_of_reaches hs p _).trans (lcRow_of_other hp _ _)
  · exact (access_of_reaches hs p _).trans (lcRow_of_other hp _ _)
  · exact (access_of_reaches hs p _).trans (lcRow_of_other hp _ _)
  · exact (access_of_reaches hs p _).trans (lcRow_of_other hp _ _)
  · refine (access_of_reaches hs _ _).trans ?_
    rw [rowLcProvision, lcRow_mgmt, State.lcProvision]
    dsimp only
    rw [if_neg (fun h => h.elim (absurd hst) (fun h => h.elim (Nat.not_le.mpr hlev) (absurd hrails)))]
    rfl
  · refine (access_of_reaches hs _ _).trans ?_
    rw [rowLcProvision, lcRow_mgmt, State.lcProvision]
    dsimp only
    rw [if_pos (Or.inl hst)]
    rfl
  · refine (access_of_reaches hs _ _).trans ?_
    rw [rowLcDeploy, lcRow_mgmt, State.lcDeploy, if_pos ⟨hst, himg, hlev⟩]
    rfl
  · refine (access_of_reaches hs _ _).trans ?_
    rw [rowLcDeploy, lcRow_mgmt, State.lcDeploy, if_neg (fun h => hst h.1)]
    rfl
  · refine (access_of_reaches hs _ _).trans ?_
    rw [rowLcReturn, lcRow_mgmt, lcReturn_of_token hst hlev htok]
    rfl
  · refine (access_of_reaches hs _ _).trans ?_
    rw [rowLcScrap, lcRow_mgmt, lcScrap_of_token hst hlev htok]
    rfl
  · obtain ⟨ev, kf, hbump⟩ := lcSvnBump_of_token hst hlev htok hkind
    refine ⟨_, (access_of_reaches hs _ _).trans (lcRow_mgmt _ _), ?_⟩
    rw [hbump]
    exact ⟨rfl, rfl, rfl, rfl, rfl, rfl⟩
  · refine (access_of_reaches hs _ _).trans ?_
    rw [rowLcDebug, if_neg (by omega), lcRow_mgmt, State.lcDebug, if_pos hlt]
    rfl
  · refine (access_of_reaches hs _ _).trans ?_
    rw [rowLcDebug, if_neg (by decide), lcRow_mgmt, State.lcDebug, if_neg (by omega), hc]
    dsimp only
    rw [if_neg (by simp; omega)]
    rfl
  · refine (access_of_reaches hs _ _).trans ?_
    rw [rowLcDebug, if_pos hle]
  · change execDebugHalt n s = _
    rw [execDebugHalt, if_neg (by omega), if_neg (by omega), if_neg (by omega)]
  · change execDebugHalt 32 s = _
    rw [execDebugHalt, if_neg (by decide), if_neg (by omega), if_pos rfl]
  · change execDebugHalt n s = _
    rw [execDebugHalt, if_neg (by omega), if_pos hlev]

end Sys2Proof.Machine

/-! ## O49: rails -/

namespace Sys2Proof.Machine

theorem onRail_of_lt {n : Nat} (h : n < 12) (k : Res) : onRail n k = k := if_pos h

theorem setRail_todo (s : State) (n : Nat) (r : Rail) : (s.setRail n r).pow.todo = s.pow.todo := rfl

theorem withCoreUp_todo (a : State) (t : Option Nat) :
    ({ a with pow := { a.pow with coreUp := t } } : State).pow.todo = a.pow.todo := rfl

theorem todo_ite {c : Prop} [Decidable c] {x y : State} {l : List Nat} (hx : x.pow.todo = l) (hy : y.pow.todo = l) :
    (if c then x else y).pow.todo = l := by
  split
  · exact hx
  · exact hy

section
variable {s : State} {n m mv : Nat} {rest : List Nat}

/-- A rail that is stable in its turn gives way to the next one. -/
theorem railStable_of_more (hn : n < 12) (hsq : s.pow.sq = .up) (htodo : s.pow.todo = n :: m :: rest) :
    let t := (s.reachLocal (s.pow.stepAt + us 100)).setRail n { (s.rail n).sense mv with st := .inWindow }
    let t := if n = 3 then { t with pow := { t.pow with coreUp := some t.mono } } else t
    exec (.railStable n mv) s = .next (State.raiseRail { t with pow := { t.pow with todo := m :: rest } } m) := by
  have hpow := State.reachLocal_pow s (s.pow.stepAt + us 100)
  have hexec : exec (.railStable n mv) s = execRailStable n mv s := rfl
  rw [hexec, execRailStable, onRail_of_lt hn, if_pos ⟨hsq, by rw [htodo]; rfl⟩]
  generalize s.reachLocal (s.pow.stepAt + us 100) = a at hpow ⊢
  dsimp only
  have ha (r : Rail) : (a.setRail n r).pow.todo = n :: m :: rest := by rw [setRail_todo, hpow, htodo]
  rw [todo_ite ((withCoreUp_todo (a.setRail n _) _).trans (ha _)) (ha _)]

/-- The last rail that is stable ends the power-up. -/
theorem railStable_of_last (hn : n < 12) (hsq : s.pow.sq = .up) (htodo : s.pow.todo = [n]) :
    let t := (s.reachLocal (s.pow.stepAt + us 100)).setRail n { (s.rail n).sense mv with st := .inWindow }
    let t := if n = 3 then { t with pow := { t.pow with coreUp := some t.mono } } else t
    exec (.railStable n mv) s = .next t.upDone := by
  have hpow := State.reachLocal_pow s (s.pow.stepAt + us 100)
  have hexec : exec (.railStable n mv) s = execRailStable n mv s := rfl
  rw [hexec, execRailStable, onRail_of_lt hn, if_pos ⟨hsq, by rw [htodo]; rfl⟩]
  generalize s.reachLocal (s.pow.stepAt + us 100) = a at hpow ⊢
  dsimp only
  have ha (r : Rail) : (a.setRail n r).pow.todo = [n] := by rw [setRail_todo, hpow, htodo]
  rw [todo_ite ((withCoreUp_todo (a.setRail n _) _).trans (ha _)) (ha _)]

theorem psDone_retryUsed (s : State) (st : Status) : (s.psDone st).pow.retryUsed = s.pow.retryUsed := by
  rw [State.psDone]
  split <;> rfl

theorem powerRecord_pow (s : State) (kind rail dir : Nat) : (s.powerRecord kind rail dir).2.pow = s.pow := by
  simp only [State.powerRecord]
  split <;> rfl

/-- A rail that does not rise in time powers down; the power-up is tried again once. -/
theorem railRiseTimeout_of_head (hn : n < 12) (hsq : s.pow.sq = .up) (htodo : s.pow.todo = n :: rest) :
    let k := (s.reachLocal (s.pow.stepAt + ms (s.fld F.PS_TIMING_RISE_TO))).powerRecord 6 n 0
    let v := State.psDone { k.2 with pow := { k.2.pow with rcd := some k.1 } } .aborted
    exec (.railRiseTimeout n) s = .next (State.startDown (if s.pow.retryUsed then
        State.raise { v with pow := { v.pow with retryUsed := false, upAllowed := false } } 0x03 0 4 0x01 n
      else { v with pow := { v.pow with retryUsed := true } })) := by
  have hpow := (powerRecord_pow _ 6 n 0).trans (State.reachLocal_pow s (s.pow.stepAt + ms (s.fld F.PS_TIMING_RISE_TO)))
  have hexec : exec (.railRiseTimeout n) s = execRailRiseTimeout n s := rfl
  dsimp only
  rw [hexec, execRailRiseTimeout, onRail_of_lt hn, if_pos ⟨hsq, by rw [htodo]; rfl⟩]
  dsimp only
  generalize (s.reachLocal (s.pow.stepAt + ms (s.fld F.PS_TIMING_RISE_TO))).powerRecord 6 n 0 = k at hpow ⊢
  rw [psDone_retryUsed, hpow]

theorem railFallen_of_head (hn : n < 12) (hsq : s.pow.sq ≠ .up) (htodo : s.pow.todo = n :: rest) :
    exec (.railFallen n mv) s =
      .next ((((s.setRail n { (s.rail n).sense mv with st := .off }).railGone n).nextDown)) := by
  have hexec : exec (.railFallen n mv) s = execRailFallen n mv s := rfl
  rw [hexec, execRailFallen, onRail_of_lt hn, if_pos ⟨hsq, by rw [htodo]; rfl⟩]

theorem railFallTimeout_of_head (hn : n < 12) (hsq : s.pow.sq ≠ .up) (htodo : s.pow.todo = n :: rest) :
    let t := s.reachLocal (s.pow.stepAt + ms (s.fld F.PS_TIMING_FALL_TO))
    let k := t.powerRecord 7 n 1
    exec (.railFallTimeout n) s = .next (((k.2.writeRecord k.1).railGone n).nextDown) := by
  have hexec : exec (.railFallTimeout n) s = execRailFallTimeout n s := rfl
  rw [hexec, execRailFallTimeout, onRail_of_lt hn, if_pos ⟨hsq, by rw [htodo]; rfl⟩]

/-- Where no sequence has a rail to go, the events of a sequence change nothing. -/
theorem rails_of_noTodo (hn : n < 12) (htodo : s.pow.todo = []) :
    exec (.railStable n mv) s = .next s ∧ exec (.railFallen n mv) s = .next s ∧
      exec (.railRiseTimeout n) s = .next s ∧ exec (.railFallTimeout n) s = .next s := by
  have hhead : s.pow.todo.head? ≠ some n := by rw [htodo]; nofun
  refine ⟨?_, ?_, ?_, ?_⟩
  · change execRailStable n mv s = _
    rw [execRailStable, onRail_of_lt hn, if_neg (fun h => hhead h.2)]
  · change execRailFallen n mv s = _
    rw [execRailFallen, onRail_of_lt hn, if_neg (fun h => hhead h.2)]
  · change execRailRiseTimeout n s = _
    rw [execRailRiseTimeout, onRail_of_lt hn, if_neg (fun h => hhead h.2)]
  · change execRailFallTimeout n s = _
    rw [execRailFallTimeout, onRail_of_lt hn, if_neg (fun h => hhead h.2)]

end

section
variable {s : State} {n mv : Nat} {high : Bool}

/-- A rail leaves its window: its state, and what drops with it. -/
theorem railWindowExit_of_inWindow (hn : n < 12) (h0 : n ≠ 0) (hst : (s.rail n).st = .inWindow) :
    let t := (s.setRail n { (s.rail n).sense mv with
      st := .outOfWindow, faults := ((s.rail n).faults + 1) % 65536 }).holdFails n high
    (t.goingOff = false → t.pow.graceEnd = none →
      exec (.railWindowExit n mv high) s = .next (State.warn { t with pow := { t.pow with
        graceEnd := some (t.mono + ms (t.fld F.PS_TIMING_GRACE)) } } 4 n (if high then 1 else 0))) ∧
    (t.goingOff = true → exec (.railWindowExit n mv high) s = .next t) := by
  have hfaults : ((s.rail n).sense mv).faults = (s.rail n).faults := rfl
  have hexec : exec (.railWindowExit n mv high) s = execRailWindowExit n mv high s := rfl
  rw [hexec, execRailWindowExit, onRail_of_lt hn, if_pos ⟨hst, h0⟩]
  dsimp only
  rw [hfaults]
  generalize (s.setRail n { (s.rail n).sense mv with
    st := .outOfWindow, faults := ((s.rail n).faults + 1) % 65536 }).holdFails n high = t
  refine ⟨fun hgo hgrace => ?_, fun hgo => ?_⟩
  · rw [if_neg (Bool.eq_false_iff.mp hgo), hgrace, boolNat]
    rfl
  · rw [if_pos hgo]

end

/-- Settles O49. -/
theorem rails : Obligations.Rails := by
  unfold Obligations.Rails
  intro s n m mv rest high hn
  refine ⟨fun hsq => ⟨fun htodo => railStable_of_more hn hsq htodo, fun htodo => railStable_of_last hn hsq htodo⟩,
    fun hsq htodo => ⟨fun hr => ?_, fun hr => ?_⟩,
    fun hsq htodo => ⟨railFallen_of_head hn hsq htodo, railFallTimeout_of_head hn hsq htodo⟩,
    fun htodo => rails_of_noTodo hn htodo, fun h0 hst => railWindowExit_of_inWindow hn h0 hst, fun hst => ?_,
    fun h0 hoff hfall hgo => ?_, fun hsq hst => ?_, fun amps temp sw h0 => ?_, ?_⟩
  · rw [railRiseTimeout_of_head hn hsq htodo, hr, if_neg Bool.false_ne_true]
  · rw [railRiseTimeout_of_head hn hsq htodo, hr, if_pos rfl]
  · change execRailWindowExit n mv high s = _
    rw [execRailWindowExit, onRail_of_lt hn, if_neg (fun h => hst h.1)]
  · change execRailHardLimit n mv high s = _
    rw [execRailHardLimit, onRail_of_lt hn, if_pos ⟨h0, hoff, hfall, Bool.eq_false_iff.mp hgo⟩]
    rfl
  · change execVaonLost mv high s = _
    rw [execVaonLost]
    dsimp only
    rw [if_neg]
    · rfl
    · rintro (hgo | ⟨hp4, -⟩)
      · rw [State.goingOff, show (s.setRail 0 _).pow.sq = s.pow.sq from rfl, hsq] at hgo
        exact absurd hgo nofun
      · exact hst hp4
  · change execPmbusPoll n amps temp sw s = _
    rw [execPmbusPoll, onRail_of_lt hn, if_neg h0]
  · change execRailStable (n + 12) mv s = _
    rw [execRailStable, onRail, if_neg (by omega)]

end Sys2Proof.Machine

/-! ## O50: the inputs of the Power Supervisor -/

namespace Sys2Proof.Machine

theorem goingOff_of_idle {s : State} (h : s.pow.sq = .idle) : s.goingOff = false := by
  rw [State.goingOff, h]
  rfl

section
variable {s : State}

/-- What PWR_REQ falling does once it is noted, outside a sequence (Table 15.2). -/
theorem execPwrReqFall_of_idle (hwarn : s.pow.warn = false) (hsq : s.pow.sq = .idle) :
    let u : State := { s with pow := { s.pow with pwrReq := false, latchOn := false, lowSince := some s.mono } }
    (s.pow.state = .p0 ∨ s.pow.state = .p1 → execPwrReqFall s = .next (State.warn u 1 15 0)) ∧
    (s.pow.state = .p3 → execPwrReqFall s = .next (State.foretell u 1).startDown) ∧
    (s.pow.state = .p4 → execPwrReqFall s = .next u) := by
  have hgo : State.goingOff { s with pow := { s.pow with pwrReq := false, latchOn := false, lowSince := some s.mono } } = false :=
    goingOff_of_idle hsq
  refine ⟨fun hst => ?_, fun hst => ?_, fun hst => ?_⟩
  · rw [execPwrReqFall, if_neg (by rw [hgo]; simp [hwarn]), if_neg (by simp [hsq]),
      if_neg (by rcases hst with h | h <;> simp [h]), if_neg (by rcases hst with h | h <;> simp [h])]
  · rw [execPwrReqFall, if_neg (by rw [hgo]; simp [hwarn]), if_neg (by simp [hsq]), if_neg (by simp [hst]), if_pos hst]
  · rw [execPwrReqFall, if_neg (by rw [hgo]; simp [hwarn]), if_neg (by simp [hsq]), if_pos hst]

/-- What PF_WARN_N falling does once it is noted, outside a sequence (Table 15.2). -/
theorem execPfWarnFall_of_idle (hwarn : s.pow.warn = false) (hsq : s.pow.sq = .idle) :
    let u : State := { s with pow := { s.pow with pfWarnN := false } }
    (s.pow.state = .p0 ∨ s.pow.state = .p1 → execPfWarnFall s = .next (State.warn u 2 15 0)) ∧
    (s.pow.state = .p4 → execPfWarnFall s = .next u) := by
  have hgo : State.goingOff { s with pow := { s.pow with pfWarnN := false } } = false := goingOff_of_idle hsq
  refine ⟨fun hst => ?_, fun hst => ?_⟩
  · rw [execPfWarnFall, if_neg (by rw [hgo]; simp [hwarn]), if_neg (by simp [hsq]),
      if_neg (by rcases hst with h | h <;> simp [h])]
  · rw [execPfWarnFall, if_neg (by rw [hgo]; simp [hwarn]), if_neg (by simp [hsq]), if_pos hst]

end

/-- Settles O50. -/
theorem powerInputs : Obligations.PowerInputs := by
  unfold Obligations.PowerInputs
  intro s t
  refine ⟨fun kind c hkc hwarn hsq => ?_, fun hwarn hgo hreq hlow => ?_, fun hwarn hreq hlow => ?_, fun hwarn => ?_,
    fun hwarn => ?_, fun hst hsq hreq hpf hup => ?_, fun hreq => ?_, fun hoff => ?_, fun hgrace hwarn hgo => ?_,
    fun hgrace => ?_, fun hgo hready hdrain hwarn => ?_, fun hgo hready hwarn hdorm hempty => ?_, fun hready => ?_⟩
  · simp only [List.mem_cons, List.not_mem_nil, or_false, Prod.mk.injEq] at hkc
    rcases hkc with ⟨rfl, rfl⟩ | ⟨rfl, rfl⟩
    · obtain ⟨hserving, hdormant, hoff⟩ := execPwrReqFall_of_idle hwarn hsq
      rw [if_pos rfl]
      exact ⟨hserving, fun hst _ => hdormant hst, hoff⟩
    · obtain ⟨hserving, hoff⟩ := execPfWarnFall_of_idle hwarn hsq
      rw [if_neg (by decide)]
      exact ⟨hserving, fun _ h => absurd h (by decide), hoff⟩
  · change execPwrReqRise s = _
    simp only [execPwrReqRise, hwarn, hgo, hlow, Bool.or_self, Bool.false_and, Bool.or_false]
  · change execPwrReqRise s = _
    simp only [execPwrReqRise, hwarn, hreq, hlow, Bool.true_or, Bool.not_false, Bool.and_self, Bool.or_true, Bool.or_false]
  · change execPfWarnRise s = _
    rw [execPfWarnRise, if_pos hwarn]
  · change execPfWarnRise s = _
    rw [execPfWarnRise, if_neg (Bool.eq_false_iff.mp hwarn)]
  · change execPowerUpStart s = _
    rw [execPowerUpStart, if_pos ⟨hst, hsq, hreq, hpf, hup⟩]
  · change execPowerUpStart s = _
    rw [execPowerUpStart, if_neg (fun h => Bool.eq_false_iff.mp hreq h.2.2.1)]
  · change execMinOffEnd s = _
    rw [execMinOffEnd, hoff]
    dsimp only
    rw [State.reachLocal_pow]
  · change execGraceExpiry s = _
    rw [execGraceExpiry, hgrace]
    exact if_pos ⟨hwarn, Bool.eq_false_iff.mp hgo⟩
  · change execGraceExpiry s = _
    rw [execGraceExpiry, hgrace]
  · change execDrainEnd s = _
    rw [execDrainEnd, if_neg (by simp [hgo, hready]), if_pos ⟨hdrain, hwarn⟩]
  · change execDrainEnd s = _
    rw [execDrainEnd, if_neg (by simp [hgo, hready]), if_neg (fun h => Bool.eq_false_iff.mp hwarn h.2), if_pos ⟨hdorm, hempty⟩]
  · change execDrainEnd s = _
    rw [execDrainEnd, if_pos (Or.inr (Bool.eq_false_iff.mp hready))]

end Sys2Proof.Machine

/-! ## O51: power commands -/

namespace Sys2Proof.Machine

/-- A walk over a list keeps what each of its steps keeps. -/
theorem foldl_keeps {σ α β : Type} (g : σ → β) (f : σ → α → σ) (h : ∀ s x, g (f s x) = g s) (l : List α) (s : σ) :
    g (l.foldl f s) = g s := by
  induction l generalizing s with
  | nil => rfl
  | cons x xs ih => rw [List.foldl_cons, ih, h]

/-- The part of a state that a hold of the channels leaves as it is: the management core and the Power Supervisor. -/
def State.coreAndPow (s : State) : Core × Power := (s.core, s.pow)

theorem touchBank_coreAndPow (s : State) (line : Nat) : (s.touchBank line).coreAndPow = s.coreAndPow := by
  simp only [State.touchBank, State.coreAndPow]
  split <;> split <;> simp only [State.emit_core, State.emit_pow, State.count_core, State.count_pow]

theorem withChan_coreAndPow (s : State) (c : Channels) : ({ s with chan := c } : State).coreAndPow = s.coreAndPow := rfl

theorem emptyQueues_coreAndPow (s : State) : s.emptyQueues.coreAndPow = s.coreAndPow := by
  rw [State.emptyQueues]
  dsimp only
  rw [withChan_coreAndPow, foldl_keeps State.coreAndPow]
  intro t w
  exact touchBank_coreAndPow t w.line

/-- What the hold sends to a channel leaves the management core and the Power Supervisor. -/
theorem selfRefresh_coreAndPow (t : State) (c : Nat) :
    ((((((((t.setFld F.MC_STAT_STATE c 3).setFld F.MC_STAT_RETAINED c 1).emit (.refreshAll c 0)).emit (.selfRefresh c 0)).emit
      (.refreshAll c 1)).emit (.selfRefresh c 1)).count 0x50 c 4 2).coreAndPow = t.coreAndPow) := by
  simp only [State.coreAndPow, State.count_core, State.count_pow, State.emit_core, State.emit_pow, State.setFld_core,
    State.setFld_pow]

/-- The hold of the channels leaves the management core and the Power Supervisor. -/
theorem holdChannels_coreAndPow (s : State) : s.holdChannels.coreAndPow = s.coreAndPow := by
  rw [State.holdChannels]
  dsimp only
  rw [foldl_keeps State.coreAndPow]
  · rw [withChan_coreAndPow, emptyQueues_coreAndPow]
  · intro t c
    split
    · exact selfRefresh_coreAndPow t c
    · rfl

theorem holdChannels_core (s : State) : s.holdChannels.core = s.core := by
  have h := holdChannels_coreAndPow s
  rw [State.coreAndPow, State.coreAndPow, Prod.mk.injEq] at h
  exact h.1

theorem holdChannels_pow (s : State) : s.holdChannels.pow = s.pow := by
  have h := holdChannels_coreAndPow s
  rw [State.coreAndPow, State.coreAndPow, Prod.mk.injEq] at h
  exact h.2

theorem pathMay_of_trusted {p : Path} (h : p.trusted = true) (cls : Nat) : pathMay p cls = true := by
  cases p with
  | mgmt => rfl
  | firmware => rfl
  | fabric => exact absurd h nofun
  | chain => exact absurd h nofun

section
variable {s : State}

theorem psStandby_of_idle (hidle : s.psBusy = false) (hst : s.pow.state = .p0) :
    s.psStandby = (State.psRes { s with pow := { s.pow with cmd := some 1 } } .busy).standbyPath := by
  rw [State.psStandby, if_neg (by simp [hidle, hst])]

theorem psStandby_of_refused (h : s.psBusy = true ∨ s.pow.state ≠ .p0) : s.psStandby = s.psRes .privilege := if_pos h

theorem psDormant_of_idle (hidle : s.psBusy = false) (hst : s.pow.state = .p0 ∨ s.pow.state = .p1) :
    s.psDormant =
      let u := (State.psRes { s with pow := { s.pow with cmd := some 2 } } .busy).stopService
      let u := if u.pow.state = .p1 then u.unholdChannels else u
      { u with vault := { u.vault with dormant := true } } := by
  rw [State.psDormant, if_neg]
  rintro (hbusy | ⟨h0, h1⟩)
  · exact Bool.eq_false_iff.mp hidle hbusy
  · exact hst.elim h0 h1

theorem psDormant_of_refused (h : s.psBusy = true ∨ (s.pow.state ≠ .p0 ∧ s.pow.state ≠ .p1)) :
    s.psDormant = s.psRes .privilege := if_pos h

/-- SET_MV of VDD_CORE by a path that reaches the rails. -/
theorem setRailMv_of_core {p : Path} {mv : Nat} {l : RailLimit} (hp : p.trusted = true)
    (hsel : s.fld F.PS_RAIL_SEL_INDEX = 3) (hl : s.life.rails[3]? = some l) :
    s.setRailMv p mv =
      if l.setMin ≤ mv ∧ mv ≤ l.setMax then (.ok, s.setFld F.PS_RAIL_SET_MV 0 mv) else (.privilege, s.fenceHit p 4) := by
  have hmay : s.setMay 3 mv = decide (l.setMin ≤ mv ∧ mv ≤ l.setMax) := by
    rw [State.setMay, List.getD_eq_getElem?_getD, hl]
    rfl
  rw [State.setRailMv, if_neg (not_not_intro (pathMay_of_trusted hp _)), if_neg (not_not_intro hsel), hmay]
  simp only [decide_eq_true_eq]

theorem selfRefreshHoldDone_of_held (hheld : s.chan.held = true) (hserving : s.anyServing = true)
    (hempty : s.pipeEmpty = true) :
    exec .selfRefreshHoldDone s =
      if s.core.inReset then .next { s.holdChannels with core := { s.holdChannels.core with holdDone := true } }
      else if s.pow.plan = .standby ∧ s.pow.sq = .idle then
        .next (s.holdChannels.startSeq .down .standby
          (s.holdChannels.railsOn.filter (fun n => [11, 10, 9, 7, 6].contains n)))
      else .next s.holdChannels := by
  change execSelfRefreshHoldDone s = _
  rw [execSelfRefreshHoldDone, if_pos ⟨hheld, hserving, hempty⟩]
  rw [← holdChannels_core s, ← holdChannels_pow s]

end

/-- Settles O51. -/
theorem powerCommands : Obligations.PowerCommands := by
  unfold Obligations.PowerCommands
  intro s p mv
  refine ⟨fun hs => ⟨fun hp => ⟨?_, ?_, ?_⟩, fun hp => ⟨fun hidle hst => ?_, fun hno => ?_, fun hidle hst => ?_, fun hno => ?_,
      fun hidle hheld => ⟨fun hst => ?_, fun hst => ?_, fun hst => ?_⟩, fun l hsel hl => ⟨fun hlow hhigh => ?_, fun hover => ?_⟩⟩⟩,
    fun hheld hserving hempty hreset => ?_, fun hheld hserving hempty hreset hplan hsq => ?_, fun hheld => ?_, rfl, rfl⟩
  · exact (access_of_reaches hs p _).trans (if_neg (Bool.eq_false_iff.mp hp))
  · exact (access_of_reaches hs p _).trans (if_neg (Bool.eq_false_iff.mp hp))
  · exact (access_of_reaches hs p _).trans (if_neg (Bool.eq_false_iff.mp hp))
  · refine (access_of_reaches hs p _).trans ?_
    rw [rowPsStandby, if_pos hp, psStandby_of_idle hidle hst, State.psRes, ends]
  · refine (access_of_reaches hs p _).trans ?_
    rw [rowPsStandby, if_pos hp, psStandby_of_refused hno, State.psRes]
    rfl
  · refine (access_of_reaches hs p _).trans ?_
    rw [rowPsDormant, if_pos hp, psDormant_of_idle hidle hst, State.psRes]
    rfl
  · refine (access_of_reaches hs p _).trans ?_
    rw [rowPsDormant, if_pos hp, psDormant_of_refused hno, State.psRes]
    rfl
  · refine (access_of_reaches hs p _).trans ?_
    rw [rowPsWake, if_pos hp, State.psWake, if_neg (by simp [hidle, hheld]), hst]
    rfl
  · refine (access_of_reaches hs p _).trans ?_
    rw [rowPsWake, if_pos hp, State.psWake, if_neg (by simp [hidle, hheld]), hst]
    rfl
  · refine (access_of_reaches hs p _).trans ?_
    rw [rowPsWake, if_pos hp, State.psWake, if_neg (by simp [hidle, hheld]), hst]
    rfl
  · refine (access_of_reaches hs p _).trans ?_
    rw [rowRailSetWrite, setRailMv_of_core hp hsel hl, if_pos ⟨hlow, hhigh⟩]
    rfl
  · refine (access_of_reaches hs _ _).trans ?_
    rw [rowRailSetWrite, setRailMv_of_core rfl hsel hl, if_neg (fun h => Nat.not_le.mpr hover h.2)]
    rfl
  · rw [selfRefreshHoldDone_of_held hheld hserving hempty, if_pos hreset]
  · rw [selfRefreshHoldDone_of_held hheld hserving hempty, if_neg (Bool.eq_false_iff.mp hreset), if_pos ⟨hplan, hsq⟩]
  · change execSelfRefreshHoldDone s = _
    rw [execSelfRefreshHoldDone, if_neg (fun h => Bool.eq_false_iff.mp hheld h.1)]

end Sys2Proof.Machine

/-! ## O52: resets, boot and the start of service -/

namespace Sys2Proof.Machine

/-! ### The reset and watchdog registers (R408, R422) -/

theorem bitAt_zero_goWord (k : Nat) : bitAt (1 + k * 2 ^ 16) 0 = true := by
  rw [bitAt, Nat.testBit_zero, decide_eq_true_eq]
  omega

theorem bits_goWord (k : Nat) : bits (1 + k % 2 ^ 32 * 2 ^ 16) 16 32 = k % 2 ^ 32 := by
  rw [bits, Nat.shiftRight_eq_div_pow]
  omega

theorem bits_keyWord (k : Nat) : bits (k % 2 ^ 32) 0 32 = k % 2 ^ 32 := by
  rw [bits, Nat.shiftRight_zero, Nat.mod_mod]

theorem ends_mk (p : Path) (st : Status) (s : State) : ends p (st, s) = .next (s.answer p st) := rfl

theorem rowCommandReset_mgmt (key : Nat) (s : State) :
    rowCommandReset .mgmt key s = ends .mgmt (.ok,
      if key % 2 ^ 32 = 0x5253544E ∧ (s.pow.state = .p0 ∨ s.pow.state = .p1) then s.warmReset 3 else s) := by
  rw [rowCommandReset, State.coreWrite, if_pos rfl, if_neg (not_not_intro rfl), bitAt_zero_goWord, bits_goWord]
  simp only [true_and]

theorem rowCommandReset_of_ne {p : Path} (h : p ≠ .mgmt) (key : Nat) (s : State) :
    rowCommandReset p key s = ends p (.privilege, s) := by
  rw [rowCommandReset, State.coreWrite, if_pos rfl, if_pos h]

theorem rowWdtKick_firmware (key : Nat) (s : State) :
    rowWdtKick .firmware key s = ends .firmware (.ok,
      if key % 2 ^ 32 = 0x4B49434B ∧ s.core.wdtEnd.isSome = true then
        { s with core := { s.core with wdtEnd := some (s.mono + ms (s.fld F.BT_WDT_TIMEOUT)) } }
      else s) := by
  rw [rowWdtKick, State.coreWrite, if_neg (by decide), if_neg (by decide), if_pos rfl, if_neg (not_not_intro rfl),
    bits_keyWord]

theorem rowWdtKick_of_ne {p : Path} (h : p ≠ .firmware) (key : Nat) (s : State) :
    rowWdtKick p key s = ends p (.privilege, s) := by
  rw [rowWdtKick, State.coreWrite, if_neg (by decide), if_neg (by decide), if_pos rfl, if_pos h]

theorem watchdogExpiry_of_armed {s : State} {t : Nat} (ht : s.core.wdtEnd = some t)
    (hst : s.pow.state = .p0 ∨ s.pow.state = .p1) :
    exec .watchdogExpiry s = .next ((s.reachLocal t).warmReset 2) := by
  change execWatchdogExpiry s = _
  rw [execWatchdogExpiry, ht]
  exact if_pos hst

theorem resetRelease_of_done {s : State} (hin : s.core.inReset = true) (hdone : s.core.holdDone = true)
    (hkf : s.kf.banks = []) (hst : s.pow.state = .p0 ∨ s.pow.state = .p1) :
    exec .resetRelease s = .next { s with core := { s.core with inReset := false, resetN := true } } := by
  change execResetRelease s = _
  rw [execResetRelease, if_pos ⟨hin, hdone, by rw [hkf]; rfl, hst⟩]

/-- The state after RESET_N in P1 and P3: the management core restarts alone, the expert registers closed. -/
def State.coreRestart (s : State) : State :=
  { s.closeExperts with
    core := { s.core with
      halted := false,
      wdtEnd := s.core.wdtEnd.map (fun _ => s.mono + ms (s.fld F.BT_WDT_TIMEOUT)) },
    replay := [] }

theorem pinReset_of_held {s : State} (hst : s.pow.state = .p1 ∨ s.pow.state = .p3) :
    exec .pinReset s = .next s.coreRestart := by
  change execPinReset s = _
  rw [State.coreRestart]
  obtain hst | hst := hst <;> rw [execPinReset, hst]

/-! ### Boot -/

/-- The state in which boot begins its tests: the checkpoint of the power-up is over, and torn journal records are known. -/
def State.bootBegun (s : State) : State :=
  State.findTorn { s with pow := { s.pow with sq := if s.pow.sq = PSeq.checkpoint then .idle else s.pow.sq } }

theorem boot_of_ready {s : State} (hp : s.pow.state = .p0) (hr : s.core.inReset = false) (hw : s.pow.warn = false)
    (hst : s.fld F.BT_STAT_STATE = 0) (k : BootFacts) :
    (∀ u, (s.bootBegun.bootTests k).pickFirmware k.fwOk = (none, u) →
      exec (.boot k) s = .next (u.setFld F.BT_STAT_STATE 0 1)) ∧
    (∀ u slot, (s.bootBegun.bootTests k).pickFirmware k.fwOk = (some slot, u) →
      let v := (((u.setFld F.KF_VER_VERSION 0 k.version).setFld F.KF_VER_LEVEL 0 k.level).setFld F.KF_SEL_BOOTED 0
        slot).setFld F.BT_STAT_STATE 0 2
      exec (.boot k) s = .next (State.bootImage { v with core := { v.core with
        wdtEnd := some (v.mono + ms (v.fld F.BT_WDT_TIMEOUT)) } } k)) := by
  have hexec : exec (.boot k) s = execBoot k s := rfl
  have hready : ¬ (s.pow.state ≠ .p0 ∨ s.core.inReset = true ∨ s.pow.warn = true ∨ s.fld F.BT_STAT_STATE ≠ 0) := by
    simp [hp, hr, hw, hst]
  rw [hexec, execBoot, if_neg hready]
  constructor
  · intro u hu
    dsimp only [State.bootBegun] at hu ⊢
    rw [hu]
  · intro u slot hu
    dsimp only [State.bootBegun] at hu ⊢
    rw [hu]

theorem bootResume_of_ready {s : State} (hp : s.pow.state = .p0) (hr : s.core.inReset = false) (hw : s.pow.warn = false)
    (hst : s.fld F.BT_STAT_STATE = 3 ∨ s.fld F.BT_STAT_STATE = 8) (k : BootFacts) :
    exec (.bootResume k) s = .next ((s.setFld F.BT_STAT_START 0 0).bootImage k) := by
  change execBootResume k s = _
  rw [execBootResume, if_neg]
  rintro (h | h | h | ⟨h3, h8⟩)
  · exact h hp
  · exact Bool.eq_false_iff.mp hr h
  · exact Bool.eq_false_iff.mp hw h
  · exact hst.elim h3 h8

/-! ### The end of a channel's training -/

theorem onUnit_channel {ch : Nat} (h : ch < 16) (k : Res) : onUnit 0x50 ch k = k := if_pos h

/-- The channels' banks once the training of channel `ch` has ended: its own rows are closed. -/
def State.trainedOff (s : State) (ch : Nat) : State :=
  { s with chan := { s.chan with trained := true, banks := s.chan.banks.filter (fun x =>
    decide (x.1 < bankKey ch 0 0 ∨ bankKey ch 0 0 + 2048 ≤ x.1)) } }

theorem fld_setFld_channel_boot (s : State) (f g : Fld) (hf : f.cls = 0x50) (hg : g.cls = 0x02) (hoff : g.off < 2 ^ 24)
    (hlo : g.lo < 64) (ch v : Nat) :
    (s.setFld f ch v).fld g = s.fld g := by
  refine s.fldOf_setFldOf_other f.cls g.cls f g ch 0 v 0 0 ?_
  rw [hf, hg]
  unfold fieldKey
  omega

theorem fld_setFld_otherUnit (s : State) (f : Fld) {u w : Nat} (h : w ≠ u) (v : Nat) :
    (s.setFld f u v).fld f w = s.fld f w := by
  refine s.fldOf_setFldOf_other f.cls f.cls f f u w v 0 0 ?_
  unfold fieldKey
  omega

theorem fld_setFld_same {s : State} (h : s.canonical = true) (f : Fld) (u v : Nat) (hv : v < 2 ^ f.width) :
    (s.setFld f u v).fld f u = v := by
  rw [State.setFld, State.fld, State.fldOf_setFldOf _ _ _ _ _ _ (State.risesFrom_regs_of_canonical h), Nat.mod_eq_of_lt hv]

/-- What a training that ends well comes to: with the last channel boot goes on. -/
theorem channelTrainingDone_good {s : State} {ch : Nat} (hch : ch < 16) (hst : s.fld F.MC_STAT_STATE ch = 1) :
    exec (.channelTrainingDone ch true) s =
      if s.fld F.BT_STAT_STATE = 4 ∧ s.fld F.BT_STAT_START = 0 ∧
          (List.range 16).all (fun c => ((s.trainedOff ch).setFld F.MC_STAT_STATE ch 2).fld F.MC_STAT_STATE c == 2) = true then
        .next ((s.trainedOff ch).setFld F.MC_STAT_STATE ch 2).bootVault
      else .next ((s.trainedOff ch).setFld F.MC_STAT_STATE ch 2) := by
  change execChannelTrainingDone ch true s = _
  rw [execChannelTrainingDone, onUnit_channel hch, if_neg (not_not_intro hst), if_pos rfl]
  have hstate : ((s.trainedOff ch).setFld F.MC_STAT_STATE ch 2).fld F.BT_STAT_STATE = s.fld F.BT_STAT_STATE :=
    fld_setFld_channel_boot _ _ _ rfl rfl (by decide) (by decide) ch 2
  have hstart : ((s.trainedOff ch).setFld F.MC_STAT_STATE ch 2).fld F.BT_STAT_START = s.fld F.BT_STAT_START :=
    fld_setFld_channel_boot _ _ _ rfl rfl (by decide) (by decide) ch 2
  rw [← hstate, ← hstart]
  rfl

/-- Every channel is trained once channel `ch` is and the others were. -/
theorem all_trained {s : State} (hcan : s.canonical = true) {ch : Nat}
    (h : ∀ c, c < 16 → c ≠ ch → s.fld F.MC_STAT_STATE c = 2) :
    (List.range 16).all (fun c => ((s.trainedOff ch).setFld F.MC_STAT_STATE ch 2).fld F.MC_STAT_STATE c == 2) = true := by
  rw [List.all_eq_true]
  intro c hc
  rw [beq_iff_eq]
  by_cases hcc : c = ch
  · subst hcc
    exact fld_setFld_same (s := s.trainedOff c) (by rw [← hcan]; rfl) F.MC_STAT_STATE c 2 (by decide)
  · exact (fld_setFld_otherUnit _ F.MC_STAT_STATE hcc 2).trans (h c (List.mem_range.mp hc) hcc)

theorem channelTrainingDone_bad {s : State} {ch : Nat} (hch : ch < 16) (hst : s.fld F.MC_STAT_STATE ch = 1) :
    exec (.channelTrainingDone ch false) s = .next (((((s.trainedOff ch).setFld F.MC_STAT_STATE ch 4).setFld
      F.MC_STAT_POP_ERR ch 7).setFld F.MC_STAT_RETAINED ch 0).raise 0x50 ch 3 0x05) := by
  change execChannelTrainingDone ch false s = _
  rw [execChannelTrainingDone, onUnit_channel hch, if_neg (not_not_intro hst), if_neg Bool.false_ne_true]
  rfl

/-! ### The start of service -/

theorem mayServe_of_scrapped {s : State} (h : s.life.state = .scrapped) : s.mayServe = false := by
  rw [State.mayServe, h]
  simp

theorem serviceStart_of_refused {s : State} (h : s.mayServe = false) : exec .serviceStart s = .next s := by
  change execServiceStart s = _
  rw [execServiceStart, if_pos (Bool.eq_false_iff.mp h)]

theorem serviceStart_of_held {s : State} (h : s.mayServe = true) (hep : s.epochOk (s.fld F.BT_STAT_START == 2) = false) :
    exec .serviceStart s = .next { s with mer := { s.mer with epochHold := some (s.mer.epochHold.getD s.mono) } } := by
  change execServiceStart s = _
  rw [execServiceStart, if_neg (not_not_intro h), if_pos (Bool.eq_false_iff.mp hep)]

/-- The state that takes requests from the start of service on. -/
def State.serviceOpen (s : State) : State :=
  let t := s.moveNext.setFld F.BT_STAT_STATE 0 7
  { t with
    pipe := { t.pipe with taking := true },
    mer := { t.mer with epochHold := none, lastK := some (t.fld F.MER_CFG_K) } }

theorem serviceStart_of_ready {s : State} (h : s.mayServe = true) (hep : s.epochOk (s.fld F.BT_STAT_START == 2) = true) :
    exec .serviceStart s = .next ((State.writeSuper { s.serviceOpen with
      vault := { s.serviceOpen.vault with floorE := State.floorNow s.serviceOpen } } 1).judgeDiag).serve := by
  change execServiceStart s = _
  rw [execServiceStart, if_neg (not_not_intro h), if_neg (not_not_intro hep)]
  rfl

/-! ### The obligation -/

/-- Settles O52. -/
theorem resetBootAndService : Obligations.ResetBootAndService := by
  unfold Obligations.ResetBootAndService
  refine ⟨fun s p key ch k => ⟨fun hst => ?_, fun hst => ?_, fun hst => ?_, fun t ht hst => watchdogExpiry_of_armed ht hst,
      fun hnone => ?_, fun hs hst hkey => ?_, fun hs hkey => ?_, fun hs hp => ?_, fun hs hkey harm => ?_, fun hs hkey => ?_,
      fun hs hp => ?_, fun hin hdone hkf hst => resetRelease_of_done hin hdone hkf hst, fun hdone => ?_,
      fun hp hr hw hst => boot_of_ready hp hr hw hst k, fun hst => ?_,
      fun hp hr hw hst => bootResume_of_ready hp hr hw hst k, fun h3 h8 => ?_, fun hch hst => ⟨fun hboot => ?_,
        fun hboot hstart hall hcan => ?_, channelTrainingDone_bad hch hst⟩, fun hch hst => ?_⟩,
    fun s => ⟨fun h hep => serviceStart_of_ready h hep, fun h hep => serviceStart_of_held h hep,
      fun h => serviceStart_of_refused h, mayServe_of_scrapped⟩⟩
  · change execPinReset s = _
    rw [execPinReset, hst]
  · exact pinReset_of_held hst
  · change execPinReset s = _
    obtain hst | hst := hst <;> rw [execPinReset, hst]
  · change execWatchdogExpiry s = _
    rw [execWatchdogExpiry, hnone]
  · refine (access_of_reaches hs _ _).trans ?_
    rw [rowCommandReset_mgmt, if_pos ⟨hkey, hst⟩, ends_mk]
  · refine (access_of_reaches hs _ _).trans ?_
    rw [rowCommandReset_mgmt, if_neg (fun h => hkey h.1)]
    rfl
  · refine (access_of_reaches hs _ _).trans ?_
    rw [rowCommandReset_of_ne hp]
    rfl
  · refine (access_of_reaches hs _ _).trans ?_
    rw [rowWdtKick_firmware, if_pos ⟨hkey, harm⟩]
    rfl
  · refine (access_of_reaches hs _ _).trans ?_
    rw [rowWdtKick_firmware, if_neg (fun h => hkey h.1)]
    rfl
  · refine (access_of_reaches hs _ _).trans ?_
    rw [rowWdtKick_of_ne hp]
    rfl
  · change execResetRelease s = _
    rw [execResetRelease, if_neg (fun h => Bool.eq_false_iff.mp hdone h.2.1)]
  · change execBoot k s = _
    rw [execBoot, if_pos (.inr (.inr (.inr hst)))]
  · change execBootResume k s = _
    rw [execBootResume]
    exact if_pos (.inr (.inr (.inr ⟨h3, h8⟩)))
  · rw [channelTrainingDone_good hch hst, if_neg (fun h => hboot h.1)]
    rfl
  · rw [channelTrainingDone_good hch hst, if_pos ⟨hboot, hstart, all_trained hcan hall⟩]
    rfl
  · change execChannelTrainingDone ch true s = _
    rw [execChannelTrainingDone, onUnit_channel hch, if_pos hst]

end Sys2Proof.Machine

/-! ## O53: register writes -/

namespace Sys2Proof.Machine

/-! ### The check of a path's access (R50, R55, R56, R58) -/

theorem regWrite_of_idle {s : State} (hjobs : s.jobs = []) (p : Path) (a : Nat) (v : W64) :
    exec (.regWrite p a v) s = ends p (s.ctlWrite p a v.toNat) := by
  change execRegWrite p a v s = _
  rw [execRegWrite, State.finishPath_of_jobs_nil hjobs]

theorem ctlWrite_of_error {s : State} {p : Path} {a v : Nat} {st : Status} (h : s.reach? p a = .error st) :
    s.ctlWrite p a v = (st, s) := by
  rw [State.ctlWrite, h]

theorem reach_misaligned (s : State) (p : Path) {a : Nat} (h : a % 8 ≠ 0) : s.reach? p a = .error (misaligned p) := by
  rw [State.reach?, if_pos h]

theorem reach_nowhere (s : State) (p : Path) {a : Nat} (ha : a % 8 = 0) (h : locate a = none) :
    s.reach? p a = .error .privilege := by
  rw [State.reach?, if_neg (not_not_intro ha), h]

section
variable {s : State} {p : Path} {a : Nat} {b : Blk} {u off : Nat}

/-- What the check comes to at an aligned address in a unit. -/
theorem reach_located (ha : a % 8 = 0) (h : locate a = some (b, u, off)) :
    s.reach? p a =
      if ¬ pathMay p b.cls = true ∨ s.core.fusedOff.contains b.cls = true then .error .privilege
      else if b.expert ≠ 0 ∧ b.expert ≤ off then
        if s.expertOk p b.cls u = true then .ok (b, u, off, true) else .error .privilege
      else .ok (b, u, off, false) := by
  rw [State.reach?, if_neg (not_not_intro ha), h]

theorem reach_barred (ha : a % 8 = 0) (h : locate a = some (b, u, off))
    (hbar : pathMay p b.cls = false ∨ s.core.fusedOff.contains b.cls = true) : s.reach? p a = .error .privilege := by
  rw [reach_located ha h, if_pos (hbar.imp_left Bool.eq_false_iff.mp)]

theorem reach_expertClosed (ha : a % 8 = 0) (h : locate a = some (b, u, off)) (hex : b.expert ≠ 0) (hoff : b.expert ≤ off)
    (hok : s.expertOk p b.cls u = false) : s.reach? p a = .error .privilege := by
  have hat : b.expert ≠ 0 ∧ b.expert ≤ off := ⟨hex, hoff⟩
  rw [reach_located ha h, if_pos hat, if_neg (Bool.eq_false_iff.mp hok), ite_self]

theorem reach_basic (ha : a % 8 = 0) (h : locate a = some (b, u, off)) (hmay : pathMay p b.cls = true)
    (hfuse : s.core.fusedOff.contains b.cls = false) (hbasic : b.expert = 0 ∨ off < b.expert) :
    s.reach? p a = .ok (b, u, off, false) := by
  have hopen : ¬ (¬ pathMay p b.cls = true ∨ s.core.fusedOff.contains b.cls = true) :=
    not_or.mpr ⟨not_not_intro hmay, Bool.eq_false_iff.mp hfuse⟩
  have hat : ¬ (b.expert ≠ 0 ∧ b.expert ≤ off) := by omega
  rw [reach_located ha h, if_neg hopen, if_neg hat]

theorem reach_expert (ha : a % 8 = 0) (h : locate a = some (b, u, off)) (hmay : pathMay p b.cls = true)
    (hfuse : s.core.fusedOff.contains b.cls = false) (hex : b.expert ≠ 0) (hoff : b.expert ≤ off)
    (hok : s.expertOk p b.cls u = true) : s.reach? p a = .ok (b, u, off, true) := by
  have hopen : ¬ (¬ pathMay p b.cls = true ∨ s.core.fusedOff.contains b.cls = true) :=
    not_or.mpr ⟨not_not_intro hmay, Bool.eq_false_iff.mp hfuse⟩
  have hat : b.expert ≠ 0 ∧ b.expert ≤ off := ⟨hex, hoff⟩
  rw [reach_located ha h, if_neg hopen, if_pos hat, if_pos hok]

/-! ### What a write does once it has reached its register -/

/-- The state in which a write that has reached its register takes effect: the expert access is noted. -/
def State.writeReached (s : State) (expert : Bool) (cls u : Nat) : State := if expert then s.expertUsed cls u else s

theorem writeReached_cfgOff (expert : Bool) (cls : Nat) : (s.writeReached expert cls u).core.cfgOff = s.core.cfgOff := by
  cases expert <;> rfl

theorem ctlWrite_of_cfgOff {v : Nat} (h : s.reach? p a = .ok (b, u, off, false))
    (hcfg : s.core.cfgOff.contains b.cls = true) : s.ctlWrite p a v = (.privilege, s) := by
  rw [State.ctlWrite, h]
  exact if_pos hcfg

theorem ctlWrite_of_hallmark {v : Nat} (h : s.reach? p a = .ok (b, u, off, false))
    (hcfg : s.core.cfgOff.contains b.cls = false) (hcls : b.cls = 1) : s.ctlWrite p a v = (.ok, s) := by
  rw [State.ctlWrite, h]
  exact (if_neg (Bool.eq_false_iff.mp hcfg)).trans (if_pos hcls)

/-- A register that does not act takes the write. -/
theorem ctlWrite_of_plain {v : Nat} {expert : Bool} (h : s.reach? p a = .ok (b, u, off, expert))
    (hcfg : s.core.cfgOff.contains b.cls = false) (hcls : b.cls ≠ 1) (h8 : off ≠ 8) (h18 : off ≠ 0x18)
    (hplain : (s.writeReached expert b.cls u).special p b.cls u off v = none) :
    s.ctlWrite p a v = (.ok, (s.writeReached expert b.cls u).writePlain b.cls u off v) := by
  have hcfg' : ¬ (s.writeReached expert b.cls u).core.cfgOff.contains b.cls = true := by
    rw [writeReached_cfgOff]
    exact Bool.eq_false_iff.mp hcfg
  rw [State.writeReached] at hplain hcfg' ⊢
  rw [State.ctlWrite, h]
  dsimp only
  rw [if_neg hcfg', if_neg hcls, if_neg h8, if_neg h18, hplain]

/-- A write that cannot reach its register is answered with the status of the check and changes nothing. -/
theorem regWrite_of_error {st : Status} (hjobs : s.jobs = []) (v : W64) (h : s.reach? p a = .error st) :
    exec (.regWrite p a v) s = .next (s.answer p st) := by
  rw [regWrite_of_idle hjobs, ctlWrite_of_error h, ends_mk]

/-- A class that the image has switched off takes no write of a basic register, reachable or not. -/
theorem regWrite_of_cfgOff (hjobs : s.jobs = []) (v : W64) (ha : a % 8 = 0) (h : locate a = some (b, u, off))
    (hbasic : b.expert = 0 ∨ off < b.expert) (hcfg : s.core.cfgOff.contains b.cls = true) :
    exec (.regWrite p a v) s = .next (s.answer p .privilege) := by
  by_cases hbar : pathMay p b.cls = false ∨ s.core.fusedOff.contains b.cls = true
  · exact regWrite_of_error hjobs v (reach_barred ha h hbar)
  · rw [not_or, Bool.not_eq_false, Bool.not_eq_true] at hbar
    rw [regWrite_of_idle hjobs, ctlWrite_of_cfgOff (reach_basic ha h hbar.1 hbar.2 hbasic) hcfg, ends_mk]

end

/-! ### BLK_XACC (R58) -/

theorem bitAt_toNat (v : W64) (i : Nat) : bitAt v.toNat i = v.getLsbD i := rfl

theorem blkXaccWrite_of_reaches {s : State} {p : Path} {cls n : Nat} (hs : s.reaches cls) (hn : n < unitCount cls)
    (hmay : pathMay p cls = true) (hcls : cls ≠ 1) (v : W64) :
    exec (.blkXaccWrite p cls n v) s = ends p (s.xacc p cls n v.toNat) := by
  refine (access_of_reaches hs p _).trans ?_
  rw [rowBlkXaccWrite, onUnit, if_pos hn, if_neg hcls, if_pos hmay]

section
variable {s : State} {p : Path} (cls n : Nat) {v : W64}

theorem xacc_of_untrusted (hp : p.trusted = false) (w : Nat) : s.xacc p cls n w = (.privilege, s) := by
  rw [State.xacc, if_pos (Bool.eq_false_iff.mp hp)]

theorem xacc_of_close (hp : p.trusted = true) (h0 : v.getLsbD 0 = false) (h1 : v.getLsbD 1 = false) :
    s.xacc p cls n v.toNat =
      (.ok, (s.setFldOf cls F.BLK_XACC_OPEN n 0).setFldOf cls F.BLK_XACC_HOLDER n 0) := by
  rw [State.xacc, if_neg (not_not_intro hp), bitAt_toNat, bitAt_toNat, h0, h1, if_pos Bool.false_ne_true]
  rfl

theorem xacc_of_key (hp : p.trusted = true) (hlock : s.fldOf cls F.BLK_XACC_LOCK n = 0) (h0 : v.getLsbD 0 = true)
    (h1 : v.getLsbD 1 = false) (hkey : v.toNat / 2 ^ 8 % 2 ^ 32 = 0x4B585041) :
    s.xacc p cls n v.toNat = (.ok, ((s.setFldOf cls F.BLK_XACC_OPEN n 1).setFldOf cls F.BLK_XACC_HOLDER n
      (if p = .mgmt then 1 else 2)).expertUsed cls n) := by
  have hbits : bits v.toNat 8 32 = 0x4B585041 := by rw [bits, Nat.shiftRight_eq_div_pow, hkey]
  rw [State.xacc, if_neg (not_not_intro hp), bitAt_toNat, bitAt_toNat, h0, h1, if_neg (not_not_intro rfl),
    if_pos ⟨hbits, hlock⟩]
  rfl

theorem xacc_of_refused (hp : p.trusted = true) (h0 : v.getLsbD 0 = true)
    (hno : v.toNat / 2 ^ 8 % 2 ^ 32 ≠ 0x4B585041 ∨ s.fldOf cls F.BLK_XACC_LOCK n ≠ 0) :
    s.xacc p cls n v.toNat = (.privilege, s) := by
  have hbits : bits v.toNat 8 32 = v.toNat / 2 ^ 8 % 2 ^ 32 := by rw [bits, Nat.shiftRight_eq_div_pow]
  rw [State.xacc, if_neg (not_not_intro hp), bitAt_toNat v 0, h0, if_neg (not_not_intro rfl), hbits,
    if_neg (fun h => hno.elim (absurd h.1) (absurd h.2))]

end

/-! ### Ten seconds without an expert access (R59) -/

theorem expertIdleClose_of_open {s : State} {cls n t : Nat} (hn : n < unitCount cls) (hcls : cls ≠ 1)
    (ht : SMap.look s.xlast (unitKey cls n) = some t) :
    exec (.expertIdleClose cls n) s =
      let w := ((s.reachLocal (t + 10 * 2 ^ 40)).setFldOf cls F.BLK_XACC_OPEN n 0).setFldOf cls F.BLK_XACC_HOLDER n 0
      .next { w with xlast := SMap.del s.xlast (unitKey cls n) } := by
  change execExpertIdleClose cls n s = _
  rw [execExpertIdleClose, onCommon, if_pos ⟨hn, hcls⟩, ht, second_eq]
  dsimp only
  rw [State.setFldOf_xlast, State.setFldOf_xlast, State.reachLocal_xlast]

theorem expertIdleClose_of_none {s : State} {cls n : Nat} (hn : n < unitCount cls) (hcls : cls ≠ 1)
    (h : SMap.look s.xlast (unitKey cls n) = none) : exec (.expertIdleClose cls n) s = .next s := by
  change execExpertIdleClose cls n s = _
  rw [execExpertIdleClose, onCommon, if_pos ⟨hn, hcls⟩, h]

/-! ### The obligation -/

/-- Settles O53. -/
theorem registerWrites : Obligations.RegisterWrites := by
  unfold Obligations.RegisterWrites
  intro s p a cls n v b u off
  refine ⟨fun hj => ⟨fun ha => ?_, fun ha hl => regWrite_of_error hj v (reach_nowhere s p ha hl), fun ha hl =>
      ⟨fun hbar => regWrite_of_error hj v (reach_barred ha hl hbar),
        fun hex hoff hok => regWrite_of_error hj v (reach_expertClosed ha hl hex hoff hok),
        fun hbasic hcfg => regWrite_of_cfgOff hj v ha hl hbasic hcfg, fun hmay hfuse hcfg hcls h8 h18 =>
          ⟨fun hbasic hplain => ?_, fun hex hoff hok hplain => ?_⟩, fun hmay hfuse hcfg hcls hex => ?_⟩⟩,
    fun hs hn hmay hcls => ⟨fun hp => ?_, fun hp hlock h0 h1 hkey => ?_, fun hp h0 hno => ?_, fun hp h0 h1 => ?_⟩,
    fun t hn hcls ht => expertIdleClose_of_open hn hcls ht, fun hn hcls h => expertIdleClose_of_none hn hcls h⟩
  · rw [regWrite_of_error hj v (reach_misaligned s p ha)]
    cases p <;> rfl
  · rw [regWrite_of_idle hj, ctlWrite_of_plain (reach_basic ha hl hmay hfuse hbasic) hcfg hcls h8 h18 hplain, ends_mk]
    rfl
  · rw [regWrite_of_idle hj, ctlWrite_of_plain (reach_expert ha hl hmay hfuse hex hoff hok) hcfg hcls h8 h18 hplain, ends_mk]
    rfl
  · rw [regWrite_of_idle hj, ctlWrite_of_hallmark (reach_basic ha hl hmay hfuse (.inl hex)) hcfg hcls, ends_mk]
  · rw [blkXaccWrite_of_reaches hs hn hmay hcls, xacc_of_untrusted cls n hp, ends_mk]
  · rw [blkXaccWrite_of_reaches hs hn hmay hcls, xacc_of_key cls n hp hlock h0 h1 hkey, ends_mk]
  · rw [blkXaccWrite_of_reaches hs hn hmay hcls, xacc_of_refused cls n hp h0 hno, ends_mk]
  · rw [blkXaccWrite_of_reaches hs hn hmay hcls, xacc_of_close cls n hp h0 h1, ends_mk]

end Sys2Proof.Machine
